-- ==== Sys2Proof/Word.lean ====
section
/-! DEFINITION. The word types of the device (spec/00_scope.md R4, R5, R9) and the plain-data types of the operands
that its commands carry: sides, indices of the device's resources, frame headers, packets, telegrams. -/

namespace Sys2Proof

/-- The native 72-bit word (R27). -/
abbrev Word := BitVec 72
/-- One byte. -/
abbrev Byte := BitVec 8
/-- A 16-byte parameter slot of a packet (R344). -/
abbrev Slot16 := BitVec 128

/-- Side A or side B (R9). Also names LA and LB (R431), networks A and B (R299), Port 1 and Port 2 (R18). -/
inductive Side where
  | A | B
  deriving DecidableEq, Repr, Inhabited

/-- Side A is index 0 and side B is index 1 (R9). -/
def Side.ix : Side → Nat
  | .A => 0
  | .B => 1

/-- The other side. -/
def Side.other : Side → Side
  | .A => .B
  | .B => .A

/-- The side of an index: even for A, odd for B (terminal index, field-chip index, network). -/
def Side.ofIx (n : Nat) : Side := if n % 2 = 0 then .A else .B

/-- A thing that each side holds one of. -/
structure Two (α : Type) where
  a : α
  b : α
  deriving DecidableEq, Repr, Inhabited

/-- Read the copy of a side. -/
def Two.get {α : Type} (p : Two α) : Side → α
  | .A => p.a
  | .B => p.b

/-- Replace the copy of a side. -/
def Two.set {α : Type} (p : Two α) (x : α) : Side → Two α
  | .A => { p with a := x }
  | .B => { p with b := x }

/-- Terminal index t = 2 × global channel + side (R79). -/
abbrev TermIx := Fin 384
/-- Global channel (R9). -/
abbrev ChanIx := Fin 192
/-- Field chip index 2 × wagon + side (R362). -/
abbrev ChipIx := Fin 24
/-- Wagon (R9). -/
abbrev WagonIx := Fin 12
/-- Local channel within a wagon (R9). -/
abbrev LocalIx := Fin 16
/-- Slot, that is pair number (R9); slot 0 is the dispatcher's (R15). -/
abbrev SlotIx := Fin 48
/-- Physical coach of a side (R9). -/
abbrev CoachIx := Fin 52
/-- Encoder port and shift engine of a side (R9). -/
abbrev EncIx := Fin 8
/-- Timer unit of a side (R9). -/
abbrev TimerIx := Fin 64
/-- Motion monitor (R9). -/
abbrev MonIx := Fin 64
/-- Function number (R243). -/
abbrev FnIx := Fin 4096
/-- Safe connection (R9). -/
abbrev ConnIx := Fin 8192
/-- Depot queue (R337). -/
abbrev QueueIx := Fin 32768
/-- Frame memory bank of a side (R177, R374). -/
abbrev BankIx := Fin 16
/-- Cage: 0 A1, 1 A2, 2 B1, 3 B2 (R362). -/
abbrev CageIx := Fin 4

/-- A physical coach of a side: the core on which a coach command runs. -/
structure CoachRef where
  side  : Side
  coach : CoachIx
  deriving DecidableEq, Repr, Inhabited

/-- A 6-bit register field of an instruction (R212). -/
abbrev RegField := BitVec 6

/-- The header fields of a logic-to-field frame besides TYPE (R88); crc is the CRC field received. -/
structure L2FHdr where
  seq     : BitVec 4
  tick    : BitVec 14
  frameNo : BitVec 16
  rsv     : BitVec 2
  crc     : BitVec 24
  deriving DecidableEq, Repr, Inhabited

/-- The CONFIG payload (R92). -/
structure CfgPayload where
  obj   : Byte
  index : Byte
  word  : Bool
  bank  : Bool
  rsvLo : BitVec 6
  value : Word
  rsvHi : BitVec 160
  deriving DecidableEq, Repr, Inhabited

/-- The COMMAND payload besides CMD (R93), for every CMD but ECHO. -/
structure CmdPayload where
  arg     : Byte
  frameNo : BitVec 16
  rsv     : BitVec 224
  deriving DecidableEq, Repr, Inhabited

/-- The header fields of a field-to-logic frame besides TYPE (R95); crc is the CRC field received. -/
structure F2LHdr where
  seq    : BitVec 4
  qual   : BitVec 16
  fsafe  : BitVec 16
  cf     : Bool
  plug   : Bool
  silent : Bool
  ack    : BitVec 3
  rsv    : BitVec 2
  crc    : BitVec 24
  deriving DecidableEq, Repr, Inhabited

/-- The unframed lanes of a barrier besides the hold lane (R105). -/
inductive TripLane where
  | up0 | up1 | down0 | down1
  deriving DecidableEq, Repr, Inhabited

/-- The outcome of an at-rest test (R173, R174). -/
inductive RestResult where
  | pass | fail | notRun
  deriving DecidableEq, Repr, Inhabited

/-- What becomes of a trip lane (R105, R172, R173): it loses its carrier, it regains it, or the side half has stopped it for 200 ns
in an at-rest test. -/
inductive LaneChange where
  | lost | back | restTest (r : RestResult)
  deriving DecidableEq, Repr, Inhabited

/-- What the seal monitor sees (R394). -/
inductive SealKind where
  | coverOpened | coverClosed | slotOpened | slotClosed
  deriving DecidableEq, Repr, Inhabited

/-- What a supervisor reports (R370, spec/01_architecture.md). -/
inductive SupvKind where
  | supply | clock | reset | heartbeat | disagree
  deriving DecidableEq, Repr, Inhabited

/-- The blocks that have no spare (R370). -/
inductive DevBlock where
  | sideClock | supervisor | plane (p : Fin 2) | barrierMaster | sideLink | crypto
  deriving DecidableEq, Repr, Inhabited

/-- A block that a PROVING test can find failed (R404). -/
inductive ProvBlock where
  | coach (c : CoachIx) | bank (b : BankIx) | lane (l : Fin 4) | device (d : DevBlock)
  deriving DecidableEq, Repr, Inhabited

/-- A counting unit that can match or overflow (R137, R146). -/
inductive UnitRef where
  | field (t : TermIx)
  | timer (s : Side) (n : TimerIx)
  deriving DecidableEq, Repr, Inhabited

/-- A shift engine or a timer unit, as a block under test (R365). -/
inductive ScanUnit where
  | engine (s : Side) (n : EncIx)
  | timer (s : Side) (n : TimerIx)
  deriving DecidableEq, Repr, Inhabited

/-- An overspeed sentinel: of a field counter unit or of an encoder port (R144). -/
inductive OvsRef where
  | field (t : TermIx)
  | port (s : Side) (n : EncIx)
  deriving DecidableEq, Repr, Inhabited

/-- Where the lattice scrub found an error (R169). -/
inductive ScrubHit where
  | none
  | corrected (chip : ChipIx) (word : Nat)
  | correctedSide (s : Side) (word : Nat)
  | uncorrectable (chip : ChipIx) (target : Fin 32)
  /-- a word LEXP of a field chip, which feeds the export of the same number (R162) -/
  | uncorrectableExp (chip : ChipIx) (word : Fin 2)
  | uncorrectableSide (s : Side) (group : Fin 24)
  deriving DecidableEq, Repr, Inhabited

/-- A lane or line that an at-rest test covers (R173). -/
inductive RestItem where
  | pairLine (c : LocalIx) | tripLane (l : TripLane) | holdLane
  deriving DecidableEq, Repr, Inhabited

/-- What a debugger writes in the lead copy (R205): a physical register, a memory word, the program counter. -/
inductive DebugTarget where
  | reg (phys : Fin 144) | mem (va : BitVec 40) | pc
  deriving DecidableEq, Repr, Inhabited

/-- Why a cage goes down (R300, event 0x0603 of R363). -/
inductive CageCause where
  | txFault | signalLoss | blockLock
  deriving DecidableEq, Repr, Inhabited

/-- What an SFP+ module identified itself as (R300). -/
structure ModuleInfo where
  speed10g   : Bool
  typeKnown  : Bool
  powerOk    : Bool
  eepromOk   : Bool
  deriving DecidableEq, Repr, Inhabited

/-- The fields of a received Brueri Link frame besides TYPE (R308): the Ethernet verdict, then the PDU. -/
structure Telegram where
  fcsOk : Bool
  etype : BitVec 16
  ver   : BitVec 4
  cid   : BitVec 13
  dir   : Bool
  stop  : Bool
  kgp   : Bool
  len   : Byte
  epoch : BitVec 16
  seq   : BitVec 48
  time  : Word
  data  : BitVec 512
  crc   : BitVec 32
  mac   : BitVec 64
  deriving DecidableEq, Repr, Inhabited

/-- A receipt (R320); typ is the TYPE of the telegram, arr is ARR. -/
structure Receipt where
  stop : Bool
  typ  : BitVec 4
  cid  : BitVec 13
  seq  : BitVec 48
  len  : Byte
  mac  : BitVec 64
  crc  : BitVec 32
  data : BitVec 512
  arr  : BitVec 40
  epoch : BitVec 16
  deriving DecidableEq, Repr, Inhabited

/-- Where a host command came from and what its header holds (R344); port none is the service port (R449). -/
structure Hdr where
  port   : Option Side
  queue  : QueueIx
  tag    : BitVec 32
  target : BitVec 16
  token  : Bool
  urgent : Bool
  rsv    : BitVec 14
  zeros  : BitVec 96
  ver    : Byte
  seq    : BitVec 32
  deriving DecidableEq, Repr, Inhabited

/-- The register that a BAR0 write without a row of its own addresses, and how (R333). -/
structure BarWrite where
  offset : BitVec 24
  size   : Nat
  value  : BitVec 64
  deriving DecidableEq, Repr, Inhabited

/-- The instructions of the debug TAP (R427). -/
inductive TapIns where
  | bypass | idcode | samplePreload | extest | coachDebug | scan
  deriving DecidableEq, Repr, Inhabited

/-- The path whose injection or lane check failed, or that all were seen (R170). -/
structure DarkTest where
  notSeen   : Bool
  notRun    : Bool
  deriving DecidableEq, Repr, Inhabited

end Sys2Proof
end

