-- ==== Sys2Proof/Syntax.lean ====
section
/-! DEFINITION. The commands: one constructor per row of spec/opcode_table.json, in the table's order, with the
operands that the row's rule gives it. A command is one whole step of the device (spec/95_what_each_step_holds.md). -/

namespace Sys2Proof

/-- The commands of the block (log entry 1 says how each row's happening is given its operands). -/
inductive Instr where
  -- power, cartridge, clock domain (spec/17, spec/15)
  | logicPowerGood
  | logicInputUnder (inp : Side) (mv : BitVec 16)
  | logicInputOver (inp : Side) (mv : BitVec 16)
  | logicInputInRange (inp : Side) (mv : BitVec 16)
  | pfailAssert
  | pfailDeassert
  | bankLow
  | railsFall
  | fieldSupplyOutOfRange (chip : ChipIx) (mv : BitVec 16)
  | fieldSupplyRestored (chip : ChipIx) (mv : BitVec 16)
  | cartridgeRemoved
  | cartridgeInserted
  | bankMeasurement (hold10us : Nat)
  | cellMeasurement (mv : BitVec 16)
  | sealEvent (k : SealKind)
  | rtcUpdate
  | clockDomainBrownout
  -- start-up and device-level supervision (spec/16, spec/14)
  | provingDone (failed : List (Side × ProvBlock)) (keyCheckAgrees : Bool)
  | bootDone
  | loadingDone (silent : List ChipIx)
  | startSupervisorTimeout (sd : Side)
  | supervisorFault (sd : Side) (k : SupvKind)
  | supervisorSelfCheck (sd : Side) (pass : Bool)
  | cryptoKnownAnswerTest (sd : Side) (pass : Bool)
  | thermalLimit (sd : Side)
  | tickAlignment (sd : Side) (skewNs : Int)
  | skewFault
  | alignmentLoss
  | sideLinkCrcError (lane : Fin 4)
  -- the frame (spec/02)
  | capture
  | imageExchangeComplete (complete : Bool)
  | commitDeadline
  | commit
  -- logic-to-field frames (spec/04)
  | keepalive (chip : ChipIx) (h : L2FHdr) (payload : BitVec 256)
  | output (chip : ChipIx) (h : L2FHdr) (on : BitVec 16) (ao : BitVec 224) (rsv : BitVec 16)
  | diagReq (chip : ChipIx) (h : L2FHdr) (id : BitVec 16) (part : Byte) (rsv : BitVec 232)
  | config (chip : ChipIx) (h : L2FHdr) (p : CfgPayload)
  | bankSwitch (chip : ChipIx) (h : L2FHdr) (p : CfgPayload)
  | barrierEcho (chip : ChipIx) (h : L2FHdr) (pattern : BitVec 248)
  | sentArm (chip : ChipIx) (h : L2FHdr) (p : CmdPayload)
  | calStart (chip : ChipIx) (h : L2FHdr) (p : CmdPayload)
  | calAbort (chip : ChipIx) (h : L2FHdr) (p : CmdPayload)
  | inject (chip : ChipIx) (h : L2FHdr) (p : CmdPayload)
  | refCheck (chip : ChipIx) (h : L2FHdr) (p : CmdPayload)
  | latTest (chip : ChipIx) (h : L2FHdr) (p : CmdPayload)
  | restTest (chip : ChipIx) (h : L2FHdr) (p : CmdPayload) (result : RestResult)
  | bankCrc (chip : ChipIx) (h : L2FHdr) (p : CmdPayload)
  | forceRel (chip : ChipIx) (h : L2FHdr) (p : CmdPayload)
  | ovsRel (chip : ChipIx) (h : L2FHdr) (p : CmdPayload)
  -- field-to-logic frames (spec/04)
  | captureLo (chip : ChipIx) (h : F2LHdr) (payload : BitVec 248)
  | captureHi (chip : ChipIx) (h : F2LHdr) (payload : BitVec 248)
  | diag (chip : ChipIx) (h : F2LHdr) (payload : BitVec 248)
  | stream (chip : ChipIx) (h : F2LHdr) (payload : BitVec 248)
  | idle (chip : ChipIx) (h : F2LHdr) (payload : BitVec 248)
  | fieldSilenceTimeout (chip : ChipIx)
  | sideSilenceTimeout (chip : ChipIx)
  | fieldChipReturn (chip : ChipIx)
  | tripLaneChange (chip : ChipIx) (lane : TripLane) (what : LaneChange)
  | holdLaneTrip (chip : ChipIx)
  | pairLaneTrip (chip : ChipIx) (c : LocalIx) (low : Bool) (fault : Bool)
  | pairLineRecovery (chip : ChipIx) (c : LocalIx)
  -- terminals (spec/03)
  | diRawEdge (chip : ChipIx) (c : LocalIx) (level : Bool) (stamp : Nat)
  | filterQualify (t : TermIx) (level : Bool) (stamp : Nat)
  | stopLineQualify (line : Fin 2) (sd : Side) (off : Bool)
  | chatterWindowEnd (t : TermIx)
  | demandAge (t : TermIx)
  | discrepancyFault (ch : ChanIx)
  | tsPulseStart (t : TermIx)
  | tsPulseCheck (t : TermIx) (lineHigh : Bool) (overload : Bool) (stillOn : List TermIx) (rLoop : List (TermIx × Nat))
  | crossShortIdentified (t : TermIx) (matching : Option TermIx)
  | outputCurrentLimit (t : TermIx)
  | outputVoltageCheck (t : TermIx) (pass : Bool)
  | darkPulseStart (t : TermIx) (test : DarkTest)
  | darkPulseVerdict (t : TermIx) (mv : Nat) (steps : List TermIx)
  | darkPulseEnd (t : TermIx)
  | plugRemoved (chip : ChipIx)
  | plugInserted (chip : ChipIx)
  -- analog (spec/05)
  | internalCheck (chip : ChipIx) (failing : BitVec 16)
  | openLoopFlag (t : TermIx)
  | openLoopClear (t : TermIx)
  | aoCompliance (t : TermIx)
  | aoMismatch (t : TermIx)
  | ne43Fault (t : TermIx) (high : Bool)
  | aiDisagreement (ch : ChanIx)
  | calibrationComplete (t : TermIx) (zeroI refI zeroV refV : Int)
  -- counters, encoders, shift engines (spec/06)
  | pullinEnd (t : TermIx)
  | overspeedSentinelTrip (u : OvsRef)
  | timerMatch (u : UnitRef)
  | timerOverflow (u : UnitRef)
  | encoderEdge (sd : Side) (n : EncIx) (a : Bool) (b : Bool) (within20ns : Bool)
  | encoderLineFault (sd : Side) (n : EncIx)
  | clk (sd : Side) (n : EncIx) (bits : List Bool)
  | skip (sd : Side) (n : EncIx) (count : Nat)
  | expect (sd : Side) (n : EncIx) (arg : Bool) (line0 : Bool)
  | waitNs (sd : Side) (n : EncIx) (arg : BitVec 20)
  | waitTick (sd : Side) (n : EncIx)
  | waitClk (sd : Side) (n : EncIx) (bits : List Bool)
  | gray (sd : Side) (n : EncIx) (count : Nat)
  | deliver (sd : Side) (n : EncIx)
  | jump (sd : Side) (n : EncIx) (slot : Fin 64)
  | halt (sd : Side) (n : EncIx)
  | shiftLoadApply (sd : Side) (n : EncIx) (clockInProgress : Bool)
  -- lattice maintenance (spec/07)
  | latticeScrub (hit : ScrubHit)
  | planeTest (sd : Side) (failing : List (Fin 24))
  | atRestOverdue (chip : ChipIx) (item : RestItem)
  -- couplings, slots, coaches (spec/08)
  | couplingSignature (sd : Side) (p : SlotIx) (lag : Int)
  | couplingTimeout (sd : Side) (p : SlotIx)
  | derailNotice (sd : Side) (p : SlotIx)
  | bankNotice (sd : Side) (p : SlotIx)
  | coachTestVerdict (p : SlotIx) (leadPass : Bool) (trailPass : Bool)
  | reserveAcceptance (sd : Side) (coach : CoachIx) (p : SlotIx) (pass : Bool)
  | reserveDailyTest (sd : Side) (coach : CoachIx) (pass : Bool)
  | coachPowerUpDone (sd : Side) (coach : CoachIx)
  | rebuildCompare (p : SlotIx) (foldA : Word) (foldB : Word)
  | slotRejoin (p : SlotIx)
  | handoverCopy (p : SlotIx)
  | handoverExchange (p : SlotIx)
  | splitApply (p : SlotIx)
  | joinLbistDone (p : SlotIx) (leadPass : Bool) (trailPass : Bool)
  | debugHalt (p : SlotIx)
  | debugBreakpoint (p : SlotIx) (addr : BitVec 41)
  | debugSingleStep (p : SlotIx)
  | debugResume (p : SlotIx)
  | debugWrite (p : SlotIx) (tgt : DebugTarget) (value : Word)
  | debugReplay (p : SlotIx)
  | splitFendResume (c : CoachRef)
  -- the Coach ISA (spec/09)
  | illegalInstruction (c : CoachRef) (insn : BitVec 36)
  | add (c : CoachRef) (d a b : RegField)
  | addc (c : CoachRef) (d a b : RegField)
  | addx (c : CoachRef) (d a b : RegField)
  | sub (c : CoachRef) (d a b : RegField)
  | subc (c : CoachRef) (d a b : RegField)
  | subx (c : CoachRef) (d a b : RegField)
  | neg (c : CoachRef) (d a : RegField)
  | negc (c : CoachRef) (d a : RegField)
  | and (c : CoachRef) (d a b : RegField)
  | or (c : CoachRef) (d a b : RegField)
  | xor (c : CoachRef) (d a b : RegField)
  | andn (c : CoachRef) (d a b : RegField)
  | cmp (c : CoachRef) (a b : RegField)
  | tst (c : CoachRef) (a b : RegField)
  | min (c : CoachRef) (d a b : RegField)
  | max (c : CoachRef) (d a b : RegField)
  | minu (c : CoachRef) (d a b : RegField)
  | maxu (c : CoachRef) (d a b : RegField)
  | mul (c : CoachRef) (d a b : RegField)
  | mulc (c : CoachRef) (d a b : RegField)
  | mulh (c : CoachRef) (d a b : RegField)
  | mulhu (c : CoachRef) (d a b : RegField)
  | div (c : CoachRef) (d a b : RegField)
  | divc (c : CoachRef) (d a b : RegField)
  | rem (c : CoachRef) (d a b : RegField)
  | remc (c : CoachRef) (d a b : RegField)
  | divu (c : CoachRef) (d a b : RegField)
  | remu (c : CoachRef) (d a b : RegField)
  | divuc (c : CoachRef) (d a b : RegField)
  | remuc (c : CoachRef) (d a b : RegField)
  | shl (c : CoachRef) (d a b : RegField)
  | shr (c : CoachRef) (d a b : RegField)
  | sar (c : CoachRef) (d a b : RegField)
  | adds (c : CoachRef) (d a b : RegField)
  | subs (c : CoachRef) (d a b : RegField)
  | muls (c : CoachRef) (d a b : RegField)
  | bxt (c : CoachRef) (d a b : RegField)
  | bxts (c : CoachRef) (d a b : RegField)
  | bins (c : CoachRef) (d a b : RegField)
  | nop (c : CoachRef)
  | save (c : CoachRef)
  | restore (c : CoachRef)
  | ret (c : CoachRef)
  | jmpr (c : CoachRef) (a : RegField)
  | callr (c : CoachRef) (a : RegField)
  | tret (c : CoachRef)
  | spill (c : CoachRef) (a : RegField)
  | fill (c : CoachRef) (a : RegField)
  | tlbf (c : CoachRef)
  | isync (c : CoachRef)
  | addi (c : CoachRef) (d a : RegField) (imm : BitVec 16)
  | andi (c : CoachRef) (d a : RegField) (imm : BitVec 16)
  | ori (c : CoachRef) (d a : RegField) (imm : BitVec 16)
  | xori (c : CoachRef) (d a : RegField) (imm : BitVec 16)
  | cmpi (c : CoachRef) (a : RegField) (imm : BitVec 16)
  | shli (c : CoachRef) (d a : RegField) (imm : BitVec 16)
  | shri (c : CoachRef) (d a : RegField) (imm : BitVec 16)
  | sari (c : CoachRef) (d a : RegField) (imm : BitVec 16)
  | muli (c : CoachRef) (d a : RegField) (imm : BitVec 16)
  | ldu (c : CoachRef) (d : RegField) (imm : BitVec 22)
  | bxti (c : CoachRef) (d a : RegField) (imm : BitVec 16)
  | binsi (c : CoachRef) (d a : RegField) (imm : BitVec 16)
  | ld (c : CoachRef) (d a : RegField) (imm : BitVec 16)
  | st (c : CoachRef) (d a : RegField) (imm : BitVec 16)
  | xchg (c : CoachRef) (d a : RegField) (imm : BitVec 16)
  | fence (c : CoachRef)
  | br (c : CoachRef) (disp : BitVec 28)
  | call (c : CoachRef) (disp : BitVec 28)
  | beq (c : CoachRef) (disp : BitVec 28)
  | bne (c : CoachRef) (disp : BitVec 28)
  | blt (c : CoachRef) (disp : BitVec 28)
  | bge (c : CoachRef) (disp : BitVec 28)
  | ble (c : CoachRef) (disp : BitVec 28)
  | bgt (c : CoachRef) (disp : BitVec 28)
  | blo (c : CoachRef) (disp : BitVec 28)
  | bhs (c : CoachRef) (disp : BitVec 28)
  | bls (c : CoachRef) (disp : BitVec 28)
  | bhi (c : CoachRef) (disp : BitVec 28)
  | bvs (c : CoachRef) (disp : BitVec 28)
  | bvc (c : CoachRef) (disp : BitVec 28)
  | bmi (c : CoachRef) (disp : BitVec 28)
  | bpl (c : CoachRef) (disp : BitVec 28)
  | trap (c : CoachRef) (imm : BitVec 16)
  | cpl (c : CoachRef)
  | fend (c : CoachRef)
  | rdsr (c : CoachRef) (d : RegField) (imm : BitVec 16)
  | wrsr (c : CoachRef) (a : RegField) (imm : BitVec 16)
  -- tests and verdicts (spec/14)
  | bankCopyDone (sd : Side) (bank : BankIx)
  | bankTestVerdict (sd : Side) (bank : BankIx) (pass : Bool)
  | barrierTestVerdict (w : WagonIx) (sd : Side)
  | laneTestVerdict (lane : Fin 4) (pass : Bool)
  | frontEndTestVerdict (t : TermIx) (pass : Bool)
  | converterTestVerdict (t : TermIx) (pass : Bool)
  | unitScanVerdict (u : ScanUnit) (pass : Bool)
  | deviceBlockTestVerdict (sd : Side) (b : DevBlock) (pass : Bool)
  -- safety functions and ledger (spec/10)
  | armedTimeout (f : FnIx)
  | resetHeldLong (f : FnIx) (secs : Nat)
  | resetInstanceRecovery (f : FnIx)
  | remoteResetExpiry
  | edmCheckStart (f : FnIx)
  | handrailDeviation (f : FnIx)
  | brakeFeedbackTimeout (f : FnIx) (applying : Bool)
  | doorchainBridged (f : FnIx)
  | timerDelayExpiry (f : FnIx)
  | voteDisagreement (f : FnIx)
  | curveTransfer (t : TermIx) (curve : List (BitVec 18))
  | ledgerPageWrite
  -- motion (spec/11)
  | monitorDisagreement (m : MonIx)
  | monitorFaultClear (m : MonIx)
  | eventPulseEnd (m : MonIx) (k : Fin 8)
  -- network and PTP (spec/12)
  | netData (sd : Side) (g : Telegram) (arr : Nat)
  | netOpen (sd : Side) (g : Telegram) (arr : Nat)
  | netOpenAck (sd : Side) (g : Telegram) (arr : Nat)
  | telegramReceipt (sd : Side) (r : Receipt)
  | telegramSend (c : ConnIx)
  | connectionWatchdogExpiry (c : ConnIx)
  | singleNetworkTimeout (c : ConnIx)
  | handshakeTimeout (c : ConnIx)
  | moduleInserted (cage : CageIx) (m : ModuleInfo)
  | moduleRemoved (cage : CageIx)
  | moduleAlarmPoll (cage : CageIx) (flags : Byte)
  | cageDown (cage : CageIx) (cause : CageCause)
  | ptpSync (net : Side) (offsetNs : Int) (taiNs : Nat)
  | ptpAnnounceTimeout (net : Side)
  -- host ports and the depot (spec/13)
  | portLinkUp (p : Side) (gen width : Nat)
  | portLinkDown (p : Side)
  | stopWord (p : Side) (w : BitVec 64) (size : Nat) (onVc0 : Bool)
  | vc1TlpDiscard (p : Side) (nonPosted : Bool)
  | semReq (p : Side) (w : BitVec 64)
  | semRel (p : Side) (w : BitVec 64)
  | admCtlWrite (p : Side) (w : BitVec 64)
  | queueProdWrite (p : Side) (q : QueueIx) (w : BitVec 64)
  | queueConsWrite (p : Side) (q : QueueIx) (w : BitVec 64)
  | frameStatRead (p : Side)
  | frameStatClear (p : Side) (w : BitVec 64)
  | cntRead (p : Side)
  | registerWrite (p : Side) (w : BarWrite)
  | packetFetch (p : Side) (q : QueueIx) (bytes : List Byte)
  | replyWrite (p : Side)
  | streamRecordWrite (q : QueueIx) (words : List Word)
  | processImageRefresh (p : Side)
  | tokenLeaseExpiry
  | sessionExpiry (port : Option Side)
  -- host commands (R354); params are the parameter slots
  | identify (h : Hdr) (params : List Slot16)
  | echo (h : Hdr) (params : List Slot16)
  | devStatus (h : Hdr) (params : List Slot16)
  | portStatus (h : Hdr) (params : List Slot16)
  | tokenAcquire (h : Hdr) (params : List Slot16)
  | tokenRenew (h : Hdr) (params : List Slot16)
  | tokenRelease (h : Hdr) (params : List Slot16)
  | tokenStatus (h : Hdr) (params : List Slot16)
  | cfgStageBegin (h : Hdr) (params : List Slot16)
  | cfgStageData (h : Hdr) (params : List Slot16)
  | cfgStageEnd (h : Hdr) (params : List Slot16)
  | stageVerifyDone (firmware : Bool)
  | cfgActivate (h : Hdr) (params : List Slot16)
  | activationDone (firmware : Bool)
  | cfgAbort (h : Hdr) (params : List Slot16)
  | cfgRead (h : Hdr) (params : List Slot16)
  | cfgStatus (h : Hdr) (params : List Slot16)
  | chReadCfg (h : Hdr) (params : List Slot16)
  | chStatus (h : Hdr) (params : List Slot16)
  | chReadCal (h : Hdr) (params : List Slot16)
  | chCalibrate (h : Hdr) (params : List Slot16)
  | wagonStatus (h : Hdr) (params : List Slot16)
  | chRehome (h : Hdr) (params : List Slot16)
  | rehomeApply
  | pdWrite (h : Hdr) (params : List Slot16)
  | pdRead (h : Hdr) (params : List Slot16)
  | sfStatus (h : Hdr) (params : List Slot16)
  | sfStatusBulk (h : Hdr) (params : List Slot16)
  | sfDemands (h : Hdr) (params : List Slot16)
  | sfResetArm (h : Hdr) (params : List Slot16)
  | sfResetConfirm (h : Hdr) (params : List Slot16)
  | sfCommission (h : Hdr) (params : List Slot16)
  | sfGroupStatus (h : Hdr) (params : List Slot16)
  | monReadCfg (h : Hdr) (params : List Slot16)
  | monStatus (h : Hdr) (params : List Slot16)
  | monStop (h : Hdr) (params : List Slot16)
  | shiftLoad (h : Hdr) (params : List Slot16)
  | encStatus (h : Hdr) (params : List Slot16)
  | jrnlInfo (h : Hdr) (params : List Slot16)
  | jrnlRead (h : Hdr) (params : List Slot16)
  | ledgerInfo (h : Hdr) (params : List Slot16)
  | ledgerRead (h : Hdr) (params : List Slot16)
  | ledgerAck (h : Hdr) (params : List Slot16)
  | ledgerKey (h : Hdr) (params : List Slot16)
  | stRun (h : Hdr) (params : List Slot16)
  | selfTestFinal (verdict : Fin 3)
  | stResult (h : Hdr) (params : List Slot16)
  | retireRead (h : Hdr) (params : List Slot16)
  | pairStatus (h : Hdr) (params : List Slot16)
  | coachStatus (h : Hdr) (params : List Slot16)
  | pairSplit (h : Hdr) (params : List Slot16)
  | pairJoin (h : Hdr) (params : List Slot16)
  | pairHandover (h : Hdr) (params : List Slot16)
  | qCreate (h : Hdr) (params : List Slot16)
  | qDelete (h : Hdr) (params : List Slot16)
  | qBind (h : Hdr) (params : List Slot16)
  | qStatus (h : Hdr) (params : List Slot16)
  | netStatus (h : Hdr) (params : List Slot16)
  | connStatus (h : Hdr) (params : List Slot16)
  | keyExport (h : Hdr) (params : List Slot16)
  | cageStatus (h : Hdr) (params : List Slot16)
  | fwStageBegin (h : Hdr) (params : List Slot16)
  | fwStageData (h : Hdr) (params : List Slot16)
  | fwStageEnd (h : Hdr) (params : List Slot16)
  | fwActivate (h : Hdr) (params : List Slot16)
  | fwStatus (h : Hdr) (params : List Slot16)
  | timeGet (h : Hdr) (params : List Slot16)
  | timeSet (h : Hdr) (params : List Slot16)
  | ptpStatus (h : Hdr) (params : List Slot16)
  | svcChallenge (h : Hdr) (params : List Slot16)
  | svcOpen (h : Hdr) (params : List Slot16)
  | svcClose (h : Hdr) (params : List Slot16)
  -- service port, tokens, journal, collapse, late rows
  | serviceCableInserted
  | serviceCableRemoved
  | servicePacket (bytes : List Byte)
  | startTokenRefill (chip : ChipIx)
  | journalPageWrite (sd : Side)
  | mramWordWrite (sd : Side) (addr : Nat) (value : Word)
  | collapseSummary (cls : Nat) (idx : Nat)
  | collapseWindowClose (cls : Nat) (idx : Nat)
  | holdingNotice (sd : Side)
  | holdLaneRelease (chip : ChipIx)
  | cageUp (cage : CageIx)
  | complianceRecovered (t : TermIx)
  | unitParityError (u : ScanUnit)
  | diceEntropyFault (chip : ChipIx)
  | protectionReconnect (inp : Side) (mv : BitVec 16)
  | rtcOscillatorPeriod
  | tapInstruction (ins : TapIns)
  | ptpAnnounce (net : Side) (better : Bool) (gm : BitVec 64)
  | ptpDelayResponse (net : Side) (pathDelayNs : Int)
  | ptpMessageInterval (net : Side)
  deriving DecidableEq, Repr

end Sys2Proof
end

