-- ==== Sys2Proof/Machine/Bits.lean ====
section
/-! DEFINITION. Bit fields, byte orders and the cyclic redundancy checks of the spec: R4, R5, R87, R117, R310. -/

namespace Sys2Proof.Machine

/-- Bits [hi:lo] of a bit vector as a number (R4). -/
def fld {n : Nat} (w : BitVec n) (hi lo : Nat) : Nat := w.toNat / 2 ^ lo % 2 ^ (hi + 1 - lo)

/-- Bit i of a bit vector (R4). -/
def bit {n : Nat} (w : BitVec n) (i : Nat) : Bool := w.getLsbD i

/-- w with bits [hi:lo] replaced by v (modulo the field's width). -/
def putFld {n : Nat} (w : BitVec n) (hi lo v : Nat) : BitVec n :=
  BitVec.ofNat n (w.toNat - fld w hi lo * 2 ^ lo + v % 2 ^ (hi + 1 - lo) * 2 ^ lo)

/-- Bits [hi:lo] read as a two's complement number. -/
def sfld {n : Nat} (w : BitVec n) (hi lo : Nat) : Int :=
  let v := fld w hi lo
  if v ≥ 2 ^ (hi - lo) then (v : Int) - (2 ^ (hi + 1 - lo) : Nat) else v

/-- v at bit position lo of a wider number: the building block of register layouts. -/
def at_ (v lo : Nat) : Nat := v * 2 ^ lo

/-- A Bool as one bit. -/
def b2n (b : Bool) : Nat := if b then 1 else 0

/-- A signed number clamped to two's complement width n, saturating (R115, R297). -/
def satInt (lo hi v : Int) : Int := if v < lo then lo else if hi < v then hi else v

/-- The two's complement code of v in n bits, as a number. -/
def encInt (n : Nat) (v : Int) : Nat := (v % (2 ^ n : Nat)).toNat

/-- v mod 2^n as a signed difference (R148, R274). -/
def sdiff (n : Nat) (v : Int) : Int :=
  let r := v % (2 ^ n : Nat)
  if r ≥ (2 ^ (n - 1) : Nat) then r - (2 ^ n : Nat) else r

/-- Set bit i of a bit vector to b. -/
def setBit {n : Nat} (w : BitVec n) (i : Nat) (b : Bool) : BitVec n := putFld w i i (b2n b)

/-- The k little-endian bytes of a number (R5). -/
def leBytes : Nat → Nat → List Byte
  | 0, _ => []
  | k + 1, v => BitVec.ofNat 8 v :: leBytes k (v / 256)

/-- The number of little-endian bytes (R5). -/
def ofLe : List Byte → Nat
  | [] => 0
  | b :: r => b.toNat + 256 * ofLe r

/-- The nine bytes of a 72-bit word, byte 0 first (R5). -/
def wordBytes (w : Word) : List Byte := leBytes 9 w.toNat

/-- n bits of a number, bit 0 first. -/
def bitsUp : Nat → Nat → List Bool
  | 0, _ => []
  | n + 1, v => decide (v % 2 = 1) :: bitsUp n (v / 2)

/-- One step of a left-shifting CRC of width n with the polynomial poly (R87, R117). -/
def crcStep {n : Nat} (poly : BitVec n) (reg : BitVec n) (b : Bool) : BitVec n :=
  let top := reg.getLsbD (n - 1)
  let r := reg <<< 1
  if Bool.xor top b then r ^^^ poly else r

/-- A left-shifting CRC over bits in the order given. -/
def crcLeft {n : Nat} (poly init : BitVec n) (bits : List Bool) : BitVec n := bits.foldl (crcStep poly) init

/-- CRC-24 of a barrier frame over bits [295:0] in the order sent, bit 0 first (R87). -/
def crc24 (bits : List Bool) : BitVec 24 := crcLeft (0x864CFB#24) (0xB704CE#24) bits

/-- CRC-16 of R117 and R397 over bits [71:16], most significant bit first. -/
def crc16Word (w : Word) : BitVec 16 :=
  crcLeft (0x1021#16) (0xFFFF#16) (bitsUp 56 (fld w 71 16)).reverse

/-- One bit of the reflected CRC-32C (R310). -/
def crc32Step (reg : BitVec 32) (b : Bool) : BitVec 32 :=
  let low := reg.getLsbD 0
  let r := reg >>> 1
  if Bool.xor low b then r ^^^ (0x82F63B78#32) else r

/-- CRC-32C over bytes (R310): reflected, initial value and final xor all ones. -/
def crc32c (bs : List Byte) : BitVec 32 :=
  (bs.foldl (fun r b => (bitsUp 8 b.toNat).foldl crc32Step r) (0xFFFFFFFF#32)) ^^^ (0xFFFFFFFF#32)

/-- The regions of MRAM: first byte, and the bytes that hold whole words or whole pages (R384). -/
def mramRegions : List (Nat × Nat) :=
  [(0x00000000, 9 * (0x02000000 / 9)), (0x02000000, 9 * (0x02000000 / 9)), (0x04000000, 9 * (0x00800000 / 9)),
    (0x04800000, 9 * (0x00800000 / 9)), (0x05000000, 9 * 14563), (0x05020000, 576 * 72590), (0x07800000, 1440 * 5825)]

/-- A word of MRAM begins at the byte offset: word k of a region lies 9k bytes from its start, and the bytes left over at its
end are reserved (R384). -/
def mramHolds (a : Nat) : Bool :=
  mramRegions.any fun (r : Nat × Nat) => decide (r.1 ≤ a) && decide ((a - r.1) % 9 = 0) && decide (a + 9 ≤ r.1 + r.2)

end Sys2Proof.Machine
end

