-- ==== Sys2Proof/Machine/Tab.lean ====
section
/-! DEFINITION. Sparse tables in one canonical form: keys strictly rising, and no entry equal to what an unlisted key
reads as. Frame memory, MRAM, and every numbered group of registers of the device are kept this way. -/

namespace Sys2Proof.Machine

/-- A sparse table: (key, value) pairs, keys strictly rising, none equal to the value of an unlisted key. -/
abbrev Tab (α : Type) := List (Nat × α)

/-- What key k reads as; d is what an unlisted key reads as. -/
def Tab.get {α : Type} (d : α) : Tab α → Nat → α
  | [], _ => d
  | (j, x) :: r, k => if k = j then x else Tab.get d r k

/-- Remove key k. -/
def Tab.del {α : Type} : Tab α → Nat → Tab α
  | [], _ => []
  | (j, x) :: r, k => if k = j then Tab.del r k else (j, x) :: Tab.del r k

/-- List key k with value v in its place. -/
def Tab.ins {α : Type} (v : α) : Tab α → Nat → Tab α
  | [], k => [(k, v)]
  | (j, x) :: r, k =>
    if k < j then (k, v) :: (j, x) :: r
    else if k = j then (k, v) :: r
    else (j, x) :: Tab.ins v r k

/-- Write v at key k, keeping the canonical form: the value of an unlisted key removes the entry. -/
def Tab.set {α : Type} [DecidableEq α] (d : α) (t : Tab α) (k : Nat) (v : α) : Tab α :=
  if v = d then Tab.del t k else Tab.ins v t k

/-- Apply f to what key k reads as. -/
def Tab.upd {α : Type} [DecidableEq α] (d : α) (t : Tab α) (k : Nat) (f : α → α) : Tab α :=
  Tab.set d t k (f (Tab.get d t k))

/-- The keys are strictly rising and above lo, and no entry equals d: the canonical form. -/
def Tab.wfFrom {α : Type} [DecidableEq α] (d : α) : Nat → Tab α → Bool
  | _, [] => true
  | lo, (j, x) :: r => decide (lo ≤ j) && decide (x ≠ d) && Tab.wfFrom d (j + 1) r

/-- The canonical form of a table whose unlisted keys read as d. -/
def Tab.wf {α : Type} [DecidableEq α] (d : α) (t : Tab α) : Bool := Tab.wfFrom d 0 t

end Sys2Proof.Machine
end

