-- ==== Sys2Proof/Config.lean ====
section
/-! DEFINITION. What one implementation or the world outside fixes and the spec leaves open: free values (no body, so
no proof can see one) and functions of external standards or formats that the spec names without giving their layout. -/

namespace Sys2Proof

/-- A service credential of a package or of a firmware image (R425). -/
structure Cred where
  id        : BitVec 32
  roles     : Byte
  notBefore : BitVec 16
  notAfter  : BitVec 16
  key       : List Byte
  deriving DecidableEq, Repr, Inhabited

/-- A configuration package after its directory sections have been read (R34, R423): its words by class, index and
word number (R355; classes from 0x20 on are the model's numbers for the words that R355 gives no class, log entry 7),
the frame parameters, and the bindings that Steinik compiles (R247, R277, R293). -/
structure Pkg where
  fl     : Nat := 250
  cdl    : Nat := 246
  k      : Nat := 2
  words  : Machine.Tab Word := []
  /-- terminals bound to a function's outputs (R247) -/
  outs   : Machine.Tab (List Nat) := []
  /-- permissive functions bound to an output terminal (R247, R259) -/
  perms  : Machine.Tab (List Nat) := []
  /-- position-event pulses bound to an output terminal, as monitor × 8 + event (R294) -/
  pulses : Machine.Tab (List Nat) := []
  creds  : List Cred := []
  nsalt  : BitVec 128 := 0
  /-- the wrapped transport key and what its recovery needs, as byte strings: EPH, WRAP (R423, R424) -/
  wrap   : List Byte := []
  digest : BitVec 384 := 0
  /-- SHA-384 of the package's owner key (R417, R421) -/
  ownerRoot : BitVec 384 := 0
  /-- the functions that a configuration update marks as changed or new (R200) -/
  changed : List Nat := []
  flags  : Byte := 0
  deriving DecidableEq, Repr, Inhabited

namespace Config

/-- Free 72-bit values: the n-th one drawn (log entries 4 and 5). -/
opaque freeWord : Nat → Word
/-- Free natural numbers: the n-th one drawn; a use bounds it as the spec states (dice, R71). -/
opaque freeNat : Nat → Nat

/-- ECDSA P-384 verification (R418, R421, R426): public key bytes, message bytes, signature bytes. -/
opaque ecdsaP384Verify : List Byte → List Byte → List Byte → Bool
/-- ECDSA P-384 signature, r then s, each big-endian, with the RFC 6979 nonce (R269): private scalar, digest. -/
opaque ecdsaP384Sign : Nat → List Byte → List Byte
/-- The public key of a P-384 private scalar, 97 bytes, uncompressed (R415). -/
opaque p384Public : Nat → List Byte
/-- ECDH on P-384 (R424): private scalar, public key bytes. -/
opaque ecdhP384 : Nat → List Byte → List Byte
/-- SHA-384 (R268, R418). -/
opaque sha384 : List Byte → BitVec 384
/-- HKDF-SHA-256 of RFC 5869 (R313, R414, R424): IKM, salt, info, L. -/
opaque hkdf256 : List Byte → List Byte → List Byte → Nat → List Byte
/-- AES-128-CMAC truncated to its first 8 bytes (R311). -/
opaque cmac64 : BitVec 128 → List Byte → BitVec 64
/-- AES key wrap of RFC 3394 under the transport key (R314): 24 bytes. -/
opaque keyWrap : BitVec 128 → BitVec 128 → BitVec 192
/-- AES key unwrap of RFC 3394 under a key (R424), none when it fails: key bytes, wrapped bytes. -/
opaque keyUnwrap : List Byte → List Byte → Option (BitVec 128)
/-- The mask of a die over the stored secret (R413). -/
opaque secretMask : Side → BitVec 256

/-- The reading of the directory sections of a package body, or none when an encoding is undefined (R421, R423); the order of
the words within a section, and the section of a word without a class in R355, are not given by the spec (log entry 7). -/
opaque parsePackage : List Byte → Option Pkg
/-- The vendor credentials that a firmware image lists (R425); their place in the image body is not given. -/
opaque imageCreds : List Byte → List Cred

/-- The word addresses of a slot's output area in frame memory (R185); its place is not given. -/
opaque outputArea : Nat → List Nat
/-- The word addresses of a slot's state buffer in frame memory (R194, R199); its place is not given. -/
opaque stateArea : Nat → List Nat
/-- The word addresses at which a function keeps its state, and its words in the output area (R36, R199); their place is not given. -/
opaque fnArea : Nat → List Nat

/-- The word addresses of a connection's DATA in the output area of its slot, in ascending order (R185, R316); their place is not
given. -/
opaque dataArea : Nat → List Nat
/-- The words of an accepted payload's record in the connection's queue of the network pool, whose form the spec does not give
(R337). -/
opaque payloadRecord : Nat → List Byte → List Word

/-- The slots whose code or state lies in a frame memory bank, by 16 × side + bank (R366); the package places them. -/
opaque bankSlots : Nat → List Nat

/-- The stream queues that the package assigns to the split coaches of a slot (R14, R337); their place is not given. -/
opaque splitQueues : Nat → List Nat

/-- The word of the device region, as an offset, at which a side's coaches read a timer unit (R147, R237); the spec gives no
layout of the region. -/
opaque timerWord : Nat → Nat
/-- The depot queue that a word of the device region writes, by offset (R14, R237). -/
opaque queueWord : Nat → Option Nat
/-- The word of the device region, as an offset, at which a coach reads the oldest word of a depot queue, and of its side's timer
mailbox queue (R14, R146, R237). -/
opaque queueRead : Nat → Nat
opaque mailWord : Nat

/-- The functions bound to a timer unit, by 64 × side + unit (R365); the package binds them, its place is not given. -/
opaque timerFns : Nat → List Nat

end Config
end Sys2Proof
end

