-- ==== Sys2Proof/Machine/Keys.lean ====
section
/-! DEFINITION. The keys that the crypto engine derives from the device secret (R313, R413–R415, R424), over the functions of
Sys2Proof/Config.lean that stand for the standards (log entry 6). -/

namespace Sys2Proof.Config

open Sys2Proof.Machine

/-- A key derived from the device secret (R414): salt, info, length. -/
def derive (secret : BitVec 256) (salt info : List Byte) (n : Nat) : List Byte := hkdf256 (leBytes 32 secret.toNat) salt info n

/-- The order of the group of P-384 (FIPS 186; log entry 6). -/
def p384Order : Nat :=
  0xFFFFFFFFFFFFFFFFFFFFFFFFFFFFFFFFFFFFFFFFFFFFFFFFC7634D81F4372DDF581A0DB248B0A77AECEC196ACCC52973

/-- A P-384 private scalar of 48 bytes (R414): read big-endian, modulo n - 1, plus 1. -/
def scalarOf (bytes : List Byte) : Nat := ofLe bytes.reverse % (p384Order - 1) + 1

/-- The ledger key (R414): info "LDG1". -/
def ledgerScalar (secret : BitVec 256) : Nat := scalarOf (derive secret [] [0x4C, 0x44, 0x47, 0x31] 48)
/-- The agreement key (R414): info "KAG1". -/
def agreementScalar (secret : BitVec 256) : Nat := scalarOf (derive secret [] [0x4B, 0x41, 0x47, 0x31] 48)

/-- The key of a connection, generation and direction (R313); dir says from the remote station to the device. -/
def connKey (secret : BitVec 256) (nsalt : BitVec 128) (c g : Nat) (dir : Bool) : BitVec 128 :=
  BitVec.ofNat 128 (ofLe (derive secret (leBytes 16 nsalt.toNat)
    ([0x42, 0x52, 0x4C, 0x31] ++ leBytes 2 c ++ leBytes 2 g ++ [BitVec.ofNat 8 (b2n dir)]) 16))

/-- Bytes as n words of nine, the rest zero: byte k in byte (k mod 9) of word k / 9 (R268, R415). -/
def packWords (bs : List Byte) (n : Nat) : List Word :=
  (List.range n).map fun j => BitVec.ofNat 72 (ofLe ((List.range 9).map fun i => bs.getD (9 * j + i) 0))

/-- The device key record (R415): the two public keys, and the ledger key's signature over their digest with SERIAL. -/
def keyRecord (secret : BitVec 256) (serial : BitVec 64) : List Word :=
  let l := p384Public (ledgerScalar secret)
  let a := p384Public (agreementScalar secret)
  let sig := ecdsaP384Sign (ledgerScalar secret) (leBytes 48 (sha384 (l ++ a ++ leBytes 8 serial.toNat)).toNat)
  packWords l 11 ++ packWords a 11 ++ packWords sig 11

/-- The transport key of R424, or none when the unwrap fails, from EPH (97 bytes), WRAP (24), NSALT (16), SERIAL (8). -/
def transportKey (secret : BitVec 256) (bs : List Byte) : Option (BitVec 128) :=
  let z := ecdhP384 (agreementScalar secret) (bs.take 97)
  let kek := hkdf256 z ((bs.drop 121).take 16) ([0x50, 0x5A, 0x58, 0x54, 0x4B, 0x31] ++ (bs.drop 137).take 8) 16
  keyUnwrap kek ((bs.drop 97).take 24)

end Sys2Proof.Config
end

