-- ==== Sys2Proof/Machine/State.lean ====
section
/-! DEFINITION. The state of the device as plain data: every register, counter, latch, buffer and mode that spec/
names (INVENTORY.md lists them with their rules), the queue of waiting commands, and State.reset, the device at entry
to PROVING (R7). Large numbered groups are sparse tables; an element not listed stands at its reset value. -/

namespace Sys2Proof.Machine

/-- The fault outcomes. No rule of the spec stops the block: every error flag, trip and HOLDING is state. The one
constructor is raised by no command (safe: nothing is claimed through it). -/
inductive Fault where
  /-- Raised by nothing; kept because the host's interface names a fault type. Safe. -/
  | never
  deriving DecidableEq, Repr

/-- The refusal outcomes. -/
inductive Refusal where
  /-- Raised by the dispatcher for a command without a meaning yet. Safe: the machine stops. -/
  | notModelled (mnemonic : String)
  deriving DecidableEq, Repr

/-- The device states (R402). -/
inductive DevState where
  | dormant | proving | boot | loading | standby | running | holding | service
  deriving DecidableEq, Repr, Inhabited

/-- A node of the dependency tree, which is also the SOURCE of an event (R362). -/
structure Node where
  cls : Nat
  idx : Nat
  deriving DecidableEq, Repr, Inhabited

/-- An event record (R360): its time word, CODE, SOURCE, SEV and DETAIL. -/
structure Event where
  time   : Word
  code   : Nat
  source : Node
  sev    : Nat
  detail : Nat
  deriving DecidableEq, Repr, Inhabited

/-- An open collapse window (R379, R380). -/
structure Window where
  node    : Node
  code    : Nat
  /-- codes of the lasting conditions at the node that still stand -/
  conds   : List Nat
  /-- frame counter of the commit after which the last condition ended, none while one stands -/
  ended   : Option Nat
  opened  : Nat
  counts  : List (Nat × Nat)
  extra   : Nat
  /-- sources that have put their FOLDED_REF record in this window (R380) -/
  refs    : List Node := []
  deriving DecidableEq, Repr, Inhabited

/-- The clock: frame counter, tick, tick count since PROVING, and the frame parameters in force (R34, R470). -/
structure Clock where
  frame    : BitVec 72 := 0
  tick     : Nat := 0
  count    : Nat := 0
  fl       : Nat := 250
  cdl      : Nat := 246
  k        : Nat := 2
  pend     : Option (Nat × Nat × Nat) := none
  /-- this tick-0 edge's commit and capture have taken place (model's own, log entry 3) -/
  committed : Bool := false
  captured  : Bool := false
  /-- the image of this frame was late: no pair executes in it (R37) -/
  late      : Bool := false
  /-- pair 0 has overrun in this frame: it carries out no packet of its image (R46) -/
  halt0     : Bool := false
  deriving DecidableEq, Repr

/-- FRAME_STAT of a side (R40) and its tick alignment (R31, R32). -/
structure FrameStat where
  frameNo   : BitVec 32 := 0
  ovr       : BitVec 16 := 0
  skew      : BitVec 8 := 0
  imgLate   : Bool := false
  alignWarn : Bool := false
  /-- length of the next tick in coach cycles (R31) -/
  nextTick  : Nat := 2000
  /-- consecutive ticks with skew above 40 ns (R32) -/
  over40    : Nat := 0
  /-- tick count at which the last alignment word arrived (R32) -/
  lastAlign : Nat := 0
  deriving DecidableEq, Repr

/-- The state of a logic input (R431). -/
inductive InState where
  | inRange | under | over
  deriving DecidableEq, Repr, Inhabited

/-- A logic input (R431, R435). -/
structure LogicIn where
  st   : InState := .inRange
  mv   : BitVec 16 := 0
  cut  : Bool := false
  deriving DecidableEq, Repr

/-- Logic supplies (R433). srcA and srcB name the input that each side draws from. -/
structure Power where
  la    : LogicIn := {}
  lb    : LogicIn := {}
  srcA  : Side := .A
  srcB  : Side := .B
  pfail : Bool := false
  deriving DecidableEq, Repr

/-- The energy cartridge, EC_STAT (R442), and the write path's warning (R386). -/
structure Cartridge where
  present  : Bool := false
  healthy  : Bool := false
  caut     : Bool := false
  hold10us : BitVec 13 := 0
  cellMv   : BitVec 16 := 0
  lastMeas : BitVec 32 := 0
  /-- tick count at which the bank measurement falls due (R443) -/
  bankDue  : Option Nat := none
  /-- tick count at which the cell measurement falls due (R399, R443) -/
  cellDue  : Nat := 0
  bankLow  : Bool := false
  deriving DecidableEq, Repr

/-- Device time and the clock domain (R394, R397, R398). -/
structure Time where
  rtc    : Word := 0
  /-- tick count at which RTC_STATE is next written from device time (R397) -/
  rtcDue : Nat := 0
  valid  : Bool := false
  tai    : Nat := 0
  /-- half a nanosecond beyond tai, which lengthened and shortened ticks leave (R31, R33) -/
  half   : Bool := false
  /-- tai at the running frame's capture, from which sent telegrams count (R312) -/
  capTai : Nat := 0
  tsrc   : BitVec 4 := 0
  seals  : List (Nat × BitVec 36) := []
  bootSeq : BitVec 24 := 0
  deriving DecidableEq, Repr

/-- A staged or stored firmware image (R418): its header fields and its body. -/
structure Image where
  state   : BitVec 4 := 0
  actSeq  : BitVec 40 := 0
  svn     : Byte := 0
  version : Word := 0
  digest  : BitVec 384 := 0
  valid   : Bool := false
  creds   : List Cred := []
  deriving DecidableEq, Repr

/-- A stored configuration copy (R420, R422). -/
structure CfgCopy where
  state  : BitVec 4 := 0
  actSeq : BitVec 40 := 0
  valid  : Bool := false
  pkg    : Pkg := {}
  deriving DecidableEq, Repr

/-- A staging in progress (R354 opcodes 0x10–0x16 and 0xB0–0xB4). -/
structure Staging where
  port     : Side
  length   : Nat
  bytes    : Tab Byte := []
  ended    : Bool := false
  verified : Bool := false
  tag      : BitVec 32 := 0
  queue    : Nat := 0
  pkg      : Pkg := {}
  image    : Image := {}
  deriving DecidableEq, Repr

/-- An activation by hand-overs (R354, R419): the slots still to hand over through the spare slot. -/
structure Activation where
  port  : Side
  tag   : BitVec 32
  queue : Nat
  spare : Nat
  n     : Nat
  slots : List Nat
  /-- the package changes functions: theirs are not compared (R200) -/
  changed : List Nat := []
  /-- slots whose hand-over is complete: they run the words of the new package (R200) -/
  renewed : List Nat := []
  deriving DecidableEq, Repr

/-- A service session (R426). -/
structure Session where
  id     : BitVec 32
  cred   : BitVec 32
  roles  : Byte
  opened : Nat
  deriving DecidableEq, Repr

/-- Device state, lifecycle and start-up (R402–R417). -/
structure Device where
  st        : DevState := .proving
  /-- tick count at entry to BOOT or LOADING (R403, R404) -/
  enteredAt : Nat := 0
  /-- blocks that brought the device to HOLDING and have no transient verdict yet (R371) -/
  holders   : List Node := []
  holdCause : Nat := 0
  responder : Bool := false
  /-- cfg fields are in force (end of LOADING, R7) -/
  loaded    : Bool := false
  pkgActive : Bool := false
  /-- a start-up abandoned at PFAIL_N (R436) -/
  abandoned : Bool := false
  /-- device-level failures found by PROVING (R403) -/
  provFail  : List Node := []
  toService : Bool := false
  /-- the OTP map of each side, physical copy 0 (R409) -/
  otp       : Two (BitVec 4096) := ⟨0, 0⟩
  /-- physical copy 1, bits 4,096–8,191 (R409) -/
  otp1      : Two (BitVec 4096) := ⟨0, 0⟩
  /-- the lifecycle code in force since the last start (R416, R417) -/
  lifecycle : BitVec 2 := 0
  running   : Side := .A
  fw        : Two (Two Image) := ⟨⟨{}, {}⟩, ⟨{}, {}⟩⟩
  cfg       : Two (Two CfgCopy) := ⟨⟨{}, {}⟩, ⟨{}, {}⟩⟩
  cfgStage  : Option Staging := none
  fwStage   : Option Staging := none
  cfgAct    : Option Activation := none
  fwAct     : Option Activation := none
  /-- a package to apply at the next commit (CFG_ACTIVATE in STANDBY or HOLDING) -/
  applyPkg  : Bool := false
  secretOk  : Bool := true
  deriving DecidableEq, Repr

/-- The terminal status word and the causes present at a terminal (R54, R81, R473). -/
structure Tstat where
  fault    : Byte := 0
  qual     : Bool := false
  raw      : Bool := false
  plug     : Bool := false
  edges    : BitVec 28 := 0
  lastQual : BitVec 32 := 0
  /-- bit i: cause i is present -/
  causes   : BitVec 32 := 0
  /-- tick count at which FAULT took its cause: another of that tick may precede it (R81) -/
  faultAt  : Nat := 0
  deriving DecidableEq, Repr

/-- Digital input state of a terminal (R57–R61, R79, R80, R267). Stamps are in 10 ns since PROVING. -/
structure Dig where
  /-- the filter has started and has not yet qualified (R474) -/
  fresh     : Bool := true
  stamp     : Nat := 0
  firstRaw  : Option Nat := none
  lastRaw   : Nat := 0
  bounceN   : Nat := 0
  chatEdges : Nat := 0
  chatStart : Nat := 0
  chatForce : Bool := false
  /-- tick count at which FORCE_REL was received (R60) -/
  relAt     : Option Nat := none
  demSince  : Option Nat := none
  loopHigh  : Nat := 0
  rLoop     : Option Nat := none
  /-- tick count of the failed check that forces the input (R65); clean periods count from it (R473) -/
  tsFail    : Option Nat := none
  curve     : List (BitVec 18) := []
  curveSent : Bool := false
  deriving DecidableEq, Repr

/-- Output state of a terminal (R16, R71–R74, R141, R157, R440, R476). -/
structure Out where
  /-- the ON bit that the field chip has committed -/
  on       : Bool := false
  gate     : Bool := false
  latch    : Bool := false
  /-- ON = 0 has been committed with every term false and no hold since the latch was set (R157) -/
  latchOff : Bool := false
  /-- switched off by cause 0x07, or held by a cause of the other terminal (R69, R73) -/
  off      : Bool := false
  waiting  : Bool := false
  dark     : Bool := false
  /-- tick counts of the running or last pulse's start and of the next pulse (R71) -/
  pulseAt  : Nat := 0
  nextAt   : Nat := 0
  /-- an injection of the running pulse could not run, and the run of such pulses (R175) -/
  partialP : Bool := false
  incomplete : Nat := 0
  /-- mode 0x5: 0 the unit is stopped at 0, 1 the pull-in time runs, 2 the unit counts (R141) -/
  pwm      : BitVec 2 := 0
  /-- the clock, in 10 ns, at which the unit of mode 0x5 started -/
  pwmAt    : Nat := 0
  onAt     : Nat := 0
  deriving DecidableEq, Repr

/-- Analog state of a terminal (R115–R133). -/
structure Ana where
  /-- the latest tick-0 result that the image holds, and its CNT field (R97) -/
  sample  : BitVec 18 := 0x20000
  cnt     : BitVec 13 := 0
  stale   : Bool := false
  /-- the corrected tick-0 result that the field chip puts into its capture frame (R97, R112, R115) -/
  conv    : BitVec 18 := 0x20000
  /-- its capture frames were missed twice running: no sample of this capture (R99) -/
  missed  : Bool := false
  open_   : Bool := false
  /-- consecutive captures below and above the NE 43 range (R123) -/
  below   : Nat := 0
  above   : Nat := 0
  tcalI   : Word := 0
  tcalV   : Word := 0
  /-- a calibration: bits [15:0] of the frame whose starting commit begins it, and whether it has begun -/
  cal     : Option (BitVec 16) := none
  calRun  : Bool := false
  calTag  : Option (Side × BitVec 32 × Nat) := none
  /-- GAIN and OFFSET accepted, applied at the next commit (R133) -/
  calNew  : Option (Word × Word) := none
  calDone : Bool := false
  setp    : BitVec 14 := 0
  /-- the set point in force until the last change, and since when; none while the output was off (R128) -/
  setPrev : Option (BitVec 14 × Nat) := none
  setAt   : Nat := 0
  persist : Nat := 0
  deriving DecidableEq, Repr

/-- The counter unit and its sentinels (R134–R145). -/
structure Ctr where
  value   : Word := 0
  run     : Bool := false
  /-- the unit has run since entry to RUNNING: its edges count in CNT, which resets and stops do not change (R139) -/
  begun   : Bool := false
  since   : Int := 0
  /-- the counts of the last 1,000 ticks, each with its tick count (R144) -/
  hist    : List (Nat × Int) := []
  meas    : BitVec 13 := 0
  lastEdge : Option Nat := none
  stale   : Bool := false
  arm     : BitVec 2 := 0
  armPend : Option (BitVec 16 × BitVec 2) := none
  revTrip : Bool := false
  ovsTrip : Bool := false
  ovsPend : Option (BitVec 16) := none
  deriving DecidableEq, Repr

/-- What the image of the last capture holds for a terminal (R35, R99). -/
structure Img where
  qual  : Bool := false
  fsafe : Bool := false
  stale : Bool := false
  stamp : Nat := 0
  plug  : Bool := false
  /-- FSAFE is 1 for a chatter force alone (R251) -/
  chat  : Bool := false
  /-- the causes of TSTAT at the capture (R13) -/
  causes : BitVec 32 := 0
  /-- QUAL, FSAFE and CNT of the previous capture, repeated when this one's frames are missed (R99) -/
  prevQ : Bool := false
  prevF : Bool := false
  prevC : BitVec 13 := 0
  deriving DecidableEq, Repr

/-- A terminal. -/
structure Terminal where
  tstat : Tstat := {}
  dig   : Dig := {}
  out   : Out := {}
  ana   : Ana := {}
  ctr   : Ctr := {}
  img   : Img := {}
  deriving DecidableEq, Repr

/-- A channel: discrepancy (R62), mode change (R50), AI value (R122). -/
structure Channel where
  discAt  : Option Nat := none
  discT   : Nat := 0
  offLeft : Nat := 0
  aiVal   : Int := 0
  band    : Nat := 0
  deriving DecidableEq, Repr

/-- A diagnosis record (R103). -/
structure DiagRec where
  cause : Byte
  src   : BitVec 5
  count : Nat
  tick  : BitVec 32
  deriving DecidableEq, Repr, Inhabited

/-- The barrier and bank side of a field chip (R85–R94, R100–R107). -/
structure Chip where
  seq       : Option (BitVec 4) := none
  prevBad   : Bool := false
  badIn     : Nat := 0
  silent    : Bool := false
  /-- its programmed safe states hold until a commit (R110, R476) -/
  safe      : Bool := false
  /-- the last valid OUTPUT copy of the dispatch phase: FRAME_NO, ON, AO_SET -/
  copy      : Option (BitVec 16 × BitVec 16 × BitVec 224) := none
  on        : BitVec 16 := 0
  ao        : BitVec 224 := 0
  active    : Tab Word := []
  shadow    : Tab Word := []
  /-- the term words in force before the last switch, kept for the overlap frame (R168) -/
  oldTerms  : Option (Tab Word) := none
  switchAt  : Option (BitVec 16) := none
  /-- LOADING has configured the field chip: its active bank is in force (R92) -/
  linked    : Bool := false
  /-- the banks have been switched, and the words of the shadow bank that have been loaded anew since (R92) -/
  spent     : Bool := false
  filled    : List Nat := []
  ack       : BitVec 3 := 0
  crcReply  : Option (BitVec 32) := none
  echo      : Option (BitVec 248) := none
  diag      : List DiagRec := []
  snap      : Option (BitVec 16 × List DiagRec) := none
  part      : Byte := 0
  /-- the DIAG payload that answers the latest request, until it is sent (R101) -/
  reply     : Option (BitVec 248) := none
  /-- measurement-stream words that wait for STREAM frames: local channel, word, the word begins a record (R96, R98) -/
  waiting   : List (Nat × Word × Bool) := []
  full      : Nat := 0
  latTest   : Bool := false
  /-- the reference check that runs: 0 none, 1 normal, 2 with REF1 and REF2 exchanged (R93) -/
  refTest   : Nat := 0
  injTest   : BitVec 16 := 0
  /-- targets that the running test of the lattice half has not seen yet (R365) -/
  halfLeft  : BitVec 16 := 0
  entropyBad : Bool := false
  /-- term targets treated as true after an uncorrectable error (R169) -/
  badTargets : BitVec 32 := 0
  /-- exports that trip after an uncorrectable error of their word LEXP (R169) -/
  badExports : BitVec 2 := 0
  /-- the clock in which counter units last counted, in 10 ns, the value and run flag of every unit before it, and its counts (R138) -/
  clkAt     : Nat := 0
  clkWas    : List (Nat × Word × Bool) := []
  clkCnt    : List (Nat × Int) := []
  deriving DecidableEq, Repr

/-- The lanes, lines and supply of a field chip, and its start tokens (R77, R105, R106, R437, R440). The lane fields
say that the lane has lost its carrier (it is cut); what it reads otherwise follows from what drives it. -/
structure Lanes where
  up0     : Bool := false
  up1     : Bool := false
  down0   : Bool := false
  down1   : Bool := false
  hold    : Bool := false
  pairCut : BitVec 16 := 0
  pairBad : BitVec 16 := 0
  fsup    : Bool := false
  plugOpen : Bool := false
  fsafeAll : Bool := false
  /-- the other field chip of the wagon is lost: this one holds its terminals in their safe states (R23, R476) -/
  otherLost : Bool := false
  /-- terminals held with FSAFE = 1 by a lattice fault of this field chip (R169, R170), and by one of the other field chip's targets
  16–31 (R169) -/
  latHold : BitVec 16 := 0
  pairHold : BitVec 16 := 0
  /-- tick count of the last passed at-rest test: pair-lane line 0–15, up lanes 16–17, down lanes 18–19, hold lane 20 (R173) -/
  restAt  : Tab Nat := []
  /-- tick count at which an incoming pair-lane line last failed (R473) -/
  pairAt  : Tab Nat := []
  tokens  : Nat := 0
  deriving DecidableEq, Repr

/-- What a side knows of one of its field chips (R96–R102, R107, R111). -/
structure View where
  qual     : BitVec 16 := 0
  fsafe    : BitVec 16 := 0
  /-- FSAFE of the latest valid frame (R126) -/
  fsafeNow : BitVec 16 := 0
  /-- the capture frame of this frame has arrived valid -/
  loOk     : Bool := false
  hiOk     : Bool := false
  /-- an invalid or missed capture frame of this frame -/
  loBad    : Bool := false
  hiBad    : Bool := false
  /-- the previous capture's frames were missed: both, or the one of channels 0–7 or 8–15 (R99) -/
  missBoth : Bool := false
  missLo   : Bool := false
  missHi   : Bool := false
  badIn    : Nat := 0
  cf       : Bool := false
  plug     : Bool := false
  lost     : Bool := false
  /-- the field chip was lost at the capture of the image (R13) -/
  lostImg  : Bool := false
  /-- tick count at which the last condition of R111 came to hold -/
  returnAt : Option Nat := none
  /-- tick count at which the field chip was declared lost (R481) -/
  lostAt   : Nat := 0
  /-- sends without a valid answer of the CONFIG or COMMAND frame that is sent, and its type and payload (R94) -/
  unanswered : Nat := 0
  req      : Option (Nat × Nat) := none
  /-- the last frame sent was one, and its answer is due in the next frame -/
  awaiting : Bool := false
  /-- the words that the side has sent to the shadow bank, the bank that its BANK_CRC asked for, and the shadow bank's CRC as
  returned since (R94) -/
  sentBank : Tab Word := []
  crcShadow : Bool := false
  shadowCrc : Option (BitVec 32) := none
  /-- words of the current record of a local channel that have come in STREAM frames (R98) -/
  recWords : Tab Nat := []
  /-- a valid capture frame has arrived since configuration or return (R99) -/
  seen     : Bool := false
  diagId   : BitVec 16 := 0
  nextPart : Option (BitVec 8) := none
  records  : List DiagRec := []
  bankCrc  : Option (BitVec 32) := none
  /-- echoes of the barrier test that have run, and those that were invalid or differed (R367) -/
  echoRun  : Nat := 0
  echoBad  : Nat := 0
  deriving DecidableEq, Repr

/-- The lattice half of a side and its latches (R163–R171). -/
structure Half where
  mismatch : BitVec 48 := 0
  door     : BitVec 32 := 0
  doorAt   : Tab Nat := []
  doorBy   : Tab Nat := []
  nstop    : BitVec 64 := 0
  nstopAt  : Tab Nat := []
  nstopBy  : Tab Nat := []
  sl       : BitVec 2 := 0
  slImg    : BitVec 2 := 0
  /-- DOOR and NSTOP as the last capture took them (R13) -/
  doorImg  : BitVec 32 := 0
  nstopImg : BitVec 64 := 0
  supv     : Bool := false
  /-- groups asserted by an uncorrectable table word (R169) -/
  badGroups : BitVec 24 := 0
  /-- planes under targeted test, failed (R171) -/
  planeTest : BitVec 2 := 0
  planeBad  : BitVec 2 := 0
  /-- groups whose verdict in the last plane test is discarded and repeated (R174) -/
  planeAgain : BitVec 24 := 0
  /-- group words before the last switch, for the overlap frame (R168) -/
  oldPkg   : Option (Tab Word) := none
  deriving DecidableEq, Repr

/-- An encoder port (R148–R150, R480). -/
structure Enc where
  pos     : Word := 0
  lineA   : Bool := false
  lineB   : Bool := false
  stat    : Nat := 0
  nbits   : Nat := 0
  delTick : BitVec 32 := 0
  arm     : BitVec 2 := 0
  armReq  : BitVec 2 := 0
  revTrip : Bool := false
  ovsTrip : Bool := false
  /-- the counts of the last 1,000 ticks, each with its tick count (R144) -/
  hist    : List (Nat × Int) := []
  /-- an SSI frame has been delivered, so that the next one gives a difference (R144) -/
  seen    : Bool := false
  img0    : Word := 0
  img1    : Word := 0
  /-- image words of the old engine, kept for the capture at the edge of a program load (R154) -/
  keep    : Option (Word × Word) := none
  deriving DecidableEq, Repr

/-- What a shift engine waits for (R151). -/
inductive EngWait where
  | none | ns | tick | clk | idle
  deriving DecidableEq, Repr, Inhabited

/-- A shift engine (R151–R154). -/
structure Engine where
  prog   : Tab (BitVec 24) := []
  slot   : Nat := 0
  reg    : Word := 0
  nbits  : Nat := 0
  run    : Bool := false
  wait   : EngWait := .none
  load   : Option (List (BitVec 24)) := none
  testing : Bool := false
  deriving DecidableEq, Repr

/-- A timer unit (R146, R147). -/
structure TimerU where
  value : Word := 0
  run   : Bool := false
  img   : Word := 0
  stale : Bool := false
  deriving DecidableEq, Repr

/-- The values that a copy sends at a coupling (R187). -/
structure CplVals where
  sig   : Word
  count : Nat
  fin   : Bool
  outp  : Word
  deriving DecidableEq, Repr, Inhabited

/-- A coach: power, test and map status, and the architectural state of its core (R177, R212–R236). -/
structure Coach where
  regs    : Tab Word := []
  pc      : BitVec 41 := 0
  flags   : BitVec 5 := 0
  ef      : BitVec 2 := 0
  retcnt  : Nat := 0
  cplcnt  : Nat := 0
  cur     : Nat := 0
  depth   : Nat := 1
  spilled : Nat := 0
  part    : BitVec 4 := 0
  slotNo  : BitVec 6 := 0
  vbase   : Word := 0
  ptbr    : Tab Word := []
  trapMode : Bool := false
  sig     : Word := 0xA55A5A5A5A5A5A5A5A#72
  scratch : Tab Word := []
  deriving DecidableEq, Repr

/-- The status of a coach beside its core (R180, R191, R197, R205, R441). -/
structure CoachSt where
  stopped  : Bool := true
  derailed : Bool := false
  waitFend : Bool := false
  halted   : Bool := false
  /-- released for one instruction (R206) -/
  stepping : Bool := false
  hold     : Nat := 0
  powered  : Bool := false
  powering : Bool := false
  retired  : Bool := false
  testing  : Bool := false
  /-- an uncorrectable error stands in the register file, in a dirty line of the data cache or in scratch memory (R235) -/
  eccBad   : Bool := false
  breaks   : List (BitVec 41) := []
  deriving DecidableEq, Repr

/-- Slot states (R197), NONE to RETIRED. -/
inductive SlotState where
  | none | locked | split | shadow | testing | retired
  deriving DecidableEq, Repr, Inhabited

/-- A shadow hand-over held by its source slot (R199–R203). -/
structure Handover where
  target : Nat
  n      : Nat
  /-- the agreeing frames counted so far (SHADOW_OK) -/
  agreed : Nat := 0
  copied : Bool := false
  thenSplit : Bool := false
  reply  : Option (Option Side × BitVec 32 × Nat × Nat) := none
  deriving DecidableEq, Repr

/-- A slot (R43, R187, R196). -/
structure Slot where
  st       : SlotState := .none
  cause    : Nat := 0
  mapA     : Nat := 0
  mapB     : Nat := 0
  mapped   : Bool := false
  shadowOk : Nat := 0
  lastCpl  : BitVec 36 := 0
  ovr      : Nat := 0
  /-- sides that have verified the final coupling of this frame (R187) -/
  ver      : Two Bool := ⟨false, false⟩
  /-- a mismatch was registered in this frame (R45) -/
  mismatched : Bool := false
  /-- sides that have registered the mismatch which the slot is in (R188, R189) -/
  reg      : Two Bool := ⟨false, false⟩
  /-- the values of the copies that side A's and side B's coupling units hold and have not compared, oldest first (R187) -/
  cplA     : Two (List CplVals) := ⟨[], []⟩
  cplB     : Two (List CplVals) := ⟨[], []⟩
  /-- the working buffer of the copy on each side: the words of frame memory that its frame has written (R36) -/
  work     : Two (Tab (Option Word)) := ⟨[], []⟩
  /-- the verified state buffer of a hand-over's target on each side (R199) -/
  buf      : Two (Tab (Option Word)) := ⟨[], []⟩
  hand     : Option Handover := none
  shadowOf : Option Nat := none
  /-- rebuild: digests compared, the slot waits for a tick-3 edge (R194) -/
  rebuilt  : Bool := false
  /-- tick count at which the comparison, or the last LBIST run of a join, completed (R194, R204) -/
  rebuiltAt : Nat := 0
  bankWait : Bool := false
  /-- a coach of side A or B is retired and a reserve has not been accepted yet (R192) -/
  waitA    : Bool := false
  waitB    : Bool := false
  /-- output signature of this frame's verified final coupling (R199) -/
  outNow   : Option Word := none
  joining  : Bool := false
  /-- a requested test takes the slot's coaches at the next commit (R376) -/
  testPend : Bool := false
  splitPend : Bool := false
  /-- first verified image after a rejoin is still awaited (R195) -/
  awaitRel : Bool := false
  log      : List (Nat × DebugTarget × Word) := []
  /-- sides that do not evaluate LAG at the next coupling, the first after a resume (R205) -/
  resumed  : Two Bool := ⟨false, false⟩
  reply    : Option (Option Side × BitVec 32 × Nat × Nat) := none
  deriving DecidableEq, Repr

/-- Function states (R249). -/
inductive FnState where
  | none | locked | armed | run | tripped | fault
  deriving DecidableEq, Repr, Inhabited

/-- A cause at a function: code, detail, terminal (R251). -/
abbrev FnCause := Byte × Byte × Nat

/-- The working buffer of a function (R36): what a frame has computed and its commit will apply (R250). -/
structure FnWork where
  /-- the state change, with its cause -/
  chg     : Option (FnState × FnCause)
  latched : List FnCause
  was     : List FnCause
  dem     : Bool
  pres    : Bool
  cond    : Bool
  startPrev : Bool
  /-- template variables to write -/
  sets    : List (Nat × Nat)
  /-- events to post: code, severity, detail -/
  posts   : List (Nat × Nat × Nat)
  /-- ledger pages to write, by KIND -/
  ledg    : List Nat
  deriving DecidableEq, Repr, Inhabited

/-- A safety function (R248–R258). -/
structure Fn where
  st       : FnState := .none
  comm     : Bool := false
  dem      : Bool := false
  pres     : Bool := false
  cause    : Byte := 0
  detail   : Byte := 0
  term     : Nat := 0x1FF
  chgFrame : BitVec 32 := 0
  next     : Option FnWork := none
  /-- latched causes (R251) -/
  latched  : List FnCause := []
  /-- causes that the last verified frame saw -/
  was      : List FnCause := []
  /-- the permissive condition or output of a permissive template at the commit that started the frame (R483) -/
  cond     : Bool := false
  armedAt  : Nat := 0
  /-- the start button read on at the last verified capture (R244) -/
  startPrev : Bool := false
  /-- template variables: timers, last readings (R255, R262–R265, R482) -/
  vars     : Tab Nat := []
  /-- a remote reset reaches the function in this frame (R256) -/
  reset    : Bool := false
  /-- causes raised since the last capture, and those of the running frame's capture (R250) -/
  raised   : List FnCause := []
  cur      : List FnCause := []
  parent   : Node := ⟨0, 0⟩
  deriving DecidableEq, Repr

/-- A position event (R295, R296): 0 BLOCKED, 1 IDLE, 2 PENDING, 3 PULSING, 4 DONE, and the commits left. -/
structure PosEvent where
  st   : Nat := 1
  left : Nat := 0
  deriving DecidableEq, Repr

/-- A motion monitor (R274–R297). -/
structure Mon where
  sstate  : BitVec 4 := 0
  mflt    : BitVec 4 := 0
  lastDet : Byte := 0
  valid   : Bool := false
  still   : Bool := false
  mdir    : Bool := false
  revarm  : Bool := false
  tms     : BitVec 16 := 0
  v0      : Nat := 0
  pos     : Int := 0
  va      : Int := 0
  vb      : Int := 0
  cntA    : Int := 0
  cntB    : Int := 0
  posA    : Int := 0
  posB    : Int := 0
  hist    : List (Int × Int) := []
  histT   : List (Nat × Nat) := []
  lastA   : Option Int := none
  lastB   : Option Int := none
  missA   : Nat := 0
  missB   : Nat := 0
  ferrA   : Nat := 0
  ferrB   : Nat := 0
  deriving DecidableEq, Repr

/-- The rest of a monitor: agreement, stop and events (R278–R296). -/
structure MonX where
  disagree : Nat := 0
  agree    : Nat := 0
  sosRef   : Option (Int × Int) := none
  origin   : Option Nat := none
  nextSt   : Option (BitVec 4) := none
  hostStop : Bool := false
  stopReq  : Bool := false
  raise    : Option (Byte × Byte) := none
  posPrev  : Int := 0
  events   : Tab PosEvent := []
  revReq   : BitVec 2 := 0
  /-- bound instances that were in RUN when the ramp started (R287) -/
  ran      : List Nat := []
  /-- v0 and the direction of a ramp that the frame's commit starts (R288) -/
  start    : Nat × Bool := (0, false)
  /-- the sides' speeds at the last captures that were not missing, which a stop ramp is judged on (R289) -/
  lastV    : Int × Int := (0, 0)
  /-- an SSI source has given both sides a position since entry to RUNNING, or needs none (R274, R295) -/
  placed   : Bool := false
  /-- a fault that this frame's evaluation has cleared, and events for the commit (R36): code, severity, detail, listed -/
  cleared  : Bool := false
  posts    : List (Nat × Nat × Nat × Bool) := []
  deriving DecidableEq, Repr

/-- Connection states (R322). -/
inductive LinkState where
  | off | closed | opening | dual | singleA | singleB | lost
  deriving DecidableEq, Repr, Inhabited

/-- A safe connection (R305–R326). -/
structure Conn where
  st      : LinkState := .off
  epoch   : BitVec 16 := 0
  seq     : BitVec 48 := 0
  stopRx  : Bool := false
  data    : BitVec 512 := 0
  /-- highest SEQ that each side has verified in the epoch (R318) -/
  verA    : BitVec 48 := 0
  verB    : BitVec 48 := 0
  rxA     : List Receipt := []
  rxB     : List Receipt := []
  /-- the receipts accepted single, to compare a later copy with (R321) -/
  single  : List Receipt := []
  lastArr : Option Nat := none
  openAt  : Nat := 0
  leftDual : Nat := 0
  txSeq   : BitVec 48 := 0
  rollover : Bool := false
  /-- a watchdog or single-network expiry that takes effect at the next capture (R324) -/
  lossReq : Bool := false
  /-- a handshake expiry that takes effect at the next capture (R323) -/
  handReq : Bool := false
  /-- a receipt of the running frame's image came after its capture (R20, R320) -/
  inFlight : Bool := false
  /-- receipts counted as late (R321) -/
  late    : Nat := 0
  /-- accepted telegrams that a higher SEQ of the same capture replaced (R321) -/
  passed  : Nat := 0
  discA   : Tab Nat := []
  discB   : Tab Nat := []
  /-- DATA of the output area as it stood at the last commit (R316) -/
  txData  : BitVec 512 := 0
  /-- the latest telegram sent: its PDU and the cages that took it (R303, R308, R316) -/
  sent    : Option (List Byte × List Nat) := none
  /-- tick count of that telegram: one goes out at each tick of the send phase (R316) -/
  sentAt  : Option Nat := none
  deriving DecidableEq, Repr

/-- An SFP+ cage (R300). -/
structure Cage where
  present  : Bool := false
  accepted : Bool := false
  up       : Bool := false
  alarms   : Byte := 0
  ident    : Option ModuleInfo := none
  deriving DecidableEq, Repr

/-- A network of a side and its PTP (R301–R303, R328, R329). -/
structure Net where
  /-- the cage that stood before the last switch, in force until the tick edge after it (R303), and the tick count of that switch -/
  prevActive : Nat := 0
  switchAt   : Nat := 0
  active  : Nat := 0
  discard : Nat := 0
  dup     : Nat := 0
  locked  : Bool := false
  good    : Nat := 0
  bad     : Nat := 0
  diff    : Nat := 0
  offset  : Int := 0
  time    : Nat := 0
  master  : Bool := false
  gm      : BitVec 64 := 0
  delay   : Int := 0
  sentMsgs : Nat := 0
  muted   : Bool := false
  deriving DecidableEq, Repr

/-- A reply formed by the dispatcher or the depot (R347). -/
structure Reply where
  port   : Option Side
  queue  : Nat
  opcode : Nat
  tag    : BitVec 32
  status : Nat
  offset : Nat
  frame  : BitVec 32
  slots  : List Slot16
  deriving DecidableEq, Repr, Inhabited

/-- A fetched command packet (R341). -/
structure Packet where
  port  : Option Side
  queue : Nat
  bytes : List Byte
  /-- carried forward from a frame that pair 0 did not complete (R46) -/
  old   : Bool := false
  deriving DecidableEq, Repr, Inhabited

/-- What a token command asks for at the next capture (R350). -/
inductive TokKind where
  | acquire (lease : Nat) | renew (lease : Nat) | release
  deriving DecidableEq, Repr, Inhabited

/-- A token command waiting for the capture (R350). -/
structure TokReq where
  kind  : TokKind
  port  : Side
  tag   : BitVec 32
  queue : Nat
  deriving DecidableEq, Repr, Inhabited

/-- A host port's registers (R331–R334, R352, R356) and its dispatcher side. -/
structure Port where
  link     : Bool := false
  gen      : Nat := 0
  width    : Nat := 0
  cmdBase  : BitVec 64 := 0
  cplBase  : BitVec 64 := 0
  admCtl   : BitVec 64 := 0
  cnt      : BitVec 64 := 0
  semReq   : BitVec 16 := 0
  semRel   : BitVec 16 := 0
  taken    : BitVec 64 := 0
  bad      : BitVec 64 := 0
  vc0      : BitVec 64 := 0
  badFrame : Nat := 0
  dropped  : Nat := 0
  rejected : Tab Nat := []
  open_    : Nat := 0
  fetched  : List Packet := []
  image    : List Packet := []
  fetchB   : Nat := 0
  replies  : List Reply := []
  nonce    : Option (BitVec 256 × Nat) := none
  session  : Option Session := none
  resetPend : Bool := false
  urCount  : Nat := 0
  /-- what the last read of a register of BAR0 returned (R6, R40) -/
  rdata    : BitVec 64 := 0
  /-- packets that pair 0's overrun has carried forward, charged to the next capture (R46) -/
  carried  : Nat := 0
  /-- the ring served last, and that the next packet has exceeded the budget of this frame (R341) -/
  served   : Option Nat := none
  stopped  : Bool := false
  deriving DecidableEq, Repr

/-- The depot's queue (R337–R343). -/
structure Queue where
  live  : Bool := false
  d0    : Word := 0
  d1    : Word := 0
  prod  : BitVec 32 := 0
  cons  : BitVec 32 := 0
  seq   : BitVec 32 := 0
  lost  : Nat := 0
  bind  : Option Nat := none
  counts : List (Nat × Nat) := []
  backlog : List Event := []
  /-- words of records that wait for the ring (R98, R343, R380) -/
  words   : List Word := []
  written : Nat := 0
  last  : List Word := []
  deriving DecidableEq, Repr

/-- The turn token (R350, R352). -/
structure Token where
  holder : Option Side := none
  last   : Option Side := none
  left   : Nat := 0
  reqs   : List TokReq := []
  semStat : BitVec 32 := 0
  semLast : BitVec 32 := 0
  deriving DecidableEq, Repr

/-- A targeted or requested test of a block (R364, R376). -/
structure Test where
  node      : Node
  cls       : Nat
  requested : Bool
  again     : Bool := false
  further   : Bool := false
  reply     : Option (Option Side × BitVec 32 × Nat) := none
  started   : Nat := 0
  deriving DecidableEq, Repr

/-- The last verdict of a block (R378). -/
structure Verdict where
  verdict : Nat := 0
  at_     : Nat := 0
  elapsed : Nat := 0
  requested : Bool := false
  known   : Bool := false
  deriving DecidableEq, Repr

/-- A frame memory bank of a side (R366). -/
structure Bank where
  copying : Bool := false
  redirect : Bool := false
  testing : Bool := false
  slots   : List Nat := []
  deriving DecidableEq, Repr

/-- Tests, transients and retirement (R364–R374). -/
structure Tests where
  running : List Test := []
  /-- number of transients of a block stamped while device time is invalid: in MRAM such a stamp has the bits of an empty one
  (R396; log entry 82) -/
  trans0  : Tab Nat := []
  last    : Tab Verdict := []
  banks   : Tab Bank := []
  /-- earliest tick count at which a side's next coach power-up may start (R441) -/
  rise    : Two Nat := ⟨0, 0⟩
  /-- tick count of a reserve coach's last daily test, 0 before the first (R180) -/
  dailyAt : Tab Nat := []
  /-- the free bank of each side, none when used (R25, R366) -/
  freeBank : Two (Option Nat) := ⟨some 15, some 15⟩
  poison  : Two (List Nat) := ⟨[], []⟩
  /-- frame-memory words with an uncorrectable error that nothing has copied yet (R235, R240) -/
  ecc     : Two (List Nat) := ⟨[], []⟩
  /-- frame-memory words with a correctable error that nothing has read yet (R235, R240, R365) -/
  soft    : Two (List Nat) := ⟨[], []⟩
  /-- tick count of the last corrected error of a frame-memory word (R369) -/
  softAt  : Two (Tab Nat) := ⟨[], []⟩
  lanesOut : BitVec 4 := 0
  lanesBad : BitVec 4 := 0
  /-- tick counts of links retired on each side (R370) -/
  links   : Two (List Nat) := ⟨[], []⟩
  deriving DecidableEq, Repr

/-- A side's journal (R388–R393). -/
structure Journal where
  opened  : Option (Nat × Nat × Word × Bool) := none
  recs    : List Event := []
  /-- closed pages that wait for the write path: words 0–62 -/
  waiting : List (List Word) := []
  next    : Nat := 0
  seq     : BitVec 40 := 1
  dropped : List (Nat × Nat) := []
  /-- the page words that the side's write path may still be writing: the tick count at which the first of them started, and for
  each, in the order of writing, its byte offset and what it held before (R385, R387) -/
  flight  : Option (Nat × List (Nat × Word)) := none
  /-- tick counts at which the pages of the last second were written (R391) -/
  wrote   : List Nat := []
  deriving DecidableEq, Repr

/-- A ledger entry waiting to be written (R266–R268). -/
structure LedgerEntry where
  time  : Word
  kind  : Byte
  inst  : Nat
  ch    : Nat
  mode  : BitVec 2
  cause : Byte
  ta    : Nat
  tb    : Nat
  old   : BitVec 4
  new   : BitVec 4
  /-- what the limit of R270 counts: the instance, or 8192 + the wagon of a plug event -/
  key   : Nat
  /-- the service session open at the event, 0 for none (R78) -/
  sess  : Nat := 0
  deriving DecidableEq, Repr, Inhabited

/-- The inspection ledger (R266–R270). -/
structure Ledger where
  waiting : List LedgerEntry := []
  next    : Nat := 0
  seq     : BitVec 40 := 1
  mark    : BitVec 40 := 0
  lost    : Nat := 0
  skipped : Nat := 0
  /-- pages written in the running second, by function or wagon key -/
  second  : Nat := 0
  written : Tab Nat := []
  deriving DecidableEq, Repr

/-- The armed remote reset (R256). -/
structure Armed where
  fn   : Nat
  port : Side
  chal : BitVec 16
  at_  : Nat
  deriving DecidableEq, Repr

/-- An accepted channel move (R446, R447). -/
structure Rehome where
  src   : Nat
  dst   : Nat
  port  : Option Side
  tag   : BitVec 32
  queue : Nat
  deriving DecidableEq, Repr

/-- The service port (R448, R449) and debug access (R427). -/
structure Service where
  cable   : Bool := false
  session : Option Session := none
  nonce   : Option (BitVec 256 × Nat) := none
  /-- packets accepted since the last capture -/
  fetched : List Packet := []
  image   : List Packet := []
  replies : List Reply := []
  /-- replies dropped for want of a cable (R450) -/
  dropped : Nat := 0
  opened  : Nat := 0
  /-- sessions opened in this boot, on any port (R426) -/
  sessions : Nat := 0
  /-- the TAP instruction in effect and the value that its data register reads (R427) -/
  tap     : TapIns := .bypass
  tapOut  : BitVec 32 := 0
  deriving DecidableEq, Repr

/-- What the engine rooms of a side hold beside the coaches. -/
structure Mem where
  /-- frame memory, by word address (R237) -/
  frame   : Tab Word := []
  /-- device region words (R237) -/
  device  : Tab Word := []
  /-- MRAM words by byte offset (R384) -/
  mram    : Tab Word := []
  /-- byte offsets of MRAM words that read with an uncorrectable error, as the plant leaves them (R389, R401; log entry 93) -/
  mramBad : List Nat := []
  deriving DecidableEq, Repr

/-- The device. -/
structure State where
  clock   : Clock := {}
  frameSt : Two FrameStat := ⟨{}, {}⟩
  power   : Power := {}
  ec      : Cartridge := {}
  time    : Time := {}
  dev     : Device := {}
  /-- the active configuration package (R422), all zero without one -/
  pkg     : Pkg := {}
  term    : Tab Terminal := []
  chan    : Tab Channel := []
  chip    : Tab Chip := []
  lanes   : Tab Lanes := []
  view    : Tab View := []
  half    : Two Half := ⟨{}, {}⟩
  enc     : Tab Enc := []
  engine  : Tab Engine := []
  timer   : Tab TimerU := []
  /-- timer numbers posted to each side's timer mailbox queue (R146) -/
  mailbox : Two (List Nat) := ⟨[], []⟩
  coach   : Tab Coach := []
  coachSt : Tab CoachSt := []
  slot    : Tab Slot := []
  fn      : Tab Fn := []
  mon     : Tab Mon := []
  monx    : Tab MonX := []
  /-- from a capture to its commit, the monitors' last verified state (R36, R297): mon and monx are the working buffers -/
  monOld  : Option (Tab Mon × Tab MonX) := none
  conn    : Tab Conn := []
  cage    : Tab Cage := []
  net     : Two Net := ⟨{}, {}⟩
  port    : Two Port := ⟨{}, {}⟩
  queue   : Tab Queue := []
  token   : Token := {}
  pd      : Tab (BitVec 64) := []
  pdNext  : List (Nat × BitVec 64) := []
  pimg    : Two (Tab Word) := ⟨[], []⟩
  /-- the process image of the last committed frame, which the sides' refreshes bring into pimg (R335, R336) -/
  pimgNew : Tab Word := []
  log     : List Event := []
  windows : List Window := []
  tests   : Tests := {}
  journal : Two Journal := ⟨{}, {}⟩
  ledger  : Ledger := {}
  armed   : Option Armed := none
  rehome  : Option Rehome := none
  svc     : Service := {}
  mem     : Two Mem := ⟨{}, {}⟩
  /-- transfers that wait for the side link while the image exchange has it, by priority (R19) -/
  linkWait : List Instr := []
  /-- number of free values drawn so far (the model's own, log entry 4) -/
  free    : Nat := 0
  /-- the commands that wait, first in first out (the block's queue) -/
  pending : List Instr := []
  deriving DecidableEq, Repr

/-- The device at entry to PROVING (R7): every field at its reset value; log entries 8 and 9 name the values that the
spec states none for. -/
def State.reset : State := {}

end Sys2Proof.Machine
end

