-- ==== Sys2Proof/Machine/Access.lean ====
section
/-! DEFINITION. Reading and writing the numbered groups of the state, and the words of the active package (R355). -/

namespace Sys2Proof

/-- The words of a package: class, target index within the class, word (R355; log entry 7). -/
def Pkg.key (cls idx w : Nat) : Nat := (cls * 1048576 + idx) * 64 + w
/-- A word of a package. -/
def Pkg.word (p : Pkg) (cls idx w : Nat) : Word := Machine.Tab.get 0 p.words (Pkg.key cls idx w)
/-- The number of a coach: 64 × side + coach (R362). -/
def CoachRef.ix (c : CoachRef) : Nat := 64 * c.side.ix + c.coach.val

end Sys2Proof

namespace Sys2Proof.Machine

/-- Terminal t. -/
def State.termOf (s : State) (t : Nat) : Terminal := Tab.get {} s.term t
/-- Change terminal t. -/
def State.updTerm (s : State) (t : Nat) (f : Terminal → Terminal) : State := { s with term := Tab.upd {} s.term t f }
/-- Channel. -/
def State.chanOf (s : State) (c : Nat) : Channel := Tab.get {} s.chan c
/-- Change a channel. -/
def State.updChan (s : State) (c : Nat) (f : Channel → Channel) : State := { s with chan := Tab.upd {} s.chan c f }
/-- Field chip. -/
def State.chipOf (s : State) (i : Nat) : Chip := Tab.get {} s.chip i
/-- Change a field chip. -/
def State.updChip (s : State) (i : Nat) (f : Chip → Chip) : State := { s with chip := Tab.upd {} s.chip i f }
/-- Lanes and supply of a field chip. -/
def State.lanesOf (s : State) (i : Nat) : Lanes := Tab.get {} s.lanes i
/-- Change the lanes of a field chip. -/
def State.updLanes (s : State) (i : Nat) (f : Lanes → Lanes) : State := { s with lanes := Tab.upd {} s.lanes i f }
/-- What the side knows of a field chip. -/
def State.viewOf (s : State) (i : Nat) : View := Tab.get {} s.view i
/-- Change what the side knows of a field chip. -/
def State.updView (s : State) (i : Nat) (f : View → View) : State := { s with view := Tab.upd {} s.view i f }
/-- The lattice half of a side. -/
def State.halfOf (s : State) (d : Side) : Half := s.half.get d
/-- Change the lattice half of a side. -/
def State.updHalf (s : State) (d : Side) (f : Half → Half) : State := { s with half := s.half.set (f (s.half.get d)) d }
/-- Encoder port, engine, timer: index 8 × side + n (R362) or 64 × side + n. -/
def State.encOf (s : State) (i : Nat) : Enc := Tab.get {} s.enc i
/-- Change an encoder port. -/
def State.updEnc (s : State) (i : Nat) (f : Enc → Enc) : State := { s with enc := Tab.upd {} s.enc i f }
/-- Shift engine. -/
def State.engOf (s : State) (i : Nat) : Engine := Tab.get {} s.engine i
/-- Change a shift engine. -/
def State.updEng (s : State) (i : Nat) (f : Engine → Engine) : State := { s with engine := Tab.upd {} s.engine i f }
/-- Timer unit. -/
def State.timerOf (s : State) (i : Nat) : TimerU := Tab.get {} s.timer i
/-- Change a timer unit. -/
def State.updTimer (s : State) (i : Nat) (f : TimerU → TimerU) : State := { s with timer := Tab.upd {} s.timer i f }
/-- Coach core. -/
def State.coachOf (s : State) (i : Nat) : Coach := Tab.get {} s.coach i
/-- Change a coach core. -/
def State.updCoach (s : State) (i : Nat) (f : Coach → Coach) : State := { s with coach := Tab.upd {} s.coach i f }
/-- Coach status. -/
def State.cstOf (s : State) (i : Nat) : CoachSt := Tab.get {} s.coachSt i
/-- Change a coach status. -/
def State.updCst (s : State) (i : Nat) (f : CoachSt → CoachSt) : State :=
  { s with coachSt := Tab.upd {} s.coachSt i f }
/-- Slot. -/
def State.slotOf (s : State) (p : Nat) : Slot := Tab.get {} s.slot p
/-- Change a slot. -/
def State.updSlot (s : State) (p : Nat) (f : Slot → Slot) : State := { s with slot := Tab.upd {} s.slot p f }
/-- Function. -/
def State.fnOf (s : State) (f : Nat) : Fn := Tab.get {} s.fn f
/-- Change a function. -/
def State.updFn (s : State) (f : Nat) (g : Fn → Fn) : State := { s with fn := Tab.upd {} s.fn f g }
/-- Motion monitor. -/
def State.monOf (s : State) (m : Nat) : Mon := Tab.get {} s.mon m
/-- Change a motion monitor. -/
def State.updMon (s : State) (m : Nat) (f : Mon → Mon) : State := { s with mon := Tab.upd {} s.mon m f }
/-- The rest of a motion monitor. -/
def State.monxOf (s : State) (m : Nat) : MonX := Tab.get {} s.monx m
/-- Change the rest of a motion monitor. -/
def State.updMonx (s : State) (m : Nat) (f : MonX → MonX) : State := { s with monx := Tab.upd {} s.monx m f }
/-- Connection. -/
def State.connOf (s : State) (c : Nat) : Conn := Tab.get {} s.conn c
/-- Change a connection. -/
def State.updConn (s : State) (c : Nat) (f : Conn → Conn) : State := { s with conn := Tab.upd {} s.conn c f }
/-- Cage. -/
def State.cageOf (s : State) (c : Nat) : Cage := Tab.get {} s.cage c
/-- Change a cage. -/
def State.updCage (s : State) (c : Nat) (f : Cage → Cage) : State := { s with cage := Tab.upd {} s.cage c f }
/-- Network. -/
def State.netOf (s : State) (d : Side) : Net := s.net.get d
/-- Change a network. -/
def State.updNet (s : State) (d : Side) (f : Net → Net) : State := { s with net := s.net.set (f (s.net.get d)) d }
/-- The active cage of a network at this tick: a switch takes effect at the next tick edge (R303). -/
def State.activeCage (s : State) (d : Side) : Nat :=
  if s.clock.count ≤ (s.netOf d).switchAt then (s.netOf d).prevActive else (s.netOf d).active
/-- Another cage of a network becomes the active one at the next tick edge (R303). -/
def State.useCage (s : State) (d : Side) (k : Nat) : State :=
  let was := s.activeCage d
  s.updNet d fun n => if n.active = k then n else { n with active := k, prevActive := was, switchAt := s.clock.count }
/-- Host port. -/
def State.portOf (s : State) (d : Side) : Port := s.port.get d
/-- Change a host port. -/
def State.updPort (s : State) (d : Side) (f : Port → Port) : State := { s with port := s.port.set (f (s.port.get d)) d }
/-- Depot queue. -/
def State.queueOf (s : State) (q : Nat) : Queue := Tab.get {} s.queue q
/-- Change a depot queue. -/
def State.updQueue (s : State) (q : Nat) (f : Queue → Queue) : State := { s with queue := Tab.upd {} s.queue q f }
/-- FRAME_STAT of a side. -/
def State.fstOf (s : State) (d : Side) : FrameStat := s.frameSt.get d
/-- Change FRAME_STAT of a side. -/
def State.updFst (s : State) (d : Side) (f : FrameStat → FrameStat) : State :=
  { s with frameSt := s.frameSt.set (f (s.frameSt.get d)) d }
/-- The memories of a side. -/
def State.updMem (s : State) (d : Side) (f : Mem → Mem) : State := { s with mem := s.mem.set (f (s.mem.get d)) d }

/-- The classes of R355, and the model's numbers for words without one. -/
def cWCFG : Nat := 0x01
def cLTERM : Nat := 0x02
def cLEXP : Nat := 0x03
def cGROUP : Nat := 0x04
def cLTST : Nat := 0x05
def cFCFG : Nat := 0x06
def cTMR : Nat := 0x07
def cECFG : Nat := 0x08
def cNCFG : Nat := 0x09
def cCONN : Nat := 0x0A
def cHCFG : Nat := 0x0B
def cGMAP : Nat := 0x0C
def cSCFG : Nat := 0x0D
def cPCFG : Nat := 0x0E
def cEVCFG : Nat := 0x0F
def cCCFG : Nat := 0x20
def cTIN : Nat := 0x21
def cTOUT : Nat := 0x22
def cACFG : Nat := 0x23
def cKCFG : Nat := 0x24
def cMON : Nat := 0x25
def cSLOT : Nat := 0x26

/-- The bits of a configuration word that are not Reserved (R8): those of its register table, by class and word. -/
def cfgMask (cls w : Nat) : Word :=
  if cls = cCCFG then 0xF8FFFFFFFF00000000#72
  else if cls = cTIN then 0xFFFFFFFFFFFFFFFFFF#72
  else if cls = cTOUT then 0xFFFFFFFFFFFFFFFFFE#72
  else if cls = cACFG then 0xFFFFFFFFFFFFFFF800#72
  else if cls = cKCFG then 0xFFFFFFFFFFFFFFFFFE#72
  else if cls = cWCFG then 0xFFC0000000FFFFFFFF#72
  else if cls = cLTERM then (if w = 0 then 0x80FFFFFFFFFFFFFFFF#72 else 0x00FFFFFFFFFFFFFFFF#72)
  else if cls = cLEXP then 0x00FFFFFFFFFFFFFFFF#72
  else if cls = cGROUP then (if w < 8 then 0x00FFFFFFFFFFFFFFFF#72 else if w % 2 = 0 then 0x80FFFFFFFFFFFFFFFF#72 else 0x00FFFFFFFFFFFFFFFF#72)
  else if cls = cLTST then 0xFF0000000000000000#72
  else if cls = cFCFG then (if w = 0 then 0xFFFFFFFFFFFFFFFC00#72 else 0x000000000FFFFFFFFF#72)
  else if cls = cTMR then (if w = 0 then 0xFFFFFF000000000000#72 else 0xFFFFFFFFFFFFFFFFFF#72)
  else if cls = cECFG then 0xFFFFFFFFFFFFE00000#72
  else if cls = cNCFG then 0xFFFFFFFFFFFF000000#72
  else if cls = cCONN then (if w = 0 then 0xFFFFFFFFFFFFFFFFC0#72 else if w = 1 then 0xFFFFFFFFFFFFFFF800#72 else 0xFFFFFFFFFFFFFFFF00#72)
  else if cls = cHCFG then 0xFFFFFE000000000000#72
  else if cls = cGMAP then 0xFFFC00000000000000#72
  else if cls = cSCFG then 0xFFFFC0000000000000#72
  else if cls = cPCFG then 0xFFFF00000000000000#72
  else if cls = cEVCFG then 0xFF0000000000000000#72
  else if cls = cMON then
    (if w = 1 then 0xFFFFFFFFFFFFFFFFFC#72 else if w = 3 then 0xFFFFFFFFFFFFFFFFF0#72 else if w = 5 then 0xFFFFFFFFFFFFFFFFE0#72 else if 6 ≤ w then 0xFFFFFFFFFFFFFFFFFE#72
     else 0xFFFFFFFFFFFFFFFFFF#72)
  else if cls = cSLOT then
    (if w = 1 then 0x00000000FFFFFFFFF0#72 else if 3 ≤ w ∧ w ≤ 18 then 0x800000000FFFFFC000#72 else 0xFFFFFFFFFFFFFFFFFF#72)
  else 0xFFFFFFFFFFFFFFFFFF#72

/-- A configuration word in force: zero until LOADING has completed (R7); its Reserved fields read zero (R8). -/
def State.cw (s : State) (cls idx w : Nat) : Word := if s.dev.loaded then s.pkg.word cls idx w &&& cfgMask cls w else 0

/-- Channel, wagon, local channel and side of a terminal index. -/
def tChan (t : Nat) : Nat := t / 2
def tWagon (t : Nat) : Nat := t / 32
def tLocal (t : Nat) : Nat := t / 2 % 16
def tSide (t : Nat) : Side := Side.ofIx t
/-- The other terminal of the channel. -/
def tOther (t : Nat) : Nat := if t % 2 = 0 then t + 1 else t - 1
/-- The field chip of a terminal: 2 × wagon + side. -/
def tChip (t : Nat) : Nat := 2 * (t / 32) + t % 2
/-- The terminal of local channel c at a field chip. -/
def chipTerm (i c : Nat) : Nat := 32 * (i / 2) + 2 * c + i % 2
/-- The other field chip of the wagon. -/
def chipOther (i : Nat) : Nat := if i % 2 = 0 then i + 1 else i - 1

/-- Objects of a CONFIG payload (R92). -/
def oCCFG : Nat := 0x01
def oTIN : Nat := 0x02
def oTOUT : Nat := 0x03
def oACFG : Nat := 0x04
def oKCFG : Nat := 0x05
def oTCALI : Nat := 0x06
def oTCALV : Nat := 0x07
def oWCFG : Nat := 0x08
def oSCFG : Nat := 0x09
def oLTERM : Nat := 0x0A
def oLEXP : Nat := 0x0B

/-- Key of a bank word: object, index, word (R92). -/
def bankKey (obj idx w : Nat) : Nat := (obj * 256 + idx) * 2 + w
/-- A word of a field chip's bank. -/
def bankWord (b : Tab Word) (obj idx w : Nat) : Word := Tab.get 0 b (bankKey obj idx w)

/-- A word that CONFIG carries, as its field chip holds it in the active bank from LOADING on (R92); before that, as the package
gives it. -/
def State.chipWord (s : State) (i obj idx cls k : Nat) : Word :=
  if s.dev.loaded ∧ (s.chipOf i).linked then bankWord (s.chipOf i).active obj idx 0 &&& cfgMask cls 0 else s.cw cls k 0

/-- CCFG of a channel (R51), which both field chips of its wagon hold; the model reads field chip A's (log entry 85). -/
def State.ccfg (s : State) (ch : Nat) : Word := s.chipWord (2 * (ch / 16)) oCCFG (ch % 16) cCCFG ch
/-- TCFG_IN of a terminal (R52). -/
def State.tin (s : State) (t : Nat) : Word := s.chipWord (tChip t) oTIN (tLocal t) cTIN t
/-- TCFG_OUT of a terminal (R53). -/
def State.tout (s : State) (t : Nat) : Word := s.chipWord (tChip t) oTOUT (tLocal t) cTOUT t
/-- ACFG of a channel (R121), as CCFG. -/
def State.acfg (s : State) (ch : Nat) : Word := s.chipWord (2 * (ch / 16)) oACFG (ch % 16) cACFG ch
/-- KCFG of a terminal (R134). -/
def State.kcfg (s : State) (t : Nat) : Word := s.chipWord (tChip t) oKCFG (tLocal t) cKCFG t
/-- WCFG and SCFG at a field chip (R108, R438). -/
def State.wcfg (s : State) (i : Nat) : Word := s.chipWord i oWCFG 0 cWCFG (i / 2)
def State.scfg (s : State) (i : Nat) : Word := s.chipWord i oSCFG 0 cSCFG (i / 2)
/-- The mode of a channel (R49); OFF while a mode change holds it off (R50). -/
def State.mode (s : State) (ch : Nat) : Nat := if (s.chanOf ch).offLeft ≠ 0 then 0 else fld (s.ccfg ch) 71 68
/-- Modes of R49. -/
def mOFF : Nat := 0
def mDI : Nat := 1
def mTS : Nat := 2
def mDOPP : Nat := 3
def mDOPM : Nat := 4
def mAI : Nat := 5
def mAO : Nat := 6
def mCNT : Nat := 7
/-- The modes with an output: TS, DO-PP, DO-PM and AO (R159). -/
def hasOutput (m : Nat) : Bool := m = 2 || m = 3 || m = 4 || m = 6
/-- The modes whose switch-on needs a start token (R439). -/
def needsToken (m : Nat) : Bool := m = 3 || m = 4
/-- The modes that dice and dark pulses serve (R71). -/
def isDO (m : Nat) : Bool := m = 3 || m = 4
/-- The modes with filters (R474). -/
def hasFilter (m : Nat) : Bool := m = 1 || m = 7
/-- The demand value of a terminal: DEM of terminal A's word, the opposite for terminal B of an antivalent channel (R474). -/
def State.demVal (s : State) (t : Nat) : Bool :=
  if t % 2 = 1 && bit (s.ccfg (tChan t)) 67 then !(bit (s.tin (t - 1)) 21) else bit (s.tin t) 21

/-- FCFG of a function (R244). -/
def State.fcfg (s : State) (f : Nat) : Word := s.cw cFCFG f 0
/-- FPARi of a function: an unsigned number in bits [35:0] (R244). -/
def State.fpar (s : State) (f i : Nat) : Nat := fld (s.cw cFCFG f (i + 1)) 35 0
/-- A list entry that is not used (R244). -/
def fparNone : Nat := 0xFFFFFFFFF
/-- The template code of a function (R259); 0 when the package does not configure it. -/
def State.tid (s : State) (f : Nat) : Nat := fld (s.fcfg f) 71 64
/-- The function group, slot, and reset source of a function (R244). -/
def State.fGroup (s : State) (f : Nat) : Nat := fld (s.fcfg f) 63 55
def State.fSlot (s : State) (f : Nat) : Nat := fld (s.fcfg f) 54 49
def State.fRst (s : State) (f : Nat) : Nat := fld (s.fcfg f) 48 36
/-- The number of the function whose FCFG word a package key names, with its template set. -/
def fnOfKey (e : Nat × Word) : Option Nat :=
  if e.1 / 64 / 1048576 = cFCFG ∧ e.1 % 64 = 0 ∧ fld e.2 71 64 ≠ 0 then some (e.1 / 64 % 1048576) else none
/-- The functions that the active package configures, in ascending order (a package lists its words in key order). -/
def State.fns (s : State) : List Nat := if s.dev.loaded then s.pkg.words.filterMap fnOfKey else []
/-- GMAP of a group (R246). -/
def State.gmap (s : State) (g : Nat) : Word := s.cw cGMAP g 0
/-- Output terminals bound to a function (R247). -/
def State.outsOf (s : State) (f : Nat) : List Nat := if s.dev.loaded then Tab.get [] s.pkg.outs f else []
/-- The slot hosts a function, or is slot 0 (R196). -/
def State.hosts (s : State) (p : Nat) : Bool := p = 0 || s.fns.any fun f => s.fSlot f = p
/-- The coach of a slot on a side. -/
def Slot.coachOn (x : Slot) : Side → Nat
  | .A => x.mapA
  | .B => x.mapB
/-- The slot that a coach serves on its side, if any. -/
def State.slotOfCoach (s : State) (d : Side) (c : Nat) : Option Nat :=
  (List.range 48).find? fun p => (s.slotOf p).mapped && (s.slotOf p).coachOn d = c

end Sys2Proof.Machine
end

