-- ==== Sys2Proof/Machine/Ops.lean ====
section
/-! DEFINITION. Shared operations: the clock, time words, second stamps, free values, events with their collapse windows
(R360–R381), terminal causes (R81, R473), diagnosis records (R100–R104), ledger entries, replies. Each is one record
update, so that what it leaves alone is plain. -/

namespace Sys2Proof.Machine

/-- The outcome of a command. -/
abbrev Res := Host.Outcome State Fault Refusal

/-- The command ends in the next state. -/
def done (s : State) : Res := .next s

/-- Move n ticks on within the frames in force (R35, R470). -/
def Clock.advance (c : Clock) (n : Nat) : Clock :=
  let t := c.tick + n
  if n = 0 then c
  else if t < c.fl then { c with tick := t, count := c.count + n, committed := false, captured := false }
  else { c with
    tick := (t - c.fl) % (if c.fl = 0 then 1 else c.fl), frame := c.frame + 1, count := c.count + n,
    committed := false, captured := false, late := false, halt0 := false }

/-- Move to the next tick-k edge at or after now (log entry 3). -/
def Clock.advanceTo (c : Clock) (k : Nat) : Clock :=
  if c.tick ≤ k then c.advance (k - c.tick) else c.advance (c.fl - c.tick + k)

/-- Move to the tick-0 edge, to the next frame's when this one's has been used (log entry 3). -/
def Clock.toEdge (c : Clock) (used : Bool) : Clock :=
  if used ∧ c.tick = 0 then c.advance c.fl else c.advanceTo 0

/-- The frame of the next capture: the running one's while its tick-0 edge is still to be captured. -/
def Clock.nextCapture (c : Clock) : Nat := if c.tick = 0 ∧ !c.captured then c.frame.toNat else c.frame.toNat + 1

/-- Set the clock. -/
def State.withClock (s : State) (c : Clock) : State := { s with clock := c }

/-- ns since entry to PROVING. -/
def State.pns (s : State) : Nat := s.clock.count * 1000
/-- 10 ns units since PROVING. -/
def State.t10 (s : State) : Nat := s.clock.count * 100

/-- The time word of an event or a telegram: TAI ns, or ns since PROVING with bit 71 set (R312, R360). -/
def State.timeWord (s : State) : Word :=
  if s.time.valid then BitVec.ofNat 72 (s.time.tai % 2 ^ 71) else BitVec.ofNat 72 (2 ^ 71 + s.pns % 2 ^ 71)

/-- A second stamp (R396). -/
def State.secStamp (s : State) : BitVec 36 :=
  if s.time.valid then BitVec.ofNat 36 (2 ^ 35 + s.time.tai / 1000000000 % 2 ^ 35) else 0

/-- Draw the next free value: a number below n (n > 0) of which nothing is known (log entry 4). -/
def State.drawNat (s : State) (n : Nat) : Nat := Config.freeNat s.free % n
/-- A value has been drawn. -/
def State.drawn (s : State) : State := { s with free := s.free + 1 }

/-- The parent of a node in the dependency tree (R362, R481); none for the device. -/
def State.parent (s : State) (n : Node) : Option Node :=
  match n.cls with
  | 0x00 => none
  | 0x01 => some ⟨0, 0⟩
  | 0x02 => some ⟨0x03, n.idx⟩
  | 0x03 => some ⟨0x01, n.idx % 2⟩
  | 0x04 => some ⟨0x02, n.idx⟩
  | 0x05 => some ⟨0x04, tChip n.idx⟩
  | 0x06 => some ⟨0x05, n.idx⟩
  | 0x07 => some ⟨0x01, n.idx⟩
  | 0x08 => some ⟨0x07, n.idx / 2⟩
  | 0x09 => some ⟨0x08, 2 * (n.idx % 2) + s.activeCage (Side.ofIx n.idx)⟩
  | 0x0A => some ⟨0x01, n.idx / 64⟩
  | 0x0B => some ⟨0, 0⟩
  | 0x0C => some ⟨0x01, n.idx / 16⟩
  | 0x0D => some (if (s.fnOf n.idx).cause = 0 then ⟨0x0B, s.fSlot n.idx⟩ else (s.fnOf n.idx).parent)
  | 0x0E => some ⟨0x0B, s.fSlot (fld (s.cw cMON n.idx 3) 71 59)⟩
  | 0x0F => some ⟨0x01, n.idx / 8⟩
  | 0x10 => some ⟨0x01, n.idx / 8⟩
  | 0x11 => some ⟨0x01, n.idx / 64⟩
  | 0x12 => some ⟨0x01, n.idx / 2⟩
  | 0x13 => some ⟨0x14, 0⟩
  | 0x14 => some ⟨0, 0⟩
  | 0x15 => some ⟨0x01, n.idx⟩
  | 0x16 => some ⟨0x01, n.idx⟩
  | 0x17 => some ⟨0x01, n.idx⟩
  | 0x18 => some ⟨0, 0⟩
  | 0x19 => some ⟨0x01, n.idx⟩
  | 0x1A => some ⟨0x01, n.idx⟩
  | _ => none

/-- The ancestors of a node, nearest first; the tree is at most 8 deep. -/
def State.ancestorsF (s : State) : Nat → Node → List Node
  | 0, _ => []
  | k + 1, n =>
    match s.parent n with
    | none => []
    | some p => p :: s.ancestorsF k p

/-- The ancestors of a node (R362). -/
def State.ancestors (s : State) (n : Node) : List Node := s.ancestorsF 10 n

/-- The sides that register and journal an event at a node: the side that a node belongs to, both otherwise
(R360, log entry 10). -/
def Node.sides (n : Node) : List Side :=
  match n.cls with
  | 0x01 | 0x02 | 0x03 | 0x04 | 0x05 | 0x06 | 0x07 | 0x15 | 0x16 | 0x17 | 0x19 | 0x1A => [Side.ofIx n.idx]
  | 0x08 => [if n.idx < 2 then .A else .B]
  | 0x09 => [Side.ofIx n.idx]
  | 0x0A | 0x11 => [if n.idx < 64 then .A else .B]
  | 0x0C => [if n.idx < 16 then .A else .B]
  | 0x0F | 0x10 => [if n.idx < 8 then .A else .B]
  | 0x12 => [if n.idx < 2 then .A else .B]
  | _ => [.A, .B]

/-- A severity that opens a collapse window (R361). -/
def opensWindow (sev : Nat) : Bool := sev = 3 || sev = 5 || sev = 6

/-- Count a code in at most 16 counters, the rest under 0x0B02 (R380). -/
def countCode (code : Nat) (cs : List (Nat × Nat)) (extra : Nat) : List (Nat × Nat) × Nat :=
  if cs.any (fun c => c.1 = code) then (cs.map fun c => if c.1 = code then (c.1, c.2 + 1) else c, extra)
  else if cs.length < 16 then (cs ++ [(code, 1)], extra)
  else (cs, extra + 1)

/-- The node's own stream queue (R337): a terminal's events, a connection's records. -/
def Node.stream (n : Node) : Option Nat :=
  match n.cls with
  | 0x06 => some (8192 + 32 * n.idx)
  | 0x09 => some (20480 + n.idx / 2)
  | _ => none

/-- Fold an event of a source under a window (R380). -/
def Window.fold (w : Window) (code : Nat) (src : Node) : Window :=
  let (cs, e) := countCode code w.counts w.extra
  { w with counts := cs, extra := e,
           refs := if src.stream.isSome && !w.refs.contains src then w.refs ++ [src] else w.refs }

/-- The FOLDED_REF record that a source's own stream takes when its first event is folded under a window (R361, R380). -/
def Window.foldedRef (w : Window) (time : Word) (code : Nat) (src : Node) : List Event :=
  if src.stream.isSome && !w.refs.contains src then [⟨time, code, src, 8, w.node.cls * 2 ^ 19 + w.node.idx⟩] else []

/-- The SUMMARY records of a window (R380). -/
def Window.summaries (w : Window) (time : Word) : List Event :=
  (w.counts.map fun c => ⟨time, c.1, w.node, 7, Min.min c.2 (2 ^ 28 - 1)⟩) ++
  (if w.extra = 0 then [] else [⟨time, 0x0B02, w.node, 7, Min.min w.extra (2 ^ 28 - 1)⟩])

/-- What posting an event makes of the open windows and which records it posts (R379–R381). -/
structure Posted where
  windows : List Window
  records : List Event
  /-- FOLDED_REF records for the source's own stream -/
  refs    : List Event

/-- The window of a root at its node (R379): a new one, or the node's open one, which stays open for the new root too. -/
def State.rootWindow (s : State) (code : Nat) (src : Node) (lasting : Bool) : Window :=
  match s.windows.find? fun w => w.node = src with
  | none => ⟨src, code, if lasting then [code] else [], if lasting then none else some s.clock.frame.toNat, s.clock.frame.toNat, [], 0, []⟩
  | some o =>
    let cs := if lasting && !o.conds.contains code then o.conds ++ [code] else o.conds
    { o with conds := cs, ended := if cs = [] then some s.clock.frame.toNat else none }

/-- Post an event: fold it under an open window of an ancestor, or post it, opening a window when its severity opens
one and closing the windows of descendants (R379–R381). -/
def State.posting (s : State) (code : Nat) (src : Node) (sev detail : Nat) (lasting : Bool) : Posted :=
  let e : Event := ⟨s.timeWord, code, src, sev, detail % 2 ^ 28⟩
  let anc := s.ancestors src
  if s.windows.any (fun w => anc.contains w.node) then
    ⟨s.windows.map fun w => if anc.contains w.node then w.fold code src else w, [],
      ((s.windows.filter fun w => anc.contains w.node).map fun w => w.foldedRef s.timeWord code src).flatten⟩
  else if opensWindow sev then
    let below := s.windows.filter fun w => (s.ancestors w.node).contains src
    let keep := s.windows.filter fun w => !((s.ancestors w.node).contains src)
    let closing := (below.map fun w => w.summaries s.timeWord).flatten
    ⟨(keep.filter fun x => x.node ≠ src) ++ [s.rootWindow code src lasting], closing ++ [e], []⟩
  else ⟨s.windows, [e], []⟩

/-- Is a record one that roots a window (R391)? -/
def Event.isRoot (e : Event) : Bool := opensWindow e.sev

/-- Word 1 of an event record (R360). -/
def Event.word1 (e : Event) : Word :=
  BitVec.ofNat 72 (at_ (e.code % 2 ^ 16) 56 + at_ (e.source.cls % 32) 51 + at_ (e.source.idx % 2 ^ 19) 32 +
    at_ (e.sev % 16) 28 + e.detail % 2 ^ 28)

/-- Words 0–62 of a journal page (R388): its type, the moment it was opened (frame, ns, time word, validity), BOOT_SEQ and
its records; CAUT is set when it is written. -/
def journalPage (ptype : Nat) (o : Nat × Nat × Word × Bool) (boot : BitVec 24) (recs : List Event) : List Word :=
  [BitVec.ofNat 72 (at_ ptype 68 + at_ recs.length 63 + at_ (b2n o.2.2.2) 61 + at_ boot.toNat 32 + o.1 % 2 ^ 32),
    BitVec.ofNat 72 o.2.1] ++
  (((recs.map fun (e : Event) => [e.time, e.word1]).flatten ++ List.replicate 60 0).take 60) ++
  [if o.2.2.2 then o.2.2.1 else 0]

/-- The moment at which a page opens now (R388). -/
def State.pageMoment (s : State) : Nat × Nat × Word × Bool :=
  (s.clock.frame.toNat % 2 ^ 32, s.pns, s.timeWord, s.time.valid)

/-- A record that the journal cannot take is counted under its code (R391). -/
def countDrop (code : Nat) (cs : List (Nat × Nat)) : List (Nat × Nat) :=
  if cs.any (fun c => c.1 = code) then cs.map fun c => if c.1 = code then (c.1, c.2 + 1) else c else cs ++ [(code, 1)]

/-- Put a record into the open page of a side's journal, which closes when it holds 30 (R390, R391). -/
def Journal.take (j : Journal) (s : State) (e : Event) : Journal :=
  if j.waiting.length ≥ 192 ∧ ¬ e.isRoot then
    { j with dropped := countDrop e.code j.dropped }
  else
    let o := j.opened.getD s.pageMoment
    let rs := j.recs ++ [e]
    if rs.length ≥ 30 then { j with waiting := j.waiting ++ [journalPage 1 o s.time.bootSeq rs], recs := [], opened := none }
    else { j with opened := some o, recs := rs }

/-- Journal records on the sides that register them. -/
def State.journalled (s : State) (es : List Event) : Two Journal :=
  ⟨es.foldl (fun j e => if e.source.sides.contains .A then j.take s e else j) s.journal.a,
   es.foldl (fun j e => if e.source.sides.contains .B then j.take s e else j) s.journal.b⟩

/-- A record waits in its source's own stream queue, if it has one (R337, R380). -/
def queueEvent (t : Tab Queue) (e : Event) : Tab Queue :=
  match e.source.stream with
  | some q => Tab.upd {} t q fun x => { x with words := x.words ++ [e.time, e.word1] }
  | none => t

/-- Post an event (R360, R379, R380). lasting says that the event reports a lasting condition. -/
def State.postL (s : State) (code : Nat) (src : Node) (sev detail : Nat) (lasting : Bool) : State :=
  let p := s.posting code src sev detail lasting
  { s with
    log := s.log ++ p.records, windows := p.windows, journal := s.journalled p.records
    queue := (p.records ++ p.refs).foldl queueEvent s.queue }

/-- Post an event without a lasting condition. -/
def State.post (s : State) (code : Nat) (src : Node) (sev detail : Nat) : State := s.postL code src sev detail false

/-- The condition of a root at a node with a code has ended (R379). -/
def State.endCondition (s : State) (src : Node) (code : Nat) : State :=
  { s with windows := s.windows.map fun w =>
      if w.node = src ∧ w.conds.contains code then
        let cs := w.conds.filter fun c => c ≠ code
        { w with conds := cs, ended := if cs = [] then some s.clock.frame.toNat else none }
      else w }

/-- Nodes of the blocks (R362). -/
def nDevice : Node := ⟨0x00, 0⟩
def nSupply (i : Nat) : Node := ⟨0x02, i⟩
def nBarrier (i : Nat) : Node := ⟨0x03, i⟩
def nChip (i : Nat) : Node := ⟨0x04, i⟩
def nFront (t : Nat) : Node := ⟨0x05, t⟩
def nTerm (t : Nat) : Node := ⟨0x06, t⟩
def nNet (d : Side) : Node := ⟨0x07, d.ix⟩
def nCage (c : Nat) : Node := ⟨0x08, c⟩
def nConn (c n : Nat) : Node := ⟨0x09, 2 * c + n⟩
def nCoach (i : Nat) : Node := ⟨0x0A, i⟩
def nSlot (p : Nat) : Node := ⟨0x0B, p⟩
def nBank (d : Side) (b : Nat) : Node := ⟨0x0C, 16 * d.ix + b⟩
def nFn (f : Nat) : Node := ⟨0x0D, f⟩
def nMon (m : Nat) : Node := ⟨0x0E, m⟩
def nEnc (i : Nat) : Node := ⟨0x0F, i⟩
def nPlane (d : Side) (p : Nat) : Node := ⟨0x12, 2 * d.ix + p⟩
def nLane (l : Nat) : Node := ⟨0x13, l⟩
def nLink : Node := ⟨0x14, 0⟩
def nPort (d : Side) : Node := ⟨0x15, d.ix⟩
def nSupv (d : Side) : Node := ⟨0x16, d.ix⟩
def nCrypto (d : Side) : Node := ⟨0x17, d.ix⟩
def nModule (i : Nat) : Node := ⟨0x18, i⟩
def nClock (d : Side) : Node := ⟨0x19, d.ix⟩
def nMaster (d : Side) : Node := ⟨0x1A, d.ix⟩

/-- The order of R81: 0x11, 0x09, 0x0A, then ascending. -/
def causeOrder : List Nat := [0x11, 0x09, 0x0A, 1, 2, 3, 4, 5, 6, 7, 8, 0x0B, 0x0C, 0x0D, 0x0E, 0x0F, 0x10, 0x12]

/-- The first cause present, in the order of R81, or 0. -/
def firstCause (cs : BitVec 32) : Nat := (causeOrder.find? fun c => cs.getLsbD c).getD 0

/-- Cause a stands before cause b in the order of R81. -/
def causeBefore (a b : Nat) : Bool := a ≠ b && causeOrder.find? (fun c => c = a || c = b) = some a

/-- A cause arises at a terminal: it is present, and TSTAT.FAULT takes it when it holds none, or one of the same tick that
comes after it in the order (R81). -/
def Tstat.raise (x : Tstat) (cause now : Nat) : Tstat :=
  if x.fault = 0 ∨ (x.faultAt = now ∧ causeBefore cause x.fault.toNat) then
    { x with causes := setBit x.causes cause true, fault := BitVec.ofNat 8 cause, faultAt := now }
  else { x with causes := setBit x.causes cause true }

/-- A cause ends: TSTAT.FAULT takes the first cause still present when the recorded one ended (R81, R473). -/
def Tstat.lower (x : Tstat) (cause : Nat) : Tstat :=
  let cs := setBit x.causes cause false
  { x with causes := cs,
           fault := if x.fault = BitVec.ofNat 8 cause then BitVec.ofNat 8 (firstCause cs) else x.fault }

/-- Put a cause into the diagnosis buffer: count it in a record of the same cause and source, or add a record, or
count it as not stored (R100, R103, R104; log entry 86). -/
def Chip.diagAdd (x : Chip) (cause src tick : Nat) : Chip :=
  let same (r : DiagRec) : Bool := r.cause = BitVec.ofNat 8 cause && r.src = BitVec.ofNat 5 src
  if x.diag.any same then
    { x with diag := x.diag.map fun r => if same r then { r with count := Min.min (r.count + 1) (2 ^ 27 - 1) } else r }
  else if x.diag.length < 31 then
    { x with diag := x.diag ++ [⟨BitVec.ofNat 8 cause, BitVec.ofNat 5 src, 1, BitVec.ofNat 32 tick⟩] }
  else if x.diag.any (fun r => r.cause = 0x85) then
    { x with full := x.full + 1,
             diag := x.diag.map fun r => if r.cause = 0x85 then { r with count := Min.min (r.count + 1) (2 ^ 27 - 1) } else r }
  else { x with full := x.full + 1, diag := x.diag ++ [⟨0x85, 0x1F, 1, BitVec.ofNat 32 tick⟩] }

/-- A diagnosis record of a field chip (R100). -/
def State.diagAdd (s : State) (i cause src : Nat) : State := s.updChip i fun x => x.diagAdd cause src s.clock.count

/-- A field-chip cause is recorded and its event posted (R103, R363). -/
def State.chipCause (s : State) (i cause src count : Nat) : State :=
  (s.diagAdd i cause src).post (0x0100 + cause) (nChip i) 3 count

/-- Do something for every number of a list. -/
def State.forEach (s : State) (l : List Nat) (f : State → Nat → State) : State := l.foldl f s

/-- The 16 terminals of a field chip. -/
def chipTerms (i : Nat) : List Nat := (List.range 16).map (chipTerm i)
/-- The 32 terminals of a wagon. -/
def wagonTerms (w : Nat) : List Nat := (List.range 32).map (32 * w + ·)

/-- Is a parameter list entry used and equal to v? -/
def usesEntry (s : State) (f v : Nat) (lo n : Nat) : Bool := (List.range n).any fun i => s.fpar f (lo + i) = v

/-- The channels that a function reads, by its template (R260–R265, R482). -/
def State.fnChans (s : State) (f : Nat) : List Nat :=
  let ch (v : Nat) : List Nat := if v < 192 then [v] else []
  let list (lo n : Nat) : List Nat := ((List.range n).map fun i => ch (s.fpar f (lo + i))).flatten
  let opnd (v : Nat) : List Nat := if 2 ^ 24 ≤ v ∧ v < 2 ^ 24 + 192 then [v - 2 ^ 24] else []
  match s.tid f with
  | 0x01 | 0x02 | 0x03 | 0x10 | 0x11 | 0x14 => list 1 (Min.min (s.fpar f 0) 8)
  | 0x04 => ch (s.fpar f 9)
  | 0x05 | 0x06 => ch (s.fpar f 0)
  | 0x12 => ch (s.fpar f 1)
  | 0x13 => list 1 2
  | 0x15 => list 3 (Min.min (s.fpar f 2) 4)
  | 0x18 => ch (s.fpar f 2)
  | 0x20 => list 1 (Min.min (s.fpar f 0) 16)
  | 0x21 => ch (s.fpar f 0)
  | 0x30 | 0x31 => ((List.range (Min.min (s.fpar f 0) 24)).map fun i => opnd (s.fpar f (1 + i))).flatten
  | 0x40 => ((List.range (Min.min (s.fpar f 1) 8)).map fun i => opnd (s.fpar f (2 + i))).flatten
  | 0x41 => opnd (s.fpar f 0)
  | 0x42 => list 2 (Min.min (s.fpar f 0) 8)
  | _ => []

/-- Channels that a function uses beside its inputs: the button that starts it (R244), the outputs that EDM supervises (R261),
the brake channels of ES_BRKFB and ES_AUXBRK (R262). -/
def State.fnUses (s : State) (f : Nat) : List Nat :=
  let ch (v : Nat) : List Nat := if v < 192 then [v] else []
  (if fld (s.fcfg f) 33 32 = 1 then ch (fld (s.fcfg f) 31 20) else []) ++
  (match s.tid f with
   | 0x04 => ((List.range (Min.min (s.fpar f 0) 8)).map fun i => ch (s.fpar f (1 + i))).flatten
   | 0x15 | 0x18 => ch (s.fpar f 1)
   | _ => [])

/-- The terminals that a function is bound to: both of each channel that it reads or uses, and its output terminals (R23,
R247, R251). -/
def State.fnTerms (s : State) (f : Nat) : List Nat :=
  ((s.fnChans f ++ s.fnUses f).map fun c => [2 * c, 2 * c + 1]).flatten ++ s.outsOf f

/-- The channels of those terminals. -/
def State.fnBound (s : State) (f : Nat) : List Nat := (s.fnTerms f).map tChan

/-- The motion monitors whose measurements a function uses: those that it is bound to (R277), and MON of an escalator template
(R262) and of LF_UCM (R264). -/
def State.fnMons (s : State) (f : Nat) : List Nat :=
  ((List.range 64).filter fun m =>
    let w := s.cw cMON m 3
    fld w 71 59 = f || fld w 58 46 = f || fld w 45 33 = f || fld w 32 20 = f) ++
  (match s.tid f with
   | 0x12 | 0x13 | 0x15 | 0x16 | 0x17 | 0x18 => [s.fpar f 0]
   | 0x22 => if s.fpar f 2 < 64 then [s.fpar f 2] else []
   | _ => [])

/-- The wagons in which a function has a terminal (R23): those of its terminals, and those of its monitors' counter units
(R273). -/
def State.fnWagons (s : State) (f : Nat) : List Nat :=
  (s.fnTerms f).map tWagon ++
    ((s.fnMons f).filter fun m => 2 ≤ fld (s.cw cMON m 0) 71 68).map fun m => fld (s.cw cMON m 0) 67 64

/-- The functions bound to a channel. -/
def State.fnsOfChan (s : State) (ch : Nat) : List Nat := s.fns.filter fun f => (s.fnBound f).contains ch
/-- The functions with a terminal in a wagon (R23). -/
def State.fnsOfWagon (s : State) (w : Nat) : List Nat := s.fns.filter fun f => (s.fnWagons f).contains w

/-- A fault or demand cause is raised for a function, to be decided at the next capture (R250–R252). -/
def State.raiseFn (s : State) (f cause detail term : Nat) : State :=
  s.updFn f fun x => { x with raised := x.raised ++ [(BitVec.ofNat 8 cause, BitVec.ofNat 8 detail, term)] }

/-- Raise a cause for several functions. -/
def State.raiseFns (s : State) (fs : List Nat) (cause detail term : Nat) : State :=
  s.forEach fs fun s f => s.raiseFn f cause detail term

/-- The code of a function state (R249). -/
def FnState.code : FnState → Nat
  | .none => 0 | .locked => 1 | .armed => 2 | .run => 3 | .tripped => 4 | .fault => 5

/-- The MODE of a ledger page of a function (R268): commissioning, inspection travel of its group, or normal. -/
def State.ledgerMode (s : State) (f : Nat) : BitVec 2 :=
  if f < 4096 ∧ (s.fnOf f).comm then 2
  else if s.fns.any (fun g => s.tid g = 0x06 && s.fGroup g = s.fGroup f && f < 4096 && (s.fnOf g).cond) then 1 else 0

/-- The session identity of a ledger page: that of an open session, 0 for none (R268). -/
def State.sessionId (s : State) : Nat :=
  match s.port.a.session, s.port.b.session, s.svc.session with
  | some x, _, _ => x.id.toNat
  | none, some x, _ => x.id.toNat
  | none, none, some x => x.id.toNat
  | none, none, none => 0

/-- A ledger entry of an event at a time waits to be written (R266), counted by key against the limit of R270. -/
def State.ledgerAt (s : State) (time : Word) (key kind inst ch ta tb : Nat) (old new : Nat) : State :=
  { s with ledger := { s.ledger with waiting := s.ledger.waiting ++
      [⟨time, BitVec.ofNat 8 kind, inst, ch, s.ledgerMode inst,
        if inst < 4096 then (s.fnOf inst).cause else 0, ta, tb, BitVec.ofNat 4 old, BitVec.ofNat 4 new, key, s.sessionId⟩] } }

/-- A ledger entry of an event that happens now. -/
def State.ledgerKeyed (s : State) (key kind inst ch ta tb : Nat) (old new : Nat) : State :=
  s.ledgerAt s.timeWord key kind inst ch ta tb old new

/-- A ledger entry of an instance, or of none. -/
def State.ledgerAdd (s : State) (kind inst ch ta tb : Nat) (old new : Nat) : State :=
  s.ledgerKeyed inst kind inst ch ta tb old new

/-- No function (R268). -/
def noFn : Nat := 0x1FFF
/-- No channel (R268). -/
def noChan : Nat := 0xFF

/-- A function cause that is present for as long as its condition lasts (R251). -/
def lastingCause (cause detail : Nat) : Bool :=
  [0x11, 0x12, 0x16, 0x18].contains cause || (cause = 0x10 && detail ≠ 1 && detail ≠ 8)

/-- Post a function's state change (event 0x0801 of R363); a FAULT of a present cause has a lasting condition (R379). -/
def State.postFn (s : State) (f : Nat) (st : FnState) (cause detail : Nat) : State :=
  s.postL 0x0801 (nFn f) (match st with | .fault => 3 | .tripped => 4 | _ => 0)
    (st.code * 2 ^ 24 + cause * 2 ^ 16 + detail * 2 ^ 8) (match st with | .fault => lastingCause cause detail | _ => false)

/-- The monitors to whose instances a function is bound (R277). -/
def State.monsOf (s : State) (f : Nat) : List Nat :=
  (List.range 64).filter fun m =>
    let w := s.cw cMON m 3
    fld w 71 59 = f || fld w 58 46 = f || fld w 45 33 = f || fld w 32 20 = f

/-- The lost field chip of a wagon that was declared lost first, side A's when both were at once (R481). -/
def State.lostChip (s : State) (w : Nat) : Nat :=
  let a := s.viewOf (2 * w)
  let b := s.viewOf (2 * w + 1)
  if b.lost ∧ (!a.lost ∨ b.lostAt < a.lostAt) then 2 * w + 1 else 2 * w

/-- The node that raised the cause of a function (R481); term is FSTAT.TERM. -/
def State.causeNode (s : State) (f cause detail term : Nat) : Node :=
  let mon := (s.monsOf f).headD 0
  let m := s.fpar f 0
  let w := s.cw cMON m 0
  let unit (d : Nat) : Nat := 32 * fld w 67 64 + 2 * fld w 63 60 + d
  match cause with
  | 0x01 => nTerm term
  | 0x02 => nPort (if Tab.get 0 s.half.a.doorBy detail ≠ 0 then .A else .B)
  | 0x03 => ⟨0x09, (if Tab.get 0 s.half.a.nstopBy detail ≠ 0 then Tab.get 0 s.half.a.nstopBy detail
      else Tab.get 0 s.half.b.nstopBy detail) - 1⟩
  | 0x04 => ⟨0x01, if bit s.half.a.slImg (detail - 1) then 0 else 1⟩
  | 0x05 =>
    if detail ≤ 2 then
      let on (d : Nat) : Bool := if detail = 1 then (s.termOf (unit d)).ctr.revTrip else (s.termOf (unit d)).ctr.ovsTrip
      nChip (tChip (if on 0 then unit 0 else unit 1))
    else
      let on (d : Nat) : Bool := if detail = 3 then (s.encOf (8 * d + m)).revTrip else (s.encOf (8 * d + m)).ovsTrip
      nEnc (if on 0 then m else 8 + m)
  | 0x06 => nMon mon
  | 0x15 => nMon detail
  | 0x10 =>
    let faulted (k : Nat) : Bool :=
      let v := s.cw cMON k 0
      (s.monOf k).mflt ≠ 0 && (384 ≤ term || fld v 71 68 ≠ 1 && term = 32 * fld v 67 64 + 2 * fld v 63 60)
    match if detail = 0x10 then (s.monsOf f).find? faulted else none with
    | some k => nMon k
    | none => if term < 384 then nTerm term else nMon mon
  | 0x12 => nChip (s.lostChip detail)
  | 0x13 => nChip ((((s.fnTerms f).map tChip).find? fun i => (s.viewOf i).loBad || (s.viewOf i).hiBad).getD 0)
  | 0x16 => ((s.windows.map Window.node).find? fun n => n.cls = 0x09).getD ⟨0x09, 0⟩
  | 0x18 => nDevice
  | _ => nSlot (s.fSlot f)

/-- A function takes a state (R249): status word, event, and for FAULT a ledger page (R266); a remote reset armed for it is
void (R256). -/
def State.setFn (s : State) (f : Nat) (st : FnState) (cause detail term : Nat) : State :=
  let old := (s.fnOf f).st
  let void : Option Armed := if (s.armed.map fun (a : Armed) => a.fn) = some f then none else s.armed
  let s1 := ({ s with armed := void }).updFn f fun x => { x with
    st := st, cause := BitVec.ofNat 8 cause, detail := BitVec.ofNat 8 detail, term := term,
    chgFrame := BitVec.ofNat 32 s.clock.frame.toNat, next := none,
    parent := s.causeNode f cause detail term,
    armedAt := (match st with | .armed => s.clock.count | _ => x.armedAt) }
  let s2 := s1.postFn f st cause detail
  match st with
  | .fault => s2.ledgerAdd 0x0B f noChan 0 0 old.code st.code
  | _ => s2

/-- A fault cause takes a function at once (R189, R250: entry to HOLDING, mismatch marks): FAULT with the cause, or
only an event when it is in FAULT already. -/
def State.faultNow (s : State) (f cause detail term : Nat) : State :=
  match (s.fnOf f).st with
  | .fault => s.postFn f .fault cause detail
  | _ => s.setFn f .fault cause detail term

/-- The same for several functions. -/
def State.faultAll (s : State) (fs : List Nat) (cause detail : Nat) : State :=
  s.forEach fs fun s f => s.faultNow f cause detail 0x1FF

/-- A reply waits at its port, or at the service port (R342, R347); at a port whose link is down, and at the service
port without a cable, it is dropped and counted (R353, R359, R450). -/
def State.addReply (s : State) (r : Reply) : State :=
  match r.port with
  | some d => s.updPort d fun x =>
      if x.link then { x with replies := x.replies ++ [r] } else { x with dropped := x.dropped + 1 }
  | none => { s with svc :=
      if s.svc.cable then { s.svc with replies := s.svc.replies ++ [r] } else { s.svc with dropped := s.svc.dropped + 1 } }

/-- Status codes of a reply (R348). -/
def stOK : Nat := 0x0000
def stACCEPTED : Nat := 0x0001
def stUNKNOWN : Nat := 0x0100
def stRESERVED : Nat := 0x0101
def stLENGTH : Nat := 0x0102
def stRANGE : Nat := 0x0103
def stTOKEN : Nat := 0x0104
def stOTHER : Nat := 0x0105
def stBUSY : Nat := 0x0106
def stCONFLICT : Nat := 0x0107
def stAUTH : Nat := 0x0108
def stCHECK : Nat := 0x0109
def stMODE : Nat := 0x010A
def stSHIFT : Nat := 0x010B
def stSAFETY : Nat := 0x010C

/-- The status of an outcome for which the spec names no status code: one of the refusing codes 0x0100–0x010C, which one
is free (R348; log entry 5). Call drawn with it. -/
def State.freeStatus (s : State) : Nat := 0x0100 + s.drawNat 13

/-- Reply slots from numbers. -/
def toSlots (l : List Nat) : List Slot16 := l.map (BitVec.ofNat 128)

/-- Form a reply of the running frame (R347). -/
def State.mkReply (s : State) (port : Option Side) (queue opcode : Nat) (tag : BitVec 32) (status : Nat)
    (slots : List Nat) : Reply :=
  ⟨port, queue, opcode, tag, status, 0xFFFF, BitVec.ofNat 32 s.clock.frame.toNat, toSlots slots⟩

/-- The final reply of an ACCEPTED command (R349). -/
def State.finalReply (s : State) (port : Option Side) (queue opcode : Nat) (tag : BitVec 32) (status : Nat)
    (slots : List Nat) : State :=
  let s1 := s.addReply (s.mkReply port queue opcode tag status slots)
  match port with
  | some d => s1.updPort d fun x => { x with open_ := x.open_ - 1 }
  | none => { s1 with svc := { s1.svc with opened := s1.svc.opened - 1 } }

/-- A calibration ends without a new record (R132, R133): the previous words stay, the terminal returns to service at the next
commit, and the command's final reply carries a status (log entry 5). -/
def State.calEnd (s : State) (t status : Nat) : State :=
  let tag := (s.termOf t).ana.calTag
  let s1 := s.updTerm t fun x => { x with ana := { x.ana with cal := none, calDone := x.ana.calRun, calTag := none } }
  match tag with
  | none => s1
  | some (port, tg, queue) => s1.finalReply (some port) queue 0x23 tg status []

/-- A calibration is aborted (R132) when one is under way at the terminal; which status its final reply carries is free (log entry
5). -/
def State.calAbort (s : State) (t : Nat) : State :=
  if (s.termOf t).ana.cal.isSome ∨ ((s.termOf t).ana.calRun ∧ (s.termOf t).ana.calDone = false) then
    (s.calEnd t s.freeStatus).drawn
  else s

/-- A terminal cause arises (R55, R81): status, diagnosis record, event; an OFF terminal reports none (R475). A fault of one terminal
of an AI channel aborts a calibration of the other at once (R132). -/
def State.raiseCauseD (s : State) (t cause detail : Nat) : State :=
  if s.mode (tChan t) = mOFF then s
  else if (s.termOf t).tstat.causes.getLsbD cause then s.diagAdd (tChip t) cause (tLocal t)
  else
    let s1 := ((s.updTerm t fun x => { x with tstat := x.tstat.raise cause s.clock.count }).diagAdd (tChip t) cause (tLocal t)).postL
      (0x0100 + cause) (nTerm t) 3 detail true
    if s.mode (tChan t) = mAI then s1.calAbort (tOther t) else s1

/-- A terminal cause without a detail. -/
def State.raiseCause (s : State) (t cause : Nat) : State := s.raiseCauseD t cause 0

/-- A terminal cause ends (R473). -/
def State.lowerCause (s : State) (t cause : Nat) : State :=
  (s.updTerm t fun x => { x with tstat := x.tstat.lower cause }).endCondition (nTerm t) (0x0100 + cause)

/-- MRAM record-area word k of a side (R395). -/
def recAddr (k : Nat) : Nat := 0x05000000 + 9 * k
/-- The hold-up bank is healthy (R386, R443): present, measured at 20 ms or more, within the last 25 h. -/
def State.bankHealthy (s : State) : Bool :=
  s.ec.present && s.ec.healthy &&
  (match s.ec.bankDue with | none => true | some d => decide (s.clock.count ≤ d + 3600000000))

/-- The write path starts new words: its warning has not asserted (R386). -/
def State.writable (s : State) : Bool := if s.bankHealthy then !s.ec.bankLow else !s.power.pfail

/-- Write an MRAM word of a side, by byte offset; nothing is written under the warning (R385, R386). -/
def State.mramWrite (s : State) (d : Side) (a : Nat) (w : Word) : State :=
  if s.writable then s.updMem d fun m => { m with mram := Tab.set 0 m.mram a w, mramBad := m.mramBad.filter (· ≠ a) } else s

/-- Write a record-area word on a side (R385, R395). -/
def State.recWrite (s : State) (d : Side) (k : Nat) (w : Word) : State := s.mramWrite d (recAddr k) w
/-- Read a record-area word of a side. -/
def State.recRead (s : State) (d : Side) (k : Nat) : Word := Tab.get 0 (s.mem.get d).mram (recAddr k)

/-! ### OTP and the retire maps (R373, R374, R409–R411) -/

/-- A side's OTP map as a read returns it: the OR of its two copies (R409). -/
def State.otpOf (s : State) (d : Side) : BitVec 4096 := s.dev.otp.get d ||| s.dev.otp1.get d
/-- Bits [hi:lo] of a side's OTP map (R410). -/
def State.otpFld (s : State) (d : Side) (hi lo : Nat) : Nat := fld (s.otpOf d) hi lo
/-- Program OTP bits of a side, in both copies: a bit is never cleared (R409). -/
def State.otpOr (s : State) (d : Side) (m : BitVec 4096) : State :=
  { s with dev := { s.dev with otp := s.dev.otp.set (s.dev.otp.get d ||| m) d, otp1 := s.dev.otp1.set (s.dev.otp1.get d ||| m) d } }

/-- The retire map of a side in MRAM: words 2–9 of the record area (R374, R395). -/
def State.mramRetire (s : State) (d : Side) : BitVec 576 :=
  BitVec.ofNat 576 (((List.range 8).map fun k => at_ (s.recRead d (2 + k)).toNat (72 * k)).foldl (· + ·) 0)
/-- The retire map of a side in OTP (R410). -/
def State.otpRetire (s : State) (d : Side) : BitVec 576 := BitVec.ofNat 576 (s.otpFld d 4095 3520)
/-- The retire map of a side: a bit that either copy holds is set (R373). -/
def State.retireMap (s : State) (d : Side) : BitVec 576 := s.mramRetire d ||| s.otpRetire d
/-- Bit k of the retire map of a side (R374). -/
def State.retired (s : State) (d : Side) (k : Nat) : Bool := bit (s.recRead d (2 + k / 72)) (k % 72) || bit (s.otpOf d) (3520 + k)

/-- What BOOT finds of an OTP region (R411). -/
inductive RegState where
  | blank | valid | invalid
  deriving DecidableEq, Repr

/-- First and last bit of the regions with a CRC, in the order of their CRC fields (R410): 0 IDENT, 1 VENDOR_ROOT,
2 OWNER_ROOT, 3 UPDATE_KEY, 4 SECRET, 5 TRIM_I, 6 TRIM_V. -/
def otpRegion : Nat → Nat × Nat
  | 0 => (0, 183)
  | 1 => (264, 647)
  | 2 => (648, 1031)
  | 3 => (1032, 1415)
  | 4 => (1416, 1671)
  | 5 => (1672, 3207)
  | _ => (3208, 3303)

/-- CRC-16 of R117 over n bits of a number, most significant first (log entry 41). -/
def crc16Num (n v : Nat) : BitVec 16 := crcLeft (0x1021#16) (0xFFFF#16) (bitsUp n v).reverse

/-- The state of an OTP region (R411). -/
def State.region (s : State) (d : Side) (k : Nat) : RegState :=
  let r := otpRegion k
  let v := s.otpFld d r.2 r.1
  let c := s.otpFld d (3319 + 16 * k) (3304 + 16 * k)
  if v = 0 ∧ c = 0 then .blank
  else if c ≠ 0 ∧ c = (crc16Num (r.2 + 1 - r.1) v).toNat then .valid
  else .invalid

/-- The serial number that a side reports (R410, R411). -/
def State.serialOn (s : State) (d : Side) : Nat := if s.region d 0 = .invalid then 0 else s.otpFld d 63 0

/-- The crypto engine of a side can derive keys (R411, R428): SECRET is not invalid, and no zeroise has taken it. -/
def State.keyed (s : State) (d : Side) : Bool := s.dev.secretOk && decide (s.region d 4 ≠ .invalid)

/-- The crypto engine of a side holds its keys (R372): it can derive them, and none of its tests has zeroised them. -/
def State.keysHeld (s : State) (d : Side) : Bool := s.keyed d && !(s.tests.running.any fun q => q.node = nCrypto d)

/-- A saturating counter step. -/
def satInc {n : Nat} (x : BitVec n) : BitVec n := if x = BitVec.allOnes n then x else x + 1

/-- The ignored-access counter of a port (R334). -/
def State.ignored (s : State) (p : Side) : State := s.updPort p fun x => { x with cnt := satInc x.cnt }

end Sys2Proof.Machine
end

