-- ==== Sys2Proof/Machine/Lattice.lean ====
section
/-! DEFINITION. The trip lattice and the gates (R16, R17, R22, R105, R106, R155–R168, R476): the signals of the field
chip halves and side halves, their terms, the lanes between them, and the one operation that sets every gate and latch
from them. -/

namespace Sys2Proof.Machine

/-- A term is true: EN is set and every literal is true (R160); words 0 and 1, and the signals. -/
def termTrue (sig : Nat → Bool) (w0 w1 : Word) : Bool :=
  bit w0 71 && (List.range 64).all fun i => !(bit w0 i) || Bool.xor (sig i) (bit w1 i)

/-- A terminal's input is forced to demand: chatter, plug removal or a test-pulse fault (R54, R59, R65, R77). -/
def Terminal.forced (x : Terminal) : Bool := x.dig.chatForce || x.dig.tsFail.isSome || x.tstat.causes.getLsbD 9

/-- The qualified state as the logic sees it, forcing included (R54). -/
def State.qualOf (s : State) (t : Nat) : Bool :=
  let x := s.termOf t
  if x.forced || s.mode (tChan t) = mOFF then s.demVal t else x.tstat.qual

/-- A terminal is at demand (R61). -/
def State.atDemand (s : State) (t : Nat) : Bool := s.qualOf t = s.demVal t

/-- The causes that hold their terminal with FSAFE = 1: every one but discrepancy, which the sides find (R55, R95). -/
def fsafeCauses : BitVec 32 := 0x7FEFE

/-- FSAFE of a terminal (R95, R475): held fault-safe by one of its causes or by its field chip. -/
def State.fsafe (s : State) (t : Nat) : Bool :=
  s.mode (tChan t) ≠ mOFF &&
  ((s.termOf t).tstat.causes &&& fsafeCauses ≠ 0 || (s.termOf t).forced ||
   (s.lanesOf (tChip t)).fsafeAll || bit (s.lanesOf (tChip t)).latHold (tLocal t) ||
   bit (s.lanesOf (tChip t)).pairHold (tLocal t))

/-- The causes that R251 makes present causes of a function: every one but chatter and discrepancy, which it latches. -/
def presentCauses : BitVec 32 := 0x7FEFC

/-- FSAFE is 1 for a chatter force alone, which counts as a demand and not as a present fault (R251). -/
def State.chatOnly (s : State) (t : Nat) : Bool :=
  (s.termOf t).dig.chatForce && (s.termOf t).tstat.causes &&& presentCauses = 0 && (s.termOf t).dig.tsFail.isNone &&
  !(s.lanesOf (tChip t)).fsafeAll && !bit (s.lanesOf (tChip t)).latHold (tLocal t) &&
  !bit (s.lanesOf (tChip t)).pairHold (tLocal t)

/-- Signals 0–55, 58 and 59 of a field chip half, those that no lane brings (R158). -/
def State.ownSig (s : State) (i n : Nat) : Bool :=
  if n < 16 then s.mode (tChan (chipTerm i n)) = mDI && s.atDemand (chipTerm i n)
  else if n < 32 then s.fsafe (chipTerm i (n - 16))
  else if n < 40 then (s.termOf (chipTerm i (2 * (n - 32)))).ctr.revTrip
  else if n < 56 then (s.termOf (chipTerm i (n - 40))).ctr.ovsTrip
  else if n = 58 then (s.lanesOf i).fsup
  else if n = 59 then (s.lanesOf i).plugOpen
  else false

/-- TRIPUk_N of a field chip reads trip at its side (R105, R162, R169, R172). -/
def State.tripUp (s : State) (i k : Nat) : Bool :=
  (if k = 0 then (s.lanesOf i).up0 else (s.lanesOf i).up1) || bit (s.chipOf i).badExports k ||
  (let sel := bankWord (s.chipOf i).active oLEXP k 0
   (List.range 64).any fun n => bit sel n && s.ownSig i n)

/-- The side signals of a side half (R163). -/
def State.sideSig (s : State) (d : Side) (n : Nat) : Bool :=
  let h := s.halfOf d
  if n < 24 then s.tripUp (2 * (n / 2) + d.ix) (n % 2)
  else if n < 72 then bit h.mismatch (n - 24)
  else if n < 80 then (s.encOf (8 * d.ix + (n - 72))).revTrip
  else if n < 88 then (s.encOf (8 * d.ix + (n - 80))).ovsTrip
  else if n = 88 then bit h.sl 0
  else if n = 89 then bit h.sl 1
  else if n = 90 then h.supv
  else if n = 91 then false
  else if n < 124 then bit h.door (n - 92)
  else if n < 188 then bit h.nstop (n - 124)
  else false

/-- The term table of a group holds a true term (R164): words by number. -/
def State.groupTrue (s : State) (d : Side) (word : Nat → Word) : Bool :=
  let sig (l : Nat) : Bool := s.sideSig d (fld (word (l / 8)) (8 * (l % 8) + 7) (8 * (l % 8)))
  (List.range 8).any fun j => termTrue sig (word (8 + 2 * j)) (word (9 + 2 * j))

/-- The device states in which the hold lanes do not trip (R105). -/
def DevState.serves : DevState → Bool
  | .standby => true
  | .running => true
  | _ => false

/-- A side half drives group g to trip: a true term of the table in force, or of the old one in the overlap frame
(R168), an uncorrectable table word (R169), or HOLDING (R176). -/
def State.group (s : State) (d : Side) (g : Nat) : Bool :=
  let h := s.halfOf d
  bit h.badGroups g || s.dev.st = .holding ||
  s.groupTrue d (fun w => s.cw cGROUP (24 * d.ix + g) w) ||
  (match h.oldPkg with
   | none => false
   | some old => s.groupTrue d fun w => Tab.get 0 old (Pkg.key cGROUP (24 * d.ix + g) w))

/-- TRIPDk_N of a field chip reads trip (R105, R164, R172). -/
def State.tripDown (s : State) (i k : Nat) : Bool :=
  (if k = 0 then (s.lanesOf i).down0 else (s.lanesOf i).down1) || s.group (Side.ofIx i) (2 * (i / 2) + k)

/-- HOLDD_N of a field chip reads trip (R105, R172). -/
def State.holdTrip (s : State) (i : Nat) : Bool := (s.lanesOf i).hold || !s.dev.st.serves

/-- The 64 signals of a field chip half (R158). -/
def State.chipSig (s : State) (i n : Nat) : Bool :=
  if n = 56 then s.tripDown i 0
  else if n = 57 then s.tripDown i 1
  else if n = 60 then s.holdTrip i
  else s.ownSig i n

/-- A target of a field chip half has a true term (R159, R168, R169). -/
def State.target (s : State) (i tg : Nat) : Bool :=
  let x := s.chipOf i
  let inBank (b : Tab Word) : Bool :=
    (List.range 8).any fun j => termTrue (s.chipSig i) (bankWord b oLTERM (8 * tg + j) 0) (bankWord b oLTERM (8 * tg + j) 1)
  bit x.badTargets tg || inBank x.active || (match x.oldTerms with | none => false | some b => inBank b)

/-- The incoming pair-lane line c of a field chip reads low (R106): driven by the other chip's target 16 + c, or by its
switch-off of the terminal (R69, R73), or low through a fault. -/
def State.pairLow (s : State) (i c : Nat) : Bool :=
  bit (s.lanesOf i).pairCut c || s.target (chipOther i) (16 + c)

/-- A hold of R476 that lies on a terminal: silence, plug removal, field supply, loss of the other chip, FSAFE holds
and switch-offs of causes, HOLD. -/
def State.held (s : State) (t : Nat) : Bool :=
  let i := tChip t
  let l := s.lanesOf i
  (s.chipOf i).silent || l.plugOpen || l.fsup || l.otherLost || s.fsafe t || (s.termOf t).out.off || s.holdTrip i

/-- A terminal's gate is disabled by a term, a pair-lane line or a hold (R16, R22, R157, R476). -/
def State.tripped (s : State) (t : Nat) : Bool :=
  s.held t || s.target (tChip t) (tLocal t) || s.pairLow (tChip t) (tLocal t)

/-- The gate and latch of one output terminal (R16, R17, R141, R157, R476). -/
def Out.settle (o : Out) (trip : Bool) : Out :=
  if trip then { o with gate := false, latch := true, latchOff := false, waiting := false, pwm := 0 }
  else { o with gate := o.on && !o.latch && !o.waiting && !o.dark }

/-- The output terminals of the configuration in force (R159). -/
def State.outTerms (s : State) : List Nat :=
  if s.dev.loaded then (List.range 384).filter fun t => hasOutput (s.mode (tChan t)) else []

/-- Set every gate and latch from the signals as they now stand (R16, R157, R476). It changes the output part of
terminals and nothing else. -/
def State.settle (s : State) : State :=
  { s with
    term := s.outTerms.foldl (fun tab t => Tab.upd {} tab t fun x => { x with out := x.out.settle (s.tripped t) }) s.term }

/-- Settle and end. -/
def settled (s : State) : Res := done s.settle

end Sys2Proof.Machine
end

