-- ==== Sys2Proof/Machine/Testing.lean ====
section
/-! DEFINITION. Targeted and requested self-tests, transient counts, retirement and HOLDING (R364–R378): the shared
operations that every error, verdict and device-level failure uses. -/

namespace Sys2Proof.Machine

/-- Test classes of R376; 0 for a block without a class (R370). -/
def tcCoach : Nat := 1
def tcBank : Nat := 2
def tcFront : Nat := 3
def tcConv : Nat := 4
def tcHalf : Nat := 5
def tcPlane : Nat := 6
def tcEngine : Nat := 7
def tcTimer : Nat := 8
def tcLane : Nat := 9
def tcBarrier : Nat := 10
def tcOtp : Nat := 11

/-- The key of a block in the verdict and transient tables: a converter and a front-end share a node and differ in
their test class, as a field chip and its lattice half do. -/
def testKey (n : Node) (cls : Nat) : Nat := (cls * 32 + n.cls) * 2 ^ 19 + n.idx

/-- Number of transients within a window at which a block is lasting, and the window in seconds (R369, R191). The converters
of a field chip, which cause 0x81 tests together, count as converters. -/
def transLimit (n : Node) (cls : Nat) : Nat × Nat :=
  match n.cls with
  | 0x03 | 0x13 => (16, 3600)
  | 0x0A | 0x0C | 0x05 | 0x10 | 0x11 => (3, 86400)
  | _ => if cls = tcConv then (3, 86400) else (2, 86400)

/-- Where MRAM keeps the transient stamps of a block (R395): side and first word of the record area, in the order of the
retire-map bits. -/
def stampAt (n : Node) (cls : Nat) : List (Side × Nat) :=
  match n.cls with
  | 0x0A => [(if n.idx < 64 then .A else .B, 442 + n.idx % 64)]
  | 0x0C => [(if n.idx < 16 then .A else .B, 494 + n.idx % 16)]
  | 0x13 => [(.A, 510 + 8 * n.idx), (.B, 510 + 8 * n.idx)]
  | 0x05 => [(Side.ofIx n.idx, (if cls = tcConv then 734 else 542) + n.idx / 2)]
  | 0x03 => [(Side.ofIx n.idx, 926 + 9 * (n.idx / 2))]
  | 0x04 =>
    if cls = tcConv then (List.range 16).map fun c => (Side.ofIx n.idx, 734 + 16 * (n.idx / 2) + c)
    else [(Side.ofIx n.idx, 934 + 9 * (n.idx / 2))]
  | 0x10 => [(if n.idx < 8 then .A else .B, 1034 + n.idx % 8)]
  | 0x11 => [(if n.idx < 64 then .A else .B, 1042 + n.idx % 64)]
  | 0x19 => [(Side.ofIx n.idx, 1106)]
  | 0x16 => [(Side.ofIx n.idx, 1107)]
  | 0x12 => [(if n.idx < 2 then .A else .B, 1108 + n.idx % 2)]
  | 0x1A => [(Side.ofIx n.idx, 1110)]
  | 0x14 => [(.A, 1111), (.B, 1111)]
  | 0x17 => [(Side.ofIx n.idx, 1112)]
  | _ => []

/-- The stamps of a block in MRAM, L − 1 of them at most, two to a word; an all-zero stamp is empty (R395, R396). -/
def State.stampsAt (s : State) (k : Nat) (e : Side × Nat) : List (BitVec 36) :=
  ((List.range k).map fun j =>
    let w := s.recRead e.1 (e.2 + j / 2)
    BitVec.ofNat 36 (if j % 2 = 0 then fld w 71 36 else fld w 35 0)).filter fun st => st ≠ 0

/-- Store stamps, newest first, in the words of a block (R395). -/
def State.storeStamps (s : State) (k : Nat) (e : Side × Nat) (l : List (BitVec 36)) : State :=
  s.forEach (List.range ((k + 1) / 2)) fun x j => x.recWrite e.1 (e.2 + j)
    (BitVec.ofNat 72 (at_ (l.getD (2 * j) 0).toNat 36 + (l.getD (2 * j + 1) 0).toNat))

/-- A second stamp lies within the last w seconds; every stamp counts while device time is invalid, and so does a stamp
written while it was (R369, R396). -/
def State.inWindow (s : State) (w : Nat) (st : BitVec 36) : Bool :=
  !s.time.valid || !(bit st 35) || s.time.tai / 1000000000 < fld st 34 0 + w

/-- The transients of a block within its window (R369, R191): its stamps in MRAM, and those taken without valid time. -/
def State.transCount (s : State) (n : Node) (cls : Nat) : Nat :=
  let k := (transLimit n cls).1 - 1
  Tab.get 0 s.tests.trans0 (testKey n cls) +
    (stampAt n cls).foldl (fun m e => Nat.max m ((s.stampsAt k e).filter (s.inWindow (transLimit n cls).2)).length) 0

/-- Side and bit offset of a block in the retire maps (R374); none for a block that the map does not list. A barrier link
and a lattice half retire their field chip (R365). -/
def retireAt (n : Node) (cls : Nat) : List (Side × Nat) :=
  match n.cls with
  | 0x0A => [(if n.idx < 64 then .A else .B, n.idx % 64)]
  | 0x0C => [(if n.idx < 16 then .A else .B, 52 + n.idx % 16)]
  | 0x13 => [(.A, 68 + n.idx), (.B, 68 + n.idx)]
  | 0x05 => [(Side.ofIx n.idx, (if cls = tcConv then 264 else 72) + n.idx / 2)]
  | 0x03 | 0x04 => [(Side.ofIx n.idx, 456 + n.idx / 2)]
  | 0x10 => [(if n.idx < 8 then .A else .B, 468 + n.idx % 8)]
  | 0x11 => [(if n.idx < 64 then .A else .B, 476 + n.idx % 64)]
  | 0x19 => [(Side.ofIx n.idx, 540)]
  | 0x16 => [(Side.ofIx n.idx, 541)]
  | 0x12 => [(if n.idx < 2 then .A else .B, 542 + n.idx % 2)]
  | 0x1A => [(Side.ofIx n.idx, 544)]
  | 0x14 => [(.A, 545), (.B, 545)]
  | 0x17 => [(Side.ofIx n.idx, 546)]
  | _ => []

/-- Set a bit of both retire maps of a side: MRAM, then OTP (R373). -/
def State.retireBit (s : State) (d : Side) (k : Nat) : State :=
  (s.recWrite d (2 + k / 72) (setBit (s.recRead d (2 + k / 72)) (k % 72) true)).otpOr d (BitVec.ofNat 4096 (2 ^ (3520 + k)))

/-- A block is retired (R373). -/
def State.isRetired (s : State) (n : Node) (cls : Nat) : Bool := (retireAt n cls).any fun (p : Side × Nat) => s.retired p.1 p.2

/-- Retire a block: its map bits and event 0x0A03 (R364, R373). -/
def State.retireBlock (s : State) (n : Node) (cls : Nat) : State :=
  ((retireAt n cls).foldl (fun (x : State) (p : Side × Nat) => x.retireBit p.1 p.2) s).post 0x0A03 n 5
    (((retireAt n cls).map Prod.snd).headD 0)

/-- The OTP bits whose second copy the read-margin test programs (R409): LIFECYCLE, FW_SVN and RETIRE. -/
def otpRepaired : BitVec 4096 :=
  BitVec.ofNat 4096 (at_ 7 192 + at_ (2 ^ 64 - 1) 200 + at_ (2 ^ 576 - 1) 3520)

/-- The OTP read-margin test of a side (R409, R404, R376): in the regions that it repairs, a copy that reads 0 where the other
reads 1 is programmed; any other difference raises event 0x0A07 (log entry 79). -/
def State.otpMargin (s : State) (d : Side) : State :=
  let a := s.dev.otp.get d
  let b := s.dev.otp1.get d
  let fix := (a ^^^ b) &&& otpRepaired
  let s1 := if fix = 0 then s else s.otpOr d fix
  if (a ^^^ b) &&& ~~~otpRepaired = 0 then s1 else s1.post 0x0A07 ⟨0x01, d.ix⟩ 1 0

/-- The test that runs on a block, if any. -/
def Tests.find (x : Tests) (n : Node) (cls : Nat) : Option Test := x.running.find? fun q => q.node = n && q.cls = cls

/-- Take a block's test off the list. -/
def Tests.drop (x : Tests) (n : Node) (cls : Nat) : Tests :=
  { x with running := x.running.filter fun q => !(q.node = n && q.cls = cls) }

/-- Coverage and duration of R375, as R378 returns them: stuck-at and transition in 0.01 %, and µs. -/
def coverage (n : Node) (cls : Nat) : Nat × Nat × Nat :=
  if cls = tcCoach then (9650, 8800, 1800)
  else if cls = tcBank then (10000, 10000, 330)
  else if cls = tcFront then (0, 0, 300)
  else if cls = tcConv then (0, 0, 64)
  else if cls = tcHalf then (0, 0, 2)
  else if cls = tcPlane then (0, 0, 2000)
  else if cls = tcEngine ∨ cls = tcTimer then (9800, 0, 20)
  else if cls = tcLane then (0, 0, 50)
  else if cls = tcBarrier then (0, 0, 64)
  else if cls = tcOtp then (0, 0, 5000)
  else match n.cls with
    | 0x16 => (9700, 0, 500)
    | 0x17 => (9500, 0, 3000)
    | 0x1A => (0, 0, 1000)
    | _ => (0, 0, 200)

/-- The slots of R378 that a final reply carries. -/
def testSlots (n : Node) (cls verdict elapsed : Nat) : List Nat :=
  let c := coverage n cls
  [verdict, c.1, c.2.1, c.2.2, elapsed]

/-- Record the verdict of a test for ST_RESULT and send the final reply of a requested one (R378). -/
def State.concludeTest (s : State) (q : Test) (verdict : Nat) : State :=
  let s1 := { s with tests := { (s.tests.drop q.node q.cls) with
    last := Tab.set {} s.tests.last (testKey q.node q.cls)
      ⟨verdict, s.timeWord.toNat, s.clock.count - q.started, q.requested, true⟩ } }
  match q.reply with
  | none => s1
  | some (port, tag, queue) =>
    s1.finalReply port queue 0x70 tag stOK (testSlots q.node q.cls verdict (s.clock.count - q.started))

/-- A targeted test of a block begins (R364). -/
def State.beginTest (s : State) (n : Node) (cls : Nat) : State :=
  let q : Test := { node := n, cls := cls, requested := false, started := s.clock.count }
  let s1 := if cls = tcBarrier then s.updView n.idx fun v => { v with echoRun := 0, echoBad := 0 } else s
  ({ s1 with tests := { s1.tests with running := s1.tests.running ++ [q] } }).post 0x0A01 n 0 cls

/-- A unit is under scan: its port reads NONE and its timer value stale (R365). -/
def State.unitTesting (s : State) (n : Node) (b : Bool) : State :=
  if n.cls = 0x10 then s.updEng n.idx fun g => { g with testing := b }
  else if n.cls = 0x11 then s.updTimer n.idx fun u => { u with stale := b }
  else s

/-- A block whose requested test ends without a verdict returns to service (R378): a lane, a plane, a scanned unit, a
front-end, a converter. -/
def State.testRelease (s : State) (n : Node) : State :=
  if n.cls = 0x13 then { s with tests := { s.tests with lanesOut := setBit s.tests.lanesOut n.idx false } }
  else if n.cls = 0x12 then s.updHalf (if n.idx < 2 then .A else .B) fun h => { h with planeTest := setBit h.planeTest (n.idx % 2) false }
  else if n.cls = 0x05 then s.updChip (tChip n.idx) fun x => { x with
    injTest := setBit x.injTest (tLocal n.idx) false, refTest := 0 }
  else s.unitTesting n false

/-- A requested test is aborted (R378): event 0x0A04, whose status code the spec does not name, and its final reply. -/
def State.abortTest (s : State) (q : Test) : State :=
  (((s.post 0x0A04 q.node 0 s.freeStatus).concludeTest q 2).drawn).testRelease q.node

/-- A detected error starts the targeted test of a block (R364): counted when one runs already, a requested test is
aborted for it (R378, R383), and a retired block is not tested. -/
def State.startTest (s : State) (n : Node) (cls : Nat) : State :=
  if s.isRetired n cls then s
  else
    match s.tests.find n cls with
    | none => s.beginTest n cls
    | some q =>
      if q.requested then (s.abortTest q).beginTest n cls
      else { s with tests := { s.tests with running := s.tests.running.map fun p =>
        if p.node = n ∧ p.cls = cls then { p with again := true } else p } }

/-- What a verdict makes of a block. -/
inductive TestEnd where
  | noTest | further | transient | lasting
  deriving DecidableEq, Repr

/-- The end that a verdict brings (R364, R369). -/
def State.testEnd (s : State) (n : Node) (cls : Nat) (pass : Bool) : TestEnd :=
  match s.tests.find n cls with
  | none => .noTest
  | some q =>
    if !pass then .lasting
    else if q.requested then .transient
    else if (transLimit n cls).1 ≤ s.transCount n cls + 1 then .lasting
    else if q.again ∧ ¬ q.further then .further
    else .transient

/-- A transient's stamp enters MRAM before the newer ones of its block, L − 1 in all (R395). -/
def State.pushStamp (s : State) (n : Node) (cls : Nat) (st : BitVec 36) : State :=
  let k := (transLimit n cls).1 - 1
  (stampAt n cls).foldl (fun (x : State) (e : Side × Nat) =>
    x.storeStamps k e ((st :: x.stampsAt k e).take (k - Tab.get 0 x.tests.trans0 (testKey n cls)))) s

/-- A transient without valid time: its stamp would be all zero, so it is counted beside the words (R396; log entry 82). -/
def State.pushUndated (s : State) (n : Node) (cls : Nat) : State :=
  let k := (transLimit n cls).1 - 1
  let s1 : State := { s with tests := { s.tests with
    trans0 := Tab.upd 0 s.tests.trans0 (testKey n cls) fun m => Nat.min k (m + 1) } }
  (stampAt n cls).foldl (fun (x : State) (e : Side × Nat) =>
    x.storeStamps k e ((x.stampsAt k e).take (k - Tab.get 0 s1.tests.trans0 (testKey n cls)))) s1

/-- A transient is posted and counted (R364, R369, R395). -/
def State.countTransient (s : State) (n : Node) (cls : Nat) : State :=
  (if s.time.valid then s.pushStamp n cls s.secStamp else s.pushUndated n cls).post 0x0A02 n 2 (s.transCount n cls + 1)

/-- Time has become valid: every stamp with V = 0 is rewritten with the current TAI second (R396). -/
def State.rewriteStamps (s : State) : State :=
  (s.tests.trans0).foldl (fun (x : State) (e : Nat × Nat) =>
    (List.range e.2).foldl (fun (y : State) _ => y.pushStamp ⟨e.1 / 2 ^ 19 % 32, e.1 % 2 ^ 19⟩ (e.1 / 2 ^ 19 / 32) s.secStamp) x)
    { s with tests := { s.tests with trans0 := [] } }

/-- Apply a verdict: transient counts, further test, retirement (R364, R369, R373). The block's own consequences are the
caller's. -/
def State.endTest (s : State) (n : Node) (cls : Nat) (pass : Bool) : State :=
  match s.tests.find n cls with
  | none => s
  | some q =>
    match s.testEnd n cls pass with
    | .noTest => s
    | .further =>
      let s1 := s.countTransient n cls
      { s1 with tests := { s1.tests with running := s1.tests.running.map fun p =>
          if p.node = n ∧ p.cls = cls then { p with again := false, further := true } else p } }
    | .transient => (if q.requested then s else s.countTransient n cls).concludeTest q 0
    | .lasting => ((if pass then s.countTransient n cls else s).concludeTest q 1).retireBlock n cls

/-- An activation ends when a hand-over of it aborts (R201): the rest is not handed over, and the final reply carries a
refusing status that the spec does not name (log entry 5). -/
def State.abortActivation (s : State) (p : Nat) : State :=
  let ends (a : Activation) (op : Nat) (x : State) : State :=
    (x.finalReply (some a.port) a.queue op a.tag x.freeStatus []).drawn
  match s.dev.cfgAct, s.dev.fwAct with
  | some a, _ => if a.slots.head? = some p then ends a 0x13 { s with dev := { s.dev with cfgAct := none } } else s
  | none, some a => if a.slots.head? = some p then ends a 0xB3 { s with dev := { s.dev with fwAct := none } } else s
  | none, none => s

/-- The test is a requested one of a coach that slot p maps (R376). -/
def State.testsCoachOf (s : State) (p : Nat) (q : Test) : Bool :=
  q.requested && q.cls = tcCoach && (q.node = nCoach (s.slotOf p).mapA || q.node = nCoach (64 + (s.slotOf p).mapB))

/-- A requested test of a coach of slot p is aborted with the hand-over that was to free it (R376, R378). -/
def State.abortCoachTest (s : State) (p : Nat) : State :=
  (s.tests.running.filter (s.testsCoachOf p)).foldl State.abortTest s

/-- A hand-over from slot p is aborted (R201): the target is LOCKED again with CAUSE 0x7, event 0x0306 is posted, and
the command's final reply carries a refusing status that the spec does not name. -/
def State.abortHandover (s : State) (p : Nat) : State :=
  match (s.slotOf p).hand with
  | none => s
  | some h =>
    let s1 := s.updSlot p fun x => { x with hand := none }
    let s2 := s1.updSlot h.target fun x => { x with
      cause := 7, shadowOk := 0, shadowOf := none, buf := ⟨[], []⟩, st := if x.st = .shadow then .locked else x.st }
    let s3 := ((s2.postL 0x0306 (nSlot p) 3 h.target false).abortActivation p).abortCoachTest p
    match h.reply with
    | none => s3
    | some (port, tag, queue, opcode) => (s3.finalReply port queue opcode tag s3.freeStatus []).drawn

/-- HOLDING is entered for a block (R371): device state, event 0x0A05, functions to FAULT with cause 0x18, requested
tests and hand-overs aborted (R378, R201), rebuilds and joins stopped (R207), and every gate off (R176). A second block
joins those that hold the device there; in a start-up and in SERVICE nothing changes (R403). -/
def State.enterHolding (s : State) (n : Node) : State :=
  if s.dev.st = .holding then
    { s with dev := { s.dev with holders := if s.dev.holders.contains n then s.dev.holders else s.dev.holders ++ [n] } }
  else if !s.dev.st.serves then s
  else
    let s1 := { s with dev := { s.dev with st := .holding, holders := [n], holdCause := n.cls } }
    let s2 := s1.postL 0x0A05 nDevice 6 n.cls true
    let s3 := s2.faultAll s2.fns 0x18 0
    let s4 := (s3.tests.running.filter (·.requested)).foldl State.abortTest s3
    let stop (x : State) (p : Nat) : State := x.updSlot p fun y => if y.st = .testing then { y with rebuilt := false } else y
    ((List.range 48).foldl stop ((List.range 48).foldl State.abortHandover s4)).settle

/-- A block that held the device in HOLDING has its transient verdict (R371). -/
def State.holderDone (s : State) (n : Node) : State :=
  { s with dev := { s.dev with holders := s.dev.holders.filter fun m => m ≠ n } }

end Sys2Proof.Machine
end

