-- ==== Sys2Proof/Machine/Timers.lean ====
section
/-! DEFINITION. Match and overflow actions, and the 64 timer units of each side (spec/06: R137, R138, R146). -/

namespace Sys2Proof.Machine

/-- What an action code asks for (R137): the unit it acts on, and 1 reset, 2 stop or 3 start; none for code 0. -/
def actionOn (own link code : Nat) : Option (Nat × Nat) :=
  if 1 ≤ code ∧ code ≤ 3 then some (own, code) else if 4 ≤ code ∧ code ≤ 6 then some (link, code - 3) else none

/-- The actions that reach a unit in one clock. -/
def actionsAt (acts : List (Nat × Nat)) (u : Nat) : List Nat := (acts.filter fun a => a.1 = u).map Prod.snd

/-- The value after the actions of one clock: a reset and a count leave 0 (R138). -/
def actValue (codes : List Nat) (v : Word) : Word := if codes.contains 1 then 0 else v
/-- The run flag after the actions of one clock: a stop and a start leave the unit stopped (R138). -/
def actRun (codes : List Nat) (run : Bool) : Bool := if codes.contains 2 then false else run || codes.contains 3

/-- The timer units and their mailboxes, which the passing of time changes. -/
abbrev TimerBank := Tab TimerU × Two (List Nat)

/-- TMR_CTL and TMR_MATCH of unit n of a side (R146). -/
def State.tmrCtl (s : State) (d : Side) (n : Nat) : Word := s.cw cTMR (64 * d.ix + n) 0
def State.tmrMatch (s : State) (d : Side) (n : Nat) : Word := s.cw cTMR (64 * d.ix + n) 1
/-- SRC and SRCSEL. -/
def State.tmrSrc (s : State) (d : Side) (n : Nat) : Nat := fld (s.tmrCtl d n) 71 68
def State.tmrSel (s : State) (d : Side) (n : Nat) : Nat := fld (s.tmrCtl d n) 67 62

/-- Unit n of a side in a bank. -/
def bankUnit (b : TimerBank) (d : Side) (n : Nat) : TimerU := Tab.get {} b.1 (64 * d.ix + n)

/-- The running units of a side with a source, and with a selection where sel is given. -/
def State.tmrRunning (s : State) (d : Side) (src : Nat) (sel : Option Nat) (b : TimerBank) : List Nat :=
  ((b.1.filter fun e => e.1 / 64 = d.ix && e.2.run).map fun e => e.1 % 64).filter fun n =>
    s.tmrSrc d n = src && (match sel with | none => true | some k => s.tmrSel d n = k)

/-- A count of k carries a 72-bit two's-complement value across its wrap (R146). -/
def wraps72 (v : Word) (k : Int) : Bool := v.toInt + k < -(2 ^ 71) || 2 ^ 71 ≤ v.toInt + k

/-- A count of k brings a value to a target, or across it (R137; log entry 88). -/
def reaches (v target : Word) (k : Int) : Bool :=
  if 0 ≤ k then decide (1 ≤ (target - v).toNat) && decide (((target - v).toNat : Int) ≤ k)
  else decide (1 ≤ (v - target).toNat) && decide (((v - target).toNat : Int) ≤ -k)

/-- The counts of one clock with those that overflows chain (R146, SRC 0x4), each unit once. -/
def State.chainCounts (s : State) (d : Side) (b : TimerBank) : Nat → List (Nat × Int) → List (Nat × Int) → List (Nat × Int)
  | 0, _, acc => acc
  | k + 1, todo, acc =>
    if todo = [] then acc
    else
      let acc1 := acc ++ todo
      let wrapped := (todo.filter fun e => wraps72 (bankUnit b d e.1).value e.2).map Prod.fst
      let next := (wrapped.map fun m => s.tmrRunning d 4 (some m) b).flatten.filter fun n => !(acc1.any fun e => e.1 = n)
      s.chainCounts d b k (next.map fun n => (n, 1)) acc1

/-- The actions of a unit that counts k: overflow, then match (R137, R138). -/
def State.tmrActions (s : State) (d : Side) (b : TimerBank) (n : Nat) (k : Int) : List (Nat × Nat) :=
  let ctl := s.tmrCtl d n
  let v := (bankUnit b d n).value
  let link := fld ctl 55 50
  (if wraps72 v k then (actionOn n link (fld ctl 58 56)).toList else []) ++
  (if reaches v (s.tmrMatch d n) k then (actionOn n link (fld ctl 61 59)).toList else [])

/-- One clock of a side's timer units (R137, R138, R146): the running ones of a list count, with what they chain; then come the
actions, and each match with MBOX posts the unit's number. -/
def State.timerClock (s : State) (d : Side) (cs : List (Nat × Int)) (b : TimerBank) : TimerBank :=
  let all := s.chainCounts d b 65 (cs.filter fun e => (bankUnit b d e.1).run) []
  let acts := (all.map fun e => s.tmrActions d b e.1 e.2).flatten
  let mail := (all.filter fun e => reaches (bankUnit b d e.1).value (s.tmrMatch d e.1) e.2 && bit (s.tmrCtl d e.1) 48).map Prod.fst
  let counted := all.foldl (fun (t : Tab TimerU) (e : Nat × Int) =>
    Tab.upd {} t (64 * d.ix + e.1) fun u => { u with value := u.value + BitVec.ofInt 72 e.2 }) b.1
  let acted := (acts.map Prod.fst).eraseDups.foldl (fun (t : Tab TimerU) (n : Nat) =>
    Tab.upd {} t (64 * d.ix + n) fun u =>
      { u with value := actValue (actionsAt acts n) u.value, run := actRun (actionsAt acts n) u.run }) counted
  (acted, b.2.set (b.2.get d ++ mail) d)

/-- Clocks until a unit that counts up meets its match or wraps. -/
def toEvent (v target : Word) : Nat :=
  let m := (target - v).toNat
  Nat.min (if m = 0 then 2 ^ 72 else m) (2 ^ 71 - v.toInt).toNat

/-- Units of a list count k up without an event. -/
def addAll (d : Side) (ns : List Nat) (k : Nat) (b : TimerBank) : TimerBank :=
  (ns.foldl (fun (t : Tab TimerU) n => Tab.upd {} t (64 * d.ix + n) fun u => { u with value := u.value + BitVec.ofNat 72 k }) b.1, b.2)

/-- left coach clocks of a side pass (R146, SRC 0x1), from one event to the next. -/
def State.coachClocks (s : State) (d : Side) : Nat → Nat → TimerBank → TimerBank
  | 0, _, b => b
  | f + 1, left, b =>
    let ns := s.tmrRunning d 1 none b
    if left = 0 ∨ ns = [] then b
    else
      let m := ns.foldl (fun m n => Nat.min m (toEvent (bankUnit b d n).value (s.tmrMatch d n))) (left + 1)
      if left < m then addAll d ns left b
      else s.coachClocks d f (left - m) (s.timerClock d (ns.map fun n => (n, 1)) (addAll d ns (m - 1) b))

/-- One tick of a side passes, len coach clocks long: the last of them is the clock of the tick edge (R146, SRC 0x1 and 0x2). -/
def State.timerTick (s : State) (d : Side) (len : Nat) (b : TimerBank) : TimerBank :=
  let b1 := s.coachClocks d len (len - 1) b
  s.timerClock d ((s.tmrRunning d 1 none b1 ++ s.tmrRunning d 2 none b1).map fun n => (n, 1)) b1

/-- n ticks of a side pass; the first has len coach clocks, the others 2,000 (R31, R146). -/
def State.timerTicks (s : State) (d : Side) : Nat → Nat → TimerBank → TimerBank
  | 0, _, b => b
  | n + 1, len, b =>
    if s.tmrRunning d 1 none b = [] ∧ s.tmrRunning d 2 none b = [] then b
    else s.timerTicks d n 2000 (s.timerTick d len b)

/-- The timer units after n ticks. -/
def State.timersAfter (s : State) (n : Nat) : TimerBank :=
  s.timerTicks .B n s.frameSt.b.nextTick (s.timerTicks .A n s.frameSt.a.nextTick (s.timer, s.mailbox))

/-- A port of a side counts k: the timer units that count it step in one clock (R146, SRC 0x3). -/
def State.stepPort (s : State) (d : Side) (n : Nat) (k : Int) : State :=
  let b := s.timerClock d ((s.tmrRunning d 3 (some n) (s.timer, s.mailbox)).map fun u => (u, k)) (s.timer, s.mailbox)
  { s with timer := b.1, mailbox := b.2 }

end Sys2Proof.Machine
end

