-- ==== Sys2Proof/Machine/Clocking.lean ====
section
/-! DEFINITION. The passing of ticks (R29, R35, R146, R350, R470): what a tick changes by itself, and the tick edges at
which the commands of the frame stand. -/

namespace Sys2Proof.Machine

/-- The side whose tick follows PTP (R33): A when network A is locked, else B when network B is. -/
def State.steering (s : State) : Option Side :=
  if (s.netOf .A).locked then some .A else if (s.netOf .B).locked then some .B else none

/-- The coach cycles (0.5 ns) that n ticks of a side last: the first has the length that R31 or R33 has set, the others 2,000. -/
def FrameStat.cycles (f : FrameStat) (n : Nat) : Nat := if n = 0 then 0 else f.nextTick + 2000 * (n - 1)

/-- Device time after a number of coach cycles. -/
def Time.after (t : Time) (cycles : Nat) : Time :=
  let h := b2n t.half + cycles
  { t with tai := t.tai + h / 2, half := decide (h % 2 = 1) }

/-- The tick whose length was set has passed; the next one has 2,000 cycles (R31). -/
def FrameStat.passed (f : FrameStat) (n : Nat) : FrameStat := if n = 0 then f else { f with nextTick := 2000 }

/-- n ticks pass: the tick and frame numbers, the tick count, device time, the token's lease and the timer units that
count ticks or coach cycles (log entry 3). Device time follows the ticks of the steering side, of side A without one. -/
def State.elapse (s : State) (n : Nat) : State :=
  { s with
    clock := s.clock.advance n
    time := s.time.after ((s.frameSt.get (s.steering.getD .A)).cycles n)
    frameSt := ⟨s.frameSt.a.passed n, s.frameSt.b.passed n⟩
    token := { s.token with left := s.token.left - n }
    timer := (s.timersAfter n).1
    mailbox := (s.timersAfter n).2 }

/-- The tick-0 edge of the running frame, as a tick count and in 10 ns since PROVING. -/
def State.edgeCount (s : State) : Nat := s.clock.count - s.clock.tick
def State.edge10 (s : State) : Nat := s.edgeCount * 100

/-- Ticks to the next edge of tick k, none when it is now. -/
def Clock.ticksTo (c : Clock) (k : Nat) : Nat := if c.tick ≤ k then k - c.tick else c.fl - c.tick + k

/-- Ticks to the tick-0 edge at which a commit or a capture stands: the next frame's when this one's has been used. -/
def Clock.ticksToEdge (c : Clock) (used : Bool) : Nat := if used ∧ c.tick = 0 then c.fl else c.ticksTo 0

/-- Time passes to the next edge of tick k (log entry 3). -/
def State.toTick (s : State) (k : Nat) : State := s.elapse (s.clock.ticksTo k)

/-- Time passes to the tick-0 edge of the next commit. -/
def State.toCommit (s : State) : State := s.elapse (s.clock.ticksToEdge s.clock.committed)

/-- Time passes to the tick-0 edge of the next capture. -/
def State.toCapture (s : State) : State := s.elapse (s.clock.ticksToEdge s.clock.captured)

/-- The step of an empty queue: one tick passes in a device that has a clock (log entry 3). -/
def State.idleTick (s : State) : State :=
  match s.dev.st with
  | .dormant => s
  | _ => s.elapse 1

end Sys2Proof.Machine
end

