-- ==== Sys2Proof/Machine/Counters.lean ====
section
/-! DEFINITION. Counter units, sentinels, timer units, encoder ports and shift engines (spec/06: R134–R154, R480). -/

namespace Sys2Proof.Machine

/-- The counter mode of a terminal's unit (R135). -/
def State.kmode (s : State) (t : Nat) : Nat := fld (s.kcfg t) 71 68

/-- A unit takes the actions of one clock (R137, R138); a start of a stopped unit begins a new measurement, and in modes 0x2 and
0x3 a reset begins the running time anew (R140). -/
def Ctr.acted (c : Ctr) (codes : List Nat) (now : Nat) : Ctr :=
  let run := actRun codes c.run
  let fresh : Bool := run && !c.run
  { c with
    value := actValue codes c.value, run := run, begun := c.begun || run
    meas := if fresh then 0 else c.meas
    lastEdge := if fresh then none else if codes.contains 1 then c.lastEdge.map fun _ => now else c.lastEdge }

/-- The code of a measurement in 10 ns units (R140). -/
def measCode (v : Nat) : Nat :=
  if 2 ^ 24 ≤ v then 15 * 512 + 511
  else
    match (List.range 16).find? fun e => v < 512 * 2 ^ e with
    | none => 15 * 512 + 511
    | some e => e * 512 + v / 2 ^ e

/-- A reversal sentinel judges a count: armed up and counting down, or armed down and counting up (R143). -/
def reversed (arm : BitVec 2) (delta : Int) : Bool := (arm = 1 && delta < 0) || (arm = 2 && 0 < delta)

/-- A field reversal sentinel asserts its signal, reported as a sentinel trip (R143, R145). -/
def State.revTripField (s : State) (t : Nat) : State :=
  if (s.termOf t).ctr.revTrip then s
  else (s.updTerm t fun x => { x with ctr := { x.ctr with revTrip := true } }).post 0x01A4 (nChip (tChip t)) 4 1

/-- The unit is chained with the unit of the next channel as its high half (R135 mode 0x6, R136). -/
def State.chained (s : State) (t : Nat) : Bool := tLocal t % 2 = 0 && s.kmode (t + 2) = 6

/-- The new low half, high half and overflow of a unit that counts delta (R136): 36 bits, or 72 in two's complement for a pair. -/
def State.countTo (s : State) (t : Nat) (delta : Int) : Word × Word × Bool :=
  let lo : Int := (s.termOf t).ctr.value.toNat
  let hi : Int := (s.termOf (t + 2)).ctr.value.toNat
  let m : Int := 2 ^ 36
  if s.chained t then
    let v := sdiff 72 (hi * m + lo) + delta
    (BitVec.ofInt 72 (v % m), BitVec.ofInt 72 (v / m % m), v < -(2 ^ 71) || 2 ^ 71 ≤ v)
  else (BitVec.ofInt 72 ((lo + delta) % m), BitVec.ofInt 72 hi, lo + delta < 0 || m ≤ lo + delta)

/-- The match value of a unit is met (R136, R137). -/
def State.matches_ (s : State) (t : Nat) (lo hi : Word) : Bool :=
  lo.toNat = fld (s.kcfg t) 63 28 && (!s.chained t || hi.toNat = fld (s.kcfg (t + 2)) 63 28)

/-- The counts of the last 1,000 ticks with a new one (R144). -/
def histAdd (h : List (Nat × Int)) (now : Nat) (k : Int) : List (Nat × Int) :=
  if k = 0 then h else (h.filter fun e => decide (now ≤ e.1 + 1000)) ++ [(now, k)]

/-- The absolute net count over the last 1,000 ticks (R144). -/
def histNet (h : List (Nat × Int)) (now : Nat) : Nat :=
  ((h.filter fun e => decide (now ≤ e.1 + 1000)).foldl (fun (x : Int) e => x + e.2) 0).natAbs

/-- An edge counts in CNT and in the net count, and the reversal sentinel judges it; an action that has stopped the unit does not
change that (R139, R143, R144; log entry 73). -/
def State.countCnt (s : State) (t : Nat) (delta : Int) : State :=
  if !(s.termOf t).ctr.run && !(s.termOf t).ctr.begun then s
  else
    let s1 := s.updTerm t fun x => { x with ctr := { x.ctr with
      since := x.ctr.since + delta, hist := histAdd x.ctr.hist s.clock.count delta } }
    if reversed (s.termOf t).ctr.arm delta then s1.revTripField t else s1

/-- The actions of a unit that counts delta: overflow, then match (R137, R138). -/
def State.unitActions (s : State) (t : Nat) (delta : Int) : List (Nat × Nat) :=
  let r := s.countTo t delta
  let link := chipTerm (tChip t) (fld (s.kcfg t) 21 18)
  (if r.2.2 then (actionOn t link (fld (s.kcfg t) 24 22)).toList else []) ++
  (if s.matches_ t r.1 r.2.1 then (actionOn t link (fld (s.kcfg t) 27 25)).toList else [])

/-- A unit takes its counted value (R136). -/
def State.countValue (s : State) (t : Nat) (delta : Int) : State :=
  let r := s.countTo t delta
  let s1 := s.updTerm t fun x => { x with ctr := { x.ctr with value := r.1 } }
  if s.chained t then s1.updTerm (t + 2) fun x => { x with ctr := { x.ctr with value := r.2.1 } } else s1

/-- One clock of a field chip's units (R138): the running ones of a list count, then come all actions. -/
def State.unitClock (s : State) (i now : Nat) (cs : List (Nat × Int)) : State :=
  let live := cs.filter fun e => (s.termOf e.1).ctr.run
  let acts := (live.map fun e => s.unitActions e.1 e.2).flatten
  let s1 := live.foldl (fun (x : State) (e : Nat × Int) => x.countValue e.1 e.2) s
  s1.forEach ((chipTerms i).filter fun u => acts.any fun a => a.1 = u) fun x u =>
    x.updTerm u fun y => { y with ctr := y.ctr.acted (actionsAt acts u) now }

/-- A field chip's units once the counts of the clock now are cs; was holds their values and run flags before it. -/
def State.clockWith (s : State) (i now : Nat) (was : List (Nat × Word × Bool)) (cs : List (Nat × Int)) : State :=
  let s0 := was.foldl (fun (x : State) (e : Nat × Word × Bool) =>
    x.updTerm e.1 fun y => { y with ctr := { y.ctr with value := e.2.1, run := e.2.2 } }) s
  (s0.unitClock i now cs).updChip i fun x => { x with clkAt := now, clkWas := was, clkCnt := cs }

/-- The values and run flags before the clock now, and the counts that it has had (R138). -/
def State.clockSoFar (s : State) (i now : Nat) : List (Nat × Word × Bool) × List (Nat × Int) :=
  let x := s.chipOf i
  if x.clkAt = now ∧ x.clkCnt ≠ [] then (x.clkWas, x.clkCnt)
  else ((chipTerms i).map fun u => (u, (s.termOf u).ctr.value, (s.termOf u).ctr.run), [])

/-- A unit counts delta in the clock now: what it has counted in the same clock, and what the chip's other units have, is judged
together (R136–R138). -/
def State.countAt (s : State) (t : Nat) (delta : Int) (now : Nat) : State :=
  let c := s.clockSoFar (tChip t) now
  s.clockWith (tChip t) now c.1 (c.2 ++ [(t, delta)])

/-- A unit counts an edge: CNT and sentinels, and while it runs its value with the overflow and match actions (R136–R139). -/
def State.countUnit (s : State) (t : Nat) (delta : Int) (now : Nat) : State := (s.countCnt t delta).countAt t delta now

/-- A count of the clock now is taken back: both phases have changed in it, which is no count (R136). -/
def State.uncount (s : State) (t : Nat) (now : Nat) : State :=
  let c := s.clockSoFar (tChip t) now
  match c.2.find? fun e => e.1 = t with
  | none => s
  | some e => (s.updTerm t fun x => { x with ctr := { x.ctr with
      since := x.ctr.since - e.2, hist := histAdd x.ctr.hist s.clock.count (-e.2) } }).clockWith (tChip t) now c.1
        (c.2.filter fun e => e.1 ≠ t)

/-- An invalid quadrature transition at the unit of terminal t (R136, R143). -/
def State.invalidTransition (s : State) (t : Nat) : State :=
  let s1 := (s.updTerm t fun x => { x with ctr := { x.ctr with stale := true } }).raiseCause t 0x10
  if (s.termOf t).ctr.arm = 0 then s1 else s1.revTripField t

/-- The direction of a step of the sequence 00 → 10 → 11 → 01 → 00, or none when nothing or both phases changed. -/
def quadStep (a b a' b' : Bool) : Int :=
  match a, b, a', b' with
  | false, false, true, false => 1
  | true, false, true, true => 1
  | true, true, false, true => 1
  | false, true, false, false => 1
  | false, false, false, true => -1
  | false, true, true, true => -1
  | true, true, true, false => -1
  | true, false, false, false => -1
  | _, _, _, _ => 0

/-- An edge is one of the selected edges of KCFG.EDGE in modes 0x1 and 0x2 (R134). -/
def selected (edge : Nat) (level : Bool) : Bool := edge = 2 || (if level then edge = 0 else edge = 1)

/-- A qualified edge of a CNT terminal reaches its counter unit (R135, R136, R140). -/
def State.countEdge (s : State) (t : Nat) (level : Bool) (stamp : Nat) : State :=
  let edge := fld (s.kcfg t) 67 66
  let c := (s.termOf t).ctr
  let lowT := if tLocal t % 2 = 1 ∧ s.kmode (t - 2) = 4 then t - 2 else t
  match s.kmode lowT with
  | 1 => if selected edge level then s.countUnit t 1 stamp else s
  | 2 =>
    if selected edge level ∧ c.run then s.updTerm t fun x => { x with ctr := { x.ctr with
        lastEdge := some stamp,
        meas := match x.ctr.lastEdge with | none => x.ctr.meas | some e => BitVec.ofNat 13 (measCode (stamp - e)) } }
    else s
  | 3 =>
    if !c.run then s
    else if level = (edge = 0 : Bool) then s.updTerm t fun x => { x with ctr := { x.ctr with lastEdge := some stamp } }
    else s.updTerm t fun x => { x with ctr := { x.ctr with
        lastEdge := none,
        meas := match x.ctr.lastEdge with | none => x.ctr.meas | some e => BitVec.ofNat 13 (measCode (stamp - e)) } }
  | 4 =>
    let a := (s.termOf lowT).tstat.qual
    let b := (s.termOf (lowT + 2)).tstat.qual
    let other := if lowT = t then lowT + 2 else lowT
    if (s.termOf other).dig.stamp = stamp ∧ !(s.termOf other).dig.fresh then (s.uncount lowT stamp).invalidTransition lowT
    else if lowT = t then s.countUnit lowT (quadStep (!level) b level b) stamp
    else s.countUnit lowT (quadStep a (!level) a level) stamp
  | _ => s

/-- TOP, CMP and PULLIN_MS of a unit of mode 0x5 (R134). -/
def State.pwmTop (s : State) (t : Nat) : Nat := fld (s.kcfg t) 63 48
def State.pwmCmp (s : State) (t : Nat) : Nat := fld (s.kcfg t) 47 32
def State.pullinMs (s : State) (t : Nat) : Nat := fld (s.kcfg t) 17 2

/-- The count of a unit of mode 0x5 in a clock (R135, R141): up from 0 to TOP and down again, one step per 10 ns; 0 while stopped. -/
def State.pwmCount (s : State) (t now : Nat) : Nat :=
  let o := (s.termOf t).out
  if o.pwm ≠ 2 then 0
  else
    let x := (now - o.pwmAt) % (2 * s.pwmTop t)
    if x ≤ s.pwmTop t then x else 2 * s.pwmTop t - x

/-- The gate of an output is enabled in a clock (R16, R141): the PWM term can only switch it off. -/
def State.gateOn (s : State) (t now : Nat) : Bool :=
  (s.termOf t).out.gate && (s.kmode t ≠ 5 || (s.termOf t).out.pwm ≠ 2 || decide (s.pwmCount t now < s.pwmCmp t))

/-- PULLIN_END (R141): PULLIN_MS after the switch-on the unit starts at 0 and gates the output from now on, while R16 holds; a dark
pulse overrides the PWM and does not stop it (R142). -/
def execPullinEnd (t : TermIx) (s : State) : Res :=
  let o := (s.termOf t.val).out
  if s.kmode t.val = 5 ∧ o.pwm = 1 ∧ (o.gate ∨ o.dark) ∧ o.onAt + 1000 * s.pullinMs t.val ≤ s.clock.count then
    done (s.updTerm t.val fun x => { x with out := { x.out with pwm := 2, pwmAt := s.t10 } })
  else done s

/-- The device state from entry to RUNNING on (R145). -/
def State.sentinelsLive (s : State) : Bool :=
  match s.dev.st with
  | .running | .holding => true
  | _ => false

/-- The net count of a sentinel's unit or port exceeds its limit (R134, R144, R148). -/
def State.overspeed (s : State) : OvsRef → Bool
  | .field t =>
    let lim := fld (s.kcfg t.val) 17 2
    (s.kmode t.val = 1 || s.kmode t.val = 4) && lim ≠ 0 && decide (lim < histNet (s.termOf t.val).ctr.hist s.clock.count)
  | .port d n =>
    let lim := fld (s.cw cECFG (8 * d.ix + n.val) 0) 67 52
    lim ≠ 0 && decide (lim < histNet (s.encOf (8 * d.ix + n.val)).hist s.clock.count)

/-- OVERSPEED_SENTINEL_TRIP (R144, R145): at a tick edge at which the net count exceeds the limit, the sentinel asserts its signal;
after a release it does so again at the next such edge. -/
def execOverspeedSentinelTrip (u : OvsRef) (s : State) : Res :=
  if !s.sentinelsLive ∨ !s.overspeed u then done s
  else match u with
  | .field t =>
    if (s.termOf t.val).ctr.ovsTrip then done s
    else settled ((s.updTerm t.val fun x => { x with ctr := { x.ctr with ovsTrip := true } }).post 0x01A4
        (nChip (tChip t.val)) 4 2)
  | .port d n =>
    if (s.encOf (8 * d.ix + n.val)).ovsTrip then done s
    else settled ((s.updEnc (8 * d.ix + n.val) fun x => { x with ovsTrip := true }).post 0x01A4
        (nEnc (8 * d.ix + n.val)) 4 4)

/-- STAT codes of R150 in the order of severity of R480. -/
def statRank (x : Nat) : Nat :=
  match x with
  | 4 => 5
  | 5 => 4
  | 3 => 3
  | 2 => 2
  | 1 => 1
  | _ => 0

/-- The more severe of two STAT codes (R480). -/
def statMax (x y : Nat) : Nat := if statRank x < statRank y then y else x

/-- A fault or delivery outcome of a port since the last capture (R480). -/
def Enc.report (e : Enc) (code : Nat) : Enc := { e with stat := statMax e.stat code }

/-- The PMODE of a port (R148). -/
def State.pmode (s : State) (i : Nat) : Nat := fld (s.cw cECFG i 0) 71 70

/-- A port's reversal sentinel asserts (R143, R145). -/
def State.revTripPort (s : State) (i : Nat) : State :=
  if (s.encOf i).revTrip then s else (s.updEnc i fun x => { x with revTrip := true }).post 0x01A4 (nEnc i) 4 3

/-- A port counts k (R143, R144, R146): its net count, the timer units that count it, and its reversal sentinel. -/
def State.portCount (s : State) (d : Side) (n : Nat) (k : Int) : State :=
  let i := 8 * d.ix + n
  let s1 := (s.updEnc i fun x => { x with hist := histAdd x.hist s.clock.count k }).stepPort d n k
  if reversed (s.encOf i).arm k then s1.revTripPort i else s1

/-- An incremental port takes one count of its X4 position (R149). -/
def State.portStep (s : State) (d : Side) (n : Nat) (k : Int) : State :=
  (s.updEnc (8 * d.ix + n) fun x => { x with pos := x.pos + BitVec.ofInt 72 k }).portCount d n k

/-- A field unit's next count: the one that brings it to its match or, with ovf, across its wrap; none when no single count does
(R137). -/
def State.unitDue (s : State) (t : Nat) (ovf : Bool) : Option Int :=
  let ks : List Int := if s.kmode t = 1 then [1] else if s.kmode t = 4 then [1, -1] else []
  ks.find? fun k => let r := s.countTo t k; if ovf then r.2.2 else s.matches_ t r.1 r.2.1

/-- In modes 0x2 and 0x3 the unit counts 10 ns steps from the edge that began the measurement (R135): the clock of the running tick
in which that time comes to v modulo 2^36, v > 0. -/
def State.timeDue (s : State) (t v : Nat) : Option Nat :=
  match (s.termOf t).ctr.lastEdge with
  | none => none
  | some e =>
    let at_ := s.t10 + (e + v + 2 ^ 36 - s.t10 % 2 ^ 36) % 2 ^ 36
    if at_ < s.t10 + 100 ∧ e < at_ then some at_ else none

/-- A field unit reaches its match or wraps (R137): by its next count, or, in modes 0x2 and 0x3, in the running tick by the running
time. -/
def State.driveUnit (s : State) (t : Nat) (ovf : Bool) : State :=
  if !(s.termOf t).ctr.run then s
  else if s.kmode t = 2 ∨ s.kmode t = 3 then
    let v := if ovf then 2 ^ 36 else fld (s.kcfg t) 63 28
    match s.timeDue t v with
    | none => s
    | some at_ => (s.updTerm t fun x => { x with ctr := { x.ctr with value := BitVec.ofNat 72 (v - 1) } }).countAt t 1 at_
  else
    match s.unitDue t ovf with
    | none => s
    | some k => s.countUnit t k s.t10

/-- A timer unit reaches a value by its source (R146): up when counting up, down when counting down. Coach clocks and ticks bring it
there within the next tick, a port by its next count, a chained unit by the overflow of the unit that it counts. -/
def State.driveTimer : Nat → State → Side → Nat → Word → Word → State
  | 0, s, _, _, _, _ => s
  | f + 1, s, d, n, up, down =>
    let u := s.timerOf (64 * d.ix + n)
    let far := (up - u.value).toNat
    let sel := s.tmrSel d n
    if !u.run then s
    else match s.tmrSrc d n with
    | 1 => if 1 ≤ far ∧ far ≤ (s.frameSt.get d).nextTick then s.elapse 1 else s
    | 2 => if far = 1 then s.elapse 1 else s
    | 3 =>
      if s.pmode (8 * d.ix + sel) ≠ 1 then s
      else if far = 1 then s.portStep d sel 1
      else if u.value - down = 1 then s.portStep d sel (-1)
      else s
    | 4 => if far = 1 then s.driveTimer f d sel (BitVec.intMin 72) (BitVec.intMax 72) else s
    | _ => s

/-- TIMER_MATCH (R137, R138, R146): the count that brings a running unit to its match value, with the match action, in its clock (log
entry 88). -/
def execTimerMatch (u : UnitRef) (s : State) : Res :=
  match u with
  | .field t => settled (s.driveUnit t.val false)
  | .timer d n => settled (s.driveTimer 64 d n.val (s.tmrMatch d n.val) (s.tmrMatch d n.val))

/-- TIMER_OVERFLOW (R137, R138, R146): the count that wraps a running unit, in either direction, with the overflow action, in its
clock (log entry 88). -/
def execTimerOverflow (u : UnitRef) (s : State) : Res :=
  match u with
  | .field t => settled (s.driveUnit t.val true)
  | .timer d n => settled (s.driveTimer 64 d n.val (BitVec.intMin 72) (BitVec.intMax 72))

/-- ENCODER_EDGE (R149): the X4 position, the sequence fault, the sentinel and the timers that count the port. -/
def execEncoderEdge (sd : Side) (n : EncIx) (a : Bool) (b : Bool) (within20ns : Bool) (s : State) : Res :=
  let i := 8 * sd.ix + n.val
  let e := s.encOf i
  let lines (x : Enc) : Enc := { x with lineA := a, lineB := b }
  if s.pmode i ≠ 1 then done (s.updEnc i lines)
  else if within20ns ∨ (a ≠ e.lineA ∧ b ≠ e.lineB) then
    let s1 := (s.updEnc i fun x => (lines x).report 5).post 0x0504 (nEnc i) 3 5
    settled (if e.arm = 0 then s1 else s1.revTripPort i)
  else
    settled ((s.updEnc i lines).portStep sd n.val (quadStep e.lineA e.lineB a b))

/-- ENCODER_LINE_FAULT (R149). -/
def execEncoderLineFault (sd : Side) (n : EncIx) (s : State) : Res :=
  let i := 8 * sd.ix + n.val
  if s.pmode i = 0 then done s
  else settled ((s.updEnc i fun x => x.report 4).post 0x0504 (nEnc i) 3 4)

/-- The engine stands at an instruction with this OP and ARG, and runs (R151, R152). -/
def Engine.at_ (g : Engine) (op arg : Nat) : Bool :=
  let w := Tab.get (0xA00000 : BitVec 24) g.prog g.slot
  g.run && !g.testing && fld w 23 20 = op && fld w 19 0 = arg

/-- Continue at the next slot; slot 63 is followed by slot 0 (R151). -/
def Engine.step (g : Engine) : Engine := { g with slot := (g.slot + 1) % 64, wait := .none }

/-- Shift sampled bits in, first sample first; the oldest bits fall off (R151). -/
def Engine.shiftIn (g : Engine) (bits : List Bool) : Engine :=
  bits.foldl (fun x b => { x with reg := x.reg * 2 + BitVec.ofNat 72 (b2n b), nbits := Nat.min 72 (x.nbits + 1) }) g

/-- Gray to binary in the low n bits (R151). -/
def grayToBin : Nat → Nat → Nat → Nat
  | 0, _, acc => acc
  | k + 1, g, acc => grayToBin k g (acc * 2 + Nat.xor (acc % 2) (g / 2 ^ k % 2))

/-- The engine of port i, which is an SSI port (R148, R480), runs and stands at an instruction. -/
def State.engineAt (s : State) (i op arg : Nat) : Bool := s.pmode i = 2 && (s.engOf i).at_ op arg

/-- Do something with an engine that stands at an instruction. -/
def State.engine1 (s : State) (sd : Side) (n : EncIx) (op arg : Nat) (f : Engine → Engine) : State :=
  if s.engineAt (8 * sd.ix + n.val) op arg then s.updEng (8 * sd.ix + n.val) f else s

/-- CLK (R151): one bit per period, the register shifts left. -/
def execClk (sd : Side) (n : EncIx) (bits : List Bool) (s : State) : Res :=
  done (s.engine1 sd n 1 bits.length fun g => (g.shiftIn bits).step)

/-- SKIP (R151). -/
def execSkip (sd : Side) (n : EncIx) (count : Nat) (s : State) : Res := done (s.engine1 sd n 2 count Engine.step)

/-- EXPECT (R151): a line that differs from ARG discards the frame, delivers FRAME_ERR and continues at slot 0. -/
def execExpect (sd : Side) (n : EncIx) (arg : Bool) (line0 : Bool) (s : State) : Res :=
  let i := 8 * sd.ix + n.val
  if !s.engineAt i 3 (b2n arg) then done s
  else if line0 = arg then done (s.updEng i Engine.step)
  else done ((s.updEng i fun g => { g with reg := 0, nbits := 0, slot := 0, wait := .none }).updEnc i fun x =>
    { x.report 3 with delTick := BitVec.ofNat 32 s.clock.count })

/-- WAIT_NS (R151, R152): the engine is RUNNING and waits. -/
def execWaitNs (sd : Side) (n : EncIx) (arg : BitVec 20) (s : State) : Res :=
  done (s.engine1 sd n 4 arg.toNat fun g => { g.step with wait := .ns })

/-- WAIT_TICK (R151): the engine goes on at the next tick edge. -/
def execWaitTick (sd : Side) (n : EncIx) (s : State) : Res :=
  done (s.engine1 sd n 5 0 fun g => { g.step with wait := .tick })

/-- WAIT_CLK (R151): listen mode, one sample per rising edge on LINE1. -/
def execWaitClk (sd : Side) (n : EncIx) (bits : List Bool) (s : State) : Res :=
  done (s.engine1 sd n 6 bits.length fun g => { (g.shiftIn bits).step with wait := .clk })

/-- GRAY (R151). -/
def execGray (sd : Side) (n : EncIx) (count : Nat) (s : State) : Res :=
  done (s.engine1 sd n 7 count fun g =>
    { g.step with reg := BitVec.ofNat 72 (g.reg.toNat / 2 ^ count * 2 ^ count + grayToBin count g.reg.toNat 0) })

/-- A difference of SSI positions as a signed value modulo 2^POS_BITS (R148). -/
def State.ssiDiff (s : State) (i : Nat) (new : Word) : Int :=
  sdiff (fld (s.cw cECFG i 0) 39 33) ((new.toNat : Int) - ((s.encOf i).pos.toNat : Int))

/-- DELIVER (R151): register and bit count go to the port as VALID and are cleared; the sentinel judges the step. -/
def execDeliver (sd : Side) (n : EncIx) (s : State) : Res :=
  let i := 8 * sd.ix + n.val
  let g := s.engOf i
  if !s.engineAt i 8 0 then done s
  else
    let s1 := (s.updEng i fun g => { g.step with reg := 0, nbits := 0 }).updEnc i fun x =>
      { x.report 1 with pos := g.reg, nbits := g.nbits, delTick := BitVec.ofNat 32 s.clock.count, seen := true }
    settled (if (s.encOf i).seen then s1.portCount sd n.val (s.ssiDiff i g.reg) else s1)

/-- JUMP (R151). -/
def execJump (sd : Side) (n : EncIx) (slot : Fin 64) (s : State) : Res :=
  done (s.engine1 sd n 9 slot.val fun g => { g with slot := slot.val, wait := .none })

/-- HALT (R151, R152): STOPPED with CLK idle. -/
def execHalt (sd : Side) (n : EncIx) (s : State) : Res :=
  done (s.engine1 sd n 10 0 fun g => { g.step with run := false })

/-- The two words of a port in the image (R150, R480). -/
def State.encWords (s : State) (i : Nat) : Word × Word :=
  let e := s.encOf i
  let m := s.pmode i
  if m = 0 then (0, 0)
  else
    let inc : Bool := m = 1
    let stat := if inc then statMax 1 e.stat else e.stat
    (e.pos, BitVec.ofNat 72 (at_ stat 68 + at_ (b2n (!inc && (s.engOf i).run)) 67 + at_ (b2n (e.arm ≠ 0)) 66 +
      at_ (b2n (e.revTrip || e.ovsTrip)) 65 + at_ (if inc then 72 else e.nbits) 58 +
      at_ (if inc then s.clock.count % 2 ^ 32 else e.delTick.toNat) 26))

/-- A program of up to 64 slots, the rest HALT, which is what an unlisted slot reads as (R151). -/
def fillProg (l : List (BitVec 24)) : Tab (BitVec 24) :=
  ((List.range 64).map fun k => (k, l.getD k 0xA00000)).filter fun e => e.2 ≠ 0xA00000

/-- The accepted load of port i takes effect (R152, R154): a running engine with bits in its register or a clock instruction in
progress delivers ABORTED, after the capture of this edge, which shows the old engine; an engine runs at an SSI port only (R480). -/
def State.applyLoad (s : State) (i : Nat) (clockInProgress : Bool) : State :=
  let g := s.engOf i
  match g.load with
  | none => s
  | some l =>
    let ssi : Bool := s.pmode i = 2
    let aborted := ssi && g.run && (1 ≤ g.nbits || clockInProgress)
    let s1 := s.updEnc i fun x =>
      let x1 := if s.clock.tick = 0 ∧ !s.clock.captured then { x with keep := some (s.encWords i), stat := 0 } else x
      if aborted then { x1.report 2 with delTick := BitVec.ofNat 32 s.clock.count } else x1
    s1.updEng i fun g => { g with
      prog := fillProg l, slot := 0, reg := 0, nbits := 0, run := ssi, wait := .none, load := none }

/-- SHIFT_LOAD_APPLY (R152, R153, R154): at the commit edge that follows the verdict a port's accepted loads take effect, on both
sides at once; whether a clock instruction is in progress at the other side's engine is a free value. -/
def execShiftLoadApply (sd : Side) (n : EncIx) (clockInProgress : Bool) (s : State) : Res :=
  if (s.engOf (8 * sd.ix + n.val)).load = none then done s
  else
    let s0 := s.toTick 0
    let s1 := s0.applyLoad (8 * sd.ix + n.val) clockInProgress
    if (s.engOf (8 * sd.other.ix + n.val)).load = none then done s1
    else done (s1.applyLoad (8 * sd.other.ix + n.val) (s1.drawNat 2 = 1)).drawn

end Sys2Proof.Machine
end

