-- ==== Sys2Proof/Machine/Operands.lean ====
section
/-! DEFINITION. The operand forms of the barrier frames: their bits in the order sent, and the checks of R86–R96. -/

namespace Sys2Proof.Machine

/-- The fields of a logic-to-field frame before its CRC, as a number of 296 bits (R88). -/
def l2fNum (type : Nat) (h : L2FHdr) (payload : Nat) : Nat :=
  type + at_ h.seq.toNat 4 + at_ h.tick.toNat 8 + at_ h.frameNo.toNat 22 + at_ h.rsv.toNat 38 + at_ payload 40

/-- The CRC of a logic-to-field frame (R87). -/
def l2fCrc (type : Nat) (h : L2FHdr) (payload : Nat) : BitVec 24 := crc24 (bitsUp 296 (l2fNum type h payload))

/-- The fields of a field-to-logic frame before its CRC (R95). -/
def f2lNum (type : Nat) (h : F2LHdr) (payload : Nat) : Nat :=
  type + at_ h.seq.toNat 4 + at_ h.qual.toNat 8 + at_ h.fsafe.toNat 24 + at_ (b2n h.cf) 40 + at_ (b2n h.plug) 41 +
  at_ (b2n h.silent) 42 + at_ h.ack.toNat 43 + at_ h.rsv.toNat 46 + at_ payload 48

/-- The CRC of a field-to-logic frame (R87). -/
def f2lCrc (type : Nat) (h : F2LHdr) (payload : Nat) : BitVec 24 := crc24 (bitsUp 296 (f2lNum type h payload))

/-- The payload number of an OUTPUT frame (R90), relative to bit 40. -/
def outputPayload (on : BitVec 16) (ao : BitVec 224) (rsv : BitVec 16) : Nat :=
  on.toNat + at_ ao.toNat 16 + at_ rsv.toNat 240
/-- The payload number of a DIAG_REQ frame (R101). -/
def diagReqPayload (id : BitVec 16) (part : Byte) (rsv : BitVec 232) : Nat :=
  id.toNat + at_ part.toNat 16 + at_ rsv.toNat 24
/-- The payload number of a CONFIG frame (R92). -/
def cfgNum (p : CfgPayload) : Nat :=
  p.obj.toNat + at_ p.index.toNat 8 + at_ (b2n p.word) 16 + at_ (b2n p.bank) 17 + at_ p.rsvLo.toNat 18 +
  at_ p.value.toNat 24 + at_ p.rsvHi.toNat 96
/-- The payload number of a COMMAND frame (R93). -/
def cmdNum (p : CmdPayload) (cmd : Nat) : Nat :=
  cmd + at_ p.arg.toNat 8 + at_ p.frameNo.toNat 16 + at_ p.rsv.toNat 32
/-- The payload number of an ECHO frame (R367). -/
def echoPayload (pattern : BitVec 248) : Nat := 1 + at_ pattern.toNat 8

/-- The type of a logic-to-field frame is defined for the tick: OUTPUT from tick C on, the others before (R86, R89). -/
def Clock.l2fTick (c : Clock) (type : Nat) : Bool := if type = 2 then c.cdl ≤ c.tick else c.tick < c.cdl

/-- The type of a field-to-logic frame is defined for the tick (R86, R96). -/
def Clock.f2lTick (c : Clock) (type : Nat) : Bool :=
  match type with
  | 1 => c.tick = 0
  | 2 => c.tick = 1
  | _ => 2 ≤ c.tick

/-- SEQ of a logic-to-field frame is correct (R86). -/
def Chip.seqOk (x : Chip) (seq : BitVec 4) : Bool :=
  x.prevBad || (match x.seq with | none => true | some p => seq = p + 1)

/-- A logic-to-field frame is valid (R86, R88); payOk says that its payload's reserved fields and codes are. -/
def State.l2fOk (s : State) (i type : Nat) (h : L2FHdr) (payload : Nat) (payOk : Bool) : Bool :=
  h.crc = l2fCrc type h payload && s.clock.l2fTick type && (s.chipOf i).seqOk h.seq && h.rsv = 0 && payOk

/-- A field-to-logic frame is valid (R86, R95): SEQ echoes the tick count that the side sent in this tick (R88). -/
def State.f2lOk (s : State) (type : Nat) (h : F2LHdr) (payload : Nat) (payOk : Bool) : Bool :=
  h.crc = f2lCrc type h payload && s.clock.f2lTick type && h.seq.toNat = s.clock.count % 16 && h.rsv = 0 && payOk

end Sys2Proof.Machine
end

