-- ==== Sys2Proof/Machine/Frames.lean ====
section
/-! DEFINITION. The barrier (spec/04): frames in both directions, loss and return of a field chip, trip lanes, hold lane,
pair lane. -/

namespace Sys2Proof.Machine

/-- An invalid logic-to-field frame is discarded and counted, recorded and reported; the barrier test starts
(R86, R103, R365). -/
def State.l2fBad (s : State) (i : Nat) : State :=
  let n := (s.chipOf i).badIn + 1
  let s1 := s.updChip i fun x => { x with badIn := n, prevBad := true, ack := 0 }
  let s2 := s1.chipCause i 0x80 0x1F n
  (s2.post 0x0201 (nBarrier i) 2 (n % 2 ^ 27)).startTest (nBarrier i) tcBarrier

/-- A valid logic-to-field frame: SEQ, and the end of the silence safe state (R86, R110). -/
def Chip.accept (x : Chip) (seq : BitVec 4) : Chip := { x with seq := some seq, prevBad := false, silent := false, ack := 0 }

/-- A logic-to-field frame arrives: discard it, or accept it and do what it says. -/
def State.l2f (s : State) (i type : Nat) (h : L2FHdr) (payload : Nat) (payOk : Bool) (f : State → State) : State :=
  if s.l2fOk i type h payload payOk then f (s.updChip i fun x => x.accept h.seq) else s.l2fBad i

/-- KEEPALIVE (R89). -/
def execKeepalive (chip : ChipIx) (h : L2FHdr) (payload : BitVec 256) (s : State) : Res :=
  settled (s.l2f chip.val 1 h payload.toNat true id)

/-- OUTPUT (R90, R91): the frame is the copy for the next commit when it names the running frame. -/
def execOutput (chip : ChipIx) (h : L2FHdr) (on : BitVec 16) (ao : BitVec 224) (rsv : BitVec 16) (s : State) : Res :=
  settled (s.l2f chip.val 2 h (outputPayload on ao rsv) (rsv = 0) fun s1 =>
    if h.frameNo.toNat = s.clock.frame.toNat % 2 ^ 16 then
      s1.updChip chip.val fun x => { x with copy := some (h.frameNo, on, ao) }
    else s1)

/-- CF (R100): the buffer holds a record that the logic has not acknowledged. -/
def Chip.cf (x : Chip) : Bool := x.diag ≠ []

/-- A diagnosis record as a word (R103). -/
def DiagRec.word (r : DiagRec) : Nat := at_ r.cause.toNat 64 + at_ r.src.toNat 59 + at_ (r.count % 2 ^ 27) 32 + r.tick.toNat

/-- The payload of the DIAG frame that answers a part request (R101): DIAG_ID, PART, NPARTS and three records of the snapshot. -/
def Chip.diagPayload (x : Chip) (part : Nat) : BitVec 248 :=
  match x.snap with
  | none => 0
  | some (id, recs) =>
    BitVec.ofNat 248 (id.toNat + at_ part 16 + at_ ((recs.length + 2) / 3) 24 +
      ((List.range 3).map fun k => at_ ((recs[3 * part + k]?.map DiagRec.word).getD 0) (72 * k + 32)).sum)

/-- The words of the next STREAM frame (R98): up to three of one record of the terminal that waits longest. -/
def Chip.streamNext (x : Chip) : List (Nat × Word × Bool) :=
  match x.waiting with
  | [] => []
  | e :: r => e :: (r.takeWhile fun q => q.1 = e.1 && !q.2.2).take 2

/-- TYPE and PAYLOAD that a field chip sends from tick 2 on (R93, R96, R98, R101, R367): DIAG while an answer is outstanding, else
STREAM while words wait, else IDLE with an echo or a bank's CRC. -/
def Chip.sends (x : Chip) : Nat × BitVec 248 :=
  match x.reply, x.streamNext with
  | some p, _ => (3, p)
  | none, e :: r => (4, BitVec.ofNat 248 (e.1 + at_ (b2n e.2.2) 4 + at_ (r.length + 1) 5 +
      ((e :: r).zipIdx.map fun q => at_ q.1.2.1.toNat (72 * q.2 + 32)).sum))
  | none, [] => (5, match x.echo with
    | some p => p
    | none => BitVec.ofNat 248 (match x.crcReply with | none => 0 | some c => c.toNat))

/-- Records that a snapshot holds are dropped on acknowledgement (R101; one whose COUNT has risen since goes whole, log entry
86). -/
def Chip.ackDiag (x : Chip) (id : BitVec 16) : Chip :=
  match x.snap with
  | none => x
  | some (sid, recs) =>
    if sid = id then
      { x with snap := none, diag := x.diag.filter fun r => !(recs.any fun q => q.cause = r.cause && q.src = r.src) }
    else x

/-- DIAG_REQ (R101): snapshot, part request, acknowledgement. -/
def execDiagReq (chip : ChipIx) (h : L2FHdr) (id : BitVec 16) (part : Byte) (rsv : BitVec 232) (s : State) : Res :=
  settled (s.l2f chip.val 3 h (diagReqPayload id part rsv) (rsv = 0 && (part.toNat ≤ 10 || part = 0xFF)) fun s1 =>
    let s2 := s1.updView chip.val fun v => { v with
      diagId := id, nextPart := if part = 0xFF then none else some part,
      records := if part = 0 then [] else v.records }
    s2.updChip chip.val fun x =>
      if part = 0xFF then { x.ackDiag id with reply := none }
      else
        let y := if part = 0 then { x with snap := some (id, x.diag), part := part } else { x with part := part }
        { y with reply := some (y.diagPayload part.toNat) })

/-- A calibration or a test of a terminal runs (R94 busy). -/
def State.termBusy (s : State) (t : Nat) : Bool :=
  (s.termOf t).ana.cal.isSome || (s.termOf t).ana.calRun ||
  (s.tests.find (nFront t) tcFront).isSome || (s.tests.find (nFront t) tcConv).isSome

/-- The class of the words of a CONFIG object, for its Reserved bits. -/
def objClass (obj : Nat) : Nat :=
  if obj = oCCFG then cCCFG else if obj = oTIN then cTIN else if obj = oTOUT then cTOUT else if obj = oACFG then cACFG
  else if obj = oKCFG then cKCFG else if obj = oWCFG then cWCFG else if obj = oSCFG then cSCFG
  else if obj = oLTERM then cLTERM else if obj = oLEXP then cLEXP else 0

/-- A CONFIG VALUE that a field chip takes (R94): no Reserved bit set and no reserved code of MODE, DI_TYPE, KMODE or SEL; TCAL
words are judged when they take effect (R118). Which VALUEs are refused is the model's reading (log entry 85). -/
def cfgValueOk (obj w : Nat) (v : Word) : Bool :=
  v &&& ~~~(cfgMask (objClass obj) w) = 0 &&
  (obj ≠ oCCFG || fld v 71 68 < 8) && (obj ≠ oTIN || fld v 23 22 ≠ 3) && (obj ≠ oKCFG || fld v 71 68 ≤ 6) &&
  (obj ≠ oLEXP || (fld v 57 56 = 0 && fld v 63 60 = 0))

/-- Every word that CONFIG carries, in ascending OBJ, INDEX and WORD order (R93). -/
def bankOrder : List (Nat × Nat × Nat) :=
  ((List.range 7).map fun o => (List.range 16).map fun c => (o + 1, c, 0)).flatten ++ [(oWCFG, 0, 0), (oSCFG, 0, 0)] ++
  ((List.range 256).map fun k => [(oLTERM, k, 0), (oLTERM, k, 1)]).flatten ++ [(oLEXP, 0, 0), (oLEXP, 1, 0)]

/-- The CRC-32C of a bank (R93, R310). -/
def bankCrc32 (b : Tab Word) : BitVec 32 :=
  crc32c ((bankOrder.map fun e => wordBytes (bankWord b e.1 e.2.1 e.2.2)).flatten)

/-- The shadow bank may be switched to (R92): after a switch it has been loaded anew. -/
def Chip.mayswitch (x : Chip) : Bool := !x.spent || bankOrder.all fun e => x.filled.contains (bankKey e.1 e.2.1 e.2.2)

/-- The answer to a CONFIG frame (R92, R94): 1 accepted, 2 refused, 3 busy. BANK is no field of BANK_SWITCH (log entry 86). -/
def State.cfgAnswer (s : State) (i : Nat) (p : CfgPayload) : BitVec 3 :=
  let o := p.obj.toNat
  let idxOk := if o ≤ 7 then p.index.toNat < 16 else if o = oLTERM then true
    else if o = oLEXP then p.index.toNat < 2 else p.index = 0
  if !idxOk || (p.word && o ≠ oLTERM) then 2
  else if o = 0x0C then (if fld p.value 71 16 = 0 && (s.chipOf i).mayswitch then 1 else 2)
  else if !cfgValueOk o (b2n p.word) p.value then 2
  else if !p.bank && s.dev.st ≠ .loading then 2
  else if o ≤ 7 && s.termBusy (chipTerm i p.index.toNat) then 3
  else 1

/-- A valid CONFIG frame's word goes to its bank, or the bank switch is arranged (R92). -/
def Chip.cfgWord (x : Chip) (p : CfgPayload) : Chip :=
  if p.obj = 0x0C then { x with switchAt := some (p.value.setWidth 16) }
  else
    let k := bankKey p.obj.toNat p.index.toNat (b2n p.word)
    if p.bank then { x with shadow := Tab.set 0 x.shadow k p.value, filled := if x.spent then k :: x.filled else x.filled }
    else { x with active := Tab.set 0 x.active k p.value }

/-- Eight sends of a frame have had no valid answer: the barrier test starts (R94). -/
def State.giveUp (s : State) (i : Nat) : State :=
  if 8 ≤ (s.viewOf i).unanswered then
    (s.updView i fun v => { v with unanswered := 0, req := none }).startTest (nBarrier i) tcBarrier
  else s

/-- A side sends a CONFIG or COMMAND frame (R94): the sends of one frame without a valid answer are counted. -/
def State.sendReq (s : State) (i type payload : Nat) : State :=
  let s1 := if (s.viewOf i).awaiting then s.giveUp i else s
  s1.updView i fun v => { v with
    awaiting := true, req := some (type, payload)
    unanswered := if v.req = some (type, payload) then v.unanswered + 1 else 1 }

/-- A side keeps what it sends to the shadow bank (R94); a CRC returned before no longer tells anything of it. -/
def View.sendWord (v : View) (p : CfgPayload) : View :=
  if p.bank ∧ p.obj ≠ 0x0C then
    { v with sentBank := Tab.set 0 v.sentBank (bankKey p.obj.toNat p.index.toNat (b2n p.word)) p.value, shadowCrc := none }
  else v

/-- Two's complement of a 4-bit code (R412). -/
def nib (v : Nat) : Int := if 8 ≤ v then (v : Int) - 16 else v

/-- The factory TCAL of a trim byte (R412). -/
def factoryCal (byte day : Nat) : Word :=
  let w := BitVec.ofNat 72 (at_ (524288 + 1024 * nib (byte % 16)).toNat 52 + at_ (encInt 18 (64 * nib (byte / 16))) 34 + at_ day 18)
  w ||| (crc16Word w).setWidth 72

/-- A field-calibration record is used (R118): CHK checks, SRC is 0b01, GAIN and OFFSET are valid (R117). -/
def calOk (w : Word) : Bool :=
  fld w 15 0 = (crc16Word w).toNat && fld w 17 16 = 1 && 513803 ≤ fld w 71 52 && fld w 71 52 ≤ 534773 &&
  decide (-1000 ≤ sfld w 51 34) && decide (sfld w 51 34 ≤ 1000)

/-- The factory trim of a path of a terminal (R117, R412), when its OTP region is valid; a blank region is none (log entry 87). -/
def State.trimFor (s : State) (t : Nat) (voltage : Bool) : Option Word :=
  let d := tSide t
  if s.region d (if voltage then 6 else 5) ≠ .valid then none
  else
    let o := if voltage then 3208 + 8 * tWagon t else 1672 + 8 * tChan t
    some (factoryCal (s.otpFld d (o + 7) o) (s.otpFld d 183 168))

/-- The calibration of one path of a terminal from a record (R118, R412): the record, else the factory trim. -/
def State.calOf (s : State) (t : Nat) (voltage : Bool) (w : Word) : Option Word :=
  if calOk w then some w else s.trimFor t voltage

/-- A terminal takes its calibration from two records (R118): each path's word, the event of factory trim, and cause 0x0A for a path
with neither. -/
def State.calUse (s : State) (t : Nat) (wi wv : Word) : State :=
  let i := s.calOf t false wi
  let v := s.calOf t true wv
  let s1 := s.updTerm t fun x => { x with ana := { x.ana with tcalI := i.getD 0, tcalV := v.getD 0 } }
  let s2 := if calOk wi ∧ calOk wv then s1 else s1.post 0x01A3 (nTerm t) 1 0
  if i.isNone ∨ v.isNone then s2.raiseCause t 0x0A else s2

/-- The record of a path in force (R117): the reset value is the factory trim, until LOADING has set the word. -/
def State.tcal (s : State) (t : Nat) (voltage : Bool) : Word :=
  let w := if voltage then (s.termOf t).ana.tcalV else (s.termOf t).ana.tcalI
  if w = 0 then (s.trimFor t voltage).getD 0 else w

/-- Round a quotient to the nearest integer, halves away from zero (R116). -/
def roundDiv (a b : Int) : Int :=
  let m := (2 * a.natAbs + b.natAbs) / (2 * b.natAbs)
  if (a < 0) = (b < 0) then m else -(m : Int)

/-- The correction of a raw code by a record (R116), before it saturates. -/
def correct (w : Word) (raw : Int) : Int := roundDiv ((raw - sfld w 51 34) * (fld w 71 52 : Int)) (2 ^ 19)

/-- The primary quantity of a terminal is its voltage (R113): in every mode but AI and AO. -/
def State.primaryV (s : State) (t : Nat) : Bool := s.mode (tChan t) ≠ mAI && s.mode (tChan t) ≠ mAO

/-- The saturation of a result (R115): ±125,000 codes of current, 0 to 128,000 codes of voltage. -/
def satCode (voltage : Bool) (v : Int) : Int := if voltage then satInt 0 128000 v else satInt (-125000) 125000 v

/-- The converter of a terminal is occupied by a calibration or by a requested test, which runs as one (R130, R376). -/
def State.occupied (s : State) (t : Nat) : Bool :=
  (s.termOf t).ana.calRun || ((s.tests.find (nFront t) tcConv).map fun (q : Test) => q.requested) = some true

/-- The terminal's sample is the invalid marker (R115, R365): in calibration, under its converter's test, with an open loop flagged,
with a retired converter. -/
def State.noSample (s : State) (t : Nat) : Bool :=
  (s.termOf t).ana.calRun || (s.tests.find (nFront t) tcConv).isSome || (s.termOf t).ana.open_ || s.isRetired (nFront t) tcConv

/-- A raw result of a terminal's converter, corrected and saturated (R115, R116); the marker when the conversion failed. -/
def State.converted (s : State) (t : Nat) (raw : BitVec 18) : BitVec 18 :=
  if raw = 0x20000 ∨ s.noSample t then 0x20000
  else BitVec.ofInt 18 (satCode (s.primaryV t) (correct (s.tcal t (s.primaryV t)) raw.toInt))

/-- The SAMPLE that the image takes from a capture frame (R115): codes that are never produced count as saturated, and a terminal
without a sample has the marker. -/
def State.imageSample (s : State) (t : Nat) (code : BitVec 18) : BitVec 18 :=
  if code = 0x20000 ∨ s.noSample t then 0x20000 else BitVec.ofInt 18 (satCode (s.primaryV t) code.toInt)

/-- A CONFIG frame (R92, R94): its payload is well formed when OBJ is defined and the reserved fields are zero. A calibration record
for the active bank takes effect (R118). -/
def State.configFrame (s : State) (i : Nat) (h : L2FHdr) (p : CfgPayload) : State :=
  ((s.sendReq i 4 (cfgNum p)).updView i fun v => v.sendWord p).l2f i 4 h (cfgNum p)
    (1 ≤ p.obj.toNat && p.obj.toNat ≤ 0x0C && p.rsvLo = 0 && p.rsvHi = 0) fun s1 =>
    let a := s.cfgAnswer i p
    let s2 := s1.updChip i fun x => { (if a = 1 then x.cfgWord p else x) with ack := a }
    let c := p.index.toNat
    if a = 1 ∧ p.bank = false ∧ (p.obj.toNat = oTCALI ∨ p.obj.toNat = oTCALV) then
      let b := (s2.chipOf i).active
      s2.calUse (chipTerm i c) (bankWord b oTCALI c 0) (bankWord b oTCALV c 0)
    else s2

/-- CONFIG (R92). -/
def execConfig (chip : ChipIx) (h : L2FHdr) (p : CfgPayload) (s : State) : Res := settled (s.configFrame chip.val h p)

/-- BANK_SWITCH (R92, R94): a CONFIG frame with OBJ 0x0C, sent once the shadow bank's CRC, asked for after the last word, agrees with
the words sent; when it differs, the side loads the bank again. -/
def execBankSwitch (chip : ChipIx) (h : L2FHdr) (p : CfgPayload) (s : State) : Res :=
  let v := s.viewOf chip.val
  match v.shadowCrc with
  | none => settled s
  | some c =>
    if c = bankCrc32 v.sentBank then settled (s.configFrame chip.val h { p with obj := 0x0C })
    else settled (s.updView chip.val fun v => { v with sentBank := [], shadowCrc := none })

/-- A COMMAND frame (R93, R94): answer, and the effect when it is accepted. -/
def State.commandFrame (s : State) (i cmd : Nat) (h : L2FHdr) (p : CmdPayload) (formOk : Bool) (answer : BitVec 3)
    (f : State → State) : State :=
  (s.sendReq i 5 (cmdNum p cmd)).l2f i 5 h (cmdNum p cmd) (formOk && p.rsv = 0) fun s1 =>
    let s2 := s1.updChip i fun x => { x with ack := answer }
    if answer = 1 then f s2 else s2

/-- Local channel of a command's ARG (R93). -/
def cmdLocal (p : CmdPayload) : Nat := fld p.arg 3 0

/-- BARRIER_ECHO (R367): the pattern is repeated in the IDLE frame of the next tick. -/
def execBarrierEcho (chip : ChipIx) (h : L2FHdr) (pattern : BitVec 248) (s : State) : Res :=
  settled ((s.sendReq chip.val 5 (echoPayload pattern)).l2f chip.val 5 h (echoPayload pattern) true fun s1 =>
    s1.updChip chip.val fun x => { x with echo := some pattern, ack := 1 })

/-- SENT_ARM (R93, R145): refused for a direction that KCFG.SENT does not permit, or a channel without quadrature. -/
def execSentArm (chip : ChipIx) (h : L2FHdr) (p : CmdPayload) (s : State) : Res :=
  let t := chipTerm chip.val (cmdLocal p)
  let dir := fld p.arg 5 4
  let ok := fld p.arg 7 6 = 0 && s.kmode t = 4 && (dir = 0 || (fld (s.kcfg t) 65 64) / dir % 2 = 1)
  settled (s.commandFrame chip.val 0x02 h p (dir ≠ 3) (if ok then 1 else 2) fun s1 =>
    s1.updTerm t fun x => { x with ctr := { x.ctr with armPend := some (p.frameNo, BitVec.ofNat 2 dir) } })

/-- CAL_START (R93, R130): the phases start at the commit of FRAME_NO. -/
def execCalStart (chip : ChipIx) (h : L2FHdr) (p : CmdPayload) (s : State) : Res :=
  let t := chipTerm chip.val (cmdLocal p)
  settled (s.commandFrame chip.val 0x03 h p true
    (if fld p.arg 7 4 ≠ 0 then 2 else if s.termBusy t then 3 else 1) fun s1 =>
    s1.updTerm t fun x => { x with ana := { x.ana with cal := some p.frameNo } })

/-- CAL_ABORT (R93, R132). -/
def execCalAbort (chip : ChipIx) (h : L2FHdr) (p : CmdPayload) (s : State) : Res :=
  settled (s.commandFrame chip.val 0x04 h p true (if fld p.arg 7 4 ≠ 0 then 2 else 1) fun s1 =>
    s1.calAbort (chipTerm chip.val (cmdLocal p)))

/-- INJECT (R93, R365): the front-end injection test of the channel runs. -/
def execInject (chip : ChipIx) (h : L2FHdr) (p : CmdPayload) (s : State) : Res :=
  let c := (cmdLocal p)
  settled (s.commandFrame chip.val 0x05 h p true
    (if fld p.arg 7 4 ≠ 0 then 2 else if bit (s.chipOf chip.val).injTest c || (s.termOf (chipTerm chip.val c)).ana.calRun
      then 3 else 1) fun s1 => s1.updChip chip.val fun x => { x with injTest := setBit x.injTest c true })

/-- REF_CHECK (R93, R365): the reference check of all 16 converters runs. -/
def execRefCheck (chip : ChipIx) (h : L2FHdr) (p : CmdPayload) (s : State) : Res :=
  settled (s.commandFrame chip.val 0x06 h p true
    (if fld p.arg 7 1 ≠ 0 then 2 else if (chipTerms chip.val).any fun t => (s.termOf t).ana.calRun then 3 else 1)
    fun s1 => s1.updChip chip.val fun x => { x with refTest := 1 + fld p.arg 0 0 })

/-- LAT_TEST (R93, R170): every enabled target is tested at its next dark pulse. -/
def execLatTest (chip : ChipIx) (h : L2FHdr) (p : CmdPayload) (s : State) : Res :=
  settled (s.commandFrame chip.val 0x07 h p true (if p.arg ≠ 0 then 2 else 1) fun s1 =>
    s1.updChip chip.val fun x => { x with latTest := true })

/-- An enabled term of a target of a field chip reads a signal (R160). -/
def State.targetUses (s : State) (i tg n : Nat) : Bool :=
  (List.range 8).any fun j =>
    let w := bankWord (s.chipOf i).active oLTERM (8 * tg + j) 0
    bit w 71 && bit w n

/-- The terminals that TRIPDk_N of a field chip can disable: its own, and through the pair lane the other chip's (R159). -/
def State.downTerms (s : State) (i k : Nat) : List Nat :=
  (((List.range 16).filter fun c => s.targetUses i c (56 + k)).map (chipTerm i)) ++
  (((List.range 16).filter fun c => s.targetUses i (16 + c) (56 + k)).map (chipTerm (chipOther i)))

/-- An enabled term of a trip group reads a side signal (R164). -/
def State.groupUses (s : State) (d : Side) (g n : Nat) : Bool :=
  let word := s.cw cGROUP (24 * d.ix + g)
  (List.range 64).any fun l =>
    decide (fld (word (l / 8)) (8 * (l % 8) + 7) (8 * (l % 8)) = n) &&
    ((List.range 8).any fun j => bit (word (8 + 2 * j)) 71 && bit (word (8 + 2 * j)) l)

/-- The terminals that TRIPUk_N of a field chip can disable: those of the groups that read it (R164). -/
def State.upTerms (s : State) (i k : Nat) : List Nat :=
  let d := Side.ofIx i
  (((List.range 24).filter fun g => s.groupUses d g (2 * (i / 2) + k)).map fun g => s.downTerms (2 * (g / 2) + d.ix) (g % 2)).flatten

/-- Every terminal that a line or lane can disable is committed off (R173): 0–15 a pair-lane line, 16–17 an up lane, 18–19 a down
lane, 20 the hold lane. -/
def State.atRest (s : State) (i item : Nat) : Bool :=
  let ts := if item < 16 then [chipTerm (chipOther i) item] else if item < 18 then s.upTerms i (item - 16)
    else if item < 20 then s.downTerms i (item - 18) else chipTerms i
  ts.all fun t => !(s.termOf t).out.on

/-- A line or lane is stopped for real, so that its at-rest test does not run (R174). -/
def State.laneStopped (s : State) (i item : Nat) : Bool :=
  if item < 16 then s.pairLow (chipOther i) item else if item < 18 then s.tripUp i (item - 16) else s.tripDown i (item - 18)

/-- A pair-lane line of a field chip has a fault (R106, R176): cause 0x12 at the terminal that it feeds. -/
def State.pairFault (s : State) (i c : Nat) : State :=
  (s.updLanes i fun l => { l with
    pairCut := setBit l.pairCut c true, pairBad := setBit l.pairBad c true, pairAt := Tab.set 0 l.pairAt c s.clock.count }).raiseCause
    (chipTerm i c) 0x12

/-- An at-rest test passes (R173). -/
def State.restPassed (s : State) (i item : Nat) : State :=
  s.updLanes i fun l => { l with restAt := Tab.set 0 l.restAt item s.clock.count }

/-- An at-rest test ends (R173, R174, R176): a pass counts from now, a failure is a fault of the line, or of the barrier's lane; one
that a real stop met has not run. -/
def State.restTest (s : State) (i item : Nat) (r : RestResult) : State :=
  if s.laneStopped i item then s
  else match r with
  | .pass => s.restPassed i item
  | .fail =>
    if item < 16 then (s.chipCause i 0x83 item 1).pairFault (chipOther i) item
    else s.startTest (nBarrier i) tcBarrier
  | .notRun => s

/-- REST_TEST (R93, R173): the at-rest test of a pair-lane line or of an up lane. -/
def execRestTest (chip : ChipIx) (h : L2FHdr) (p : CmdPayload) (result : RestResult) (s : State) : Res :=
  let item := fld p.arg 4 0
  settled (s.commandFrame chip.val 0x08 h p (item < 18)
    (if fld p.arg 7 5 ≠ 0 ∨ !s.atRest chip.val item then 2 else 1) fun s1 => s1.restTest chip.val item result)

/-- The word that LOADING sends for a bank word of a field chip (R92, R168, R355). -/
def State.bankSource (s : State) (i : Nat) (obj idx w : Nat) : Word :=
  let t := chipTerm i idx
  if obj = oCCFG then s.cw cCCFG (tChan t) 0
  else if obj = oTIN then s.cw cTIN t 0
  else if obj = oTOUT then s.cw cTOUT t 0
  else if obj = oACFG then s.cw cACFG (tChan t) 0
  else if obj = oKCFG then s.cw cKCFG t 0
  else if obj = oTCALI then (s.termOf t).ana.tcalI
  else if obj = oTCALV then (s.termOf t).ana.tcalV
  else if obj = oWCFG then s.cw cWCFG (i / 2) 0
  else if obj = oSCFG then s.cw cSCFG (i / 2) 0
  else if obj = oLTERM then s.cw cLTERM (i * 256 + idx) w
  else s.cw cLEXP (i * 2 + idx) 0

/-- The whole bank of a field chip from the configuration in force. -/
def State.chipBank (s : State) (i : Nat) : Tab Word :=
  bankOrder.foldl (fun (b : Tab Word) (e : Nat × Nat × Nat) =>
    Tab.set 0 b (bankKey e.1 e.2.1 e.2.2) (s.bankSource i e.1 e.2.1 e.2.2)) []

/-- BANK_CRC (R93): the CRC goes into the IDLE frame of the next tick. -/
def execBankCrc (chip : ChipIx) (h : L2FHdr) (p : CmdPayload) (s : State) : Res :=
  settled (s.commandFrame chip.val 0x09 h p true (if fld p.arg 7 1 ≠ 0 then 2 else 1) fun s1 =>
    (s1.updView chip.val fun v => { v with crcShadow := bit p.arg 0 }).updChip chip.val fun x => { x with
      crcReply := some (bankCrc32 (if fld p.arg 0 0 = 1 then x.shadow else x.active)) })

/-- A counter fault ends and the unit restarts from 0 (R473). -/
def State.counterRelease (s : State) (t : Nat) : State :=
  if (s.termOf t).tstat.causes.getLsbD 0x10 then
    let s1 := s.updTerm t fun x => { x with ctr := { x.ctr with
      value := 0, since := 0, hist := [], stale := false, lastEdge := none, meas := 0, run := true, begun := true } }
    let high (x : Terminal) : Terminal := if s.kmode (t + 2) = 6 then { x with ctr := { x.ctr with value := 0 } } else x
    ((s1.updTerm (t + 2) high).updChip (tChip t) fun x => { x with clkCnt := [] }).lowerCause t 0x10
  else s

/-- FORCE_REL (R60, R473): the release of a chatter force may begin from this tick edge; a counter fault ends. -/
def execForceRel (chip : ChipIx) (h : L2FHdr) (p : CmdPayload) (s : State) : Res :=
  let t := chipTerm chip.val (cmdLocal p)
  settled (s.commandFrame chip.val 0x0A h p true (if fld p.arg 7 4 ≠ 0 then 2 else 1) fun s1 =>
    (s1.updTerm t fun x => { x with dig := { x.dig with relAt := some s1.clock.count } }).counterRelease t)

/-- OVS_REL (R93, R145): the overspeed sentinel is released at the commit of FRAME_NO. -/
def execOvsRel (chip : ChipIx) (h : L2FHdr) (p : CmdPayload) (s : State) : Res :=
  settled (s.commandFrame chip.val 0x0B h p true (if fld p.arg 7 4 ≠ 0 then 2 else 1) fun s1 =>
    s1.updTerm (chipTerm chip.val (cmdLocal p)) fun x => { x with ctr := { x.ctr with ovsPend := some p.frameNo } })

/-- A fault cause arises in the running frame's image (R99, R250). -/
def Fn.faultInFrame (x : Fn) (cause detail : Byte) (term : Nat) : Fn := { x with cur := x.cur ++ [(cause, detail, term)] }

/-- A side declares a field chip lost (R23, R107): its event, and the hold of the other chip of the wagon. One that is lost already
has its return to earn anew (R111). -/
def State.chipLost (s : State) (i : Nat) : State :=
  if (s.viewOf i).lost then s.updView i fun v => { v with returnAt := none }
  else
    let s1 := s.updView i fun v => { v with lost := true, lostAt := s.clock.count, returnAt := none, seen := false }
    let s2 := s1.updLanes (chipOther i) fun l => { l with otherLost := true }
    let s3 := s2.updChip (chipOther i) fun x => { x with safe := true }
    (s3.postL 0x0202 (nChip i) 3 (fld (s.cw cWCFG (i / 2) 0) 71 62) true).settle

/-- The test of a field chip's lattice half starts (R365): every target whose output is on is seen at its next dark pulse. -/
def State.startHalf (s : State) (i : Nat) : State :=
  let left := (List.range 16).foldl (fun (m : BitVec 16) c => setBit m c (s.termOf (chipTerm i c)).out.gate) 0
  (s.updChip i fun x => { x with halfLeft := left }).startTest (nChip i) tcHalf

/-- The test of a lattice half ends (R365, R176): a transient ends the holds of R169 and R170, those of the other chip's terminals
with them; a lasting verdict retires the field chip, which is lost. -/
def State.halfDone (s : State) (i : Nat) (pass : Bool) : State :=
  let e := s.testEnd (nChip i) tcHalf pass
  let s1 := s.endTest (nChip i) tcHalf pass
  match e with
  | .transient => ((s1.updLanes i fun l => { l with latHold := 0 }).updLanes (chipOther i) fun l => { l with pairHold := 0 }).updChip i
      fun x => { x with badTargets := 0, badExports := 0, halfLeft := 0 }
  | .lasting => s1.chipLost i
  | _ => s1

/-- A target is tested at a dark pulse while the half is under test (R170, R365). -/
def State.halfSeen (s : State) (i c : Nat) (seen : Bool) : State :=
  if (s.tests.find (nChip i) tcHalf).isNone then s
  else if !seen then s.halfDone i false
  else
    let left := setBit (s.chipOf i).halfLeft c false
    let s1 := s.updChip i fun x => { x with halfLeft := left }
    if left = 0 then s1.halfDone i true else s1

/-- The frame of a tick brings no valid answer to the one sent before (R94): the side resends it, and gives up after eight sends. -/
def State.noAnswer (s : State) (i : Nat) : State :=
  if (s.viewOf i).awaiting then (s.updView i fun v => { v with awaiting := false }).giveUp i else s

/-- The answer to an echo has come, or is invalid (R367): it counts while the barrier is tested. -/
def State.echoed (s : State) (i : Nat) (bad : Bool) : State :=
  if (s.chipOf i).echo.isNone then s
  else
    let s1 := s.updChip i fun y => { y with echo := none }
    if (s.tests.find (nBarrier i) tcBarrier).isNone then s1
    else s1.updView i fun v => { v with echoRun := v.echoRun + 1, echoBad := v.echoBad + b2n bad }

/-- An invalid field-to-logic frame is discarded and counted; the barrier test starts (R86). A lost chip has its return to earn anew
(R111). -/
def State.f2lBad (s : State) (i : Nat) : State :=
  let n := (s.viewOf i).badIn + 1
  ((((s.echoed i true).updView i fun v => { v with badIn := n, returnAt := none }).post 0x0201 (nBarrier i) 2 (2 ^ 27 + n % 2 ^ 27)).startTest
    (nBarrier i) tcBarrier).noAnswer i

/-- The answer to the CONFIG or COMMAND frame sent in the tick before (R94). -/
def View.answer (v : View) (ack : BitVec 3) : View :=
  if v.awaiting ∧ (ack = 1 ∨ ack = 2 ∨ ack = 3) then { v with awaiting := false, unanswered := 0, req := none } else v

/-- What the side takes from the header of a valid frame (R95, R102, R126). -/
def View.header (v : View) (h : F2LHdr) : View :=
  { (v.answer h.ack) with
    fsafeNow := h.fsafe, cf := h.cf, plug := h.plug,
    nextPart := if h.cf && v.nextPart.isNone then some 0 else v.nextPart }

/-- The last frame sent was a CONFIG frame (R94). -/
def View.sentConfig (v : View) : Bool := v.awaiting && (v.req.map Prod.fst) = some 4

/-- A valid field-to-logic frame: header, then its own effect; SILENT declares the chip lost (R107), 8 unanswered sends
start the barrier test, and a CONFIG word refused in LOADING loses the chip (R94). -/
def State.f2lGood (s : State) (i : Nat) (h : F2LHdr) (f : State → State) : State :=
  let refused := (s.viewOf i).sentConfig && h.ack = 2 && s.dev.st = .loading
  let s1 := (f (s.updView i fun v => v.header h)).noAnswer i
  if h.silent ∨ refused then s1.chipLost i else s1

/-- The channels of a capture frame. -/
def halfTerms (i : Nat) (lo : Bool) : List Nat := (List.range 8).map fun k => chipTerm i (if lo then k else k + 8)

/-- A field of a channel in a capture payload (R97): 31 bits per channel, k counted in the frame. -/
def capSample (payload : BitVec 248) (k : Nat) : BitVec 18 := BitVec.ofNat 18 (fld payload (31 * k + 17) (31 * k))
def capCnt (payload : BitVec 248) (k : Nat) : BitVec 13 := BitVec.ofNat 13 (fld payload (31 * k + 30) (31 * k + 18))

/-- The half of a local terminal has missed its capture frame in the last frame and again in this one (R99): it keeps the demand
value. -/
def missedTwice (v : View) (c : Nat) : Bool := if c < 8 then v.missLo && v.loBad else v.missHi && v.hiBad

/-- The image takes a capture frame (R97, R99): QUAL and FSAFE of all 16 channels, SAMPLE and CNT of its eight; a counter unit's
stale counts stay stale (R136, R479). A lost field chip's terminals are not in the image (R111). -/
def State.takeCapture (s : State) (i : Nat) (h : F2LHdr) (payload : BitVec 248) (lo : Bool) : State :=
  let s1 := s.updView i fun v => { v with
    qual := h.qual, fsafe := h.fsafe, seen := v.seen || !v.lost, loOk := v.loOk || lo, hiOk := v.hiOk || !lo }
  if (s.viewOf i).lost then s1 else
  let twice := missedTwice (s.viewOf i)
  let s2 := s1.forEach (List.range 16) fun x c => x.updTerm (chipTerm i c) fun y =>
    { y with img := { y.img with qual := if twice c then y.img.qual else bit h.qual c, fsafe := bit h.fsafe c, stale := false } }
  s2.forEach (List.range 8) fun x k => x.updTerm (chipTerm i (if lo then k else k + 8)) fun y =>
    { y with ana := { y.ana with sample := s.imageSample (chipTerm i (if lo then k else k + 8)) (capSample payload k), cnt := capCnt payload k, stale := y.ctr.stale, missed := false } }

/-- A capture frame is missed (R99): its SAMPLE and CNT repeat as stale, with both missed QUAL and FSAFE as well; a second
consecutive miss reads as demand with invalid samples and faults the functions with cause 0x13. -/
def State.missCapture (s : State) (i : Nat) (lo : Bool) : State :=
  let v := s.viewOf i
  let second := if lo then v.missLo else v.missHi
  let both := if lo then v.hiBad else v.loBad
  let bad (x : State) (ts : List Nat) : State :=
    let x1 := x.forEach ts fun y t => y.updTerm t fun z =>
      { z with
        img := { z.img with qual := x.demVal t, stale := false }
        ana := { z.ana with sample := 0x20000, cnt := 0, stale := false, missed := true } }
    x1.forEach (x1.fns.filter fun f => (x1.fnTerms f).any fun t => ts.contains t) fun y f =>
      y.updFn f fun z => z.faultInFrame 0x13 0 0x1FF
  let s1 := s.updView i fun w => if lo then { w with loBad := true } else { w with hiBad := true }
  let s2 := if second then bad s1 (halfTerms i lo)
    else s1.forEach (halfTerms i lo) fun y t => y.updTerm t fun z => { z with ana := { z.ana with
      stale := true, sample := if v.seen then z.ana.sample else 0x20000, cnt := if v.seen then z.img.prevC else 0 } }
  if !both then s2
  else if v.missBoth then bad s2 (chipTerms i)
  else s2.forEach ((chipTerms i).filter fun t => !missedTwice (s2.viewOf i) (tLocal t)) fun y t => y.updTerm t fun z =>
    { z with img := { z.img with qual := if v.seen then z.img.prevQ else s.demVal t, fsafe := v.seen && z.img.prevF, stale := true } }

/-- CAPTURE_LO (R97, R99). -/
def execCaptureLo (chip : ChipIx) (h : F2LHdr) (payload : BitVec 248) (s : State) : Res :=
  let i := chip.val
  if s.f2lOk 1 h payload.toNat true then settled (s.f2lGood i h fun x => x.takeCapture i h payload true)
  else settled ((s.f2lBad i).missCapture i true)

/-- CAPTURE_HI (R97, R99). -/
def execCaptureHi (chip : ChipIx) (h : F2LHdr) (payload : BitVec 248) (s : State) : Res :=
  let i := chip.val
  if s.f2lOk 2 h payload.toNat true then settled (s.f2lGood i h fun x => x.takeCapture i h payload false)
  else settled ((s.f2lBad i).missCapture i false)

/-- The three records of a DIAG payload (R101, R103); an empty slot is zero. -/
def diagRecords (payload : BitVec 248) : List DiagRec :=
  ((List.range 3).map fun k => BitVec.ofNat 72 (fld payload (72 * k + 103) (72 * k + 32))).filterMap fun (w : Word) =>
    if w = 0 then none
    else some ⟨BitVec.ofNat 8 (fld w 71 64), BitVec.ofNat 5 (fld w 63 59), fld w 58 32, BitVec.ofNat 32 (fld w 31 0)⟩

/-- A diagnosis record fills in the terminal code of the functions that FSAFE took to FAULT without one (R102). -/
def State.fillCause (s : State) (i : Nat) (r : DiagRec) : State :=
  if r.src.toNat < 16 then
    s.forEach (s.fns.filter fun f => (s.fnOf f).st = .fault && (s.fnOf f).cause = 0x10 && (s.fnOf f).detail = 0 &&
      (s.fnOf f).term = chipTerm i r.src.toNat) fun x f => x.updFn f fun y => { y with detail := r.cause }
  else s

/-- DIAG (R101, R102, R367): an echo due in this tick has not run; the part asked for is taken and the next one is due, or the acknowledgement after the last; its records
fill in the causes of functions. -/
def execDiag (chip : ChipIx) (h : F2LHdr) (payload : BitVec 248) (s : State) : Res :=
  let i := chip.val
  if s.f2lOk 3 h payload.toNat true then
    settled (s.f2lGood i h fun x0 =>
      let x := x0.updChip i fun y => { y with reply := none, echo := none }
      let v := x.viewOf i
      if fld payload 15 0 = v.diagId.toNat ∧ v.nextPart = some (BitVec.ofNat 8 (fld payload 23 16)) then
        (diagRecords payload).foldl (fun y r => y.fillCause i r) (x.updView i fun v => { v with
          records := v.records ++ diagRecords payload,
          nextPart := if fld payload 31 24 ≤ fld payload 23 16 + 1 then some 0xFF
                      else some (BitVec.ofNat 8 (fld payload 23 16 + 1)) })
      else x)
  else settled ((s.f2lBad i).updChip i fun x => { x with reply := none })

/-- The stream queue of a terminal and a kind (R337). -/
def streamQueue (t k : Nat) : Nat := 8192 + 32 * t + k

/-- A word of a STREAM frame (R98): one that waits at the field chip is in the terminal's stream already; another joins it. -/
def State.streamWord (s : State) (i c : Nat) (w : Word) : State :=
  match (s.chipOf i).waiting with
  | e :: r =>
    if e.1 = c ∧ e.2.1 = w then s.updChip i fun x => { x with waiting := r }
    else s.updQueue (streamQueue (chipTerm i c) 1) fun q => { q with words := q.words ++ [w] }
  | [] => s.updQueue (streamQueue (chipTerm i c) 1) fun q => { q with words := q.words ++ [w] }

/-- STREAM (R98): 1–3 words for the terminal's signature stream, which begin a record or go on with it. -/
def execStream (chip : ChipIx) (h : F2LHdr) (payload : BitVec 248) (s : State) : Res :=
  let i := chip.val
  let n := fld payload 6 5
  if s.f2lOk 4 h payload.toNat (n ≠ 0) then
    settled (s.f2lGood i h fun x =>
      let c := fld payload 3 0
      let x1 := x.updView i fun v => { v with
        recWords := Tab.upd 0 v.recWords c fun m => if bit payload 4 then n else m + n }
      ((List.range n).map fun k => BitVec.ofNat 72 (fld payload (72 * k + 103) (72 * k + 32))).foldl
        (fun y w => y.streamWord i c w) x1)
  else settled (s.f2lBad i)

/-- IDLE (R93, R96, R367): an echo is compared with the pattern sent, a bank CRC is taken. -/
def execIdle (chip : ChipIx) (h : F2LHdr) (payload : BitVec 248) (s : State) : Res :=
  let i := chip.val
  if s.f2lOk 5 h payload.toNat true then
    settled (s.f2lGood i h fun x =>
      let c := x.chipOf i
      let x1 := (x.echoed i (decide (c.echo ≠ some payload))).updView i fun v => { v with
        bankCrc := match c.crcReply with | none => v.bankCrc | some _ => some (payload.setWidth 32)
        shadowCrc := match c.crcReply with
          | none => v.shadowCrc
          | some _ => if v.crcShadow then some (payload.setWidth 32) else v.shadowCrc }
      x1.updChip i fun y => { y with crcReply := none })
  else settled (s.f2lBad i)

/-- FIELD_SILENCE_TIMEOUT (R107): the field chip enters its silence safe state, which holds its terminals (R476). -/
def execFieldSilenceTimeout (chip : ChipIx) (s : State) : Res :=
  settled (((s.updChip chip.val fun x => { x with silent := true, safe := true }).settle).chipCause chip.val 0x86 0x1F 1)

/-- SIDE_SILENCE_TIMEOUT (R107, R23). -/
def execSideSilenceTimeout (chip : ChipIx) (s : State) : Res := settled (s.chipLost chip.val)

/-- The active bank of a field chip matches the configuration in force (R111). -/
def State.bankMatches (s : State) (i : Nat) : Bool :=
  bankOrder.all fun e => bankWord (s.chipOf i).active e.1 e.2.1 e.2.2 = s.bankSource i e.1 e.2.1 e.2.2

/-- A lost field chip may return (R111): it is neither silent nor retired, no barrier test runs, its bank matches. -/
def State.mayReturn (s : State) (i : Nat) : Bool :=
  (s.viewOf i).lost && !s.isRetired (nChip i) 0 && !(s.chipOf i).silent && (s.tests.find (nBarrier i) tcBarrier).isNone &&
  s.bankMatches i

/-- FIELD_CHIP_RETURN (R111): the conditions hold from this tick edge; the image takes the terminals back at the first
later capture. A retired field chip never returns. -/
def execFieldChipReturn (chip : ChipIx) (s : State) : Res :=
  if s.mayReturn chip.val then
    settled (s.updView chip.val fun v => { v with returnAt := some s.clock.count })
  else settled s

/-- The number of a trip lane among the items of an at-rest test (R173). -/
def laneItem : TripLane → Nat
  | .up0 => 16 | .up1 => 17 | .down0 => 18 | .down1 => 19

/-- A trip lane is without its carrier, or has it. -/
def Lanes.cut (l : Lanes) (lane : TripLane) (b : Bool) : Lanes :=
  match lane with
  | .up0 => { l with up0 := b }
  | .up1 => { l with up1 := b }
  | .down0 => { l with down0 := b }
  | .down1 => { l with down1 := b }

/-- TRIP_LANE_CHANGE (R105, R172, R173, R176): a lane loses its carrier, which reads trip and starts the test of its barrier, or
regains it; what it carries otherwise follows its driver. The side half stops a down lane at rest for its test. -/
def execTripLaneChange (chip : ChipIx) (lane : TripLane) (what : LaneChange) (s : State) : Res :=
  let i := chip.val
  match what with
  | .lost => settled ((s.updLanes i fun l => l.cut lane true).settle.startTest (nBarrier i) tcBarrier)
  | .back => settled (s.updLanes i fun l => l.cut lane false)
  | .restTest r => settled (if 18 ≤ laneItem lane ∧ s.atRest i (laneItem lane) then s.restTest i (laneItem lane) r else s)

/-- HOLD_LANE_TRIP (R159, R172): the hold lane reads trip and every gate of the chip is disabled and latched. -/
def execHoldLaneTrip (chip : ChipIx) (s : State) : Res := settled (s.updLanes chip.val fun l => { l with hold := true })

/-- HOLD_LANE_RELEASE (R105, R172, R173): the hold lane's carrier has returned; at rest, a stop that has ended so is a passed test. -/
def execHoldLaneRelease (chip : ChipIx) (s : State) : Res :=
  let i := chip.val
  let s1 := s.updLanes i fun l => { l with hold := false }
  settled (if (s.lanesOf i).hold ∧ s.atRest i 20 then s1.restPassed i 20 else s1)

/-- PAIR_LANE_TRIP (R106): an incoming line goes low, through a fault with cause 0x12, or returns high. -/
def execPairLaneTrip (chip : ChipIx) (c : LocalIx) (low : Bool) (fault : Bool) (s : State) : Res :=
  if low then
    settled (if fault then s.pairFault chip.val c.val
      else s.updLanes chip.val fun l => { l with pairCut := setBit l.pairCut c.val true })
  else settled (s.updLanes chip.val fun l => { l with pairCut := setBit l.pairCut c.val false })

/-- The at-rest test of an incoming pair-lane line, which the other chip drives, has passed since the line failed (R473). -/
def State.lineTested (s : State) (i c : Nat) : Bool :=
  let at_ := Tab.get 0 (s.lanesOf (chipOther i)).restAt c
  at_ ≠ 0 && decide (Tab.get 0 (s.lanesOf i).pairAt c ≤ at_)

/-- PAIR_LINE_RECOVERY (R473): the line has read high for 1,000 ticks; cause 0x12 ends once its at-rest test has passed too. -/
def execPairLineRecovery (chip : ChipIx) (c : LocalIx) (s : State) : Res :=
  let s1 := s.updLanes chip.val fun l => { l with pairCut := setBit l.pairCut c.val false }
  if s.lineTested chip.val c.val then
    settled ((s1.updLanes chip.val fun l => { l with pairBad := setBit l.pairBad c.val false }).lowerCause (chipTerm chip.val c.val) 0x12)
  else settled s1

/-- The plane of a side node (R169, R171). -/
def State.planeFail (s : State) (d : Side) (p : Nat) : State :=
  (s.updHalf d fun h => { h with planeTest := setBit h.planeTest p true }).startTest (nPlane d p) tcPlane

/-- LATTICE_SCRUB (R169): an export whose word LEXP has an uncorrectable error trips, as a term of such a word does (log entry
89). -/
def execLatticeScrub (hit : ScrubHit) (s : State) : Res :=
  match hit with
  | .none => settled s
  | .corrected chip word => settled (s.post 0x0404 (nChip chip.val) 0 word)
  | .correctedSide d word => settled (s.post 0x0404 (nPlane d 0) 0 word)
  | .uncorrectable chip tg =>
    let i := chip.val
    let s1 := s.updChip i fun x => { x with badTargets := setBit x.badTargets tg.val true }
    let s2 := if tg.val < 16 then s1.updLanes i fun l => { l with latHold := setBit l.latHold tg.val true }
      else s1.updLanes (chipOther i) fun l => { l with pairHold := setBit l.pairHold (tg.val - 16) true }
    settled ((s2.chipCause i 0x84 0x1F 1).startHalf i)
  | .uncorrectableExp chip k =>
    let i := chip.val
    settled (((s.updChip i fun x => { x with badExports := setBit x.badExports k.val true }).chipCause i 0x84 0x1F 1).startHalf i)
  | .uncorrectableSide d g =>
    settled ((s.updHalf d fun h => { h with badGroups := setBit h.badGroups g.val true }).planeFail d
      (s.clock.frame.toNat % 2))

/-- PLANE_TEST (R171, R174): in ticks 2 to C, P0 in even frames and P1 in odd ones; a failing pattern starts the plane's targeted
test. The verdict of a group that a real event asserts is discarded and repeated. -/
def execPlaneTest (sd : Side) (failing : List (Fin 24)) (s : State) : Res :=
  if s.clock.tick < 2 ∨ s.clock.cdl < s.clock.tick then settled s
  else
    let again := (List.range 24).foldl (fun (m : BitVec 24) g => setBit m g (s.group sd g)) 0
    let s1 := s.updHalf sd fun h => { h with planeAgain := again }
    if failing.any fun g => !s.group sd g.val then settled (s1.planeFail sd (s.clock.frame.toNat % 2)) else settled s1

/-- The number of a lane or line: 0–15 a pair-lane line, 16–19 a trip lane, 20 the hold lane. -/
def restItem : RestItem → Nat
  | .pairLine c => c.val
  | .tripLane l => laneItem l
  | .holdLane => 20

/-- A lane or line has gone untested for AT_REST_H hours, since its last passed test or since PROVING (R173). -/
def State.restOverdue (s : State) (i item : Nat) : Bool :=
  decide (Tab.get 0 (s.lanesOf i).restAt item + 3600000000 * fld (s.cw cLTST 0 0) 71 64 ≤ s.clock.count)

/-- AT_REST_OVERDUE (R173, R478): event 0x01A2 at the field chip for a pair-lane line, at the barrier for a lane. -/
def execAtRestOverdue (chip : ChipIx) (item : RestItem) (s : State) : Res :=
  if !s.restOverdue chip.val (restItem item) then settled s
  else match item with
  | .pairLine c => settled (s.post 0x01A2 (nChip chip.val) 1 c.val)
  | _ => settled (s.post 0x01A2 (nBarrier chip.val) 1 (restItem item))

end Sys2Proof.Machine
end

