-- ==== Sys2Proof/Machine/Terminals.lean ====
section
/-! DEFINITION. Terminals (spec/03), their analog side (spec/05), field supplies and start tokens (R437–R440). -/

namespace Sys2Proof.Machine

/-- TAI ns of a stamp given in 10 ns since PROVING (R58, R79). -/
def State.taiOf (s : State) (stamp : Nat) : Nat := s.time.tai + stamp * 10 - s.pns

/-- A signature record (R79) goes to the terminal's signature stream and waits at the field chip for STREAM frames (R96). I_SET and
V_SET, which it measures, are free values. -/
def State.signature (s : State) (t kind first bounceN bounceNs qualNs : Nat) : State :=
  let rl := ((s.termOf t).dig.rLoop).getD 0xFFFFFFFFF
  let w0 := BitVec.ofNat 72 (s.taiOf first)
  let w1 := BitVec.ofNat 72 (at_ kind 64 + at_ t 55 + at_ (Nat.min bounceN 65535) 32 + Nat.min bounceNs 0xFFFFFFFF)
  let w3 := BitVec.ofNat 72 (at_ rl 36 + qualNs % 2 ^ 36)
  let ws := [w0, w1, Config.freeWord s.free, w3]
  ({ s with queue := Tab.upd {} s.queue (streamQueue t 1) fun q => { q with words := q.words ++ ws } }).drawn.updChip (tChip t) fun x =>
    { x with waiting := x.waiting ++ ws.zipIdx.map fun (e : Word × Nat) => (tLocal t, e.1, decide (e.2 = 0)) }

/-- A field terminal fault whose front-end is then tested (R365): causes 0x05, 0x06, 0x07 and 0x0A. An OFF terminal reports no
cause, and its front-end is tested all the same (R475). -/
def State.raiseFront (s : State) (t cause : Nat) : State := (s.raiseCause t cause).startTest (nFront t) tcFront

/-- The two terminals of a DI channel disagree: exactly one is at demand (R62). -/
def State.disagrees (s : State) (ch : Nat) : Bool := s.atDemand (2 * ch) != s.atDemand (2 * ch + 1)

/-- The discrepancy clock of a channel after a change of terminal t (R62), and the end of cause 0x08 when the terminals agree
again (R473). -/
def State.discrepancyClock (s : State) (t stamp : Nat) : State :=
  let ch := tChan t
  if s.mode ch ≠ mDI then s
  else if s.disagrees ch then
    s.updChan ch fun c => match c.discAt with | some _ => c | none => { c with discAt := some stamp, discT := t }
  else ((s.updChan ch fun c => { c with discAt := none }).lowerCause (2 * ch) 8).lowerCause (2 * ch + 1) 8

/-- The same after a force to demand begins or ends at terminal t, in the running tick (R54, R62). -/
def State.forceChange (s : State) (t : Nat) : State := s.discrepancyClock t (s.clock.count * 100)

/-- The chatter force of a terminal (R59). -/
def State.chatterForce (s : State) (t : Nat) : State :=
  (((s.updTerm t fun x => { x with dig := { x.dig with chatForce := true, relAt := none } }).raiseCause t 1).raiseFns
    (s.fnsOfChan (tChan t)) 0x10 1 t).forceChange t

/-- The starts of a test source's pulses within its code period, in ticks (R53, R64). -/
def tsStarts (w : Word) : List Nat :=
  ((List.range 16).filter fun i => bit w (56 + i)).map fun i => (fld w 42 30 + i * fld w 55 43) % (16 * fld w 55 43)

/-- A pulse of test source u begins at this tick (R64, R470). -/
def State.tsDue (s : State) (u : Nat) : Bool := (tsStarts (s.tout u)).contains (s.clock.count % (16 * fld (s.tout u) 55 43))

/-- Test source u is dark in one of len ticks from this one on (R64). -/
def State.tsDarkIn (s : State) (u len : Nat) : Bool :=
  let p := 16 * fld (s.tout u) 55 43
  (tsStarts (s.tout u)).any fun st =>
    decide ((st + p - s.clock.count % p) % p < len) || decide ((s.clock.count % p + p - st) % p < fld (s.tout u) 29 21)

/-- An edge lies within the expected dark pulse of its terminal's test source, widened by 20 µs on each side (R59); stamps are in
10 ns. -/
def State.inSourceDark (s : State) (t stamp : Nat) : Bool :=
  let u := chipTerm (tChip t) (fld (s.tin t) 19 16)
  let p := 1600 * fld (s.tout u) 55 43
  bit (s.tin t) 20 && s.mode (tChan u) = mTS && (tsStarts (s.tout u)).any fun st =>
    decide ((stamp + 2000 + p - 100 * st % p) % p ≤ 100 * fld (s.tout u) 29 21 + 4000)

/-- Raw edge of a terminal: RAW, EDGES, the bounce run and the chatter count (R54, R59, R267). -/
def Terminal.rawEdge (x : Terminal) (level : Bool) (stamp : Nat) (counted : Bool) : Terminal :=
  { x with
    tstat := { x.tstat with raw := level, edges := x.tstat.edges + 1 },
    dig := { x.dig with
      firstRaw := (match x.dig.firstRaw with | none => some stamp | some f => some f),
      lastRaw := stamp, bounceN := x.dig.bounceN + 1,
      chatEdges := if counted then x.dig.chatEdges + 1 else x.dig.chatEdges } }

/-- DI_RAW_EDGE (R59): counted outside the dark pulses of its source, in windows that run from entry to RUNNING (log entry
84). -/
def execDiRawEdge (chip : ChipIx) (c : LocalIx) (level : Bool) (stamp : Nat) (s : State) : Res :=
  let t := chipTerm chip.val c.val
  let counted := s.mode (tChan t) = mDI && s.dev.st = .running && !s.inSourceDark t stamp
  let s1 := s.updTerm t fun x => x.rawEdge level stamp counted
  if counted ∧ fld (s.tin t) 55 40 < (s1.termOf t).dig.chatEdges ∧ !(s.termOf t).dig.chatForce then
    settled (s1.chatterForce t)
  else settled s1

/-- Templates whose inputs are ledgered: the trip templates (R259, R266). -/
def isTrip (tid : Nat) : Bool :=
  [0x01, 0x02, 0x03, 0x04, 0x10, 0x11, 0x12, 0x13, 0x14, 0x15, 0x16, 0x17, 0x18, 0x22, 0x31, 0x42].contains tid

/-- Ledger pages of a qualified change of a terminal (R266, R268): to demand or from demand, for each trip-template reader, with the
time of the first raw edge. -/
def State.ledgerChange (s : State) (t : Nat) (toDemand : Bool) (first stamp : Nat) : State :=
  let ch := tChan t
  let other := if (s.termOf (tOther t)).dig.fresh then 0 else s.taiOf (s.termOf (tOther t)).dig.stamp
  let own := s.taiOf stamp
  let time := if s.time.valid then BitVec.ofNat 72 (s.taiOf first % 2 ^ 71) else BitVec.ofNat 72 (2 ^ 71 + first * 10 % 2 ^ 71)
  s.forEach (s.fns.filter fun f => isTrip (s.tid f) && (s.fnChans f).contains ch) fun x f =>
    x.ledgerAt time f (if toDemand then 1 else 2) f ch (if t % 2 = 0 then own else other) (if t % 2 = 0 then other else own)
      (x.fnOf f).st.code (x.fnOf f).st.code

/-- A RESET instance follows its button (R255): vars 0 and 1 hold the press of each terminal, 2 and 3 the valid release,
4 that a reset waits for the capture; stamps are kept as stamp + 1. -/
def State.resetEdge (s : State) (f t : Nat) (level : Bool) (stamp : Nat) : State :=
  let k := t % 2
  s.updFn f fun x =>
    if level then { x with vars := Tab.set 0 x.vars k (stamp + 1) }
    else
      let on := Tab.get 0 x.vars k
      let held := stamp + 1 - on
      let ok := on ≠ 0 && 10000000 ≤ held && held ≤ 500000000
      let v1 := Tab.set 0 (Tab.set 0 x.vars k 0) (2 + k) (if ok then stamp + 1 else 0)
      let a := Tab.get 0 v1 2
      let b := Tab.get 0 v1 3
      if a ≠ 0 ∧ b ≠ 0 ∧ a - b ≤ s.fpar f 1 * 100000 ∧ b - a ≤ s.fpar f 1 * 100000 then
        { x with vars := Tab.set 0 (Tab.set 0 (Tab.set 0 v1 2 0) 3 0) 4 1 }
      else { x with vars := v1 }

/-- The RESET instances that read a channel (R261). -/
def State.resetsOn (s : State) (ch : Nat) : List Nat := s.fns.filter fun f => s.tid f = 0x05 && s.fpar f 0 = ch

/-- FILTER_QUALIFY (R57, R58): the qualified state changes with its timestamp; signature, ledger, counter, discrepancy
clock, RESET presses and the lattice follow. The first qualification writes no ledger page and counts no edge (R474). -/
def execFilterQualify (t : TermIx) (level : Bool) (stamp : Nat) (s : State) : Res :=
  let k := t.val
  let ch := tChan k
  let m := s.mode ch
  if !hasFilter m then settled s
  else
    let x := s.termOf k
    let first := x.dig.firstRaw.getD stamp
    let s1 := s.updTerm k fun y => { y with
      tstat := { y.tstat with qual := level, lastQual := BitVec.ofNat 32 s.clock.count },
      dig := { y.dig with
        fresh := false, stamp := stamp, firstRaw := none, bounceN := 0, curveSent := false,
        demSince := if level = s.demVal k then some (y.dig.demSince.getD s.clock.count) else none } }
    let s2 := if m = mDI then
        s1.signature k (if level then 1 else 2) first x.dig.bounceN ((x.dig.lastRaw - first) * 10) ((stamp - first) * 10)
      else s1
    let s3 := if m = mDI ∧ !x.dig.fresh then s2.ledgerChange k (level = s.demVal k) first stamp else s2
    let s4 := if m = mCNT ∧ !x.dig.fresh then s3.countEdge k level stamp else s3
    let s5 := (s4.discrepancyClock k stamp).forEach (s.resetsOn ch) fun y f => y.resetEdge f k level stamp
    settled s5

/-- STOP_LINE_QUALIFY (R163, R454): the terminal of SL1 or SL2 of a side is at demand while it reads off. -/
def execStopLineQualify (line : Fin 2) (sd : Side) (off : Bool) (s : State) : Res :=
  settled (s.updHalf sd fun h => { h with sl := setBit h.sl line.val off })

/-- CHATTER_WINDOW_END (R59, R60): force at an excess count, or release after a quiet window that began at or after
FORCE_REL; the windows run in RUNNING (log entry 84). -/
def execChatterWindowEnd (t : TermIx) (s : State) : Res :=
  let k := t.val
  if s.mode (tChan k) ≠ mDI ∨ s.dev.st ≠ .running then settled s
  else
    let d := (s.termOf k).dig
    let quiet := d.chatEdges ≤ fld (s.tin k) 55 40
    let released : Bool := match d.relAt with | none => false | some r => decide (r ≤ d.chatStart)
    let next (y : State) : State := y.updTerm k fun x => { x with dig := { x.dig with chatEdges := 0, chatStart := s.clock.count } }
    if !quiet ∧ !d.chatForce then settled (next (s.chatterForce k))
    else if quiet ∧ d.chatForce ∧ released then
      settled (next (((s.updTerm k fun x => { x with dig := { x.dig with chatForce := false, relAt := none } }).lowerCause k 1).forceChange k))
    else settled (next s)

/-- DEMAND_AGE (R61): a maintenance event with the hours at demand; nothing else changes. -/
def execDemandAge (t : TermIx) (s : State) : Res :=
  let age := fld (s.ccfg (tChan t.val)) 47 32
  if age ≠ 0 ∧ s.atDemand t.val then
    let h := match (s.termOf t.val).dig.demSince with | none => 0 | some d => (s.clock.count - d) / 3600000000
    done (s.post 0x01A0 (nTerm t.val) 1 (Nat.max age h))
  else done s

/-- A discrepancy that has lasted longer than DISC_MS (R62): cause 0x08 on both terminals; a new one raises the fault of
the channel's functions, naming the terminal whose change began it. -/
def State.discFault (s : State) (ch : Nat) : State :=
  if (s.termOf (2 * ch)).tstat.causes.getLsbD 8 then s
  else ((s.raiseCause (2 * ch) 8).raiseCause (2 * ch + 1) 8).raiseFns (s.fnsOfChan ch) 0x10 8 (s.chanOf ch).discT

/-- DISCREPANCY_FAULT (R62). -/
def execDiscrepancyFault (ch : ChanIx) (s : State) : Res :=
  if s.mode ch.val = mDI ∧ fld (s.ccfg ch.val) 63 48 ≠ 0 ∧ s.disagrees ch.val then settled (s.discFault ch.val)
  else settled s

/-- The inputs that a TS terminal feeds (R52): TS_EN with TS_SRC its local channel, on the same field chip. -/
def State.fedBy (s : State) (t : Nat) : List Nat :=
  (chipTerms (tChip t)).filter fun u => s.mode (tChan u) = mDI && bit (s.tin u) 20 && fld (s.tin u) 19 16 = tLocal t

/-- Another terminal of the field chip is dark (R72). -/
def State.chipDark (s : State) (t : Nat) : Bool := (chipTerms (tChip t)).any fun u => u ≠ t && (s.termOf u).out.dark

/-- TS_PULSE_START (R64, R72): in a slot that the code selects, while no other terminal of the field chip is dark. -/
def execTsPulseStart (t : TermIx) (s : State) : Res :=
  if s.mode (tChan t.val) ≠ mTS ∨ !s.tsDue t.val ∨ s.chipDark t.val then settled s
  else settled (s.updTerm t.val fun x => { x with out := { x.out with dark := true, pulseAt := s.clock.count } })

/-- The clean-period clock of terminals restarts: those of ts, and every already forced one of the group (R473). -/
def State.tsRestart (s : State) (group ts : List Nat) : State :=
  s.forEach group fun x u => (x.updTerm u fun y =>
    if ts.contains u ∨ y.dig.tsFail.isSome then { y with dig := { y.dig with tsFail := some s.clock.count } } else y).forceChange u

/-- The end of test-pulse causes (R473): a full code period of the source after the last failed check has passed. -/
def State.tsRelease (s : State) (t : Nat) : State :=
  let period := 16 * fld (s.tout t) 55 43
  s.forEach (t :: s.fedBy t) fun x u =>
    match (x.termOf u).dig.tsFail with
    | none => x
    | some a =>
      if period ≠ 0 ∧ (a + period - 1) / period * period + period ≤ s.clock.count then
        (((((x.updTerm u fun y => { y with dig := { y.dig with tsFail := none } }).lowerCause u 2).lowerCause u 3).lowerCause u
          4).lowerCause u 5).forceChange u
      else x

/-- Loop resistance records of a pulse of the source src (R79, R80): eight in a row above LOOP_RLIM raise a maintenance event. -/
def State.loopRecord (s : State) (src u mOhm : Nat) : State :=
  let lim := fld (s.tin u) 15 0
  let high := lim ≠ 0 && lim * 1000 < mOhm
  let n := if high then (s.termOf u).dig.loopHigh + 1 else 0
  let s1 := s.updTerm u fun x => { x with dig := { x.dig with rLoop := some (mOhm % 2 ^ 36), loopHigh := n } }
  let s2 := s1.signature u 3 ((s.termOf src).out.pulseAt * 100) 0 0 0
  if n = 8 then s2.post 0x01A1 (nTerm u) 1 (mOhm / 1000) else s2

/-- TS_PULSE_CHECK (R65, R80): overload, and a source line that is high or inputs that stay on; or a pass. -/
def execTsPulseCheck (t : TermIx) (lineHigh : Bool) (overload : Bool) (stillOn : List TermIx) (rLoop : List (TermIx × Nat))
    (s : State) : Res :=
  let k := t.val
  if s.mode (tChan k) ≠ mTS then settled s
  else
    let fed := s.fedBy k
    let group := k :: fed
    let s0 := s.updTerm k fun x => { x with out := { x.out with dark := false } }
    let s1 := (rLoop.filter fun r => fed.contains r.1.val).foldl (fun x r => x.loopRecord k r.1.val r.2) s0
    let bad := (stillOn.map Fin.val).filter fun u => fed.contains u
    let s2 := if lineHigh then s1.tsRestart group group
      else if bad ≠ [] then (s1.tsRestart group bad).forEach bad fun x u => x.raiseCause u 2
      else s1
    if overload then settled ((s2.tsRestart group group).raiseFront k 5)
    else if lineHigh ∨ bad ≠ [] then settled s2
    else settled (s2.tsRelease k)

/-- CROSS_SHORT_IDENTIFIED (R66): cause 0x03 with the matching terminal, or 0x04; the clean periods count from here
(R473). -/
def execCrossShortIdentified (t : TermIx) (matching : Option TermIx) (s : State) : Res :=
  let k := t.val
  let s1 := s.tsRestart (k :: s.fedBy k) [k]
  if s.mode (tChan k) ≠ mTS then settled s
  else match matching with
  | some u => settled (s1.raiseCauseD k 3 u.val)
  | none => settled (s1.raiseCause k 4)

/-- OUTPUT_CURRENT_LIMIT (R69): an output that is on is switched off with cause 0x07. -/
def execOutputCurrentLimit (t : TermIx) (s : State) : Res :=
  if (s.termOf t.val).out.gate then settled (s.raiseFront t.val 7) else settled s

/-- An on-phase of the PWM, 50 µs or longer, ends in the running tick (R142): the count comes to CMP on its way up. -/
def State.onPhaseEnds (s : State) (t : Nat) : Bool :=
  let o := (s.termOf t).out
  let p := 2 * s.pwmTop t
  decide (5000 < 2 * s.pwmCmp t) && decide ((o.pwmAt + s.pwmCmp t + p - s.t10 % p) % p < 100)

/-- The 3 V check of an output applies now (R69, R142): in PWM 50 µs after the commit switch-on, then at the end of every on-phase
of 50 µs or longer; otherwise 50 µs after gate-enable. -/
def State.checkDue (s : State) (t : Nat) : Bool :=
  let o := (s.termOf t).out
  o.gate && (s.kmode t ≠ 5 || o.onAt + 50 = s.clock.count || (o.pwm = 2 && s.onPhaseEnds t))

/-- OUTPUT_VOLTAGE_CHECK (R69, R142). -/
def execOutputVoltageCheck (t : TermIx) (pass : Bool) (s : State) : Res :=
  if s.checkDue t.val ∧ !pass then settled (s.raiseFront t.val 7) else settled s

/-- The terminal is a low-side output: terminal B of a DO-PM channel (R49). -/
def State.lowSide (s : State) (t : Nat) : Bool := t % 2 = 1 && s.mode (tChan t) = mDOPM

/-- The start of the next dark pulse (R71): a free draw of whole ticks between DICE_MIN_MS and DICE_MAX_MS after base. -/
def State.drawPulse (s : State) (t base : Nat) : State :=
  let lo := fld (s.tout t) 20 11 * 1000
  let hi := fld (s.tout t) 10 1 * 1000
  (s.updTerm t fun x => { x with out := { x.out with nextAt := base + lo + s.drawNat (hi - lo + 1) } }).drawn

/-- A lattice path of a target is not seen (R170): cause 0x84, FSAFE hold, test of the lattice half; in a running test it is
the verdict. -/
def State.pathFault (s : State) (t : Nat) : State :=
  let i := tChip t
  let s1 := (s.updLanes i fun l => { l with latHold := setBit l.latHold (tLocal t) true }).chipCause i 0x84 (tLocal t) 1
  if (s.tests.find (nChip i) tcHalf).isSome then s1.halfSeen i (tLocal t) false else s1.startHalf i

/-- A dark pulse of terminal t that began now would overlap another pulse of the field chip (R72): one that runs, or one of a test
source that begins before its end. -/
def State.wouldOverlap (s : State) (t : Nat) : Bool :=
  s.chipDark t || ((chipTerms (tChip t)).any fun u => s.mode (tChan u) = mTS && s.tsDarkIn u (fld (s.tout t) 29 21))

/-- DARK_PULSE_START (R71, R72, R74, R170): a pulse falls due at its drawn tick; one that falls due while the output is off is not
emitted, and one that would overlap another pulse of the field chip waits for the first free tick. -/
def execDarkPulseStart (t : TermIx) (test : DarkTest) (s : State) : Res :=
  let k := t.val
  if !isDO (s.mode (tChan k)) ∨ s.clock.count < (s.termOf k).out.nextAt then settled s
  else if (s.termOf k).out.gate ∧ s.wouldOverlap k then settled s
  else if (s.termOf k).out.gate then
    let s1 := s.updTerm k fun x => { x with out := { x.out with dark := true, pulseAt := s.clock.count, partialP := test.notRun } }
    settled (if test.notSeen then s1.pathFault k else if test.notRun then s1 else s1.halfSeen (tChip k) (tLocal k) true)
  else settled (s.drawPulse k s.clock.count)

/-- DARK_PULSE_VERDICT (R73, R75): the line voltage at the last tick, and the terminals whose current stepped up. -/
def execDarkPulseVerdict (t : TermIx) (mv : Nat) (steps : List TermIx) (s : State) : Res :=
  let k := t.val
  if !isDO (s.mode (tChan k)) ∨ !(s.termOf k).out.dark then settled s
  else
    let pass := if s.lowSide k then 11000 ≤ mv else mv ≤ 5000
    let s0 := (s.updTerm k fun x => { x with tstat := { x.tstat with
      raw := if s.lowSide k then decide (11000 ≤ mv) else decide (5000 < mv) } }).signature k 4 ((s.termOf k).out.pulseAt * 100) 0 0 0
    if pass then settled s0
    else
      let s1 := s0.updTerm (tOther k) fun x => { x with out := { x.out with off := true } }
      match steps with
      | [u] => settled (s1.raiseCauseD k 3 u.val)
      | _ => settled (s1.raiseFront k 6)

/-- DARK_PULSE_END (R74, R175): the gate follows R16 again, the next pulse is drawn, incomplete pulses are counted. -/
def execDarkPulseEnd (t : TermIx) (s : State) : Res :=
  let k := t.val
  let o := (s.termOf k).out
  if !o.dark ∨ !isDO (s.mode (tChan k)) then settled s
  else
    let n := if o.partialP then o.incomplete + 1 else 0
    let s1 := s.updTerm k fun x => { x with out := { x.out with dark := false, partialP := false, incomplete := n } }
    let s2 := if n ≠ 0 ∧ n % 16 = 0 then s1.post 0x01A2 (nChip (tChip k)) 1 (tLocal k) else s1
    settled (s2.drawPulse k o.pulseAt)

/-- Calibrations of a field chip's terminals abort (R132). -/
def State.calAbortChip (s : State) (i : Nat) : State := s.forEach (chipTerms i) State.calAbort

/-- PLUG_REMOVED (R77, R78). -/
def execPlugRemoved (chip : ChipIx) (s : State) : Res :=
  let i := chip.val
  let s1 := s.updLanes i fun l => { l with plugOpen := true }
  let s2 := (s1.postL 0x0203 (nChip i) 3 0 true).ledgerKeyed (8192 + i / 2) 5 noFn noChan 0 0 0 0
  let s3 := s2.forEach (chipTerms i) fun x t =>
    ((x.updTerm t fun y => { y with tstat := { y.tstat with plug := false } }).raiseCause t 9).forceChange t
  settled ((s3.calAbortChip i).calAbortChip (chipOther i))

/-- A filter starts at the demand value of its terminal (R474). -/
def State.restartFilter (s : State) (t : Nat) : State :=
  if hasFilter (s.mode (tChan t)) then
    (s.updTerm t fun x => { x with
      tstat := { x.tstat with qual := s.demVal t },
      dig := { x.dig with
        fresh := true, firstRaw := none, bounceN := 0, demSince := some (x.dig.demSince.getD s.clock.count) } }).forceChange t
  else s

/-- PLUG_INSERTED (R77, R78): cause 0x09 ends and every filter restarts; outputs wait for R476. -/
def execPlugInserted (chip : ChipIx) (s : State) : Res :=
  let i := chip.val
  let s1 := (s.updLanes i fun l => { l with plugOpen := false }).forEach (chipTerms i) fun x t =>
    ((x.updTerm t fun y => { y with tstat := { y.tstat with plug := true } }).lowerCause t 9).restartFilter t
  settled (((s1.endCondition (nChip i) 0x0203).post 0x0204 (nChip i) 0 0).ledgerKeyed (8192 + i / 2) 5 noFn noChan 0 0 0 0)

/-- FIELD_SUPPLY_OUT_OF_RANGE (R437, R475). -/
def execFieldSupplyOutOfRange (chip : ChipIx) (mv : BitVec 16) (s : State) : Res :=
  let i := chip.val
  let s1 := (s.updLanes i fun l => { l with fsup := true }).postL 0x0901 (nSupply i) 3 mv.toNat true
  settled (((s1.forEach (chipTerms i) fun x t => x.raiseCause t 0x11).calAbortChip i).calAbortChip (chipOther i))

/-- FIELD_SUPPLY_RESTORED (R437, R473). -/
def execFieldSupplyRestored (chip : ChipIx) (mv : BitVec 16) (s : State) : Res :=
  let i := chip.val
  let s1 := (s.updLanes i fun l => { l with fsup := false }).endCondition (nSupply i) 0x0901
  settled ((s1.forEach (chipTerms i) fun x t => x.lowerCause t 0x11).post 0x0902 (nSupply i) 0 mv.toNat)

/-- INTERNAL_CHECK (R119): the internal channel of the frame, and the converters that fail it; a converter in calibration
takes no part. -/
def execInternalCheck (chip : ChipIx) (failing : BitVec 16) (s : State) : Res :=
  let i := chip.val
  let bad := (chipTerms i).filter fun t => bit failing (tLocal t) && !(s.termOf t).ana.calRun
  let conv (x : State) : State := x.forEach bad fun y t => (y.raiseCause t 0x0A).startTest (nFront t) tcConv
  match s.clock.frame.toNat % 4 with
  | 0 =>
    if bad = [] then settled s
    else if bad.length ≤ 3 then settled ((conv s).calAbortChip i)
    else settled ((((s.updLanes i fun l => { l with fsafeAll := true }).chipCause i 0x81 0x1F 1).startTest (nChip i)
      tcConv).calAbortChip i)
  | 1 => if bad = [] then settled s else settled (s.forEach (chipTerms i) fun x t => x.raiseCause t 0x11)
  | 2 => if bad = [] then settled s else settled (s.chipCause i 0x82 0x1F 1)
  | _ => settled (conv s)

/-- The channel is in an analog mode (R125). -/
def State.isAnalog (s : State) (t : Nat) : Bool := s.mode (tChan t) = mAI || s.mode (tChan t) = mAO

/-- OPEN_LOOP_FLAG (R125): cause 0x0D and the hold; a calibration of the other terminal of an AI channel aborts (R132). -/
def execOpenLoopFlag (t : TermIx) (s : State) : Res :=
  if s.isAnalog t.val then
    settled (((s.updTerm t.val fun x => { x with ana := { x.ana with open_ := true } }).raiseCause t.val 0x0D).calAbort
      (tOther t.val))
  else settled s

/-- OPEN_LOOP_CLEAR (R125): the flag clears and cause 0x0D ends; no FAULT is lifted. -/
def execOpenLoopClear (t : TermIx) (s : State) : Res :=
  settled ((s.updTerm t.val fun x => { x with ana := { x.ana with open_ := false } }).lowerCause t.val 0x0D)

/-- The SAFE code of a terminal's channel (R108, R109). -/
def State.safeCode (s : State) (t : Nat) : Nat := fld (s.wcfg (tChip t)) (2 * tLocal t + 1) (2 * tLocal t)

/-- The current that the regulator of terminal A of an AO channel drives, in units of 2 µA (R109, R127): the set point, at most
24 mA, while the terminal is on, otherwise the safe-state current of the channel's SAFE code. -/
def State.aoCurrent (s : State) (t : Nat) : Nat :=
  if (s.termOf t).out.gate then Nat.min (s.termOf t).ana.setp.toNat 12000
  else match s.safeCode t with
    | 0 => 1800
    | 1 => 0
    | _ => 11000

/-- Terminal A of an AI channel supplies loop power (R84, R109, R110, R121): LPWR, with its field supply in range, and in the
programmed safe state of R23 and R107, which lasts until a commit, only where SAFE keeps it on. -/
def State.loopPower (s : State) (t : Nat) : Bool :=
  s.mode (tChan t) = mAI && t % 2 = 0 && bit (s.acfg (tChan t)) 11 && !(s.lanesOf (tChip t)).fsup &&
  (s.safeCode t = 1 || !((s.chipOf (tChip t)).silent || (s.chipOf (tChip t)).safe || (s.lanesOf (tChip t)).otherLost))

/-- AO_COMPLIANCE (R129): terminal A of an AO channel, while its regulator drives more than 0 mA. -/
def execAoCompliance (t : TermIx) (s : State) : Res :=
  if s.mode (tChan t.val) = mAO ∧ t.val % 2 = 0 ∧ s.aoCurrent t.val ≠ 0 then settled (s.raiseCause t.val 0x0E) else settled s

/-- COMPLIANCE_RECOVERED (R473). -/
def execComplianceRecovered (t : TermIx) (s : State) : Res := settled (s.lowerCause t.val 0x0E)

/-- AO_MISMATCH (R128): terminal B of an AO channel whose committed ON bit is 1, without a pair-lane trip. -/
def execAoMismatch (t : TermIx) (s : State) : Res :=
  if s.mode (tChan t.val) = mAO ∧ t.val % 2 = 1 ∧ (s.termOf t.val).out.on ∧ !s.pairLow (tChip t.val) (tLocal t.val) then settled (s.raiseCause t.val 0x0F)
  else settled s

/-- NE43_FAULT (R123): cause 0x0C above 21.0 mA, 0x0B below 3.6 mA. -/
def execNe43Fault (t : TermIx) (high : Bool) (s : State) : Res :=
  if s.mode (tChan t.val) = mAI then settled ((s.raiseCause t.val (if high then 0x0C else 0x0B)).calAbort (tOther t.val))
  else settled s

/-- A disagreement of the samples of an AI channel (R122, R365): cause 0x08 on both terminals, both converters' tests, and
the fault of the channel's functions, in the running frame's capture or in the next one. -/
def State.aiDisagree (s : State) (ch : Nat) (now : Bool) : State :=
  if (s.termOf (2 * ch)).tstat.causes.getLsbD 8 then s
  else
    let s0 := (s.raiseCause (2 * ch) 8).raiseCause (2 * ch + 1) 8
    let s1 := if now then s0.forEach (s.fnsOfChan ch) fun x f => x.updFn f fun y => y.faultInFrame 0x10 8 (2 * ch)
      else s0.raiseFns (s.fnsOfChan ch) 0x10 8 (2 * ch)
    (s1.startTest (nFront (2 * ch)) tcConv).startTest (nFront (2 * ch + 1)) tcConv

/-- AI_DISAGREEMENT (R122). -/
def execAiDisagreement (ch : ChanIx) (s : State) : Res :=
  if s.mode ch.val = mAI then settled (s.aiDisagree ch.val false) else settled s

/-- A calibration record with its check code (R117). -/
def calWord (gain offset : Int) (day : Nat) : Word :=
  let w := BitVec.ofNat 72 (at_ gain.toNat 52 + at_ (encInt 18 offset) 34 + at_ (day % 65536) 18 + at_ 1 16)
  w ||| (crc16Word w).setWidth 72

/-- GAIN and OFFSET of a calibration (R130), none when they are not valid (R117). -/
def calResult (zero ref_ : Int) : Option (Int × Int) :=
  if ref_ ≤ zero then none
  else
    let g := roundDiv (100000 * 2 ^ 19) (ref_ - zero)
    if 513803 ≤ g ∧ g ≤ 534773 ∧ -1000 ≤ zero ∧ zero ≤ 1000 then some (g, zero) else none

/-- The TAI day of device time (R117), which counts on while it is invalid (log entry 87). -/
def State.taiDay (s : State) : Nat := s.time.tai / 86400000000000

/-- CALIBRATION_COMPLETE (R133): valid records are written to MRAM and apply from the next commit; a large shift or a
rejection raises a maintenance event. -/
def execCalibrationComplete (t : TermIx) (zeroI refI zeroV refV : Int) (s : State) : Res :=
  let k := t.val
  let a := (s.termOf k).ana
  if !a.calRun ∨ a.calDone then settled s
  else
    match calResult zeroI refI, calResult zeroV refV with
    | some (gi, oi), some (gv, ov) =>
      let wi := calWord gi oi s.taiDay
      let wv := calWord gv ov s.taiDay
      let shift := 125 < (correct wi 125000 - correct (s.tcal k false) 125000).natAbs ∨
        128 < (correct wv 128000 - correct (s.tcal k true) 128000).natAbs
      let s1 := s.updTerm k fun x => { x with ana := { x.ana with cal := none, calDone := true, calNew := some (wi, wv), calTag := none } }
      let s2 := (s1.recWrite (tSide k) (58 + 2 * tChan k) wi).recWrite (tSide k) (59 + 2 * tChan k) wv
      let s3 := (if shift then s2.post 0x01A3 (nTerm k) 1 1 else s2).ledgerAdd 0x0A noFn (tChan k) 0 0 0 0
      match a.calTag with
      | none => settled s3
      | some (port, tag, queue) => settled (s3.finalReply (some port) queue 0x23 tag stOK [])
    | _, _ => settled (((s.post 0x01A3 (nTerm k) 1 0).calEnd k s.freeStatus).drawn)

/-- The bucket capacity of a wagon's field chips (R438). -/
def State.tokenCap (s : State) (i : Nat) : Nat := fld (s.scfg i) 71 68

/-- Grant waiting switch-ons in ascending PRIO, then local channel, while tokens remain (R440). -/
def State.grant (s : State) (i : Nat) : State :=
  let prio (c : Nat) : Nat := fld (s.scfg i) (3 * c + 2) (3 * c)
  let order := ((List.range 8).map fun p => (List.range 16).filter fun c => prio c = p).flatten
  s.forEach (order.filter fun c => (s.termOf (chipTerm i c)).out.waiting) fun x c =>
    if (x.lanesOf i).tokens = 0 then x
    else
      let x1 := (x.updLanes i fun l => { l with tokens := l.tokens - 1 }).updTerm (chipTerm i c) fun y =>
        { y with out := { y.out with waiting := false, onAt := s.clock.count, pwm := if s.kmode (chipTerm i c) = 5 then 1 else 0 } }
      x1.drawPulse (chipTerm i c) s.clock.count

/-- The tick count is a multiple of REFILL_US (R440, R470). -/
def State.refillTick (s : State) (i : Nat) : Bool := s.clock.count % fld (s.scfg i) 67 54 = 0

/-- START_TOKEN_REFILL (R440): at a tick count that is a multiple of REFILL_US a bucket below CAP gains one token; then
waiting requests are granted. -/
def execStartTokenRefill (chip : ChipIx) (s : State) : Res :=
  let i := chip.val
  settled ((s.updLanes i fun l => { l with tokens := if s.refillTick i ∧ l.tokens < s.tokenCap i then l.tokens + 1 else l.tokens }).grant i)

/-- DICE_ENTROPY_FAULT (R103). -/
def execDiceEntropyFault (chip : ChipIx) (s : State) : Res :=
  settled ((s.updChip chip.val fun x => { x with entropyBad := true }).chipCause chip.val 0x87 0x1F 1)

end Sys2Proof.Machine
end

