-- ==== Sys2Proof/Machine/Flags.lean ====
section
/-! DEFINITION. The flags of the Coach ISA and every computation of them (R217, R219–R225). -/

namespace Sys2Proof.Machine

/-- The flags that an instruction writes; none leaves a flag as it is (R217). -/
structure FlagW where
  n  : Option Bool := none
  z  : Option Bool := none
  c  : Option Bool := none
  v  : Option Bool := none
  dz : Option Bool := none
  deriving DecidableEq, Repr

/-- The flag bits of FLAGS: N 4, Z 3, C 2, V 1, DZ 0 (R217). -/
def flagBit (f : BitVec 5) (i : Nat) (w : Option Bool) : BitVec 5 :=
  match w with
  | none => f
  | some b => if b then f ||| (1#5 <<< i) else f &&& ~~~(1#5 <<< i)

/-- FLAGS after an instruction. -/
def FlagW.apply (w : FlagW) (f : BitVec 5) : BitVec 5 :=
  flagBit (flagBit (flagBit (flagBit (flagBit f 4 w.n) 3 w.z) 2 w.c) 1 w.v) 0 w.dz

/-- EF after an instruction: V_SEEN and DZ_SEEN are set with V and DZ (R217). -/
def FlagW.sticky (w : FlagW) (e : BitVec 2) : BitVec 2 :=
  (if w.v = some true then e ||| 2#2 else e) ||| (if w.dz = some true then 1#2 else 0#2)

/-- N and Z of a result, with C and V. -/
def nzcv (r : Word) (c v : Bool) : FlagW := { n := some r.msb, z := some (r = 0), c := some c, v := some v }

/-- Lowest and highest signed 72-bit value. -/
def minS : Int := -(2 ^ 71)
def maxS : Int := 2 ^ 71 - 1
/-- An exact result lies outside the signed range (R220, R221). -/
def ovf (x : Int) : Bool := x < minS || maxS < x

/-- a + b + carry with its flags (R220). -/
def addF (a b : Word) (cin : Nat) : Word × FlagW :=
  let r := BitVec.ofNat 72 (a.toNat + b.toNat + cin)
  (r, nzcv r (2 ^ 72 ≤ a.toNat + b.toNat + cin) (ovf (a.toInt + b.toInt + cin)))

/-- a − b − borrow with its flags; C is the borrow (R220). -/
def subF (a b : Word) (bin : Nat) : Word × FlagW :=
  let r := BitVec.ofInt 72 ((a.toNat : Int) - b.toNat - bin)
  (r, nzcv r (a.toNat < b.toNat + bin) (ovf (a.toInt - b.toInt - bin)))

/-- 0 − a; C is a ≠ 0 (R220, R224). -/
def negF (a : Word) : Word × FlagW :=
  let r := -a
  (r, nzcv r (a ≠ 0) (ovf (-a.toInt)))

/-- Logic results: C and V are 0 (R220). -/
def logicF (r : Word) : Word × FlagW := (r, nzcv r false false)

/-- MUL: low half of the signed product (R221). -/
def mulF (a b : Word) : Word × FlagW :=
  let r := a * b
  (r, nzcv r false (ovf (a.toInt * b.toInt)))

/-- MULH and MULHU: high half (R221). -/
def mulhF (a b : Word) : Word × FlagW :=
  let r := BitVec.ofInt 72 (a.toInt * b.toInt / 2 ^ 72)
  (r, nzcv r false false)
def mulhuF (a b : Word) : Word × FlagW :=
  let r := BitVec.ofNat 72 (a.toNat * b.toNat / 2 ^ 72)
  (r, nzcv r false false)

/-- Flags of a division: DZ is set by a zero divisor (R221, R224). -/
def divFlags (r : Word) (v dz : Bool) : FlagW := { nzcv r false v with dz := some dz }

/-- Signed quotient and remainder, truncating toward zero; −2^71 by −1 sets V; by zero gives 0 and the dividend with DZ
(R221, R224). -/
def divF (a b : Word) : Word × FlagW :=
  if b = 0 then (0, divFlags 0 false true)
  else
    let r := BitVec.ofInt 72 (a.toInt.tdiv b.toInt)
    (r, divFlags r (ovf (a.toInt.tdiv b.toInt)) false)
def remF (a b : Word) : Word × FlagW :=
  if b = 0 then (a, divFlags a false true)
  else
    let r := BitVec.ofInt 72 (a.toInt.tmod b.toInt)
    (r, divFlags r (ovf (a.toInt.tdiv b.toInt)) false)

/-- Unsigned quotient and remainder (R221, R224). -/
def divuF (a b : Word) : Word × FlagW :=
  if b = 0 then (0, divFlags 0 false true)
  else
    let r := BitVec.ofNat 72 (a.toNat / b.toNat)
    (r, divFlags r false false)
def remuF (a b : Word) : Word × FlagW :=
  if b = 0 then (a, divFlags a false true)
  else
    let r := BitVec.ofNat 72 (a.toNat % b.toNat)
    (r, divFlags r false false)

/-- Shifts by the full unsigned amount; C is the OR of the bits that leave the word, V is 0 (R222, R224). -/
def shlF (a : Word) (k : Nat) : Word × FlagW :=
  let r := if 72 ≤ k then 0 else BitVec.ofNat 72 (a.toNat * 2 ^ k)
  (r, nzcv r (if 72 ≤ k then a ≠ 0 else 2 ^ 72 ≤ a.toNat * 2 ^ k) false)
def shrF (a : Word) (k : Nat) : Word × FlagW :=
  let r := if 72 ≤ k then 0 else BitVec.ofNat 72 (a.toNat / 2 ^ k)
  (r, nzcv r (if 72 ≤ k then a ≠ 0 else a.toNat % 2 ^ k ≠ 0) false)
def sarF (a : Word) (k : Nat) : Word × FlagW :=
  let r := if 72 ≤ k then (if a.msb then BitVec.allOnes 72 else 0) else BitVec.ofInt 72 (a.toInt / 2 ^ k)
  (r, nzcv r (if 72 ≤ k then a ≠ 0 else a.toNat % 2 ^ k ≠ 0) false)

/-- Saturating results: clamped to the signed bounds, V exactly when clamped, C 0 (R223). -/
def satF (x : Int) : Word × FlagW :=
  let r := BitVec.ofInt 72 (satInt minS maxS x)
  (r, nzcv r false (ovf x))

/-- Byte extract: zero-extended or sign-extended; an index of 9 or more gives 0 with V (R225). -/
def bxtF (a : Word) (k : Nat) (signed : Bool) : Word × FlagW :=
  if 9 ≤ k then (0, { v := some true })
  else
    let byte := fld a (8 * k + 7) (8 * k)
    (if signed ∧ 128 ≤ byte then BitVec.ofInt 72 ((byte : Int) - 256) else BitVec.ofNat 72 byte, { v := some false })

/-- Byte insert: none when the index is 9 or more (R225). -/
def binsF (d a : Word) (k : Nat) : Option Word × FlagW :=
  if 9 ≤ k then (none, { v := some true })
  else (some (putFld d (8 * k + 7) (8 * k) (fld a 7 0)), { v := some false })

/-- A condition of R219 on FLAGS. -/
def fN (f : BitVec 5) : Bool := f.getLsbD 4
def fZ (f : BitVec 5) : Bool := f.getLsbD 3
def fC (f : BitVec 5) : Bool := f.getLsbD 2
def fV (f : BitVec 5) : Bool := f.getLsbD 1

end Sys2Proof.Machine
end

