-- ==== Sys2Proof/Machine/Cpu.lean ====
section
/-! DEFINITION. A coach core (spec/09): its registers and windows, the signature fold (R183, R184), memory translation
(R237–R240), taking a trap and returning from one (R229–R234), retiring an instruction. -/

namespace Sys2Proof.Machine

/-- The fold of a signature (R184). -/
def sigStep (x : Word) : Word := let t := x <<< 1; if x.msb then t ^^^ (0x1C27#72) else t
def sigFold (x u v : Word) : Word := sigStep (sigStep x ^^^ u) ^^^ v
/-- SEED (R184). -/
def seed : Word := 0xA55A5A5A5A5A5A5A5A#72

/-- A core while it executes one instruction, with the memories that it reaches and what happens beside it. -/
structure Cpu where
  co     : Coach
  frame  : Tab Word
  device : Tab Word
  poison : List Nat
  locked : Bool
  free   : Nat
  /-- the copy's working buffer, and the state buffer beneath it of a slot in SHADOW (R36, R199) -/
  work   : Tab (Option Word) := []
  buf    : Tab (Option Word) := []
  /-- the device words whose value the model knows: the timer units (R147) -/
  live   : Tab (Option Word) := []
  /-- device words written, in order (R14) -/
  out    : List (Nat × Word) := []
  /-- frame-memory words read, whose correctable errors are corrected (R235, R240) -/
  seen   : List Nat := []
  derail : Bool := false
  /-- a coupling is reached (R186): whether it is the final one, with S and the count of retired instructions there -/
  couple : Option (Bool × Word × Nat) := none
  /-- the instruction was FEND -/
  fend   : Bool := false
  /-- a walk fault was taken (event 0x0403) with its TCAUSE -/
  walk   : Option Nat := none
  /-- the frame-memory word whose uncorrectable error the instruction met -/
  hit    : Option Nat := none
  deriving DecidableEq, Repr

/-- A register field is illegal: reserved, or the trap window outside trap mode (R212). -/
def Cpu.badReg (u : Cpu) (f : RegField) : Bool :=
  48 ≤ f.toNat || (40 ≤ f.toNat && !u.co.trapMode)

/-- The current window is the bottom window (R213, R214). -/
def Coach.bottom (c : Coach) : Bool := c.depth = 1 && c.spilled = 0

/-- The physical register that a field names, none for an i register of the bottom window (R212, R213). -/
def Coach.phys (c : Coach) (f : RegField) : Option Nat :=
  let n := f.toNat
  if n < 16 then some n
  else if n < 24 then (if c.bottom then none else some (24 + 16 * ((c.cur + 6) % 7) + (n - 16)))
  else if n < 32 then some (16 + 16 * c.cur + (n - 24))
  else if n < 40 then some (24 + 16 * c.cur + (n - 32))
  else some (128 + (n - 40))

/-- A physical register; physical 0 (g0) reads zero. -/
def Coach.getPhys (c : Coach) (k : Nat) : Word := if k = 0 then 0 else Tab.get 0 c.regs k

/-- Read a register field (R212, R213). -/
def Cpu.get (u : Cpu) (f : RegField) : Word :=
  match u.co.phys f with
  | none => 0
  | some k => u.co.getPhys k

/-- Write a physical register and fold the write (R183); physical 0 ignores it. -/
def Coach.setPhys (c : Coach) (k : Nat) (w : Word) : Coach :=
  if k = 0 then c
  else { c with regs := Tab.set 0 c.regs k w, sig := sigFold c.sig (BitVec.ofNat 72 (2 ^ 71 + k)) w }

/-- Write a register field (R212, R213, R183). -/
def Cpu.set (u : Cpu) (f : RegField) (w : Word) : Cpu :=
  match u.co.phys f with
  | none => u
  | some k => { u with co := u.co.setPhys k w }

/-- Write the flags (R217). -/
def Cpu.flagged (u : Cpu) (w : FlagW) : Cpu :=
  { u with co := { u.co with flags := w.apply u.co.flags, ef := w.sticky u.co.ef } }

/-- Kinds of access (TDETAIL.KIND). -/
def kFetch : Nat := 0
def kLoad : Nat := 1
def kStore : Nat := 2
def kXchg : Nat := 3

/-- What a translation gives: a physical word address, an access fault, or a walk fault with entry address and level. -/
inductive Trans where
  | ok (pa : Nat)
  | access
  | walk (cause entry level : Nat)
  deriving DecidableEq, Repr

/-- A walkable address: frame memory (R237). -/
def walkable (pa : Nat) : Bool := pa < 0x800000

/-- A page entry permits an access (R240). -/
def permitted (e : Word) (kind : Nat) (trapMode : Bool) : Bool :=
  (match kind with
   | 0 => bit e 67
   | 1 => bit e 69
   | 2 => bit e 68
   | _ => bit e 69 && bit e 68) && (!(bit e 66) || trapMode)

/-- The region check of R237 on the address that a translation returns. -/
def Cpu.region (u : Cpu) (kind pa : Nat) : Bool :=
  pa < 0x800000 || (0x100000000 ≤ pa && pa ≤ 0x1000071C6) ||
  (0x200000000 ≤ pa && pa ≤ 0x200FFFFFF && !u.locked && kind ≠ kFetch)

/-- A word beneath buffered writes (R36). -/
def beneath (l : Tab (Option Word)) (a : Nat) (w : Word) : Word := (Tab.get none l a).getD w

/-- A word of frame memory as the copy sees it: its own frame's writes over the verified state (R36, R199). -/
def Cpu.word (u : Cpu) (pa : Nat) : Word := beneath u.work pa (beneath u.buf pa (Tab.get 0 u.frame pa))

/-- A write to frame memory: into the working buffer of a locked copy (R36). -/
def Cpu.putWord (u : Cpu) (pa : Nat) (w : Word) : Cpu :=
  if u.locked then { u with work := Tab.set none u.work pa (some w) } else { u with frame := Tab.set 0 u.frame pa w }

/-- The walker (R240), with the partition of the mode and the region check. -/
def Cpu.translate (u : Cpu) (va kind : Nat) : Trans :=
  let part := if u.co.trapMode then 0 else u.co.part.toNat
  let ptbr := Tab.get (0 : Word) u.co.ptbr part
  if !(bit ptbr 71) then .access
  else
    let a1 := fld ptbr 35 14 * 2 ^ 14 + va / 2 ^ 26 % 2 ^ 14
    if !walkable a1 then .walk 0x09 a1 0
    else if u.poison.contains a1 then .walk 0x0A a1 0
    else
      let e1 := u.word a1
      if fld e1 71 70 = 0 then .access
      else if fld e1 71 70 ≠ 1 ∨ fld e1 65 36 ≠ 0 ∨ fld e1 11 0 ≠ 0 ∨ fld e1 13 12 ≠ 0 then .walk 0x0B a1 0
      else
        let a2 := fld e1 35 12 * 2 ^ 12 + va / 2 ^ 12 % 2 ^ 14
        if !walkable a2 then .walk 0x09 a2 1
        else if u.poison.contains a2 then .walk 0x0A a2 1
        else
          let e2 := u.word a2
          if fld e2 71 70 = 0 then .access
          else if fld e2 71 70 ≠ 2 ∨ fld e2 65 36 ≠ 0 ∨ fld e2 11 0 ≠ 0 then .walk 0x0B a2 1
          else if !permitted e2 kind u.co.trapMode then .access
          else
            let pa := fld e2 35 12 * 2 ^ 12 + va % 2 ^ 12
            if u.region kind pa then .ok pa else .access

/-- The entries that a walk reads (R240). -/
def Cpu.walkReads (u : Cpu) (va : Nat) : List Nat :=
  let part := if u.co.trapMode then 0 else u.co.part.toNat
  let ptbr := Tab.get (0 : Word) u.co.ptbr part
  if !(bit ptbr 71) then []
  else
    let a1 := fld ptbr 35 14 * 2 ^ 14 + va / 2 ^ 26 % 2 ^ 14
    let e1 := u.word a1
    if !walkable a1 then []
    else if u.poison.contains a1 ∨ fld e1 71 70 ≠ 1 ∨ fld e1 65 36 ≠ 0 ∨ fld e1 11 0 ≠ 0 ∨ fld e1 13 12 ≠ 0 then [a1]
    else
      let a2 := fld e1 35 12 * 2 ^ 12 + va / 2 ^ 12 % 2 ^ 14
      if walkable a2 then [a1, a2] else [a1]

/-- The words that a walk reads have been read. -/
def Cpu.sees (u : Cpu) (l : List Nat) : Cpu := { u with seen := u.seen ++ l }

/-- A word of physical memory; a device word is a timer unit's value (R147), or has a free value (R237; log entry 5). -/
def Cpu.readPhys (u : Cpu) (pa : Nat) : Word :=
  if pa < 0x800000 then u.word pa
  else if pa < 0x200000000 then Tab.get 0 u.co.scratch (pa - 0x100000000)
  else (Tab.get none u.live (pa - 0x200000000)).getD (Config.freeWord u.free)

/-- A read of the device region has drawn a free value. -/
def Cpu.didRead (u : Cpu) (pa : Nat) : Cpu := if 0x200000000 ≤ pa then { u with free := u.free + 1 } else u

/-- Write a word of physical memory; a store to frame memory or scratch is folded with its virtual address (R183), and a
write clears the poison of its word (R366). -/
def Cpu.writePhys (u : Cpu) (pa va : Nat) (w : Word) : Cpu :=
  let sig := sigFold u.co.sig (BitVec.ofNat 72 (2 ^ 70 + va % 2 ^ 40)) w
  if pa < 0x800000 then
    { (u.putWord pa w) with poison := u.poison.filter (· ≠ pa), co := { u.co with sig := sig } }
  else if pa < 0x200000000 then
    { u with co := { u.co with scratch := Tab.set 0 u.co.scratch (pa - 0x100000000) w, sig := sig } }
  else { u with device := Tab.set 0 u.device (pa - 0x200000000) w, out := u.out ++ [(pa - 0x200000000, w)] }

/-- The trap-state registers of a trap (R230), in ascending physical order. -/
def Coach.trapState (c : Coach) (tpc : BitVec 41) (cause : Nat) (tval tdetail insn : Word) : Coach :=
  ((((((((c.setPhys 136 (tpc.setWidth 72)).setPhys 137 (BitVec.ofNat 72 cause)).setPhys 138 tval).setPhys 139
    tdetail).setPhys 140 (c.flags.setWidth 72)).setPhys 141 (c.part.setWidth 72)).setPhys 142 insn).setPhys 143
    (BitVec.ofNat 72 c.retcnt))

/-- A trap is taken (R230): the trap-state registers, trap mode, and the vector word; in trap mode it is a double trap and
the coach derails (R233), as it does when the vector word cannot be read. -/
def Cpu.trapAt (u : Cpu) (tpc : BitVec 41) (cause : Nat) (tval tdetail insn : Word) : Cpu :=
  if u.co.trapMode then { u with derail := true }
  else
    let u0 := { u with co := { (u.co.trapState tpc cause tval tdetail insn) with trapMode := true } }
    let va := (fld u.co.vbase 39 4 * 16 + cause) % 2 ^ 40
    let u1 := u0.sees (u0.walkReads va)
    match u1.translate va kLoad with
    | .ok pa =>
      let w := u1.readPhys pa
      if u1.poison.contains pa then { u1 with derail := true, hit := some pa }
      else if fld w 71 41 ≠ 0 then { u1 with derail := true }
      else { ((u1.didRead pa).sees [pa]) with co := { u1.co with pc := w.setWidth 41 } }
    | .access => { u1 with derail := true }
    | .walk c entry _ => { u1 with derail := true, walk := some c, hit := if c = 0x0A then some entry else u1.hit }

/-- A trap on the instruction itself (R229). -/
def Cpu.trap (u : Cpu) (cause : Nat) (tval : Word) (insn : Word) : Cpu := u.trapAt u.co.pc cause tval 0 insn

/-- An illegal instruction (R211, R229). -/
def Cpu.illegal (u : Cpu) (insn : Word) : Cpu := u.trap 0x01 0 insn

/-- The instruction retires and execution continues at pc (R186, R234): the 4,096th retired instruction since the last
coupling is a coupling. -/
def Cpu.retire (u : Cpu) (pc : BitVec 41) : Cpu :=
  let n := u.co.cplcnt + 1
  { u with
    co := { u.co with pc := pc, retcnt := u.co.retcnt + 1, cplcnt := if n = 4096 then 0 else n },
    couple := if n = 4096 then some (false, u.co.sig, u.co.retcnt + 1) else u.couple }

/-- A coupling falls on the instruction that has retired last (R186, R236). -/
def Cpu.coupleNow (u : Cpu) (fin : Bool) : Cpu :=
  { u with co := { u.co with cplcnt := 0 }, couple := some (fin, u.co.sig, u.co.retcnt) }

/-- Retire and go on with the next instruction (R209). -/
def Cpu.next (u : Cpu) : Cpu := u.retire (u.co.pc + 1)

/-- Instruction words (formats of R210): RR, I, U, J. -/
def insnRR (op func : Nat) (d a b : RegField) : Word :=
  BitVec.ofNat 72 (op * 2 ^ 28 + d.toNat * 2 ^ 22 + a.toNat * 2 ^ 16 + b.toNat * 2 ^ 10 + func)
def insnI (op : Nat) (d a : RegField) (imm : BitVec 16) : Word :=
  BitVec.ofNat 72 (op * 2 ^ 28 + d.toNat * 2 ^ 22 + a.toNat * 2 ^ 16 + imm.toNat)
def insnU (op : Nat) (d : RegField) (imm : BitVec 22) : Word :=
  BitVec.ofNat 72 (op * 2 ^ 28 + d.toNat * 2 ^ 22 + imm.toNat)
def insnJ (op : Nat) (disp : BitVec 28) : Word := BitVec.ofNat 72 (op * 2 ^ 28 + disp.toNat)

/-- A computing instruction: illegal register fields trap, then the arithmetic trap with its TVAL, else the destination
and the flags are written and the instruction retires (R211, R217, R229, R231). -/
def Cpu.compute (u : Cpu) (insn : Word) (used : List RegField) (dst : Option RegField) (res : Option Word) (fw : FlagW)
    (tval : Nat) : Cpu :=
  if used.any u.badReg then u.illegal insn
  else if tval ≠ 0 then u.trap 0x02 (BitVec.ofNat 72 tval) insn
  else
    let u1 := match dst, res with
      | some d, some w => u.set d w
      | _, _ => u
    (u1.flagged fw).next

/-- TVAL of a checked form: 0x1 when V is set, 0x2 when DZ is (R229). -/
def trapV (fw : FlagW) : Nat := if fw.v = some true then 1 else if fw.dz = some true then 2 else 0

/-- A data access fault of a translation (R229, R231): cause, TVAL the virtual address, TDETAIL. -/
def Cpu.faultOf (u : Cpu) (t : Trans) (va kind : Nat) (insn : Word) : Cpu :=
  let tv := BitVec.ofNat 72 va
  match t with
  | .ok _ => u
  | .access => u.trapAt u.co.pc (if kind = kLoad then 0x06 else 0x07) tv (BitVec.ofNat 72 kind) insn
  | .walk cause entry level =>
    { (u.trapAt u.co.pc cause tv (BitVec.ofNat 72 (entry * 2 ^ 36 + level * 4 + kind)) insn) with
      walk := some cause, hit := if cause = 0x0A then some entry else u.hit }

/-- Give the physical address of an access to f, or take the trap that the access meets (R227, R231, R235). -/
def Cpu.access (u : Cpu) (addr : Word) (kind : Nat) (insn : Word) (f : Cpu → Nat → Nat → Cpu) : Cpu :=
  if fld addr 71 40 ≠ 0 then u.trap 0x08 addr insn
  else
    let va := addr.toNat
    let u1 := u.sees (u.walkReads va)
    match u.translate va kind with
    | .ok pa =>
      if kind ≠ kStore ∧ u.poison.contains pa then
        { (u1.trapAt u.co.pc 0x0C (BitVec.ofNat 72 va) (BitVec.ofNat 72 kind) insn) with hit := some pa }
      else f (if kind = kStore then u1 else u1.sees [pa]) pa va
    | t => u1.faultOf t va kind insn

end Sys2Proof.Machine
end

