-- ==== Sys2Proof/Machine/Slots.lean ====
section
/-! DEFINITION. Slots, couplings, mismatches, reserves, hand-overs, splits, joins and debugging (spec/08: R179–R207). -/

namespace Sys2Proof.Machine

/-- The index of a coach (R362). -/
def coachIx (d : Side) (c : Nat) : Nat := 64 * d.ix + c
/-- The coach of slot p on a side. -/
def State.slotCoach (s : State) (d : Side) (p : Nat) : Nat := coachIx d ((s.slotOf p).coachOn d)

/-- The entry address of a split coach (log entry 7): words 20 and 21 of the slot. -/
def State.splitEntry (s : State) (d : Side) (p : Nat) : BitVec 41 := (s.cw cSLOT p (20 + d.ix)).setWidth 41
/-- The package declares the slot SPLIT (R198); slot 0 cannot be split (R15). -/
def State.slotSplit (s : State) (p : Nat) : Bool := p ≠ 0 && bit (s.cw cSLOT p 19) 0

/-- The work that a slot runs: its own, or as the target of a hand-over that has copied it the source's (R199). -/
def State.workOf (s : State) (p : Nat) : Nat := (s.slotOf p).shadowOf.getD p

/-- The new package runs in a slot: in the target of an activation's hand-over, and after the exchange in its source (R200). -/
def State.runsNew (s : State) (p : Nat) : Option Pkg :=
  match s.dev.cfgAct, s.dev.cfgStage with
  | some a, some g => if a.renewed.contains p || (a.spare = p && (s.slotOf p).shadowOf.isSome) then some g.pkg else none
  | _, _ => none

/-- A configured word of the work that a slot runs (R199, R200). -/
def State.slotWord (s : State) (p w : Nat) : Word :=
  match s.runsNew p with
  | some k => k.word cSLOT (s.workOf p) w &&& cfgMask cSLOT w
  | none => s.cw cSLOT (s.workOf p) w

/-- The core at the start of frame work, or of a split coach's program (R214): registers, flags, windows and special
registers at their reset or configured values, execution at the entry address, S at SEED (R183). -/
def State.freshCore (s : State) (p : Nat) (entry : BitVec 41) (old : Coach) : Coach :=
  { scratch := old.scratch, pc := entry, part := (s.slotWord p 2).setWidth 4, slotNo := BitVec.ofNat 6 (s.workOf p),
    vbase := s.slotWord p 1,
    ptbr := ((List.range 16).map fun i => (i, s.slotWord p (3 + i))).filter fun e => e.2 ≠ 0 }

/-- A coach starts executing at an entry; it is no longer derailed (R195, R198, R214). -/
def State.startCoach (s : State) (i p : Nat) (entry : BitVec 41) : State :=
  (s.updCoach i fun c => s.freshCore p entry c).updCst i fun c => { c with
    stopped := false, derailed := false, waitFend := false, powered := true }

/-- A coach's scratch memory is cleared (R190, R194, R372). -/
def State.clearScratch (s : State) (i : Nat) : State := s.updCoach i fun c => { c with scratch := [] }

/-- The entry address of the work that a slot runs (log entry 7). -/
def State.slotEntry (s : State) (p : Nat) : BitVec 41 := (s.slotWord p 0).setWidth 41

/-- Both copies of a locked slot start their frame work from the verified state; the trail holds 160 cycles (R36, R181). -/
def State.startFrameWork (s : State) (p : Nat) : State :=
  let a := s.slotCoach .A p
  let b := s.slotCoach .B p
  (((s.startCoach a p (s.slotEntry p)).startCoach b p (s.slotEntry p)).updCst b fun c => { c with hold := 160 }).updSlot p fun x =>
    { x with work := ⟨[], []⟩ }

/-- The coupling unit of a side (R187): the values of the copies on sides A and B. -/
def Slot.unit (x : Slot) : Side → Two (List CplVals)
  | .A => x.cplA
  | .B => x.cplB
/-- Change the coupling unit of a side. -/
def Slot.setUnit (x : Slot) (d : Side) (u : Two (List CplVals)) : Slot :=
  match d with
  | .A => { x with cplA := u }
  | .B => { x with cplB := u }
/-- Both sides have verified the final coupling of the frame (R42, R187; log entry 83). -/
def Slot.verified (x : Slot) : Bool := x.ver.a && x.ver.b

/-- A copy sends its values at a coupling to both sides' units, behind those that wait there (R187). -/
def State.sendCpl (s : State) (d : Side) (p : Nat) (v : CplVals) : State :=
  let put (u : Two (List CplVals)) : Two (List CplVals) := u.set (u.get d ++ [v]) d
  s.updSlot p fun x => { x with cplA := put x.cplA, cplB := put x.cplB }

/-- A word of frame memory as a side's verified state of a slot has it (R36, R199). -/
def State.heldWord (s : State) (d : Side) (p a : Nat) : Word := beneath ((s.slotOf p).buf.get d) a (Tab.get 0 (s.mem.get d).frame a)
/-- A word of frame memory as the running frame of a copy has it (R36). -/
def State.runWord (s : State) (d : Side) (p a : Nat) : Word := beneath ((s.slotOf p).work.get d) a (s.heldWord d p a)

/-- Insert into an ascending list. -/
def insertNat (k : Nat) : List Nat → List Nat
  | [] => [k]
  | j :: r => if k ≤ j then k :: j :: r else j :: insertNat k r
/-- A list of addresses in ascending order. -/
def ascending (l : List Nat) : List Nat := l.foldr insertNat []

/-- A fold of words in ascending address order, from SEED (R185, R194); tag is the place that u has in [71:70]. -/
def foldArea (tag : Nat) (l : List Nat) (word : Nat → Word) : Word :=
  (ascending l).foldl (fun g a => sigFold g (BitVec.ofNat 72 (tag * 2 ^ 70 + a % 2 ^ 40)) (word a)) seed

/-- The output signature of a copy over the output area of the work that it runs (R185, R199). -/
def State.outSig (s : State) (d : Side) (p : Nat) : Word := foldArea 3 (Config.outputArea (s.workOf p)) (s.runWord d p)

/-- Functions of a slot (R244). -/
def State.fnsOfSlot (s : State) (p : Nat) : List Nat := s.fns.filter fun f => s.fSlot f = p

/-- The source of a hand-over whose target is q (R199). -/
def State.sourceOf (s : State) (q : Nat) : Option Nat :=
  (List.range 48).find? fun p => ((s.slotOf p).hand.map fun (h : Handover) => h.target) = some q

/-- Hand-overs in which a slot takes part are aborted by its mismatch or overrun (R201). -/
def State.abortAround (s : State) (p : Nat) : State :=
  let s1 := s.abortHandover p
  match s.sourceOf p with
  | none => s1
  | some q => s1.abortHandover q

/-- What a side itself does when it registers a mismatch (R189): its lattice signal, its copy stopped, its working buffer
discarded. -/
def State.sideMismatch (s : State) (d : Side) (p : Nat) : State :=
  ((s.updHalf d fun h => { h with mismatch := setBit h.mismatch p true }).updCst (s.slotCoach d p) fun c =>
    { c with stopped := true }).updSlot p fun x => { x.setUnit d ⟨[], []⟩ with reg := x.reg.set true d, work := x.work.set [] d }

/-- A side registers a coupling mismatch of a slot (R188, R189). The first of the two sides brings the slot to TESTING, with
FAULT marks of cause 0x11, the event and the tests of both coaches (R365); the other registers it for itself. -/
def State.registerMismatch (s : State) (d : Side) (p cause : Nat) : State :=
  match (s.slotOf p).st with
  | .locked | .shadow =>
    let s1 := (s.abortAround p).updSlot p fun y => { y with
      st := .testing, cause := cause, mismatched := true, reg := ⟨false, false⟩, rebuilt := false, awaitRel := false,
      outNow := none, ver := ⟨false, false⟩, bankWait := (cause = 9) }
    let s2 := s1.sideMismatch d p
    let s3 := (s2.faultAll (s.fnsOfSlot p) 0x11 cause).postL 0x0301 (nSlot p) 3 cause true
    let s4 := s3.forEach (s.fnsOfSlot p) fun y f => y.updFn f fun z => { z with
      next := none, latched := z.latched ++ [(0x11, BitVec.ofNat 8 cause, 0x1FF)] }
    (if cause = 9 then s4 else (s4.startTest (nCoach (s.slotCoach .A p)) tcCoach).startTest (nCoach (s.slotCoach .B p)) tcCoach).settle
  | .testing =>
    let x := s.slotOf p
    let s1 := if x.reg.get d.other ∧ !x.reg.get d then s.sideMismatch d p else s
    (if cause = 9 then s1.updSlot p fun y => { y with bankWait := true, rebuilt := false } else s1).settle
  | _ => s

/-- A bank of frame memory that holds a word address (R237). -/
def bankOf (pa : Nat) : Nat := pa / 2 ^ 19

/-- Frame memory bank b of a side. -/
def State.bankAt (s : State) (d : Side) (b : Nat) : Bank := Tab.get {} s.tests.banks (16 * d.ix + b)
/-- Change a bank. -/
def State.updBank (s : State) (d : Side) (b : Nat) (f : Bank → Bank) : State :=
  { s with tests := { s.tests with banks := Tab.upd {} s.tests.banks (16 * d.ix + b) f } }

/-- The copy of a bank into the free bank begins, or, without a free bank, its test in place (R366). -/
def State.copyBank (s : State) (d : Side) (b : Nat) : State :=
  match s.tests.freeBank.get d with
  | some f =>
    if f = b then s.updBank d b fun x => { x with testing := true }
    else
      let s1 := s.updBank d b fun x => { x with copying := true }
      { s1 with tests := { s1.tests with freeBank := s1.tests.freeBank.set none d } }
  | none => s.updBank d b fun x => { x with testing := true }

/-- A bank test begins, by an error or by ST_RUN (R366): the copy, and every slot whose code or state lies in the bank is
stopped with cause BANK (R188, R189). -/
def State.beginBankTest (s : State) (d : Side) (b : Nat) : State :=
  let ps := (Config.bankSlots (16 * d.ix + b)).filter (· < 48)
  let s1 := (s.copyBank d b).updBank d b fun x => { x with slots := ps }
  s1.forEach ps fun x p => x.registerMismatch d p 9

/-- A requested bank test counts as targeted from an error during its copy on (R383). -/
def State.targetBank (s : State) (d : Side) (b : Nat) : State :=
  let n := nBank d b
  { s with tests := { s.tests with running := s.tests.running.map fun q =>
      if q.node = n ∧ q.cls = tcBank then { q with requested := false } else q } }

/-- An error starts the targeted test of a bank (R366, R383). -/
def State.errorBank (s : State) (d : Side) (b : Nat) : State :=
  if s.isRetired (nBank d b) tcBank then s
  else if (s.bankAt d b).copying ∧ ((s.tests.find (nBank d b) tcBank).map fun (q : Test) => q.requested) = some true then s.targetBank d b
  else if (s.tests.find (nBank d b) tcBank).isSome then s.startTest (nBank d b) tcBank
  else (s.startTest (nBank d b) tcBank).beginBankTest d b

/-- An uncorrectable error in frame memory is met (R235, R240): its event and the test of the bank. -/
def State.memoryError (s : State) (d : Side) (pa : Nat) : State :=
  (s.postL 0x0402 (nBank d (bankOf pa)) 3 (pa % 2 ^ 19) false).errorBank d (bankOf pa)

/-- The comparison of R188 in the order SIG, COUNT, OUTPUT, LAG; 0 when the coupling verifies. -/
def cplCause (a b : CplVals) (lag : Int) (noLag : Bool) : Nat :=
  if a.sig ≠ b.sig then 1
  else if a.count ≠ b.count ∨ a.fin ≠ b.fin then 2
  else if a.fin ∧ a.outp ≠ b.outp then 3
  else if !noLag ∧ (lag < 0 ∨ 512 < lag) then 5
  else 0

/-- Lag regulation (R182): cycles that the lead and the trail hold. -/
def lagHold (lag : Int) : Nat × Nat :=
  if lag < 128 then (0, (160 - lag).toNat) else if lag ≤ 192 then (0, 0) else ((lag - 160).toNat, 0)

/-- The words of a function agree between the verified states of two slots, on both sides (R199). -/
def State.fnAgrees (s : State) (p q f : Nat) : Bool :=
  [Side.A, Side.B].all fun d => (Config.fnArea f).all fun a => decide (s.heldWord d p a = s.heldWord d q a)

/-- The functions of a slot that an activation leaves unchanged (R200). -/
def State.sameFns (s : State) (p : Nat) : List Nat :=
  match s.dev.cfgAct with
  | none => s.fnsOfSlot p
  | some a => (s.fnsOfSlot p).filter fun f => !a.changed.contains f

/-- The shadow comparison of a frame whose source and target have both verified (R199, R200): the output signatures and the
states of the functions agree; where the package changes functions of the slot, the comparison covers the others. -/
def State.shadowCompare (s : State) (p : Nat) : State :=
  match (s.slotOf p).hand with
  | none => s
  | some h =>
    if (s.slotOf h.target).st ≠ .shadow then s
    else
      match (s.slotOf p).outNow, (s.slotOf h.target).outNow with
      | some a, some b =>
        if (a = b ∨ s.sameFns p ≠ s.fnsOfSlot p) ∧ (s.sameFns p).all (s.fnAgrees p h.target) then
          (s.updSlot p fun x => { x with hand := some { h with agreed := h.agreed + 1 } }).updSlot h.target fun x =>
            { x with shadowOk := Nat.min 1024 (h.agreed + 1) }
        else s.abortHandover p
      | _, _ => s

/-- The working buffer of a copy becomes the verified state (R36): in frame memory, or in the state buffer of a slot in
SHADOW (R199). -/
def State.keepWork (s : State) (d : Side) (p : Nat) : State :=
  let x := s.slotOf p
  let w := x.work.get d
  let s1 := s.updSlot p fun y => { y with work := y.work.set [] d }
  match x.st with
  | .shadow => s1.updSlot p fun y => { y with buf := y.buf.set (w.foldl (fun t e => Tab.set none t e.1 e.2) (x.buf.get d)) d }
  | _ => s1.updMem d fun m => { m with frame := w.foldl (fun t e => Tab.set 0 t e.1 (e.2.getD 0)) m.frame }

/-- A coupling verifies on a side (R36, R44, R182, R187, R196): LAST_CPL, the hold of the side's own copy, and for the final
coupling by the tick-C edge the verified state; when both sides have it, the end of the run of overruns and the shadow
comparison. -/
def State.cplVerified (s : State) (sd : Side) (p : Nat) (v : CplVals) (lag : Int) (noLag : Bool) : State :=
  let s1 := s.updSlot p fun x =>
    { x.setUnit sd ⟨(x.unit sd).a.tail, (x.unit sd).b.tail⟩ with
      lastCpl := BitVec.ofNat 36 v.count, resumed := x.resumed.set false sd }
  let h := lagHold lag
  let s2 := s1.updCst (s.slotCoach sd p) fun c =>
    { c with hold := match sd with | .A => h.1 | .B => if noLag then 160 else h.2 }
  if v.fin ∧ s.clock.tick ≤ s.clock.cdl ∧ (s.slotOf p).st ≠ .testing then
    let s3 := (s2.keepWork sd p).updSlot p fun x => { x with ver := x.ver.set true sd }
    if (s3.slotOf p).verified then
      (s3.updSlot p fun x => { x with ovr := 0, outNow := some v.outp }).shadowCompare ((s.sourceOf p).getD p)
    else s3
  else s2

/-- A side compares the oldest values that it holds of both copies (R182, R187, R188); one that has registered the mismatch
compares no more. -/
def State.couplingArrive (s : State) (sd : Side) (p : Nat) (lag : Int) : State :=
  let x := s.slotOf p
  let live : Bool := match x.st with | .locked | .shadow => true | .testing => !x.reg.get sd | _ => false
  match (x.unit sd).a, (x.unit sd).b with
  | a :: _, b :: _ =>
    if live then
      match cplCause a b lag (x.resumed.get sd) with
      | 0 => (s.cplVerified sd p a lag (x.resumed.get sd)).settle
      | c => s.registerMismatch sd p c
    else s
  | _, _ => s

/-- COUPLING_TIMEOUT (R188): the side holds its own copy's values and not the other copy's. -/
def execCouplingTimeout (sd : Side) (p : SlotIx) (s : State) : Res :=
  let u := (s.slotOf p.val).unit sd
  if u.get sd ≠ [] ∧ u.get sd.other = [] then settled (s.registerMismatch sd p.val 4) else settled s

/-- The other side's copy has derailed: this side registers the mismatch (R188). -/
def State.derailArrive (s : State) (sd : Side) (p : Nat) : State :=
  if (s.cstOf (s.slotCoach sd.other p)).derailed then s.registerMismatch sd p 6 else s

/-- The other side has stopped the slot for a bank test: this side registers BANK (R188, R366). -/
def State.bankNoticeArrive (s : State) (sd : Side) (p : Nat) : State :=
  if (s.slotOf p).reg.get sd.other ∧ (s.slotOf p).cause = 9 then s.registerMismatch sd p 9 else s

/-- A reserve coach: mapped by no slot, not retired (R179, R197). -/
def State.isReserve (s : State) (d : Side) (c : Nat) : Bool :=
  (s.slotOfCoach d c).isNone && !s.isRetired (nCoach (coachIx d c)) tcCoach && !(s.cstOf (coachIx d c)).retired

/-- The next reserve of a side, in ascending order (R192). -/
def State.nextReserve (s : State) (d : Side) : Option Nat := (List.range 52).find? fun c => s.isReserve d c

/-- A slot is RETIRED (R192, R193): its event, with its functions left in FAULT. -/
def State.retireSlot (s : State) (p cause : Nat) : State :=
  (s.updSlot p fun x => { x with st := .retired, cause := cause, waitA := false, waitB := false }).post 0x0304 (nSlot p) 5 0

/-- Write a map entry, in MRAM first (R179, R395). -/
def State.mapCoach (s : State) (d : Side) (p c : Nat) : State :=
  (s.recWrite d (10 + p) (BitVec.ofNat 72 c)).updSlot p fun x =>
    match d with
    | .A => { x with mapA := c, mapped := true }
    | .B => { x with mapB := c, mapped := true }

/-- The slot waits for a reserve of a side, or is RETIRED without one; slot 0 is served by R193. -/
def State.needReserve (s : State) (d : Side) (p : Nat) : State :=
  match s.nextReserve d with
  | some _ => s.updSlot p fun x => match d with | .A => { x with waitA := true } | .B => { x with waitB := true }
  | none =>
    if p ≠ 0 then s.retireSlot p (s.slotOf p).cause
    else
      match (List.range 48).reverse.find? fun q => (s.slotOf q).st = .locked && !s.hosts q with
      | some q =>
        let c := (s.slotOf q).coachOn d
        let s1 := ((((s.abortAround q).mapCoach d 0 c).retireSlot q 8).updCst (s.slotCoach d.other q) fun x =>
          { x with powered := false, stopped := true })
        s1.updSlot q fun x => { x with mapped := false }
      | none => (s.retireSlot 0 (s.slotOf 0).cause).enterHolding (nSlot 0)

/-- A coach leaves service for good (R191, R192). -/
def State.dropCoach (s : State) (i : Nat) : State := s.updCst i fun c => { c with retired := true, stopped := true }

/-- COACH_TEST_VERDICT (R190–R193, R198): transient counts, retirements, reserves; a split coach is judged alone.
Scratch is cleared before the scan. -/
def execCoachTestVerdict (p : SlotIx) (leadPass : Bool) (trailPass : Bool) (s : State) : Res :=
  let a := s.slotCoach .A p.val
  let b := s.slotCoach .B p.val
  let ea := s.testEnd (nCoach a) tcCoach leadPass
  let eb := s.testEnd (nCoach b) tcCoach trailPass
  let scan (x : State) (i : Nat) (e : TestEnd) : State :=
    match e with
    | .noTest => x
    | _ => x.clearScratch i
  let s1 := scan (scan ((s.endTest (nCoach a) tcCoach leadPass).endTest (nCoach b) tcCoach trailPass) a ea) b eb
  match (s.slotOf p.val).st with
  | .split =>
    let one (x : State) (i : Nat) (e : TestEnd) (d : Side) : State :=
      match e with
      | .lasting => x.dropCoach i
      | .transient => x.startCoach i p.val (s.splitEntry d p.val)
      | _ => x
    settled (one (one s1 a ea .A) b eb .B)
  | _ =>
    let s2 := if ea = .lasting then (s1.dropCoach a).needReserve .A p.val else s1
    settled (if eb = .lasting then (s2.dropCoach b).needReserve .B p.val else s2)

/-- A slot waits for a reserve of a side. -/
def Slot.waits (x : Slot) : Side → Bool
  | .A => x.waitA
  | .B => x.waitB

/-- Slots that still wait for a reserve of a side that has none left (R192). -/
def State.reservesGone (s : State) (d : Side) : State :=
  s.forEach (List.range 48) fun x p => if (x.slotOf p).waits d ∧ x.nextReserve d = none then x.needReserve d p else x

/-- The slot that a side's next reserve is for: the lowest that waits (R192). -/
def State.nextWaiting (s : State) (d : Side) : Option Nat := (List.range 48).find? fun p => (s.slotOf p).waits d

/-- RESERVE_ACCEPTANCE (R192): the next reserve, powered up, for the lowest slot that waits; it is entered in the map with
event 0x0303, or retired and the next one taken. -/
def execReserveAcceptance (sd : Side) (coach : CoachIx) (p : SlotIx) (pass : Bool) (s : State) : Res :=
  if s.nextWaiting sd ≠ some p.val ∨ s.nextReserve sd ≠ some coach.val ∨ !(s.cstOf (coachIx sd coach.val)).powered then settled s
  else if pass then
    settled ((((s.mapCoach sd p.val coach.val).updSlot p.val fun x =>
      match sd with | .A => { x with waitA := false } | .B => { x with waitB := false }).post 0x0303
      (nCoach (coachIx sd coach.val)) 0 p.val).reservesGone sd)
  else
    settled (((s.dropCoach (coachIx sd coach.val)).retireBlock (nCoach (coachIx sd coach.val)) tcCoach).reservesGone sd)

/-- The daily test of a reserve is due (R180): it has not been tested since PROVING, or not for 24 h. -/
def State.dailyDue (s : State) (d : Side) (c : Nat) : Bool :=
  let t := Tab.get 0 s.tests.dailyAt (coachIx d c)
  s.isReserve d c && decide (t = 0 ∨ t + 86400000000 ≤ s.clock.count)

/-- The coach of a side whose power-up is served now (R441): a replacement, the coaches in PROVING, a requested test, the daily test,
each in ascending order. -/
def State.nextPowerUp (s : State) (d : Side) : Option Nat :=
  let off (c : Nat) : Bool := !(s.cstOf (coachIx d c)).powered
  let first (p : Nat → Bool) : Option Nat := (List.range 52).find? fun c => off c && p c
  let repl : Option Nat := if (s.nextWaiting d).isSome then (s.nextReserve d).filter off else none
  let proving : Option Nat := if s.dev.st = .proving then first fun _ => true else none
  ((repl.or proving).or (first fun c => (s.cstOf (coachIx d c)).powering)).or (first (s.dailyDue d))

/-- RESERVE_DAILY_TEST (R180): of a powered reserve, when it is due; a failing reserve is retired, and a passing one is power-gated
again. -/
def execReserveDailyTest (sd : Side) (coach : CoachIx) (pass : Bool) (s : State) : Res :=
  let i := coachIx sd coach.val
  if !s.dailyDue sd coach.val ∨ !(s.cstOf i).powered then done s
  else if pass then
    let s1 := (s.clearScratch i).updCst i fun c => { c with powered := false, powering := false }
    done { s1 with tests := { s1.tests with dailyAt := Tab.set 0 s1.tests.dailyAt i s.clock.count } }
  else settled (((s.dropCoach i).retireBlock (nCoach i) tcCoach).reservesGone sd)

/-- COACH_POWER_UP_DONE (R441): the coach whose turn it is has its rail; one power-up starts in any 50 µs of a side, and it takes at most
30 µs. -/
def execCoachPowerUpDone (sd : Side) (coach : CoachIx) (s : State) : Res :=
  let from_ := s.tests.rise.get sd
  if s.nextPowerUp sd ≠ some coach.val ∨ s.clock.count < from_ then done s
  else
    let s1 := s.updCst (coachIx sd coach.val) fun c => { c with powered := true, powering := false }
    done { s1 with tests := { s1.tests with rise := s1.tests.rise.set (Nat.max from_ (s.clock.count - 30) + 50) sd } }

/-- The rebuild of a slot may begin (R190, R192, R194, R366, R207): no verdict and no reserve is awaited. -/
def State.canRebuild (s : State) (p : Nat) : Bool :=
  let x := s.slotOf p
  x.st = .testing && !x.joining && !x.waitA && !x.waitB && !x.bankWait && (s.dev.st ≠ .holding) &&
  (s.tests.find (nCoach (s.slotCoach .A p)) tcCoach).isNone && (s.tests.find (nCoach (s.slotCoach .B p)) tcCoach).isNone

/-- The fold of a side's verified state buffer of a slot (R194). -/
def State.stateFold (s : State) (d : Side) (p : Nat) : Word := foldArea 1 (Config.stateArea p) (s.heldWord d p)

/-- The sides' results agree (R194): each side compares its own with what the other's arrived as. -/
def State.foldsAgree (s : State) (p : Nat) (foldA foldB : Word) : Bool := s.stateFold .A p = foldB && s.stateFold .B p = foldA

/-- The comparison of a rebuild (R194): scratch is cleared; with equal folds the slot may rejoin; with different ones its
functions restart from their initial state, in FAULT, and it rejoins the same way. -/
def State.rebuildArrive (s : State) (p : Nat) (foldA foldB : Word) : State :=
  if !s.canRebuild p then s
  else
    let x := s.slotOf p
    let s1 := ((s.clearScratch (s.slotCoach .A p)).clearScratch (s.slotCoach .B p)).updSlot p fun y =>
      { y with rebuilt := true, rebuiltAt := s.clock.count }
    if s.foldsAgree p foldA foldB then s1
    else
      let restart (z : Fn) : Fn := { st := .fault, cause := 0x11, detail := BitVec.ofNat 8 x.cause,
                                     latched := [(0x11, BitVec.ofNat 8 x.cause, 0x1FF)],
                                     chgFrame := z.chgFrame, parent := nSlot p }
      (s1.forEach (s.fnsOfSlot p) fun y f => y.updFn f restart).settle

/-- The slot can rejoin at this edge (R194, R204): a tick-3 edge later than the comparison or the LBIST runs. -/
def State.canRejoin (s : State) (p : Nat) : Bool :=
  let x := s.slotOf p
  x.st = .testing && x.rebuilt && !x.bankWait && (s.dev.st ≠ .holding) && s.clock.tick = 3 && decide (x.rebuiltAt < s.clock.count)

/-- SLOT_REJOIN (R194, R198, R204): LOCKED at a tick-3 edge, with S at SEED; its copies start unless the image is late (R37);
a join's final reply follows. -/
def execSlotRejoin (p : SlotIx) (s : State) : Res :=
  if !s.canRejoin p.val then settled s
  else
    let x := s.slotOf p.val
    let s1 := (s.updSlot p.val fun y => { y with
      st := .locked, rebuilt := false, joining := false, awaitRel := true, mismatched := false, ovr := 0, reply := none,
      reg := ⟨false, false⟩, ver := ⟨false, false⟩, work := ⟨[], []⟩, cplA := ⟨[], []⟩, cplB := ⟨[], []⟩ }).endCondition
      (nSlot p.val) 0x0301
    let s2 := if s.clock.late then s1 else s1.startFrameWork p.val
    match x.reply with
    | none => settled s2
    | some (port, tag, queue, opcode) => settled (s2.finalReply port queue opcode tag stOK [])

/-- The copy of a hand-over (R199): after the source's final coupling of frame f + 1, each side copies the source's verified
state buffer, with its output area, into the target's; the target enters SHADOW at the next commit. -/
def State.handoverCopyArrive (s : State) (p : Nat) : State :=
  match (s.slotOf p).hand with
  | none => s
  | some h =>
    if h.copied ∨ !(s.slotOf p).verified then s
    else
      let take (d : Side) : Tab (Option Word) :=
        (Config.stateArea p ++ Config.outputArea p).foldl (fun t a => Tab.set none t a (some (s.heldWord d p a))) []
      (s.updSlot p fun x => { x with hand := some { h with copied := true } }).updSlot h.target fun x =>
        { x with shadowOf := some p, buf := ⟨take .A, take .B⟩ }

/-- A hand-over starts from a source slot (R199). -/
def State.startHand (s : State) (p : Nat) (h : Handover) : State := s.updSlot p fun x => { x with hand := some h }

/-- The first slot of an activation's list that is LOCKED starts its hand-over through the spare slot (R354, R419). -/
def State.startNext (s : State) (a : Activation) : State × Activation :=
  let rest := a.slots.dropWhile fun p => (s.slotOf p).st ≠ .locked
  match rest with
  | [] => (s, { a with slots := [] })
  | p :: _ => (s.startHand p { target := a.spare, n := a.n }, { a with slots := rest })

/-- The exchange of a slot lets the activation that it belongs to go on with the next slot (R354, R419). -/
def State.nextHandover (s : State) (p : Nat) : State :=
  let go (x : State) (a : Activation) : State × Activation :=
    x.startNext { a with slots := a.slots.drop 1, renewed := p :: a.renewed }
  match s.dev.cfgAct, s.dev.fwAct with
  | some a, _ =>
    if a.slots.head? = some p then (let r := go s a; { r.1 with dev := { r.1.dev with cfgAct := some r.2 } }) else s
  | none, some a =>
    if a.slots.head? = some p then (let r := go s a; { r.1 with dev := { r.1.dev with fwAct := some r.2 } }) else s
  | none, none => s

/-- The verified state of a hand-over's target becomes that of the source's slot (R199). -/
def State.takeBuf (s : State) (d : Side) (q : Nat) : State :=
  s.updMem d fun m => { m with
    frame := ((s.slotOf q).buf.get d).foldl (fun t e => Tab.set 0 t e.1 (e.2.getD 0)) m.frame }

/-- The changed functions of a slot are LOCKED, in their initial state, at its hand-over (R200). -/
def State.lockChanged (s : State) (p : Nat) : State :=
  let same := s.sameFns p
  s.forEach ((s.fnsOfSlot p).filter fun f => !same.contains f) fun x f =>
    (x.updFn f fun z => { parent := z.parent }).setFn f .locked 0 0 0x1FF

/-- HANDOVER_EXCHANGE (R199, R200, R203): at the commit edge at which all N frames have agreed, the map entries change places
on both sides; coaches freed for a requested test take it in the target slot from the next commit on (R376). -/
def execHandoverExchange (p : SlotIx) (s : State) : Res :=
  match (s.slotOf p.val).hand with
  | none => settled s
  | some h =>
    if !h.copied ∨ h.agreed < h.n ∨ s.clock.tick ≠ 0 then settled s
    else
      let x := s.slotOf p.val
      let y := s.slotOf h.target
      let s0 := (((s.takeBuf .A h.target).takeBuf .B h.target).lockChanged p.val)
      let s1 := (((s0.mapCoach .A p.val y.mapA).mapCoach .B p.val y.mapB).mapCoach .A h.target x.mapA).mapCoach .B h.target x.mapB
      let tested : Bool := s.tests.running.any (s.testsCoachOf p.val)
      let s2 := (s1.updSlot p.val fun z => { z with hand := none }).updSlot h.target fun z => { z with
        st := .locked, testPend := tested, shadowOk := 0, shadowOf := none, buf := ⟨[], []⟩, work := ⟨[], []⟩, splitPend := h.thenSplit,
        reply := if h.thenSplit then h.reply else none }
      let s3 := (s2.post 0x0305 (nSlot p.val) 0 h.target).nextHandover p.val
      if h.thenSplit then settled s3
      else
        match h.reply with
        | none => settled s3
        | some (port, tag, queue, opcode) => settled (s3.finalReply port queue opcode tag stOK [])

/-- SPLIT_APPLY (R203): at a commit the slot is SPLIT and each coach starts its program at its entry point. -/
def execSplitApply (p : SlotIx) (s : State) : Res :=
  let x := s.slotOf p.val
  if !x.splitPend ∨ x.st ≠ .locked ∨ s.clock.tick ≠ 0 then settled s
  else
    let s1 := s.updSlot p.val fun y => { y with st := .split, splitPend := false, reply := none }
    let s2 := (s1.startCoach (s.slotCoach .A p.val) p.val (s.splitEntry .A p.val)).startCoach (s.slotCoach .B p.val) p.val
      (s.splitEntry .B p.val)
    match x.reply with
    | none => settled s2
    | some (port, tag, queue, opcode) => settled (s2.finalReply port queue opcode tag stOK [p.val])

/-- JOIN_LBIST_DONE (R204): the slot may rejoin, or a failing coach is retired and R192 applies; the slot is then rebuilt with
the reserve. -/
def execJoinLbistDone (p : SlotIx) (leadPass : Bool) (trailPass : Bool) (s : State) : Res :=
  let x := s.slotOf p.val
  if x.st ≠ .testing ∨ !x.joining ∨ s.dev.st = .holding then settled s
  else
    let fail (y : State) (d : Side) : State :=
      let i := s.slotCoach d p.val
      ((y.dropCoach i).retireBlock (nCoach i) tcCoach).needReserve d p.val
    let s1 := if leadPass then s else fail s .A
    let s2 := if trailPass then s1 else fail s1 .B
    settled (s2.updSlot p.val fun y =>
      if leadPass ∧ trailPass then { y with rebuilt := true, rebuiltAt := s.clock.count } else { y with joining := false })

/-- An open session, on any port, holds a role (R425, R426). -/
def State.hasRole (s : State) (r : Nat) : Bool :=
  let has (o : Option Session) : Bool := match o with | none => false | some x => bit x.roles r
  has (s.portOf .A).session || has (s.portOf .B).session || has s.svc.session

/-- Level C of the debug port is enabled (R427). -/
def State.debugC (s : State) : Bool :=
  s.hasRole 1 && s.dev.lifecycle = 2 &&
  (match s.dev.st with | .standby => true | .running => true | .holding => true | _ => false)

/-- Level S of the debug port is enabled (R427). -/
def State.debugS (s : State) : Bool :=
  (s.hasRole 2 || s.dev.lifecycle = 0 || s.dev.lifecycle = 3) && (match s.dev.st with | .service => true | _ => false)

/-- Before level S of the debug port is entered (R428, R372): the secret copies and every derived key are zeroised, and the
coaches' scratch is cleared. -/
def State.zeroise (s : State) : State :=
  if s.debugS then { s with
    dev := { s.dev with secretOk := false }
    coach := (s.coach.map fun (e : Nat × Coach) => (e.1, { e.2 with scratch := [] })).filter fun (e : Nat × Coach) => e.2 ≠ {} }
  else s

/-- A halt, breakpoint or single step is permitted on a slot (R206). -/
def State.debugStop (s : State) (p : Nat) : Bool :=
  s.debugC && p ≠ 0 && (s.fnsOfSlot p).all fun f => (s.fnOf f).comm

/-- DEBUG_HALT (R205, R206): the lead halts; the trail runs to the same count and holds there (State.trailHolds). -/
def execDebugHalt (p : SlotIx) (s : State) : Res :=
  if s.debugStop p.val then done (s.updCst (s.slotCoach .A p.val) fun c => { c with halted := true }) else done s

/-- The trail of a slot holds before its next instruction (R205): a logged write is due at its count, or the lead has halted,
or is being stepped, at that count. -/
def State.trailHolds (s : State) (p : Nat) : Bool :=
  let n := (s.coachOf (s.slotCoach .B p)).retcnt
  let l := s.cstOf (s.slotCoach .A p)
  (match (s.slotOf p).log with
   | [] => false
   | e :: _ => decide (e.1 ≤ n)) ||
  ((l.halted || l.stepping) && decide ((s.coachOf (s.slotCoach .A p)).retcnt ≤ n))

/-- DEBUG_BREAKPOINT (R206). -/
def execDebugBreakpoint (p : SlotIx) (addr : BitVec 41) (s : State) : Res :=
  if s.debugStop p.val then
    done (s.updCst (s.slotCoach .A p.val) fun c => { c with breaks := if c.breaks.contains addr then c.breaks else c.breaks ++ [addr] })
  else done s

/-- DEBUG_SINGLE_STEP (R206): the halted lead is released for one instruction. -/
def execDebugSingleStep (p : SlotIx) (s : State) : Res :=
  if s.debugStop p.val then
    done (s.updCst (s.slotCoach .A p.val) fun c => if c.halted then { c with halted := false, stepping := true } else c)
  else done s

/-- DEBUG_RESUME (R205): both copies go on; LAG is not evaluated at the next coupling on either side. -/
def execDebugResume (p : SlotIx) (s : State) : Res :=
  if s.debugC ∧ p.val ≠ 0 then
    done (((s.updCst (s.slotCoach .A p.val) fun c => { c with halted := false, stepping := false }).updCst (s.slotCoach .B p.val) fun c =>
      { c with hold := 160 }).updSlot p.val fun x => { x with resumed := ⟨true, true⟩ })
  else done s

/-- The final values of a copy that no side has compared are formed again after a debugger write at their count (R207). -/
def State.reform (s : State) (d : Side) (p n : Nat) : State :=
  let o := s.outSig d p
  let fix (u : Two (List CplVals)) : Two (List CplVals) :=
    u.set ((u.get d).map fun v => if v.fin ∧ v.count = n then { v with outp := o } else v) d
  s.updSlot p fun x => { x with cplA := fix x.cplA, cplB := fix x.cplB }

/-- A word of frame memory that a debugger writes: in the working buffer of a locked copy (R36, R205). -/
def State.debugStore (s : State) (d : Side) (p pa : Nat) (w : Word) : State :=
  if (s.slotOf p).st = .split then s.updMem d fun m => { m with frame := Tab.set 0 m.frame pa w }
  else s.updSlot p fun x => { x with work := x.work.set (Tab.set none (x.work.get d) pa (some w)) d }

/-- A debugger write on one copy; it is never folded (R183, R205). One at the count of a coupling counts before the
coupling's values (R207). -/
def State.debugApply (s : State) (d : Side) (p : Nat) (tgt : DebugTarget) (value : Word) : State :=
  let i := s.slotCoach d p
  match tgt with
  | .pc => s.updCoach i fun c => { c with pc := value.setWidth 41 }
  | .reg phys => s.updCoach i fun c => if phys.val = 0 then c else { c with regs := Tab.set 0 c.regs phys.val value }
  | .mem va =>
    let x := s.slotOf p
    let u : Cpu := { co := s.coachOf i, frame := (s.mem.get d).frame, device := [], poison := [], locked := true, free := 0,
                     work := x.work.get d, buf := x.buf.get d }
    match u.translate va.toNat kStore with
    | .ok pa =>
      if pa < 0x800000 then (s.debugStore d p pa value).reform d p (s.coachOf i).retcnt
      else s.updCoach i fun c => { c with scratch := Tab.set 0 c.scratch (pa - 0x100000000) value }
    | _ => s

/-- DEBUG_WRITE (R205): applied to the lead, logged with its retired-instruction count. -/
def execDebugWrite (p : SlotIx) (tgt : DebugTarget) (value : Word) (s : State) : Res :=
  if s.debugC ∧ p.val ≠ 0 then
    done ((s.debugApply .A p.val tgt value).updSlot p.val fun x =>
      { x with log := x.log ++ [((s.coachOf (s.slotCoach .A p.val)).retcnt, tgt, value)] })
  else done s

/-- The trail applies the oldest logged write when its count has reached the logged one (R205). -/
def State.replayArrive (s : State) (p : Nat) : State :=
  match (s.slotOf p).log with
  | [] => s
  | (n, tgt, value) :: r =>
    if n ≤ (s.coachOf (s.slotCoach .B p)).retcnt then
      (s.debugApply .B p tgt value).updSlot p fun x => { x with log := r }
    else s

end Sys2Proof.Machine
end

