-- ==== Sys2Proof/Machine/Journal.lean ====
section
/-! DEFINITION. The journal in MRAM (R384–R394): page writes, last gasp, recovery, BOOT page; MRAM words and records
(R385, R395); the summaries of the collapse windows (R379–R381). -/

namespace Sys2Proof.Machine

/-- Pages of the journal ring and of the ledger (R384). -/
def jrnlPages : Nat := 72590
def ledgPages : Nat := 5825
/-- Byte offset of word k of a journal page, and of a ledger page (R384, R388, R270). -/
def jrnlAddr (p k : Nat) : Nat := 0x05020000 + 576 * p + 9 * k
def ledgAddr (p k : Nat) : Nat := 0x07800000 + 1440 * p + 9 * k

/-- The commit word over the words of a page (R389). -/
def commitWord (ws : List Word) (seq : BitVec 40) : Word :=
  BitVec.ofNat 72 (at_ seq.toNat 32 + (crc32c ((ws.map wordBytes).flatten ++ leBytes 5 seq.toNat)).toNat)

/-- The page sequence that follows (R389). -/
def nextPseq (seq : BitVec 40) : BitVec 40 := if seq = BitVec.allOnes 40 then 1 else seq + 1

/-- Write the words of a page in ascending order, the commit word last (R387). -/
def State.writeWords (s : State) (d : Side) (addr : Nat → Nat) : Nat → List Word → State
  | _, [] => s
  | k, w :: r => (s.mramWrite d (addr k) w).writeWords d addr (k + 1) r

/-- Change a side's journal. -/
def State.updJournal (s : State) (d : Side) (f : Journal → Journal) : State :=
  { s with journal := s.journal.set (f (s.journal.get d)) d }

/-- The longest time that a number of words takes, in whole ticks: 60 ns each (R385). -/
def wordTicks (n : Nat) : Nat := (60 * n + 999) / 1000

/-- The words that the write path may still be writing, once more words join them (R385): those of a page that has had its time are
written. -/
def Journal.fly (j : Journal) (now : Nat) (l : List (Nat × Word)) : Journal :=
  { j with flight := some (match j.flight with
      | none => (now, l)
      | some f => if f.1 + wordTicks f.2.length ≤ now then (now, l) else (f.1, f.2 ++ l)) }

/-- A page goes to the write path of a side: its words in ascending order (R387). -/
def State.writePage (s : State) (d : Side) (addr : Nat → Nat) (ws : List Word) : State :=
  let old := (List.range ws.length).map fun k => (addr k, Tab.get 0 (s.mem.get d).mram (addr k))
  (s.writeWords d addr 0 ws).updJournal d fun j => j.fly s.clock.count old

/-- The warning asserts while pages may be in flight (R386, R387): of the words that have not had their time a free number is
written, the word in flight reads old or new, and every word after it reads old. -/
def State.tear (s : State) (d : Side) : State :=
  match (s.journal.get d).flight with
  | none => s
  | some f =>
    let n := f.2.length
    let sure := Nat.min n ((s.clock.count - f.1 - 1) * 1000 / 60)
    let kept := sure + s.drawNat (n + 1 - sure) + s.drawn.drawNat 2
    ((s.drawn.drawn.updMem d fun m => { m with
      mram := (f.2.drop kept).foldl (fun (t : Tab Word) (e : Nat × Word) => Tab.set 0 t e.1 e.2) m.mram })).updJournal d fun j =>
        { j with flight := none }

/-- Word 0 of a page with CAUT as it stands when the page is written (R388, R401). -/
def State.cautWords (s : State) (ws : List Word) : List Word :=
  match ws with
  | [] => []
  | w :: r => setBit w 62 (!s.bankHealthy) :: r

/-- A journal page is written in ring order with its commit word (R389, R390). -/
def State.writeJournal (s : State) (d : Side) (ws : List Word) : State :=
  let j := s.journal.get d
  let body := s.cautWords ws
  (s.writePage d (jrnlAddr j.next) (body ++ [commitWord body j.seq])).updJournal d fun j =>
    { j with next := (j.next + 1) % jrnlPages, seq := nextPseq j.seq }

/-- Close the open page of a side (R390). -/
def Journal.close (j : Journal) (boot : BitVec 24) : Journal :=
  match j.opened with
  | none => j
  | some o => { j with waiting := j.waiting ++ [journalPage 1 o boot j.recs], recs := [], opened := none }

/-- Once space has returned, the dropped records are written as SUMMARY records of the device (R391). -/
def State.journalDropped (s : State) (d : Side) : State :=
  s.updJournal d fun j =>
    if j.waiting.length < 192 then
      j.dropped.foldl (fun j c => if 192 ≤ j.waiting.length then { j with dropped := j.dropped ++ [c] }
        else j.take s ⟨s.timeWord, c.1, nDevice, 7, Nat.min c.2 (2 ^ 28 - 1)⟩) { j with dropped := [] }
    else j

/-- The open page of a side is due (R390, R401): 100 ms after it was opened, one tick after in cautious mode. -/
def State.pageDue (s : State) (j : Journal) : Bool :=
  match j.opened with
  | none => false
  | some o => decide (o.2.1 + (if s.bankHealthy then 100000000 else 1000) ≤ s.pns)

/-- The pages that a side has written in the last second (R391). -/
def State.pagesNow (s : State) (d : Side) : List Nat := (s.journal.get d).wrote.filter fun t => s.clock.count < t + 1000000

/-- JOURNAL_PAGE_WRITE (R390, R391): the oldest waiting page, or else the open page once it is due, goes to the ring, at most 11,111 of
them in a second; no page starts while PFAIL_N is asserted (R386, R392). -/
def execJournalPageWrite (sd : Side) (s : State) : Res :=
  if !s.writable ∨ s.power.pfail ∨ 11111 ≤ (s.pagesNow sd).length then done s
  else
    let s1 := s.updJournal sd fun j => if j.waiting = [] ∧ s.pageDue j then j.close s.time.bootSeq else j
    match (s1.journal.get sd).waiting with
    | [] => done s1
    | p :: r => done (((s1.updJournal sd fun j => { j with waiting := r, wrote := s.pagesNow sd ++ [s.clock.count] }).writeJournal sd
        p).journalDropped sd)

/-- A waiting page holds a root record (R391, R392). -/
def hasRoot (ws : List Word) : Bool := (List.range 30).any fun r => opensWindow (fld (ws.getD (3 + 2 * r) 0) 31 28)

/-- The records that a waiting page holds. -/
def pageRecs (ws : List Word) : List (Word × Word) :=
  (List.range (fld (ws.headD 0) 67 63)).map fun r => (ws.getD (2 + 2 * r) 0, ws.getD (3 + 2 * r) 0)

/-- The last gasp of a side on a healthy bank (R392): every waiting page with a root, then one LASTGASP page with up to 30
of the records still unwritten. -/
def State.lastGasp (s : State) (d : Side) : State :=
  let j := s.journal.get d
  let s1 := (j.waiting.filter hasRoot).foldl (fun x p => x.writeJournal d p) s
  let left := (((j.waiting.filter fun p => !hasRoot p).map pageRecs).flatten ++ j.recs.map fun (e : Event) => (e.time, e.word1)).take 30
  let head := (journalPage 3 (j.opened.getD s.pageMoment) s.time.bootSeq []).headD 0
  let words := putFld head 67 63 left.length :: (journalPage 3 (j.opened.getD s.pageMoment) s.time.bootSeq []).getD 1 0 ::
    ((left.map fun (r : Word × Word) => [r.1, r.2]).flatten ++ List.replicate 60 0).take 60 ++
    [(journalPage 3 (j.opened.getD s.pageMoment) s.time.bootSeq []).getD 62 0]
  (s1.writeJournal d words).updJournal d fun j => { j with waiting := [], recs := [], opened := none }

/-- The words of a page as MRAM holds them. -/
def pageWords (m : Tab Word) (addr : Nat → Nat) (n : Nat) : List Word := (List.range n).map fun k => Tab.get 0 m (addr k)

/-- A page of n words is valid (R389): PSEQ is not 0 and the CRC checks; ok says that its encodings are defined. -/
def pageValid (ws : List Word) (n : Nat) (ok : Bool) : Bool :=
  let c := ws.getD (n - 1) 0
  let seq : BitVec 40 := BitVec.ofNat 40 (fld c 71 32)
  seq ≠ 0 && c = commitWord (ws.take (n - 1)) seq && ok

/-- The encodings of a journal page are defined (R388). -/
def jrnlOk (ws : List Word) : Bool :=
  let w := ws.headD 0
  1 ≤ fld w 71 68 && fld w 71 68 ≤ 3 && fld w 67 63 ≤ 30

/-- The valid pages of a ring with their PSEQ, in page order (R393). A page whose commit word is zero is not valid. -/
def validPages (m : Tab Word) (base stride n : Nat) (ok : List Word → Bool) : List (Nat × Nat) :=
  m.filterMap fun (e : Nat × Word) =>
    if base ≤ e.1 ∧ (e.1 - base) % stride = 9 * (n - 1) then
      let p := (e.1 - base) / stride
      let ws := pageWords m (fun k => base + stride * p + 9 * k) n
      if pageValid ws n (ok ws) then some (p, fld e.2 71 32) else none
    else none

/-- Serial comparison of page sequences (R393). -/
def serialGt (a b : Nat) : Bool :=
  let d := (a + 2 ^ 40 - b) % 2 ^ 40
  1 ≤ d && d < 2 ^ 39

/-- The head of a ring: the valid page with the newest sequence (R393). -/
def ringHead (ps : List (Nat × Nat)) : Option (Nat × Nat) :=
  ps.foldl (fun h p => match h with | none => some p | some q => if serialGt p.2 q.2 then some p else h) none

/-- The oldest sequence of a ring's valid pages (R393). -/
def ringOldest (ps : List (Nat × Nat)) : Option (Nat × Nat) :=
  ps.foldl (fun h p => match h with | none => some p | some q => if serialGt q.2 p.2 then some p else h) none

/-- No word of a page reads with an uncorrectable error (R389). -/
def State.pageReads (s : State) (d : Side) (addr : Nat → Nat) (n : Nat) : Bool :=
  (List.range n).all fun k => !((s.mem.get d).mramBad.contains (addr k))

/-- The valid journal pages of a side (R389). -/
def State.jrnlValid (s : State) (d : Side) : List (Nat × Nat) :=
  (validPages ((s.mem.get d).mram.filter fun (e : Nat × Word) => e.1 < 0x07800000) 0x05020000 576 64 jrnlOk).filter
    fun (p : Nat × Nat) => s.pageReads d (jrnlAddr p.1) 64

/-- An event for which R363 has no code: its code, severity and detail are free (log entry 64). -/
def State.postFree (s : State) (n : Node) : State :=
  let s1 := s.post (Config.freeNat s.free % 2 ^ 16) n (Config.freeNat (s.free + 1) % 8) (Config.freeNat (s.free + 2) % 2 ^ 28)
  { s1 with free := s1.free + 3 }

/-- The journal pages of a side in which recovery finds an uncorrectable error (R401). -/
def State.jrnlBad (s : State) (d : Side) : List Nat :=
  (((s.mem.get d).mramBad.filter fun a => 0x05020000 ≤ a && a < 0x05020000 + 576 * jrnlPages).map fun a =>
    (a - 0x05020000) / 576).eraseDups

/-- next_page, next_seq and prev of a recovered journal ring (R393). -/
def State.recoverJournal (s : State) (d : Side) : Nat × BitVec 40 × Nat :=
  let ps := s.jrnlValid d
  match ringHead ps with
  | none => (0, 1, 4)
  | some h =>
    let np := (h.1 + 1) % jrnlPages
    let prev := if fld (Tab.get 0 (s.mem.get d).mram (jrnlAddr h.1 0)) 71 68 = 3 then 1
      else if !(ps.any fun p => p.1 = np) then 2 else 3
    (np, nextPseq (BitVec.ofNat 40 h.2), prev)

/-- Recover a side's journal and write its BOOT page (R393, R394); an uncorrectable error found in a page is journalled after it
(R401). -/
def State.bootJournal (s : State) (d : Side) : State :=
  let r := s.recoverJournal d
  let s1 := s.updJournal d fun j => { j with next := r.1, seq := r.2.1 }
  let o := s.pageMoment
  let seals := s.time.seals.map fun (e : Nat × BitVec 36) => BitVec.ofNat 72 (at_ e.1 68 + e.2.toNat)
  let head := (journalPage 2 o s.time.bootSeq []).take 2
  let w2 := BitVec.ofNat 72 (at_ r.2.2 68 + at_ s.time.tsrc.toNat 64 + seals.length)
  let s2 := if !s.writable then s1
    else s1.writeJournal d (head ++ ((w2 :: seals) ++ List.replicate 60 0).take 60 ++ [(journalPage 2 o s.time.bootSeq []).getD 62 0])
  (s.jrnlBad d).foldl (fun (x : State) _ => x.postFree ⟨0x01, d.ix⟩) s2

/-- MRAM_WORD_WRITE (R385, R395): one whole word, in order, unless the warning has asserted. -/
def execMramWordWrite (sd : Side) (addr : Nat) (value : Word) (s : State) : Res :=
  if !s.writable ∨ !mramHolds addr then done s else done (s.mramWrite sd addr value)

/-- COLLAPSE_FR (R379). -/
def State.collapseFr (s : State) : Nat := fld (s.cw cEVCFG 0 0) 71 64

/-- Post the summaries of a window of a node and clear its counters (R380). -/
def State.postSummaries (s : State) (n : Node) : State :=
  let es := (s.windows.filter fun w => w.node = n).map fun w => w.summaries s.timeWord
  let es := es.flatten
  { s with
    log := s.log ++ es
    journal := s.journalled es
    queue := es.foldl queueEvent s.queue
    windows := s.windows.map fun w => if w.node = n then { w with counts := [], extra := 0 } else w }

/-- The running frame starts at a COLLAPSE_FR-th commit after a window opened (R380). -/
def State.summaryDue (s : State) (w : Window) : Bool :=
  w.opened < s.clock.frame.toNat && (s.clock.frame.toNat - w.opened) % s.collapseFr = 0

/-- A window whose conditions ended COLLAPSE_FR commits ago closes (R379). -/
def State.closeDue (s : State) (w : Window) : Bool :=
  match w.ended with
  | none => false
  | some e => e + s.collapseFr ≤ s.clock.frame.toNat

/-- COLLAPSE_SUMMARY (R380): at a COLLAPSE_FR-th commit after the window opened. -/
def execCollapseSummary (cls : Nat) (idx : Nat) (s : State) : Res :=
  if s.windows.any fun w => w.node = ⟨cls, idx⟩ ∧ s.summaryDue w then done (s.postSummaries ⟨cls, idx⟩) else done s

/-- The window of a node closes, with its summaries (R379, R380). -/
def State.closeWindow (s : State) (n : Node) : State :=
  let s1 := s.postSummaries n
  { s1 with windows := s1.windows.filter fun w => w.node ≠ n }

/-- COLLAPSE_WINDOW_CLOSE (R379): a window whose condition lasts, or ended fewer than COLLAPSE_FR commits ago, stays open. -/
def execCollapseWindowClose (cls : Nat) (idx : Nat) (s : State) : Res :=
  if s.windows.any fun w => w.node = ⟨cls, idx⟩ ∧ s.closeDue w then done (s.closeWindow ⟨cls, idx⟩) else done s

end Sys2Proof.Machine
end

