-- ==== Sys2Proof/Machine/Power.lean ====
section
/-! DEFINITION. Logic supplies, power loss and return, the cartridge, the clock domain (spec/17, spec/15): R397–R401,
R431–R436, R442–R444. -/

namespace Sys2Proof.Machine

/-- The module supply node of a logic input (R431). -/
def nInput (d : Side) : Node := nModule (1 + d.ix)
/-- The node that stands for PFAIL_N as the block that holds the device (R363, R436). -/
def nPfail : Node := nModule 0

/-- Change a logic input. -/
def State.updInput (s : State) (d : Side) (f : LogicIn → LogicIn) : State :=
  { s with power := match d with
    | .A => { s.power with la := f s.power.la }
    | .B => { s.power with lb := f s.power.lb } }

/-- A logic input of a side. -/
def Power.input (p : Power) : Side → LogicIn
  | .A => p.la
  | .B => p.lb

/-- What an input supplies: nothing when its protection has disconnected it (R435). -/
def LogicIn.eff (x : LogicIn) : Nat := if x.cut then 0 else x.mv.toNat

/-- The input that a side draws from: its own while that is in range, else the other one when that is, else the higher
(R431, R432). -/
def Power.source (p : Power) (d : Side) : Side :=
  if (p.input d).st = .inRange then d
  else if (p.input d.other).st = .inRange then d.other
  else if (p.input d).eff < (p.input d.other).eff then d.other
  else d

/-- Both sides select their input again (R432). -/
def State.selectSources (s : State) : State :=
  { s with power := { s.power with srcA := s.power.source .A, srcB := s.power.source .B } }

/-- A logic input leaves its range (R431): its state, and event 0x0903 when it was in range. -/
def State.inputOut (s : State) (d : Side) (st : InState) (mv : BitVec 16) : State :=
  let was := (s.power.input d).st
  let s1 := (s.updInput d fun x => { x with st := st, mv := mv, cut := x.cut || st = .over }).selectSources
  if was = .inRange ∧ s.dev.st ≠ .dormant then s1.postL 0x0903 (nInput d) 3 mv.toNat true else s1

/-- LOGIC_INPUT_UNDER (R431, R432). -/
def execLogicInputUnder (inp : Side) (mv : BitVec 16) (s : State) : Res := done (s.inputOut inp .under mv)

/-- LOGIC_INPUT_OVER (R431, R432): the protection disconnects the input. -/
def execLogicInputOver (inp : Side) (mv : BitVec 16) (s : State) : Res := done (s.inputOut inp .over mv)

/-- PROTECTION_RECONNECT (R435): the input counts by its measured voltage again. -/
def execProtectionReconnect (inp : Side) (mv : BitVec 16) (s : State) : Res :=
  done (s.updInput inp fun x => { x with cut := false, mv := mv }).selectSources

/-- The outside world as a field chip's lanes and supply show it, which a power cycle of the device does not change. -/
def Lanes.world (l : Lanes) : Lanes :=
  { up0 := l.up0, up1 := l.up1, down0 := l.down0, down1 := l.down1, hold := l.hold, pairCut := l.pairCut,
    fsup := l.fsup, plugOpen := l.plugOpen }

/-- What a power cycle leaves of a logic input: the supply itself, not its measurement (R7, R433). -/
def LogicIn.world (x : LogicIn) : LogicIn := { st := x.st, cut := x.cut }

/-- The device as it stands at entry to PROVING after power loss or a restart: everything volatile at its reset value
(R7); MRAM, OTP, retire maps, transient stamps, images, packages, the clock domain's register and seals, and the plant (the
cartridge in its slot, the state of the supplies) remain; what PWR_STAT and EC_STAT measure reads its reset value (R433, R442) (R384, R395, R397, R409). -/
def State.volatileLost (s : State) : State :=
  { State.reset with
    power := { la := s.power.la.world, lb := s.power.lb.world }
    ec := { present := s.ec.present }
    time := { rtc := s.time.rtc, seals := s.time.seals, bootSeq := s.time.bootSeq }
    dev := { otp := s.dev.otp, otp1 := s.dev.otp1, fw := s.dev.fw, cfg := s.dev.cfg }
    lanes := (s.lanes.map fun (e : Nat × Lanes) => (e.1, e.2.world)).filter fun (e : Nat × Lanes) => e.2 ≠ {}
    cage := (s.cage.map fun (e : Nat × Cage) => (e.1, ({ present := e.2.present, ident := e.2.ident } : Cage))).filter
      fun (e : Nat × Cage) => e.2 ≠ {}
    tests := { trans0 := s.tests.trans0 }
    svc := { cable := s.svc.cable }
    mem := ⟨{ mram := s.mem.a.mram, mramBad := s.mem.a.mramBad }, { mram := s.mem.b.mram, mramBad := s.mem.b.mramBad }⟩
    free := s.free
    pending := s.pending }

/-- CHK of RTC_STATE checks (R397). -/
def rtcOk (w : Word) : Bool := fld w 15 0 = (crc16Word w).toNat

/-- RTC_STATE with its CHK (R397). -/
def rtcWord (sec sub : Nat) (tval : Bool) : Word :=
  let w := BitVec.ofNat 72 (at_ (sec % 2 ^ 40) 32 + at_ (sub % 2 ^ 15) 17 + at_ (b2n tval) 16)
  putFld w 15 0 (crc16Word w).toNat

/-- Device time at entry to PROVING (R398): from RTC_STATE, or invalid with its event. -/
def State.readRtc (s : State) : State :=
  let w := s.time.rtc
  if rtcOk w ∧ bit w 16 then
    { s with time := { s.time with
        valid := true, tsrc := 1, tai := fld w 71 32 * 1000000000 + fld w 31 17 * 1000000000 / 32768 } }.rewriteStamps
  else ({ s with time := { s.time with valid := false, tsrc := 0 } }).post 0x0906 nDevice 1 0

/-- A port's link runs apart from the device state (R331). -/
def Port.link_ (x : Port) : Port := { link := x.link, gen := x.gen, width := x.width }
/-- The stop words that a powered side has registered stay registered: only R165 releases them; the frame counter restarts. -/
def Half.rung (h : Half) : Half := { door := h.door, doorBy := h.doorBy }

/-- Entry to PROVING (R7, R396, R398, R403): volatile state at reset, the next BOOT_SEQ, device time from the RTC; links and
registered stop words stay (R331, R358; log entry 72). -/
def State.enterProving (s : State) : State :=
  let s1 := s.volatileLost
  let n := s.time.bootSeq + 1
  let s2 := { s1 with
    time := { s1.time with bootSeq := n }
    port := ⟨s.port.a.link_, s.port.b.link_⟩
    half := ⟨s.half.a.rung, s.half.b.rung⟩ }
  let w := BitVec.ofNat 72 (at_ n.toNat 48)
  ((s2.recWrite .A 0 w).recWrite .B 0 w).readRtc

/-- LOGIC_POWER_GOOD (R403): the device leaves DORMANT for PROVING. -/
def execLogicPowerGood (s : State) : Res :=
  match s.dev.st with
  | .dormant => done s.enterProving
  | _ => done s

/-- LOGIC_INPUT_IN_RANGE (R431, R432, R436): the input's state; PFAIL_N no longer holds the device in HOLDING; an abandoned
start-up starts again at PROVING. -/
def execLogicInputInRange (inp : Side) (mv : BitVec 16) (s : State) : Res :=
  let s1 := ((s.updInput inp fun x => { x with st := .inRange, mv := mv }).selectSources.endCondition (nInput inp)
    0x0903).holderDone nPfail
  if s1.dev.abandoned then done s1.enterProving else done s1

/-- PFAIL_ASSERT (R436, R392): every gate is off; HOLDING, or a start-up is abandoned; the journal's last gasp on a
healthy bank, else a page in flight tears (R387). -/
def execPfailAssert (s : State) : Res :=
  if s.dev.st = .dormant then done s
  else
    let s1 := s.enterHolding nPfail
    let s2 := match s.dev.st with
      | .proving | .boot | .loading => { s1 with dev := { s1.dev with abandoned := true } }
      | _ => s1
    let s3 := if s.power.pfail then s2
      else if s.bankHealthy then (if s.writable then (s2.lastGasp .A).lastGasp .B else s2)
      else (s2.tear .A).tear .B
    settled { s3 with power := { s3.power with pfail := true } }

/-- PFAIL_DEASSERT (R435). The bank charges again, so BANK_LOW_N ends with it (log entry 23). -/
def execPfailDeassert (s : State) : Res :=
  done { s with power := { s.power with pfail := false }, ec := { s.ec with bankLow := false } }

/-- BANK_LOW (R386, R387, R401): on a healthy bank this is the warning, and a page in flight tears. -/
def execBankLow (s : State) : Res :=
  let s1 := if s.bankHealthy ∧ !s.ec.bankLow then (s.tear .A).tear .B else s
  done { s1 with ec := { s1.ec with bankLow := true } }

/-- RAILS_FALL (R436): DORMANT; both inputs stand in the under state of a power-up (R431). -/
def execRailsFall (s : State) : Res :=
  let s1 := s.volatileLost
  done { s1 with
    dev := { s1.dev with st := .dormant }
    power := { s1.power with la := { s1.power.la with st := .under }, lb := { s1.power.lb with st := .under } } }

/-- CARTRIDGE_REMOVED (R444, R401): event, cautious mode; with no logic supply the clock domain loses power. -/
def execCartridgeRemoved (s : State) : Res :=
  let s1 := { s with ec := { s.ec with present := false, healthy := false, caut := true, bankDue := none } }
  match s.dev.st with
  | .dormant => done { s1 with time := { s1.time with rtc := 0, seals := [] } }
  | _ => done (s1.post 0x0904 (nModule 0) 1 0)

/-- CARTRIDGE_INSERTED (R443, R444): event; the bank is measured 60 s later. -/
def execCartridgeInserted (s : State) : Res :=
  let s1 := { s with ec := { s.ec with present := true, healthy := false, bankDue := some (s.clock.count + 60000000), cellDue := s.clock.count } }
  match s.dev.st with
  | .dormant => done s1
  | _ => done (s1.post 0x0904 (nModule 0) 1 1)

/-- A bank measurement falls due (R443): 60 s after an insertion, 24 h after the last one; at once after a start (log entry 94). -/
def State.bankMeasured (s : State) : Bool := match s.ec.bankDue with | none => true | some d => decide (d ≤ s.clock.count)

/-- BANK_MEASUREMENT (R442, R443): hold-up time, health at 20 ms, cautious mode; the next one follows in 24 h. -/
def execBankMeasurement (hold10us : Nat) (s : State) : Res :=
  if !s.ec.present ∨ !s.bankMeasured then done s
  else
    let ok := decide (2000 ≤ hold10us)
    done { s with ec := { s.ec with
      healthy := ok, caut := !ok, hold10us := BitVec.ofNat 13 (Nat.min hold10us 8191),
      lastMeas := if s.time.valid then BitVec.ofNat 32 (s.time.tai / 1000000000) else 0,
      bankDue := some (s.clock.count + 86400000000) } }

/-- CELL_MEASUREMENT (R399, R443): at insertion and then hourly while main power is present; below 2.8 V event 0x0904 with DETAIL 2. -/
def execCellMeasurement (mv : BitVec 16) (s : State) : Res :=
  if !s.ec.present ∨ s.clock.count < s.ec.cellDue ∨ s.dev.st = .dormant then done s else
  let s1 := { s with ec := { s.ec with cellMv := mv, cellDue := s.clock.count + 3600000000 } }
  if mv.toNat < 2800 then done (s1.post 0x0904 (nModule 0) 1 2) else done s1

/-- KIND of a seal entry (R394). -/
def sealCode : SealKind → Nat
  | .coverOpened => 1
  | .coverClosed => 2
  | .slotOpened => 3
  | .slotClosed => 4

/-- The stamp that the clock domain gives: device time, or RTC_STATE while the device is unpowered (R396, R397). -/
def State.sealStamp (s : State) : BitVec 36 :=
  match s.dev.st with
  | .dormant => if rtcOk s.time.rtc ∧ bit s.time.rtc 16 then BitVec.ofNat 36 (2 ^ 35 + fld s.time.rtc 71 32 % 2 ^ 35) else 0
  | _ => s.secStamp

/-- SEAL_EVENT (R394): an entry, or, in a full store, KIND 0x5 in the last one. -/
def execSealEvent (k : SealKind) (s : State) : Res :=
  let l := s.time.seals
  let new := if l.length < 16 then l ++ [(sealCode k, s.sealStamp)] else l.take 15 ++ [(5, (l.getD 15 (0, 0)).2)]
  done { s with time := { s.time with seals := new } }

/-- RTC_UPDATE (R397): once per second, from device time with TVAL = 1; while that is invalid the counters stand, with TVAL = 0. -/
def execRtcUpdate (s : State) : Res :=
  match s.dev.st with
  | .dormant => done s
  | _ =>
    if s.clock.count < s.time.rtcDue then done s else
    let w := s.time.rtc
    let new := if s.time.valid then rtcWord (s.time.tai / 1000000000) (s.time.tai % 1000000000 * 32768 / 1000000000) true
      else rtcWord (fld w 71 32) (fld w 31 17) false
    done { s with time := { s.time with rtc := new, rtcDue := s.clock.count + 1000000 } }

/-- RTC_OSCILLATOR_PERIOD (R397): SUB advances, SEC with it, and CHK follows. -/
def execRtcOscillatorPeriod (s : State) : Res :=
  let w := s.time.rtc
  let n := fld w 31 17 + 1
  done { s with time := { s.time with rtc := rtcWord (fld w 71 32 + n / 32768) (n % 32768) (bit w 16) } }

/-- CLOCK_DOMAIN_BROWNOUT (R397): RTC_STATE is cleared to zero. -/
def execClockDomainBrownout (s : State) : Res := done { s with time := { s.time with rtc := 0 } }

end Sys2Proof.Machine
end

