-- ==== Sys2Proof/Machine/Motion.lean ====
section
/-! DEFINITION. Motion monitors (spec/11: R272–R298): position, speed, monitor faults, limits, the stop ramp, position
events. A monitor computes at each capture into its slot's working buffer (R36, R297); the commit of a verified frame makes that
its state. -/

namespace Sys2Proof.Machine

/-- MCFG0–MCFG2, MBIND, MSTOP0, MSTOP1 and MEVTk of a monitor (R272). -/
def State.mcfg (s : State) (m w : Nat) : Word := s.cw cMON m w
def State.mbind (s : State) (m : Nat) : Word := s.cw cMON m 3
def State.mstop (s : State) (m w : Nat) : Word := s.cw cMON m (4 + w)
def State.mevt (s : State) (m k : Nat) : Word := s.cw cMON m (6 + k)

/-- The source of a monitor (R273); 0 when it is unused. -/
def State.msrc (s : State) (m : Nat) : Nat := fld (s.mcfg m 0) 71 68
/-- The bound instances of a monitor (R277). -/
def State.bound (s : State) (m : Nat) : List Nat :=
  ([fld (s.mbind m) 71 59, fld (s.mbind m) 58 46, fld (s.mbind m) 45 33, fld (s.mbind m) 32 20]).filter (· < 4096)
/-- The source terminal of a field monitor on a side (R273). -/
def State.msrcTerm (s : State) (m : Nat) (d : Side) : Nat :=
  32 * fld (s.mcfg m 0) 67 64 + 2 * fld (s.mcfg m 0) 63 60 + d.ix
/-- The encoder port of monitor m on a side (R273). -/
def mport (m : Nat) (d : Side) : Nat := 8 * d.ix + m

/-- What one side contributes at a capture (R274, R276, R278): a count or a count difference, whether it is missing, the
fault that it reports, FRAME_ERR, and for SSI the delivery's tick. -/
structure MonIn where
  abs   : Option Int := none
  diff  : Option Int := none
  miss  : Bool := false
  flt   : Nat := 0
  ferr  : Bool := false
  tick  : Nat := 0
  deriving DecidableEq, Repr

/-- STAT of a port word (R150). -/
def portStat (w1 : Word) : Nat := fld w1 71 68

/-- The contribution of an encoder port (R274, R276, R278). -/
def State.monPort (s : State) (m : Nat) (d : Side) : MonIn :=
  let e := s.encOf (mport m d)
  let st := portStat e.img1
  let flt := if st = 4 then 3 else if st = 5 then 4 else 0
  if s.pmode (mport m d) = 1 then { abs := some (sfld e.img0 71 0), flt := flt, tick := fld e.img1 57 26 }
  else if st = 1 then { diff := some e.img0.toNat, flt := flt, tick := fld e.img1 57 26 }
  else { miss := flt = 0, flt := flt, ferr := st = 3 }

/-- The contribution of a field unit (R274, R276, R278). -/
def State.monField (s : State) (m : Nat) (d : Side) : MonIn :=
  let x := s.termOf (s.msrcTerm m d)
  let flt := if x.img.causes.getLsbD 0x10 then 4 else 0
  if x.ana.stale then { miss := true, flt := flt } else { diff := some (sfld x.ana.cnt 12 0), flt := flt }

/-- The contribution of a side. -/
def State.monIn (s : State) (m : Nat) (d : Side) : MonIn := if s.msrc m = 1 then s.monPort m d else s.monField m d

/-- The count of a side after a capture, and the last SSI value (R274, R276): an incremental port gives it, an SSI port adds
the difference of deliveries modulo its width, a field unit adds its CNT, or the other side's for a missing one. -/
def monCount (ssi : Bool) (bits : Nat) (cnt : Int) (last : Option Int) (own other : MonIn) : Int × Option Int :=
  match own.abs with
  | some c => (c, last)
  | none =>
    if ssi then
      match own.diff, last with
      | none, _ => (cnt, last)
      | some v, none => (v, some v)
      | some v, some l => (cnt + sdiff bits (v - l), some v)
    else (cnt + own.diff.getD (other.diff.getD 0), last)

/-- The position of a count in µm, rounded toward −∞ (R274). -/
def State.monPos (s : State) (m : Nat) (cnt : Int) : Int :=
  let w := s.mcfg m 0
  let c := if bit w 59 then -cnt else cnt
  c * (fld w 58 39 : Nat) / (fld w 38 19 : Nat)

/-- The source is an SSI port. -/
def State.monSsi (s : State) (m : Nat) : Bool := s.msrc m = 1 && s.pmode (mport m .A) = 2

/-- Speed window W in frames (R273). -/
def State.monW (s : State) (m : Nat) : Nat := fld (s.mcfg m 0) 18 13

/-- The speed over the window in µm/s, truncated toward zero; the last one when no time lies between (R275). -/
def monSpeed (p0 pW : Int) (dt : Nat) (last : Int) : Int := if dt = 0 then last else ((p0 - pW) * 1000000).tdiv dt

/-- Positions beyond the tolerated difference (R278 code 1). -/
def State.monApart (s : State) (m : Nat) (a b : Int) : Bool := 10 * fld (s.mcfg m 0) 11 0 < (a - b).natAbs

/-- A monitor takes a capture's counts, positions, speeds and missing counts (R274–R276). -/
def State.monTake (s : State) (m : Nat) : State :=
  let a := s.monIn m .A
  let b := s.monIn m .B
  let ssi := s.monSsi m
  let bits := fld (s.cw cECFG (mport m .A) 0) 39 33
  let w := s.monW m
  s.updMon m fun x =>
    let ca := monCount ssi bits x.cntA x.lastA a b
    let cb := monCount ssi bits x.cntB x.lastB b a
    let pa := s.monPos m ca.1
    let pb := s.monPos m cb.1
    let h := ((pa, pb) :: x.hist).take (w + 1)
    let old : Nat × Nat := x.histT.headD (0, 0)
    let ht := ((if a.miss then old.1 else a.tick, if b.miss then old.2 else b.tick) :: x.histT).take (w + 1)
    let full := decide (w + 1 ≤ h.length)
    let hp : Int × Int := h.getD w (pa, pb)
    let tp : Nat × Nat := ht.getD w (0, 0)
    let now : Nat × Nat := ht.headD (0, 0)
    let dta := if ssi then (now.1 + 2 ^ 32 - tp.1) % 2 ^ 32 else w * s.clock.fl
    let dtb := if ssi then (now.2 + 2 ^ 32 - tp.2) % 2 ^ 32 else w * s.clock.fl
    let va := if full then monSpeed pa hp.1 dta x.va else x.va
    let vb := if full then monSpeed pb hp.2 dtb x.vb else x.vb
    let ss : Int := fld (s.mcfg m 1) 39 24
    let slow := full && decide (va.natAbs ≤ ss.natAbs) && decide (vb.natAbs ≤ ss.natAbs)
    { x with
      cntA := ca.1, cntB := cb.1, lastA := ca.2, lastB := cb.2, posA := pa, posB := pb, pos := (pa + pb).tdiv 2,
      hist := h, histT := ht, valid := full && x.mflt = 0, va := va, vb := vb,
      still := if x.mflt ≠ 0 then false else if ssi ∧ (a.miss ∨ b.miss) then x.still else slow,
      missA := if a.miss then x.missA + 1 else 0, missB := if b.miss then x.missB + 1 else 0,
      ferrA := if a.ferr then x.ferrA + 1 else 0, ferrB := if b.ferr then x.ferrB + 1 else 0 }

/-- The speeds that a ramp is judged on: those of a capture, but of a side whose SSI capture is missing the last one (R289). -/
def State.monJudged (s : State) (m : Nat) : State :=
  let x := s.monOf m
  s.updMonx m fun y => { y with
    lastV := (if s.monSsi m && (s.monIn m .A).miss then y.lastV.1 else x.va,
      if s.monSsi m && (s.monIn m .B).miss then y.lastV.2 else x.vb) }

/-- The fault that a capture finds, 0 for none (R276, R278). -/
def State.monFaultNow (s : State) (m : Nat) : Nat :=
  let a := s.monIn m .A
  let b := s.monIn m .B
  let x := s.monOf m
  if fld (s.mbind m) 11 4 ≤ (s.monxOf m).disagree ∧ (s.monxOf m).disagree ≠ 0 then 1
  else if (a.miss ∧ b.miss) ∨ 2 < x.missA ∨ 2 < x.missB then 2
  else if a.flt = 3 ∨ b.flt = 3 then 3
  else if a.flt = 4 ∨ b.flt = 4 then 4
  else if 2 ≤ x.ferrA ∨ 2 ≤ x.ferrB then 5
  else 0

/-- An event of a monitor (R363): with the commit of the frame that computes it (R36), at once outside one. -/
def State.monPost (s : State) (m code sev detail : Nat) (l : Bool) : State :=
  match s.monOld with
  | none => s.postL code (nMon m) sev detail l
  | some _ => s.updMonx m fun y => { y with posts := y.posts ++ [(code, sev, detail, l)] }

/-- A monitor fault begins (R278): its event; the monitor evaluates no limit and no event, and PENDING events are withdrawn
(R296). -/
def State.monFault (s : State) (m code : Nat) : State :=
  if (s.monOf m).mflt ≠ 0 then s
  else
    let s1 := (s.updMon m fun x => { x with mflt := BitVec.ofNat 4 code, valid := false, still := false }).updMonx m fun y =>
      { y with agree := 0 }
    let s2 := s1.monPost m 0x0501 3 code true
    s2.forEach ((List.range 8).filter fun k => (Tab.get ({} : PosEvent) (s.monxOf m).events k).st = 2) fun z k =>
      (z.updMonx m fun y => { y with events := Tab.set {} y.events k { st := 1 } }).monPost m 0x0503 0 (k * 2 ^ 25 + 2 ^ 23) false

/-- A monitor fault clears (R278): the speed becomes valid anew as R275 states; its condition ends with the commit of the
frame that computes it, at once outside one. -/
def State.monClear (s : State) (m : Nat) : State :=
  if (s.monOf m).mflt = 0 then s
  else
    let s1 := (s.updMon m fun x => { x with mflt := 0, valid := false, still := false, hist := x.hist.take 1, histT := x.histT.take 1 }
      ).updMonx m fun y => { y with agree := 0, disagree := 0 }
    match s.monOld with
    | none => s1.endCondition (nMon m) 0x0501
    | some _ => s1.updMonx m fun y => { y with cleared := true }

/-- The agreement counts of a capture, and a fault's beginning or clearing (R278). -/
def State.monJudge (s : State) (m : Nat) : State :=
  let x := s.monOf m
  let apart := s.monApart m x.posA x.posB
  let s1 := s.updMonx m fun y => { y with disagree := if apart then y.disagree + 1 else 0 }
  let code := s1.monFaultNow m
  let clean := !apart && code = 0 && !(s.monIn m .A).miss && !(s.monIn m .B).miss
  let s2 := s1.updMonx m fun y => { y with agree := if clean then y.agree + 1 else 0 }
  if code ≠ 0 then s2.monFault m code
  else if 64 ≤ (s2.monxOf m).agree then s2.monClear m
  else s2

/-- SLS is exceeded on a side (R281). -/
def State.monSls (s : State) (m : Nat) : Bool :=
  let x := s.monOf m
  let lim := fld (s.mcfg m 1) 71 40
  x.valid && lim ≠ 0 && (lim < x.va.natAbs || lim < x.vb.natAbs)

/-- The limits exceeded at a capture by DETAIL, lowest first, without the stop's own codes (R281, R282). -/
def State.monLimits (s : State) (m : Nat) : List Nat :=
  let x := s.monOf m
  let y := s.monxOf m
  if !x.valid then []
  else
    let c1 := s.mcfg m 1
    let c2 := s.mcfg m 2
    let ss : Int := fld c1 39 24
    let tol := fld c1 23 4
    let sdi := fld c1 3 2
    let slp := bit (s.mcfg m 0) 12
    let lo : Int := sfld c2 71 36
    let hi : Int := sfld c2 35 0
    let ramp := bit (s.mstop m 1) 5
    let sos : Bool := match y.sosRef with
      | none => false
      | some r => x.sstate = 3 && tol ≠ 0 && (tol < (x.posA - r.1).natAbs || tol < (x.posB - r.2).natAbs)
    (if s.monSls m && !ramp then [1] else []) ++
    (if slp && (decide (x.posA < lo) || decide (x.posB < lo)) then [2] else []) ++
    (if slp && (decide (hi < x.posA) || decide (hi < x.posB)) then [3] else []) ++
    (if (sdi = 1 && (decide (x.va < -ss) || decide (x.vb < -ss))) || (sdi = 2 && (decide (ss < x.va) || decide (ss < x.vb)))
      then [4] else []) ++
    (if sos then [5] else [])

/-- A stop request is present at a capture (R286). -/
def State.monStopReq (s : State) (m : Nat) (pdBit : Nat → Bool) : Bool :=
  let w := s.mstop m 1
  let srq := ([fld w 71 59, fld w 58 46, fld w 45 33, fld w 32 20]).filter (· < 4096)
  m < 8 && w ≠ 0 &&
  (srq.any (fun f => (s.fnOf f).st = .tripped || (s.fnOf f).st = .fault) || (bit w 19 && pdBit (fld w 18 7)) ||
   (s.monxOf m).hostStop || (bit w 5 && s.monSls m))

/-- max(|v_A|, |v_B|) (R288). -/
def Mon.vmax (x : Mon) : Nat := Nat.max x.va.natAbs x.vb.natAbs

/-- t in µs since the ramp's origin (R289). -/
def State.rampT (s : State) (m : Nat) : Nat := match (s.monxOf m).origin with | none => 0 | some o => s.clock.count - o

/-- The envelope at t (R289). -/
def State.rampEnv (s : State) (m t : Nat) : Nat :=
  let w := s.mstop m 0
  let v0 := (s.monOf m).v0
  let d := 1000 * fld w 43 30
  let tol := fld w 15 0
  if t < d then v0 + tol else (v0 - fld w 71 44 * (t - d) / 1000000) + tol

/-- The ramp time limit (R289). -/
def State.rampEnd (s : State) (m : Nat) : Nat :=
  let w := s.mstop m 0
  let dec := fld w 71 44
  1000 * fld w 43 30 + ((s.monOf m).v0 * 1000000 + (dec - 1)) / dec + 1000 * fld w 29 16

/-- A reversal in stop (R291). -/
def State.rampReversal (s : State) (m : Nat) : Bool :=
  let x := s.monOf m
  let ss : Int := fld (s.mcfg m 1) 39 24
  bit (s.encOf (mport m .A)).img1 65 || bit (s.encOf (mport m .B)).img1 65 ||
  x.valid && (if x.mdir then decide (ss < x.va) || decide (ss < x.vb) else decide (x.va < -ss) || decide (x.vb < -ss))

/-- The verdict of a capture on the stop state (R287, R289–R291): the new state, and the cause that it raises. -/
def State.monStop (s : State) (m : Nat) (req : Bool) : BitVec 4 × Option (Byte × Byte) :=
  let x := s.monOf m
  let running := (s.bound m).any fun f => (s.fnOf f).st = .run
  if x.sstate = 0 then (0, none)
  else if x.sstate = 3 then (if running then 1 else 3, none)
  else if x.sstate = 1 then
    if !running then (3, none)
    else if req ∧ x.mflt = 0 ∧ x.still then (3, some (6, 8))
    else if req ∧ x.mflt = 0 ∧ x.valid then (2, none)
    else (1, none)
  else if s.rampReversal m then (3, some (0x15, BitVec.ofNat 8 m))
  else if x.mflt ≠ 0 ∨ (s.monxOf m).ran.any (fun f => (s.fnOf f).st ≠ .run) then (3, none)
  else if s.rampEnv m (s.rampT m) < Nat.max (s.monxOf m).lastV.1.natAbs (s.monxOf m).lastV.2.natAbs then (3, some (6, 6))
  else if x.still then (3, some (6, 8))
  else if s.rampEnd m < s.rampT m then (3, some (6, 7))
  else (2, none)

/-- The lower DETAIL of two causes 0x06; a reversal in stop goes first (R282, R298). -/
def lowerRaise (stop : Option (Byte × Byte)) (lim : List Nat) : Option (Byte × Byte) :=
  match stop with
  | some (0x15, d) => some (0x15, d)
  | some (c, d) => some (c, BitVec.ofNat 8 (lim.foldl Nat.min d.toNat))
  | none => lim.head?.map fun d => (6, BitVec.ofNat 8 d)

/-- A monitor raises a cause in its bound instances (R277, R282, R291), with its event when it is new; inFrame says that the functions
have taken the capture's causes already. -/
def State.monRaise (s : State) (m : Nat) (inFrame : Bool) (r : Option (Byte × Byte)) : State :=
  let was := (s.monxOf m).raise
  let s1 := s.updMonx m fun y => { y with raise := r }
  match r with
  | none => s1
  | some (c, d) =>
    let s0 := s1.updMon m fun x => { x with lastDet := if c = 0x15 then 0xFF else d }
    let s2 := if inFrame then s0.forEach (s.bound m) fun z f => z.updFn f fun x => x.faultInFrame c d 0x1FF
      else s0.raiseFns (s.bound m) c.toNat d.toNat 0x1FF
    if was = r then s2 else s2.monPost m 0x0502 4 d.toNat false

/-- The SOS reference (R281): taken at the first STILL in STOPPED, dropped outside it. -/
def State.monSos (s : State) (m : Nat) : State :=
  let x := s.monOf m
  s.updMonx m fun y => { y with
    sosRef := if x.sstate ≠ 3 then none
      else match y.sosRef with
        | some r => some r
        | none => if x.still then some (x.posA, x.posB) else none }

/-- P0 and PFIRE of an event, mirrored so that forward is increasing (R294). -/
def State.evtPoints (s : State) (m k : Nat) : Int × Int :=
  let w := s.mevt m k
  let p : Int := sfld w 68 33
  let p := if bit w 70 then -p else p
  (p - (fld w 32 13 : Nat), p)

/-- A pulse that PULSE_FR commits have applied is DONE (R295, R296). -/
def PosEvent.pulsed (e : PosEvent) : PosEvent := if e.st = 3 ∧ e.left = 0 then { st := 4 } else e

/-- The state of an event at entry to RUNNING (R295): IDLE when the position lies backward of P0, else BLOCKED; one that has fired
and does not re-arm stays fired until the next LOADING (R294). -/
def PosEvent.start (e : PosEvent) (p0 q : Int) (rearm : Bool) : PosEvent :=
  if !rearm ∧ (e.st = 3 ∨ e.st = 4) then { st := 4 } else { st := if q < p0 then 1 else 0 }

/-- An event after a capture, with the outcome that it reports: 0 fired, 1 withdrawn, 2 fired across the window (R295). -/
def evtStep (e : PosEvent) (p0 fire p q : Int) (rearm : Bool) (pulse : Nat) : PosEvent × Option Nat :=
  if e.st = 0 then (if q < p0 then { st := 1 } else e, none)
  else if e.st = 1 then
    if fire ≤ q ∧ p < p0 then ({ st := 3, left := pulse }, some 2)
    else if p0 ≤ q then ({ st := 2 }, none)
    else (e, none)
  else if e.st = 2 then
    if fire ≤ q then ({ st := 3, left := pulse }, some 0)
    else if q < p0 then ({ st := 1 }, some 1)
    else (e, none)
  else if e.st = 4 then (if rearm ∧ q < p0 then { st := 1 } else e, none)
  else (e.pulsed, none)

/-- The events in use of a monitor. -/
def State.evtsOf (s : State) (m : Nat) : List Nat := (List.range 8).filter fun k => bit (s.mevt m k) 71

/-- A position mirrored so that forward is increasing for an event (R294). -/
def State.evtPos (s : State) (m k : Nat) (v : Int) : Int := if bit (s.mevt m k) 70 then -v else v

/-- The events of a monitor start at its position (R295). -/
def State.evtsStart (s : State) (m : Nat) : State :=
  let q := (s.monOf m).pos
  s.updMonx m fun y => { y with
    posPrev := q
    events := (s.evtsOf m).foldl (fun (t : Tab PosEvent) k =>
      Tab.set {} t k ((Tab.get ({} : PosEvent) t k).start (s.evtPoints m k).1 (s.evtPos m k q) (bit (s.mevt m k) 69))) y.events }

/-- The position events of a monitor at a capture (R294–R296). Those of an SSI source start with its first position (log entry
91). -/
def State.monEvents (s : State) (m : Nat) : State :=
  let q := (s.monOf m).pos
  if !(s.monxOf m).placed then
    if (s.monOf m).lastA.isSome ∧ (s.monOf m).lastB.isSome then (s.updMonx m fun y => { y with placed := true }).evtsStart m else s
  else if (s.monOf m).mflt ≠ 0 then
    s.updMonx m fun y => { y with posPrev := q, events := y.events.map fun (e : Nat × PosEvent) => (e.1, e.2.pulsed) }
  else
    let s1 := s.forEach (s.evtsOf m) fun z k =>
      let w := s.mevt m k
      let pt := s.evtPoints m k
      let sg := s.evtPos m k
      let r := evtStep (Tab.get ({} : PosEvent) (z.monxOf m).events k) pt.1 pt.2 (sg (s.monxOf m).posPrev) (sg q)
        (bit w 69) (fld w 12 1)
      let z1 := z.updMonx m fun y => { y with events := Tab.set {} y.events k r.1 }
      match r.2 with
      | none => z1
      | some o => z1.monPost m 0x0503 0 (k * 2 ^ 25 + o * 2 ^ 23) false
    s1.updMonx m fun y => { y with posPrev := q }

/-- The arming that the ES_REV instances of a monitor request (R262): the running direction above ARM_UMS, none at
standstill, else as before. -/
def State.monRevReq (s : State) (m : Nat) : State :=
  let x := s.monOf m
  s.forEach (s.fns.filter fun f => s.tid f = 0x17 && s.fpar f 0 = m) fun z f =>
    let v := (x.va + x.vb).tdiv 2
    z.updMonx m fun y => { y with
      revReq := if x.still then 0
        else if x.valid ∧ s.fpar f 1 < v.natAbs then (if 0 < v then 1 else 2)
        else y.revReq }

/-- The stop state that a capture's verdict gives the commit, and what a ramp that starts records (R287, R288). -/
def State.monNext (s : State) (m : Nat) (req : Bool) (st : BitVec 4) : State :=
  let x := s.monOf m
  s.updMonx m fun y =>
    let z := { y with nextSt := some st, stopReq := req, hostStop := false }
    if st = 2 ∧ x.sstate = 1 then
      { z with ran := (s.bound m).filter fun f => (s.fnOf f).st = .run, start := (x.vmax, decide (x.va + x.vb < 0)) }
    else z

/-- One monitor at a capture. -/
def State.monCapture (s : State) (pdBit : Nat → Bool) (inFrame : Bool) (m : Nat) : State :=
  if s.msrc m = 0 then s
  else
    let s1 := ((s.monTake m).monJudged m).monJudge m
    let req := s1.monStopReq m pdBit
    let r := s1.monStop m req
    let s3 := s1.monNext m req r.1
    let s4 := if (s1.monOf m).sstate = 2 then s3.updMon m fun x => { x with tms := BitVec.ofNat 16 (Nat.min 65535 (s1.rampT m / 1000)) }
      else s3
    (((s4.monRaise m inFrame (lowerRaise r.2 (s1.monLimits m))).monSos m).monEvents m).monRevReq m

/-- The working buffers of the monitors (R36, R297) begin as their last verified state. -/
def State.monBegin (s : State) : State :=
  match s.monOld with
  | none => { s with monOld := some (s.mon, s.monx) }
  | some _ => s

/-- The monitors with encoder ports at a capture (R273, R274). -/
def State.monCaptures (s : State) (pdBit : Nat → Bool) : State :=
  s.monBegin.forEach ((List.range 64).filter fun m => s.msrc m = 1) fun z m => z.monCapture pdBit false m

/-- The monitors with field units, once the capture frames have brought their counts or have been missed (R97, R99, R274, R276). -/
def State.monImages (s : State) (pdBit : Nat → Bool) : State :=
  s.monBegin.forEach ((List.range 64).filter fun m => s.msrc m ≠ 1) fun z m => z.monCapture pdBit true m

/-- A monitor's state in force: while a frame computes, the last verified one (R36, R297). -/
def State.monNow (s : State) (m : Nat) : Mon :=
  match s.monOld with
  | none => s.monOf m
  | some p => Tab.get {} p.1 m

/-- The frame of a monitor's slot, that of INST0 (R277), has verified. -/
def State.monVerified (s : State) (m : Nat) : Bool := (s.slotOf (s.fSlot (fld (s.mbind m) 71 59))).verified

/-- A monitor's working buffer at the commit (R36): kept with its events when the slot's frame verified, else discarded; a
motion stop command of the frame stays for the next capture. -/
def State.monKeep (s : State) (m : Nat) : State :=
  match s.monOld with
  | none => s
  | some p =>
    if s.monVerified m then
      let y := s.monxOf m
      let s1 := s.updMonx m fun z => { z with posts := [], cleared := false, hostStop := false }
      let s2 := if y.cleared then s1.endCondition (nMon m) 0x0501 else s1
      y.posts.foldl (fun z (e : Nat × Nat × Nat × Bool) => z.postL e.1 (nMon m) e.2.1 e.2.2.1 e.2.2.2) s2
    else
      let stop := (s.monxOf m).hostStop
      (s.updMon m fun _ => Tab.get {} p.1 m).updMonx m fun _ =>
        let y := Tab.get ({} : MonX) p.2 m
        { y with hostStop := y.hostStop || stop }

/-- Every working buffer at a commit. -/
def State.monKeeps (s : State) : State := { (s.forEach (List.range 64) State.monKeep) with monOld := none }

/-- Does SENT permit arming a direction: 1 up, 2 down (R134, R145)? -/
def sentPermits (sent : Nat) (dir : BitVec 2) : Bool := dir = 0 || sent / dir.toNat % 2 = 1

/-- The direction of increasing count for a direction of motion (R273, R145). -/
def flipDir (inv : Bool) (dir : BitVec 2) : BitVec 2 := if inv then (if dir = 1 then 2 else if dir = 2 then 1 else 0) else dir

/-- The commit sets the arming of a monitor's encoder ports (R145, R288, R292): the ramp's direction in RAMP, else what
ES_REV requests, none in HOLDING (R298); disarming ends an asserted reversal signal. -/
def State.monArm (s : State) (m : Nat) : State :=
  if s.msrc m ≠ 1 then s
  else
    let x := s.monOf m
    let want : BitVec 2 := if s.dev.st = .holding ∨ x.sstate = 0 then 0
      else if x.sstate = 2 then (if x.mdir then 2 else 1) else (s.monxOf m).revReq
    let dir := flipDir (bit (s.mcfg m 0) 59) want
    let arm (z : State) (i : Nat) : State := z.updEnc i fun e =>
      if sentPermits (fld (s.cw cECFG i 0) 69 68) dir then
        { e with arm := dir, armReq := dir, revTrip := if dir = 0 then false else e.revTrip }
      else { e with armReq := dir }
    let s1 := arm (arm s (mport m .A)) (mport m .B)
    s1.updMon m fun x => { x with revarm := (s1.encOf (mport m .A)).arm ≠ 0 || (s1.encOf (mport m .B)).arm ≠ 0 }

/-- The functions that read the overspeed sentinels of a monitor (R262, R263). -/
def State.ovsFns (s : State) (m : Nat) : List Nat := s.fns.filter fun f => s.tid f = 0x16 && s.fpar f 0 = m
/-- The functions that read the reversal sentinels of a monitor (R262, R292). -/
def State.revFns (s : State) (m : Nat) : List Nat := s.fns.filter fun f => s.tid f = 0x17 && s.fpar f 0 = m

/-- A function is TRIPPED or FAULT. -/
def State.fnDown (s : State) (f : Nat) : Bool := (s.fnOf f).st = .tripped || (s.fnOf f).st = .fault

/-- RESET and MODESEL (R257). -/
def isMode (tid : Nat) : Bool := tid = 0x05 || tid = 0x06

/-- The condition of R165 on a function: TRIPPED or FAULT in a verified image. RESET and MODESEL instances are never TRIPPED and are
left out (R257; log entry 53). -/
def State.stoppedIn (s : State) (f : Nat) : Bool := isMode (s.tid f) || (s.fnDown f && (s.slotOf (s.fSlot f)).verified)

/-- This commit applies a verified output image in which every function of a list is TRIPPED or FAULT (R145, R165). -/
def State.imageStopped (s : State) (fs : List Nat) : Bool :=
  ((List.range 48).any fun p => (s.slotOf p).verified) && fs.all s.stoppedIn

/-- The commit's changes of a monitor (R145, R287, R288): the new stop state once the functions' states are applied, the
ramp's origin, the sentinels, and the pulses that this commit applies (R296). -/
def State.monCommit (s : State) (m : Nat) : State :=
  if s.msrc m = 0 then s
  else
    let x := s.monOf m
    let y := s.monxOf m
    let want : BitVec 4 := match y.nextSt with | none => x.sstate | some n => n
    let st : BitVec 4 := if s.dev.st = .holding ∧ x.sstate ≠ 0 then 3
      else if want = 2 ∧ y.ran.any (fun f => (s.fnOf f).st ≠ .run) then 3 else want
    let start : Bool := st = 2 && x.sstate ≠ 2
    let s1 := (s.updMon m fun z => { z with
      sstate := st, tms := if start then 0 else z.tms, v0 := if start then y.start.1 else z.v0,
      mdir := if start then y.start.2 else z.mdir }).updMonx m fun z => { z with
      nextSt := none,
      origin := if st = 2 then (if x.sstate = 2 then z.origin else some s.clock.count) else none,
      ran := if st = 2 then z.ran else [],
      events := z.events.map fun (e : Nat × PosEvent) => if e.2.st = 3 then (e.1, { e.2 with left := e.2.left - 1 }) else e }
    let s2 := s1.monArm m
    if s.msrc m = 1 ∧ s2.imageStopped (s2.ovsFns m) then
      (s2.updEnc (mport m .A) fun e => { e with ovsTrip := false }).updEnc (mport m .B) fun e => { e with ovsTrip := false }
    else s2

/-- Every monitor at a commit. -/
def State.monCommits (s : State) : State := s.monKeeps.forEach (List.range 64) State.monCommit

/-- Monitors at entry to RUNNING (R136, R149, R274, R275, R295): counts at 0, windows empty, events IDLE or BLOCKED by the
position. -/
def State.monRunning (s : State) : State :=
  s.forEach ((List.range 64).filter fun m => s.msrc m ≠ 0) fun z m =>
    (((z.updMonx m fun y => { y with placed := !s.monSsi m, lastV := (0, 0) }).updMon m fun x => { x with
      cntA := 0, cntB := 0, lastA := none, lastB := none, hist := [], histT := [], valid := false, still := false,
      posA := 0, posB := 0, pos := 0, va := 0, vb := 0, missA := 0, missB := 0, ferrA := 0, ferrB := 0 }).evtsStart m)

/-- MONITOR_DISAGREEMENT (R278): fault 0x1, once DISC_FR consecutive captures have found the positions apart. -/
def execMonitorDisagreement (m : MonIx) (s : State) : Res :=
  if s.msrc m.val ≠ 0 ∧ s.monFaultNow m.val = 1 then done (s.monFault m.val 1) else done s

/-- MONITOR_FAULT_CLEAR (R278): 64 consecutive captures have agreed. -/
def execMonitorFaultClear (m : MonIx) (s : State) : Res :=
  if 64 ≤ (s.monxOf m.val).agree then done (s.monClear m.val) else done s

/-- EVENT_PULSE_END (R295, R296): PULSE_FR commits have applied the pulse. -/
def execEventPulseEnd (m : MonIx) (k : Fin 8) (s : State) : Res :=
  done (s.updMonx m.val fun y => { y with
    events := Tab.set {} y.events k.val (Tab.get ({} : PosEvent) y.events k.val).pulsed })

end Sys2Proof.Machine
end

