-- ==== Sys2Proof/Machine/Link.lean ====
section
/-! DEFINITION. Brueri Link (spec/12): reception, receipts, acceptance at the capture, connection states, sending, cages
and PTP (R299–R330). -/

namespace Sys2Proof.Machine

/-- LCFG0 and LCFG1 of a connection (R305, R306), NCFG of a network (R301). -/
def State.lcfg0 (s : State) (c : Nat) : Word := s.cw cCONN c 0
def State.lcfg1 (s : State) (c : Nat) : Word := s.cw cCONN c 1
def State.ncfg (s : State) (d : Side) : Word := s.cw cNCFG d.ix 0

/-- Fields of the connection words. -/
def State.connEn (s : State) (c : Nat) : Bool := bit (s.lcfg0 c) 71
def State.connOpener (s : State) (c : Nat) : Bool := bit (s.lcfg0 c) 70
def State.connKgen (s : State) (c : Nat) : Nat := fld (s.lcfg0 c) 69 54
def State.connPeriod (s : State) (c : Nat) : Nat := fld (s.lcfg0 c) 53 30
def State.connWd (s : State) (c : Nat) : Nat := fld (s.lcfg0 c) 29 6
def State.connSnt (s : State) (c : Nat) : Nat := fld (s.lcfg1 c) 71 52
def State.connSkew (s : State) (c : Nat) : Nat := fld (s.lcfg1 c) 51 38
def State.connRxLen (s : State) (c : Nat) : Nat := fld (s.lcfg1 c) 17 11
def State.connTxLen (s : State) (c : Nat) : Nat := fld (s.lcfg1 c) 24 18
def State.connSlot (s : State) (c : Nat) : Nat := fld (s.lcfg1 c) 30 25

/-- The first 85 bytes of the PDU (R308). -/
def pduBytes (typ : Nat) (g : Telegram) : List Byte :=
  [BitVec.ofNat 8 (g.ver.toNat * 16 + typ)] ++
  leBytes 2 (g.cid.toNat + at_ (b2n g.dir) 13 + at_ (b2n g.stop) 14 + at_ (b2n g.kgp) 15) ++
  [g.len] ++ leBytes 2 g.epoch.toNat ++ leBytes 6 g.seq.toNat ++ leBytes 9 g.time.toNat ++ leBytes 64 g.data.toNat

/-- The device secret of a side (R413); there is none in an invalid region, and none after a zeroise (R411, R428). -/
def State.secret (s : State) (d : Side) : BitVec 256 :=
  if !s.keyed d then 0
  else BitVec.ofNat 256 (s.otpFld d 1671 1416) ^^^ Config.secretMask d

/-- The key generation that verifies a telegram, none when no key does (R314). -/
def State.rxGen (s : State) (c : Nat) (kgp : Bool) : Option Nat :=
  let g := s.connKgen c
  if kgp = (g % 2 = 1 : Bool) then some g else if (s.connOf c).rollover then some (g - 1) else none

/-- MAC checks (R311, R314). -/
def State.macOk (s : State) (d : Side) (typ : Nat) (g : Telegram) : Bool :=
  match s.rxGen g.cid.toNat g.kgp with
  | none => false
  | some gen => g.mac = Config.cmac64 (Config.connKey (s.secret d) s.pkg.nsalt g.cid.toNat gen true)
      (pduBytes typ g ++ leBytes 4 g.crc.toNat)

/-- The number of the first check of R318 that a telegram fails on a side, 0 when it passes; arr is its arrival in 10 ns
since PROVING. -/
def State.rxCheck (s : State) (d : Side) (typ : Nat) (g : Telegram) (arr : Nat) : Nat :=
  let c := g.cid.toNat
  let k := s.connOf c
  let tail := g.data.toNat / 2 ^ (8 * g.len.toNat) = 0
  let ver := match d with | .A => k.verA | .B => k.verB
  let age : Int := (s.taiOf arr : Int) - (g.time.toNat : Int)
  if !g.fcsOk ∨ g.etype.toNat ≠ fld (s.ncfg d) 71 56 then 1
  else if g.ver ≠ 1 ∨ 64 < g.len.toNat ∨ !g.dir ∨ g.epoch = 0 ∨ !tail ∨
      g.len.toNat ≠ (if typ = 1 then s.connRxLen c else 0) then 2
  else if !s.connEn c ∨ (typ = 2 ∧ !s.connOpener c) ∨ (typ = 3 ∧ s.connOpener c) then 3
  else if g.crc ≠ crc32c (pduBytes typ g) then 4
  else if !s.macOk d typ g then 5
  else if (typ = 2) = (g.epoch = k.epoch) then 6
  else if (if typ = 1 then g.seq ≤ ver else g.seq ≠ 0) then 7
  else if !(bit g.time 71) ∧ s.time.valid ∧ (age < -50000 ∨ 1000 * (s.connWd c : Int) < age) then 8
  else 0

/-- A discarded telegram is counted by connection and cause, and at the network (R302, R303, R318). -/
def State.rxDiscard (s : State) (d : Side) (c cause : Nat) : State :=
  let s1 := s.updConn c fun k => match d with
    | .A => { k with discA := Tab.upd 0 k.discA cause (· + 1) }
    | .B => { k with discB := Tab.upd 0 k.discB cause (· + 1) }
  s1.updNet d fun n => { n with
    discard := n.discard + 1, dup := if cause = 7 ∧ fld (s.ncfg d) 55 54 = 2 then n.dup + 1 else n.dup }

/-- A network stop demand is registered on a side (R165, R319); by names what registered it. -/
def State.registerStop (s : State) (d : Side) (g cid : Nat) : State :=
  s.updHalf d fun h => { h with
    nstop := setBit h.nstop g true
    nstopAt := Tab.set 0 h.nstopAt g s.clock.nextCapture
    nstopBy := if bit h.nstop g then h.nstopBy else Tab.set 0 h.nstopBy g (2 * cid + d.ix + 1) }

/-- Time from a to b in 10 ns units, modulo 2^40. -/
def arrDiff (a b : BitVec 40) : Nat := (b - a).toNat
/-- a arrived no later than b. -/
def arrLe (a b : BitVec 40) : Bool := arrDiff a b < 2 ^ 39

/-- The receipt of a verified telegram (R320). -/
def mkReceipt (typ : Nat) (g : Telegram) (arr : Nat) : Receipt :=
  { stop := g.stop, typ := BitVec.ofNat 4 typ, cid := g.cid, seq := g.seq, len := g.len, mac := g.mac, crc := g.crc,
    data := g.data, arr := BitVec.ofNat 40 arr, epoch := g.epoch }

/-- Receipts of a side for a connection. -/
def Conn.rx (k : Conn) : Side → List Receipt
  | .A => k.rxA
  | .B => k.rxB
/-- A receipt of a side waits for the capture that decides it (R320); a second copy of one that waits adds nothing. -/
def Conn.addRx (k : Conn) (d : Side) (r : Receipt) : Conn :=
  if (k.rx d).any (fun q => q = { r with arr := q.arr }) then k
  else match d with
    | .A => { k with rxA := k.rxA ++ [r] }
    | .B => { k with rxB := k.rxB ++ [r] }

/-- A verified telegram (R315, R318–R320): SEQ, the end of a rollover, a network stop demand, the receipt. -/
def State.rxPass (s : State) (d : Side) (typ : Nat) (g : Telegram) (arr : Nat) : State :=
  let c := g.cid.toNat
  let newKey := g.kgp = (s.connKgen c % 2 = 1 : Bool)
  let s1 := s.updConn c fun k =>
    let k1 := if typ = 1 then (match d with | .A => { k with verA := g.seq } | .B => { k with verB := g.seq }) else k
    { (k1.addRx d (mkReceipt typ g arr)) with rollover := k.rollover && !newKey }
  if typ = 1 ∧ g.stop ∧ bit (s.lcfg1 c) 37 then s1.registerStop d (fld (s.lcfg1 c) 36 31) c else s1

/-- A telegram arrives at a side (R318); a side whose crypto engine has failed verifies none (R370). -/
def State.receive (s : State) (d : Side) (typ : Nat) (g : Telegram) (arr : Nat) : State :=
  if (s.netOf d).muted then s
  else
    match s.rxCheck d typ g arr with
    | 0 => s.rxPass d typ g arr
    | n => s.rxDiscard d g.cid.toNat n

/-- DATA (R318, R319). -/
def execNetData (sd : Side) (g : Telegram) (arr : Nat) (s : State) : Res := settled (s.receive sd 1 g arr)
/-- OPEN (R318). -/
def execNetOpen (sd : Side) (g : Telegram) (arr : Nat) (s : State) : Res := settled (s.receive sd 2 g arr)
/-- OPEN_ACK (R318). -/
def execNetOpenAck (sd : Side) (g : Telegram) (arr : Nat) (s : State) : Res := settled (s.receive sd 3 g arr)

/-- A receipt's telegram arrived before the tick-0 edge of the running frame: it belongs to the image of its capture (R320). -/
def State.beforeEdge (s : State) (r : Receipt) : Bool := !arrLe (BitVec.ofNat 40 s.edge10) r.arr

/-- TELEGRAM_RECEIPT (R320): the receipt of the other side is in this side's image too; one in flight at the edge of the running
frame still belongs to it when it comes within ticks 0–2. -/
def execTelegramReceipt (sd : Side) (r : Receipt) (s : State) : Res :=
  let late : Bool := s.clock.captured && s.clock.tick < 3 && s.beforeEdge r
  done (s.updConn r.cid.toNat fun k =>
    let k1 := k.addRx sd.other r
    if k1 = k then k else { k1 with inFlight := k.inFlight || late })

/-- How a telegram was accepted (R321). -/
inductive AccMode where
  | dual | single (d : Side)
  deriving DecidableEq, Repr

/-- An accepted telegram: its receipt, with the ARR that counts for the watchdog (R324). -/
structure Accepted where
  r    : Receipt
  mode : AccMode
  deriving DecidableEq, Repr

/-- What a capture decides for one connection (R321). -/
structure Decided where
  acc  : List Accepted := []
  keepA : List Receipt := []
  keepB : List Receipt := []
  disagree : Nat := 0
  late : Nat := 0
  /-- a different late receipt: loss -/
  loss : Bool := false
  deriving DecidableEq, Repr

/-- Two receipts are identical but for ARR (R321). -/
def sameReceipt (a b : Receipt) : Bool := a = { b with arr := a.arr }
/-- The same SEQ, or handshake TYPE (R321). -/
def sameKey (a b : Receipt) : Bool := a.typ = b.typ && a.seq = b.seq
/-- Decide a pair of receipts, one from each side (R321). -/
def Decided.pair (z : Decided) (skew snt : Nat) (a b : Receipt) : Decided :=
  if !sameReceipt a b then { z with disagree := z.disagree + 1 }
  else
    let first := if arrLe a.arr b.arr then a else b
    let gap := if arrLe a.arr b.arr then arrDiff a.arr b.arr else arrDiff b.arr a.arr
    if gap ≤ 100 * skew then { z with acc := z.acc ++ [⟨first, .dual⟩] }
    else if snt = 0 then { z with late := z.late + 1 }
    else { z with late := z.late + 1, acc := z.acc ++ [⟨first, .single (if arrLe a.arr b.arr then .A else .B)⟩] }

/-- Decide a receipt that only side d has given (R321). -/
def Decided.one (z : Decided) (k : Conn) (skew snt now : Nat) (d : Side) (r : Receipt) : Decided :=
  match k.single.find? (sameKey r) with
  | some q => if sameReceipt q r then { z with late := z.late + 1 } else { z with disagree := z.disagree + 1, loss := true }
  | none =>
    if arrDiff r.arr (BitVec.ofNat 40 now) < 100 * skew then
      (match d with | .A => { z with keepA := z.keepA ++ [r] } | .B => { z with keepB := z.keepB ++ [r] })
    else if snt = 0 then z
    else { z with acc := z.acc ++ [⟨r, .single d⟩] }

/-- Decide every receipt of a connection at a capture (R321); now in 10 ns since PROVING. -/
def Conn.decide (k : Conn) (skew snt now : Nat) : Decided :=
  let z := k.rxA.foldl (fun (z : Decided) a => match k.rxB.find? (sameKey a) with
    | some b => z.pair skew snt a b
    | none => z.one k skew snt now .A a) {}
  (k.rxB.filter fun b => !(k.rxA.any (sameKey b))).foldl (fun (z : Decided) b => z.one k skew snt now .B b) z

/-- The accepted DATA with the highest SEQ (R321). -/
def Decided.top (z : Decided) : Option Accepted :=
  (z.acc.filter fun x => x.r.typ = 1).foldl (fun o x => match o with
    | none => some x
    | some y => if y.r.seq < x.r.seq then some x else some y) none
/-- An accepted handshake telegram. -/
def Decided.hand (z : Decided) (typ : BitVec 4) : Option Accepted := z.acc.find? fun x => x.r.typ = typ

/-- The state that an acceptance gives (R323). -/
def accState : AccMode → LinkState
  | .dual => .dual
  | .single .A => .singleA
  | .single .B => .singleB

/-- A connection's data enters the image (R325). -/
def LinkState.up : LinkState → Bool
  | .dual => true
  | .singleA => true
  | .singleB => true
  | _ => false

/-- The code of STATE (R322). -/
def LinkState.code : LinkState → Nat
  | .off => 0 | .closed => 1 | .opening => 2 | .dual => 3 | .singleA => 4 | .singleB => 5 | .lost => 6

/-- The record word of a connection's epoch, with it (R395). -/
def State.epochWrite (s : State) (c : Nat) (e : BitVec 16) : State :=
  let k := 1113 + c / 4
  let lo := 16 * (c % 4)
  (s.recWrite .A k (putFld (s.recRead .A k) (lo + 15) lo e.toNat)).recWrite .B k
    (putFld (s.recRead .B k) (lo + 15) lo e.toNat)

/-- The epoch that follows (R323). -/
def nextEpoch (e : BitVec 16) : BitVec 16 := if e = 0xFFFF then 1 else e + 1

/-- A handshake begins (R323): OPENING in a new epoch, kept in MRAM. -/
def State.connOpen (s : State) (c : Nat) (e : BitVec 16) : State :=
  (s.epochWrite c e).updConn c fun k => { k with
    st := .opening, epoch := e, seq := 0, verA := 0, verB := 0, txSeq := 0, openAt := s.edge10, single := [],
    lossReq := false, handReq := false }

/-- The network that a loss names (R362): the one that failed last; when both did, the one with an open window, else A. -/
def State.lossNet (s : State) (st : LinkState) : Nat :=
  match st with
  | .singleA => 1
  | .singleB => 0
  | _ => if s.windows.any (fun w => w.node = nNet .B) ∧ !(s.windows.any fun w => w.node = nNet .A) then 1 else 0

/-- A loss takes effect (R325): data and STOPRX zero, NSTOP on both sides, the event. -/
def State.connLoss (s : State) (c : Nat) (was now : LinkState) : State :=
  let s1 := s.updConn c fun k => { k with st := now, data := 0, stopRx := false, lossReq := false }
  let g := fld (s.lcfg1 c) 36 31
  let s2 := if bit (s.lcfg1 c) 37 then (s1.registerStop .A g c).registerStop .B g c else s1
  s2.postL 0x0601 (nConn c (s.lossNet was)) 3 now.code true

/-- An accepted DATA or handshake gives the connection its state (R321, R323, R324, R326). -/
def State.connTake (s : State) (c : Nat) (a : Accepted) : State :=
  let was := (s.connOf c).st
  let s1 := s.updConn c fun k => { k with
    st := accState a.mode
    lastArr := some a.r.arr.toNat
    leftDual := if was = .dual ∨ !was.up then s.edge10 else k.leftDual
    seq := if a.r.typ = 1 ∧ k.seq < a.r.seq then a.r.seq else k.seq
    stopRx := if a.r.typ = 1 then a.r.stop else false
    data := if a.r.typ = 1 then a.r.data else 0
    lossReq := false
    handReq := false }
  if was.up then s1 else (s1.endCondition (nConn c 0) 0x0601).endCondition (nConn c 1) 0x0601

/-- More than n µs have passed since an arrival (R324). -/
def State.arrOlder (s : State) (arr : Option Nat) (us : Nat) : Bool :=
  match arr with
  | none => true
  | some a => 100 * us < arrDiff (BitVec.ofNat 40 a) (BitVec.ofNat 40 s.edge10)

/-- The state change of a connection at a capture: the first row of R323 that applies; an acceptance that leaves the state as it
is hides no later row. -/
def State.connStep (s : State) (c : Nat) (z : Decided) : State :=
  let k := s.connOf c
  let opener := s.connOpener c
  match k.st with
  | .off => s
  | .closed =>
    if !opener then (if s.dev.st = .running then s.connOpen c (nextEpoch k.epoch) else s)
    else if s.dev.st = .standby then s
    else match z.hand 2 with | some a => s.connOpen c a.r.epoch | none => s
  | .lost =>
    if !opener then s.connOpen c (nextEpoch k.epoch)
    else match z.hand 2 with | some a => s.connOpen c a.r.epoch | none => s
  | .opening =>
    match (if opener then z.top else z.hand 3) with
    | some a => s.connTake c a
    | none =>
      if k.handReq ∨ 100 * s.connWd c < s.edge10 - k.openAt then
        s.updConn c fun k => { k with st := .lost, handReq := false }
      else s
  | st =>
    match (if opener then z.hand 2 else none) with
    | some a => (s.connLoss c st .opening).connOpen c a.r.epoch
    | none =>
      let moves : Bool := match z.top with | some a => decide (accState a.mode ≠ st) | none => false
      let s1 := match z.top with | some a => s.connTake c a | none => s
      if !moves ∧ (k.lossReq ∨ (st ≠ .dual ∧ 100000 * s.connSnt c < s.edge10 - k.leftDual) ∨
          s1.arrOlder (s1.connOf c).lastArr (s.connWd c) ∨ z.loss)
      then s1.connLoss c st .lost
      else s1

/-- What the receipts of a connection in the running frame's image decide (R320, R321); DATA of an epoch that has ended counts no
more (R323). -/
def State.connDecided (s : State) (c : Nat) : Decided :=
  let k := s.connOf c
  let here (r : Receipt) : Bool := s.beforeEdge r && (r.typ ≠ 1 || r.epoch = k.epoch)
  let image : Conn := { k with rxA := k.rxA.filter here, rxB := k.rxB.filter here }
  image.decide (s.connSkew c) (s.connSnt c) s.edge10

/-- The payloads of accepted telegrams go to the connection's queue in the network pool (R337). -/
def State.postPayloads (s : State) (c : Nat) (l : List Accepted) : State :=
  let words (a : Accepted) : List Word := Config.payloadRecord c ((leBytes 64 a.r.data.toNat).take a.r.len.toNat)
  if l = [] then s else s.updQueue (20480 + c) fun q => { q with words := q.words ++ (l.map words).flatten }

/-- The receipts that a capture leaves undecided, and those of later telegrams, wait for the next one (R321); a disagreement is
reported. The DATA accepted single are kept while a later copy can still come, to compare it with (log entry 92). -/
def State.connTally (s : State) (c : Nat) (z : Decided) : State :=
  let later (r : Receipt) : Bool := !s.beforeEdge r
  let datas : List Accepted := z.acc.filter fun x => x.r.typ = 1
  let ones : List Receipt := (datas.filter fun x => x.mode ≠ .dual).map Accepted.r
  let s1 := s.updConn c fun k => { k with
    inFlight := false
    rxA := z.keepA ++ k.rxA.filter later
    rxB := z.keepB ++ k.rxB.filter later
    late := k.late + z.late
    passed := k.passed + (datas.length - 1)
    single := (k.single ++ ones).filter fun q =>
      k.verA < q.seq || k.verB < q.seq || (k.rxA ++ k.rxB).any fun r => r.seq = q.seq && later r }
  let s2 := s1.postPayloads c datas
  if z.disagree ≠ 0 then s2.postL 0x0602 (nConn c 0) 3 0 false else s2

/-- A connection at a capture (R321–R325). -/
def State.connCapture (s : State) (c : Nat) : State :=
  let z := s.connDecided c
  (s.connTally c z).connStep c z

/-- A connection at the tick-3 edge (R20, R320): receipts that were in flight at the capture's edge have come and are decided as
that capture's. The expiries of the frame wait for the next capture (R324). -/
def State.connLate (s : State) (c : Nat) : State :=
  let k := s.connOf c
  if !k.inFlight then s
  else
    let z := s.connDecided c
    let s1 := s.connTally c z
    let waits : Bool := !s.connOpener c && !k.st.up && k.st ≠ .opening
    if waits ∨ (z.acc = [] ∧ !z.loss) then s1
    else
      let s2 := (s1.updConn c fun x => { x with lossReq := false, handReq := false }).connStep c z
      s2.updConn c fun x => { x with lossReq := k.lossReq && x.st.up, handReq := k.handReq && x.st = .opening }

/-- The connections of the state: those that LOADING has made CLOSED. -/
def State.conns (s : State) : List Nat := (s.conn.filter fun (e : Nat × Conn) => e.2.st ≠ .off).map Prod.fst

/-- Every connection at a capture. -/
def State.connCaptures (s : State) : State := s.forEach s.conns State.connCapture
/-- Every connection at the tick-3 edge. -/
def State.connLates (s : State) : State := s.forEach s.conns State.connLate

/-- The connections that a function reads (R264, R309). -/
def State.fnConns (s : State) (f : Nat) : List Nat :=
  match s.tid f with
  | 0x30 | 0x31 => ((List.range (Nat.min (s.fpar f 0) 24)).map fun i => s.fpar f (1 + i)).filterMap fun v =>
      if v < 2 ^ 22 then some (v / 512) else none
  | _ => []

/-- The functions of a network stop group (R246). -/
def State.nsgFns (s : State) (g : Nat) : List Nat :=
  s.fns.filter fun f => bit (s.gmap (s.fGroup f)) 66 && fld (s.gmap (s.fGroup f)) 65 60 = g

/-- STOP of a telegram that the device sends (R306, R317): a connection without a slot has no output area that could hold it. -/
def State.txStop (s : State) (c : Nat) : Bool :=
  s.dev.st = .holding || (s.connSlot c ≠ 0 && bit (s.lcfg1 c) 37 && (s.nsgFns (fld (s.lcfg1 c) 36 31)).any s.fnDown)

/-- The DATA of a connection as the output area of its slot holds it: TX_LEN bytes (R306, R316). -/
def State.areaData (s : State) (c : Nat) : BitVec 512 :=
  BitVec.ofNat 512 (ofLe ((((Config.dataArea c).map fun a => wordBytes (Tab.get 0 s.mem.a.frame a)).flatten).take (s.connTxLen c)))

/-- DATA of the connections whose slot verified (R185, R316) stand for sending from this commit on. -/
def State.commitConns (s : State) : State :=
  s.forEach (s.conns.filter fun c => s.connSlot c ≠ 0 && (s.slotOf (s.connSlot c)).verified) fun x c =>
    x.updConn c fun k => { k with txData := s.areaData c }

/-- TIME of a telegram that the device sends (R312): that of the frame's capture, and 1,000 ns for each tick since. -/
def State.sendTime (s : State) : Word :=
  if s.time.valid then BitVec.ofNat 72 ((s.time.capTai + 1000 * s.clock.tick) % 2 ^ 71) else s.timeWord

/-- The telegram that the device sends for a connection (R308, R312, R315–R317): LEN 0 without a slot and in a handshake; in
HOLDING all-zero DATA. -/
def State.txTelegram (s : State) (c typ : Nat) (seq : BitVec 48) : Telegram :=
  let k := s.connOf c
  let len := if typ = 1 ∧ s.connSlot c ≠ 0 then s.connTxLen c else 0
  { fcsOk := true, etype := 0, ver := 1, cid := BitVec.ofNat 13 c, dir := false, stop := s.txStop c,
    kgp := s.connKgen c % 2 = 1, len := BitVec.ofNat 8 len, epoch := k.epoch, seq := seq, time := s.sendTime,
    data := if s.dev.st = .holding ∨ len = 0 then 0 else k.txData, crc := 0, mac := 0 }

/-- The 97 bytes of a PDU that the device sends (R308, R310, R311): the fields, CRC, and the MAC under the device's key. -/
def State.txPdu (s : State) (c typ : Nat) (seq : BitVec 48) : List Byte :=
  let g := s.txTelegram c typ seq
  let body := pduBytes typ g ++ leBytes 4 (crc32c (pduBytes typ g)).toNat
  body ++ leBytes 8 (Config.cmac64 (Config.connKey (s.secret .A) s.pkg.nsalt c (s.connKgen c) false) body).toNat

/-- Bytes of a number, most significant first. -/
def beBytes (k v : Nat) : List Byte := (leBytes k v).reverse

/-- The Ethernet frame of a telegram on a cage, before its FCS (R302, R307): DMAC, the cage's own address, tag, EtherType. -/
def State.txFrame (s : State) (cage c : Nat) (pdu : List Byte) : List Byte :=
  let d : Side := if cage < 2 then .A else .B
  let w := s.cw cCONN c (2 + d.ix)
  let own := if cage % 2 = 0 then s.otpFld d 119 72 else s.otpFld d 167 120
  beBytes 6 (fld w 71 24) ++ beBytes 6 own ++ (if bit w 23 then beBytes 2 0x8100 ++ beBytes 2 (at_ (fld w 22 20) 13 + fld w 19 8) else []) ++
    beBytes 2 (fld (s.ncfg d) 71 56) ++ pdu

/-- A module is accepted in a cage of a network (R300): its power level, its type, its ID EEPROM, its speed. -/
def State.moduleOk (s : State) (d : Side) (m : ModuleInfo) : Bool :=
  m.powerOk && m.typeKnown && m.eepromOk && (m.speed10g = (fld (s.ncfg d) 53 52 = 0 : Bool))

/-- The transmitter of a cage is enabled (R300): it holds an accepted module. -/
def State.txEnabled (s : State) (d : Side) (c : Nat) : Bool :=
  match (s.cageOf c).ident with
  | none => false
  | some m => (s.cageOf c).present && s.moduleOk d m

/-- The cages that a side sends a telegram on (R300, R303, R316): none for a side whose crypto engine has failed (R370)
or whose IDENT is invalid (R411). -/
def State.txCages (s : State) (d : Side) : List Nat :=
  if (s.netOf d).muted ∨ s.region d 0 = .invalid then []
  else (match fld (s.ncfg d) 55 54 with
    | 1 => [2 * d.ix + s.activeCage d]
    | 2 => [2 * d.ix, 2 * d.ix + 1]
    | _ => [2 * d.ix]).filter (s.txEnabled d)

/-- Send a telegram on both networks (R316). -/
def State.sendPdu (s : State) (c typ : Nat) (seq : BitVec 48) : Option (List Byte × List Nat) :=
  some (s.txPdu c typ seq, s.txCages .A ++ s.txCages .B)

/-- The tick is one of a connection's send phase (R316). -/
def State.sendPhase (s : State) (c : Nat) : Bool := s.clock.count % s.connPeriod c = 61 * c % s.connPeriod c

/-- TELEGRAM_SEND (R316, R317): at the ticks of the send phase; the TYPE follows from STATE; DATA counts SEQ; a slot that is not LOCKED originates no
telegram (R189). -/
def execTelegramSend (c : ConnIx) (s : State) : Res :=
  let k := s.connOf c.val
  let slot := s.connSlot c.val
  let may := (s.dev.st = .running || s.dev.st = .holding) && s.connEn c.val && s.sendPhase c.val && k.sentAt ≠ some s.clock.count &&
    (slot = 0 || s.dev.st = .holding || (s.slotOf slot).st = .locked)
  if !may then done s
  else
    match k.st with
    | .opening => done (s.updConn c.val fun k => { k with
        sentAt := some s.clock.count, sent := s.sendPdu c.val (if s.connOpener c.val then 3 else 2) 0 })
    | .dual | .singleA | .singleB => done (s.updConn c.val fun k => { k with
        sentAt := some s.clock.count, txSeq := k.txSeq + 1, sent := s.sendPdu c.val 1 (k.txSeq + 1) })
    | _ => done s

/-- CONNECTION_WATCHDOG_EXPIRY (R324): more than WD_US since the latest accepted telegram; the loss takes effect at the next capture. -/
def execConnectionWatchdogExpiry (c : ConnIx) (s : State) : Res :=
  let k := s.connOf c.val
  let old : Bool := match k.lastArr with
    | none => true
    | some a => 100 * s.connWd c.val < arrDiff (BitVec.ofNat 40 a) (BitVec.ofNat 40 s.t10)
  if k.st.up ∧ old then done (s.updConn c.val fun k => { k with lossReq := true }) else done s

/-- SINGLE_NETWORK_TIMEOUT (R323): more than SNT_MS since leaving DUAL; LOST, with a loss, at the next capture. -/
def execSingleNetworkTimeout (c : ConnIx) (s : State) : Res :=
  let k := s.connOf c.val
  if (k.st = .singleA ∨ k.st = .singleB) ∧ 100000 * s.connSnt c.val + k.leftDual < s.t10 then
    done (s.updConn c.val fun k => { k with lossReq := true })
  else done s

/-- HANDSHAKE_TIMEOUT (R323): more than WD_US in OPENING; LOST at the next capture. -/
def execHandshakeTimeout (c : ConnIx) (s : State) : Res :=
  let k := s.connOf c.val
  if k.st = .opening ∧ 100 * s.connWd c.val + k.openAt < s.t10 then done (s.updConn c.val fun k => { k with handReq := true })
  else done s

/-- The network of a cage (R362). -/
def cageNet (c : Nat) : Side := if c < 2 then .A else .B

/-- The active cage of a network has gone: in active/standby mode the other one takes over (R303). -/
def State.switchCage (s : State) (c : Nat) : State :=
  let d := cageNet c
  if fld (s.ncfg d) 55 54 = 1 ∧ (s.netOf d).active = c % 2 then s.useCage d (1 - c % 2) else s

/-- MODULE_INSERTED (R300, R78): recorded; accepted, or kept disabled with an event. -/
def execModuleInserted (cage : CageIx) (m : ModuleInfo) (s : State) : Res :=
  let c := cage.val
  let ok := s.moduleOk (cageNet c) m
  let s1 := s.updCage c fun x => { x with present := true, accepted := ok, ident := some m }
  let s2 := (s1.post 0x0605 (nCage c) 0 0).ledgerAdd 6 noFn noChan 0 0 0 0
  done (if ok then s2 else s2.post 0x0606 (nCage c) 1 0)

/-- MODULE_REMOVED (R300, R78). -/
def execModuleRemoved (cage : CageIx) (s : State) : Res :=
  let s1 := s.updCage cage.val fun _ => {}
  done (((s1.post 0x0604 (nCage cage.val) 1 0).ledgerAdd 6 noFn noChan 0 0 0 0).switchCage cage.val)

/-- MODULE_ALARM_POLL (R300). -/
def execModuleAlarmPoll (cage : CageIx) (flags : Byte) (s : State) : Res :=
  if !(s.cageOf cage.val).present then done s
  else
    let s1 := s.updCage cage.val fun x => { x with alarms := flags }
    done (if flags = 0 then s1 else s1.post 0x0606 (nCage cage.val) 1 flags.toNat)

/-- DETAIL of a cage event (R363). -/
def cageCause : CageCause → Nat
  | .txFault => 0
  | .signalLoss => 1
  | .blockLock => 2

/-- CAGE_DOWN (R300, R303). -/
def execCageDown (cage : CageIx) (cause : CageCause) (s : State) : Res :=
  let s1 := s.updCage cage.val fun x => { x with up := false }
  done ((s1.postL 0x0603 (nCage cage.val) 3 (cageCause cause) true).switchCage cage.val)

/-- CAGE_UP (R300, R301, R303): in active/standby mode cage 1 is preferred, and cage 2 becomes the active one when that is down. -/
def execCageUp (cage : CageIx) (s : State) : Res :=
  let c := cage.val
  let d := cageNet c
  let s1 := (s.updCage c fun x => { x with up := true }).endCondition (nCage c) 0x0603
  if fld (s.ncfg d) 55 54 = 1 ∧ (c % 2 = 0 ∨ !(s.cageOf (2 * d.ix + (s.netOf d).active)).up) then done (s1.useCage d (c % 2))
  else done s1

/-- Device time is set (R398): valid, with its source, and with it the label of the running frame's capture; becoming valid posts
0x0906 and rewrites the stamps (R396). -/
def State.setTime (s : State) (tai src : Nat) : State :=
  let s1 := { s with time := { s.time with tai := tai, capTai := tai - 1000 * s.clock.tick, valid := true, tsrc := BitVec.ofNat 4 src } }
  if s.time.valid then s1 else s1.rewriteStamps.post 0x0906 nDevice 0 0

/-- A network's PTP unlocks (R329, R398): holdover, unless the other network is locked. -/
def State.ptpUnlock (s : State) (d : Side) : State :=
  if (s.netOf d).locked then
    let s1 := (s.updNet d fun n => { n with locked := false, good := 0, bad := 0 }).post 0x0607 (nNet d) 0 0
    let src : BitVec 4 := if (s.netOf d.other).locked then BitVec.ofNat 4 (2 + d.other.ix) else 5
    { s1 with time := { s1.time with tsrc := if s1.time.valid then src else s1.time.tsrc } }
  else s

/-- A network discards a frame that it does not accept, and counts it (R302). -/
def State.netDiscard (s : State) (d : Side) : State := s.updNet d fun n => { n with discard := n.discard + 1 }

/-- PTP_SYNC (R328, R329, R398): offset runs, lock state, device time at a lock, disagreement of the networks. -/
def execPtpSync (net : Side) (offsetNs : Int) (taiNs : Nat) (s : State) : Res :=
  if fld (s.ncfg net) 51 50 = 0 then done (s.netDiscard net)
  else
    let n := s.netOf net
    let good := if offsetNs.natAbs ≤ 100 then n.good + 1 else 0
    let bad := if 1000 < offsetNs.natAbs then n.bad + 1 else 0
    let o := s.netOf net.other
    let gap := (offsetNs + o.offset.neg).natAbs
    let apart := n.locked && o.locked && 1000 < gap
    let diff := if net = .B then (if apart then n.diff + 1 else 0) else n.diff
    let s1 := s.updNet net fun n => { n with offset := offsetNs, time := taiNs, good := good, bad := bad, diff := diff }
    let s2 := if net = .B ∧ diff = 8 then s1.post 0x0608 nDevice 1 (Nat.min gap (2 ^ 28 - 1)) else s1
    if !n.locked ∧ 8 ≤ good then
      done (((s2.updNet net fun n => { n with locked := true }).post 0x0607 (nNet net) 0 1).setTime taiNs (2 + net.ix))
    else if n.locked ∧ 3 ≤ bad then done (s2.ptpUnlock net)
    else done s2

/-- PTP_ANNOUNCE_TIMEOUT (R329): unlocked; the device may become master (R328). -/
def execPtpAnnounceTimeout (net : Side) (s : State) : Res :=
  if fld (s.ncfg net) 51 50 = 0 then done s
  else done ((s.ptpUnlock net).updNet net fun n => { n with master := !(bit (s.ncfg net) 49) })

/-- PTP_ANNOUNCE (R328): the best master clock algorithm's verdict on a received Announce. -/
def execPtpAnnounce (net : Side) (better : Bool) (gm : BitVec 64) (s : State) : Res :=
  if fld (s.ncfg net) 51 50 = 0 then done (s.netDiscard net)
  else done (s.updNet net fun n =>
    if better ∨ bit (s.ncfg net) 49 then { n with master := false, gm := gm } else { n with master := true })

/-- PTP_DELAY_RESPONSE (R328). -/
def execPtpDelayResponse (net : Side) (pathDelayNs : Int) (s : State) : Res :=
  if fld (s.ncfg net) 51 50 = 0 then done (s.netDiscard net) else done (s.updNet net fun n => { n with delay := pathDelayNs })

/-- PTP_MESSAGE_INTERVAL (R328): the PTP port sends its message. -/
def execPtpMessageInterval (net : Side) (s : State) : Res :=
  if fld (s.ncfg net) 51 50 = 0 then done s else done (s.updNet net fun n => { n with sentMsgs := n.sentMsgs + 1 })

end Sys2Proof.Machine
end

