-- ==== Sys2Proof/Machine/Verdicts.lean ====
section
/-! DEFINITION. Device-level supervision, tick alignment, the side link, and the verdicts of self-tests (spec/14 R364–R378,
spec/02 R31–R33, spec/01 R19–R21). -/

namespace Sys2Proof.Machine

/-- A device-level block fails (R370): HOLDING, and its test. -/
def State.deviceFail (s : State) (n : Node) (cls : Nat) : State := (s.enterHolding n).startTest n cls

/-- A supervisor fault (R163, R370): the lattice signal of its side, HOLDING, the block's test. -/
def State.supvFault (s : State) (d : Side) (n : Node) : State :=
  (s.updHalf d fun h => { h with supv := true }).deviceFail n 0

/-- The limit of a start-up state in µs (R403). -/
def startLimit : DevState → Option Nat
  | .proving => some 1500000
  | .boot => some 1200000
  | .loading => some 1300000
  | _ => none

/-- START_SUPERVISOR_TIMEOUT (R403, R404): a supervisor fault of the side that has not left its start-up state within twice the
state's limit. -/
def execStartSupervisorTimeout (sd : Side) (s : State) : Res :=
  match startLimit s.dev.st with
  | some n => settled (if s.dev.enteredAt + 2 * n ≤ s.clock.count then s.supvFault sd (nSupv sd) else s)
  | none => settled s

/-- The block that a supervisor's report implicates (R370). -/
def supvNode (d : Side) : SupvKind → Node
  | .clock => nClock d
  | .reset => nClock d
  | _ => nSupv d

/-- SUPERVISOR_FAULT (R370, R371). -/
def execSupervisorFault (sd : Side) (k : SupvKind) (s : State) : Res := settled (s.supvFault sd (supvNode sd k))

/-- SUPERVISOR_SELF_CHECK (R370): a failure is a supervisor fault. -/
def execSupervisorSelfCheck (sd : Side) (pass : Bool) (s : State) : Res :=
  settled (if pass then s else s.supvFault sd (nSupv sd))

/-- THERMAL_LIMIT (R465): a supervisor fault. -/
def execThermalLimit (sd : Side) (s : State) : Res := settled (s.supvFault sd (nSupv sd))

/-- CRYPTO_KNOWN_ANSWER_TEST (R370): on a failure the side stops sending and verifying telegrams and its engine is tested. -/
def execCryptoKnownAnswerTest (sd : Side) (pass : Bool) (s : State) : Res :=
  settled (if pass then s else (s.updNet sd fun n => { n with muted := true }).startTest (nCrypto sd) 0)

/-- The length of the next tick for an edge that lies v ns late of where it should be (R31). -/
def tickFor (v : Int) : Nat := if 0 < v then 1999 else if v < 0 then 2001 else 2000

/-- How late the tick edge of the steering side lies after the nearest whole microsecond of PTP time, in 0.5 ns (R33): PTP time
is device time less the offset that the last Sync measured (R329); above half a microsecond the next one is nearer. -/
def State.edgeLate (s : State) (sd : Side) : Int :=
  let r := (2 * (s.time.tai : Int) + b2n s.time.half - 2 * (s.netOf sd).offset) % 2000
  if 1000 < r then r - 2000 else r

/-- An alignment word arrives (R31–R33, R40): skew, the next tick's length, ALIGN_WARN and its event, the run above 40 ns. A
positive skew says that the side's own edge came later than the other's. The steering side moves its edges toward whole
microseconds of PTP time. -/
def State.alignArrive (s : State) (sd : Side) (skewNs : Int) : State :=
  let n := skewNs.natAbs
  let next := if s.steering = some sd then tickFor (s.edgeLate sd) else tickFor skewNs
  let s1 := s.updFst sd fun f => { f with
    skew := BitVec.ofNat 8 (Nat.min n 255), nextTick := next, lastAlign := s.clock.count,
    alignWarn := f.alignWarn || decide (20 < n), over40 := if 40 < n then f.over40 + 1 else 0 }
  (if 20 < n then s1.post 0x0905 (nClock sd) 1 (Nat.min n (2 ^ 28 - 1)) else s1).settle

/-- A side has measured a skew above 40 ns in 100 consecutive ticks (R32). -/
def State.skewed (s : State) : Bool := 100 ≤ (s.fstOf .A).over40 || 100 ≤ (s.fstOf .B).over40

/-- SKEW_FAULT (R32, R370): after 100 consecutive ticks above 40 ns, HOLDING, and the test of both side clocks (log entry 29). -/
def execSkewFault (s : State) : Res :=
  if s.skewed then settled ((s.deviceFail (nClock .A) 0).deviceFail (nClock .B) 0) else settled s

/-- A side has had no alignment word for 8 consecutive ticks (R32). -/
def State.unaligned (s : State) : Bool :=
  decide ((s.fstOf .A).lastAlign + 8 ≤ s.clock.count) || decide ((s.fstOf .B).lastAlign + 8 ≤ s.clock.count)

/-- ALIGNMENT_LOSS (R32, R370): a side link failure. -/
def execAlignmentLoss (s : State) : Res := settled (if s.unaligned then s.deviceFail nLink 0 else s)

/-- HOLDING_NOTICE (R371): the side enters HOLDING on the other side's notice, for the other side. -/
def execHoldingNotice (sd : Side) (s : State) : Res :=
  settled (if s.dev.st = .holding then s else s.enterHolding ⟨0x01, sd.other.ix⟩)

/-- Retired lanes of the side link. -/
def State.lanesRetired (s : State) : List Nat := (List.range 4).filter fun l => s.isRetired (nLane l) tcLane

/-- A lane's test starts (R368): out of service while the other three carry the link, in place once a lane is retired; at
most one lane is out, and an error on another lane is counted until it returns. -/
def State.testLane (s : State) (l : Nat) : State :=
  if s.tests.lanesOut ≠ 0 ∧ !(bit s.tests.lanesOut l) then
    { s with tests := { s.tests with lanesBad := setBit s.tests.lanesBad l true } }
  else
    let s1 := s.startTest (nLane l) tcLane
    if s.lanesRetired = [] then { s1 with tests := { s1.tests with lanesOut := setBit s1.tests.lanesOut l true } } else s1

/-- SIDE_LINK_CRC_ERROR (R19, R365, R368): the transfer is resent within its tick; the lane is tested. -/
def execSideLinkCrcError (lane : Fin 4) (s : State) : Res :=
  settled (if s.isRetired (nLane lane.val) tcLane then s else s.testLane lane.val)

/-- The next lane with counted errors is tested once a lane has returned (R368). -/
def State.nextLane (s : State) : State :=
  match (List.range 4).find? fun l => bit s.tests.lanesBad l with
  | none => s
  | some l => ({ s with tests := { s.tests with lanesBad := setBit s.tests.lanesBad l false } }).testLane l

/-- The verdict on a lane (R21, R368): it returns or is retired; a second retired lane is a failed side link at once. -/
def State.laneVerdict (s : State) (l : Nat) (pass : Bool) : State :=
  let e := s.testEnd (nLane l) tcLane pass
  let s1 := s.endTest (nLane l) tcLane pass
  let free (x : State) : State := ({ x with tests := { x.tests with lanesOut := setBit x.tests.lanesOut l false } }).nextLane
  match e with
  | .transient => free s1
  | .lasting =>
    let s2 := free s1
    if 2 ≤ s1.lanesRetired.length ∧ !s1.isRetired nLink 0 then (s2.retireBlock nLink 0).enterHolding nLink else s2
  | _ => s1

/-- LANE_TEST_VERDICT (R368). -/
def execLaneTestVerdict (lane : Fin 4) (pass : Bool) (s : State) : Res := settled (s.laneVerdict lane.val pass)

/-- The copy of a bank has taken its 262.1 µs (R366). -/
def State.copyOver (s : State) (d : Side) (b : Nat) : Bool :=
  match s.tests.find (nBank d b) tcBank with
  | some q => decide (q.started + 262 ≤ s.clock.count)
  | none => false

/-- BANK_COPY_DONE (R366): the copy is complete and the map redirects at the next commit; words with an uncorrectable error
have been copied as poisoned. -/
def execBankCopyDone (sd : Side) (bank : BankIx) (s : State) : Res :=
  let b := bank.val
  if !(s.bankAt sd b).copying ∨ !s.copyOver sd b then done s
  else
    let s1 := s.updBank sd b fun x => { x with copying := false, redirect := true }
    let hit := (s.tests.ecc.get sd).filter fun pa => bankOf pa = b
    done { s1 with tests := { s1.tests with
      ecc := s1.tests.ecc.set ((s.tests.ecc.get sd).filter fun pa => bankOf pa ≠ b) sd
      poison := s1.tests.poison.set (s.tests.poison.get sd ++ hit) sd } }

/-- The verdict on a bank that March C− runs on (R366): the tested bank becomes the free bank, or is retired with the slots that lie in it. -/
def State.bankVerdict (s : State) (d : Side) (b : Nat) (pass : Bool) : State :=
  let k := s.bankAt d b
  if !k.testing then s else
  let e := s.testEnd (nBank d b) tcBank pass
  let s1 := s.endTest (nBank d b) tcBank pass
  let clear (x : State) : State := x.updBank d b fun _ => {}
  match e with
  | .transient =>
    let s2 := clear (s1.forEach k.slots fun x p => x.updSlot p fun y => { y with bankWait := false })
    if k.redirect then { s2 with tests := { s2.tests with freeBank := s2.tests.freeBank.set (some b) d } } else s2
  | .lasting =>
    let s2 := clear (s1.forEach (k.slots.filter fun p => (s1.slotOf p).st = .testing && (s1.slotOf p).bankWait) fun x p => x.retireSlot p 9)
    if s2.tests.freeBank.get d = some b then { s2 with tests := { s2.tests with freeBank := s2.tests.freeBank.set none d } } else s2
  | _ => s1

/-- BANK_TEST_VERDICT (R366): the March C− run of a bank that is out of the map, or is tested in place, ends. -/
def execBankTestVerdict (sd : Side) (bank : BankIx) (pass : Bool) (s : State) : Res :=
  settled (s.bankVerdict sd bank.val pass)

/-- A link's lasting verdict (R23, R365, R370): its field chip is lost, the barrier master's loopback runs, and the
third link of a side within 24 h brings HOLDING. The loopback is a check, and its failure is the error that is tested. -/
def State.linkRetired (s : State) (i : Nat) : State :=
  let d := Side.ofIx i
  let day := (s.tests.links.get d).filter fun t => s.clock.count < t + 86400000000
  let l := s.clock.count :: day
  let s1 := { s.chipLost i with tests := { (s.chipLost i).tests with links := s.tests.links.set l d } }
  if 3 ≤ l.length then s1.deviceFail (nMaster d) 0 else s1

/-- The verdict on a barrier link (R365, R367). -/
def State.barrierVerdict (s : State) (i : Nat) (pass : Bool) : State :=
  let e := s.testEnd (nBarrier i) tcBarrier pass
  let s1 := (s.endTest (nBarrier i) tcBarrier pass).updView i fun v => { v with echoRun := 0, echoBad := 0 }
  match e with
  | .lasting => s1.linkRetired i
  | _ => s1

/-- The barrier test of a link ends once 64 echoes have run (R367): 4 or more bad ones are lasting. -/
def State.echoVerdict (s : State) (i : Nat) : State :=
  if (s.viewOf i).echoRun < 64 then s else s.barrierVerdict i (decide ((s.viewOf i).echoBad < 4))

/-- BARRIER_TEST_VERDICT (R367): of the link of a wagon's field chip of a side. -/
def execBarrierTestVerdict (w : WagonIx) (sd : Side) (s : State) : Res := settled (s.echoVerdict (2 * w.val + sd.ix))

/-- The verdict on a front-end (R365, R473): cause 0x0A and its hold end, or stay for good. A failed injection that no
test asked for is the fault itself. -/
def State.frontVerdict (s : State) (t : Nat) (pass : Bool) : State :=
  let e := s.testEnd (nFront t) tcFront pass
  let s1 := (s.endTest (nFront t) tcFront pass).updChip (tChip t) fun x => { x with injTest := setBit x.injTest (tLocal t) false }
  match e with
  | .transient => s1.lowerCause t 0x0A
  | .lasting => s1.raiseCause t 0x0A
  | .further => s1
  | .noTest => if pass then s1 else s1.raiseFront t 0x0A

/-- FRONT_END_TEST_VERDICT (R365). -/
def execFrontEndTestVerdict (t : TermIx) (pass : Bool) (s : State) : Res := settled (s.frontVerdict t.val pass)

/-- The verdict on the 16 converters of a field chip together (R365, cause 0x81). -/
def State.chipConvVerdict (s : State) (i : Nat) (pass : Bool) : State :=
  let e := s.testEnd (nChip i) tcConv pass
  let s1 := s.endTest (nChip i) tcConv pass
  match e with
  | .transient => (s1.updLanes i fun l => { l with fsafeAll := false }).updChip i fun x => { x with refTest := 0 }
  | .lasting => s1.chipLost i
  | _ => s1

/-- The verdict on a converter (R365, R473). -/
def State.convVerdict (s : State) (t : Nat) (pass : Bool) : State :=
  let e := s.testEnd (nFront t) tcConv pass
  let s1 := (s.endTest (nFront t) tcConv pass).updChip (tChip t) fun x => { x with refTest := 0 }
  match e with
  | .transient => s1.lowerCause t 0x0A
  | .lasting => s1.raiseCause t 0x0A
  | .further => s1
  | .noTest => if pass then s1 else (s1.raiseCause t 0x0A).startTest (nFront t) tcConv

/-- CONVERTER_TEST_VERDICT (R365): of the chip's converters together while cause 0x81 is under test. -/
def execConverterTestVerdict (t : TermIx) (pass : Bool) (s : State) : Res :=
  settled (if (s.tests.find (nChip (tChip t.val)) tcConv).isSome then s.chipConvVerdict (tChip t.val) pass
    else s.convVerdict t.val pass)

/-- The node and test class of a scanned unit (R362, R376). -/
def scanNode : ScanUnit → Node × Nat
  | .engine d n => (⟨0x10, 8 * d.ix + n.val⟩, tcEngine)
  | .timer d n => (⟨0x11, 64 * d.ix + n.val⟩, tcTimer)

/-- The functions that use a unit (R26): those bound to the monitor of the engine's port, or to the timer unit. -/
def State.unitFns (s : State) (n : Node) : List Nat :=
  if n.cls = 0x10 then (if s.msrc (n.idx % 8) = 1 then s.bound (n.idx % 8) else []) else Config.timerFns n.idx

/-- The verdict on a unit (R26, R365): it returns, or is retired with its functions in FAULT; the cause is not given for a
timer unit (log entry 5). -/
def State.unitVerdict (s : State) (n : Node) (cls : Nat) (pass : Bool) : State :=
  let e := s.testEnd n cls pass
  let s1 := s.endTest n cls pass
  match e with
  | .transient => s1.unitTesting n false
  | .lasting =>
    if n.cls = 0x10 then s1.raiseFns (s.unitFns n) 0x10 0x10 0x1FF
    else (s1.raiseFns (s.unitFns n) (0x10 + s1.drawNat 9) 0 0x1FF).drawn
  | _ => s1

/-- UNIT_SCAN_VERDICT (R365). -/
def execUnitScanVerdict (u : ScanUnit) (pass : Bool) (s : State) : Res :=
  settled (s.unitVerdict (scanNode u).1 (scanNode u).2 pass)

/-- UNIT_PARITY_ERROR (R365). -/
def execUnitParityError (u : ScanUnit) (s : State) : Res :=
  settled ((s.startTest (scanNode u).1 (scanNode u).2).unitTesting (scanNode u).1 true)

/-- The node and test class of a block without a spare (R362, R370). -/
def devNode (d : Side) : DevBlock → Node × Nat
  | .sideClock => (nClock d, 0)
  | .supervisor => (nSupv d, 0)
  | .plane p => (nPlane d p.val, tcPlane)
  | .barrierMaster => (nMaster d, 0)
  | .sideLink => (nLink, 0)
  | .crypto => (nCrypto d, 0)

/-- What a transient verdict lifts at a block without a spare: the supervisor's signal, the plane's test, the telegrams of
the crypto engine's side (R370). -/
def State.blockBack (s : State) (d : Side) (n : Node) : State :=
  if n.cls = 0x16 then s.updHalf d fun h => { h with supv := false }
  else if n.cls = 0x12 then s.updHalf d fun h => { h with
    planeTest := setBit h.planeTest (n.idx % 2) false, planeBad := setBit h.planeBad (n.idx % 2) false, badGroups := 0 }
  else if n.cls = 0x19 then s.updHalf d fun h => { h with supv := false }
  else if n.cls = 0x17 then s.updNet d fun k => { k with muted := false }
  else s

/-- The verdict on a block without a spare (R370, R371): a transient takes it off those that hold the device in HOLDING, a
lasting one keeps the device there. -/
def State.deviceVerdict (s : State) (d : Side) (n : Node) (cls : Nat) (pass : Bool) : State :=
  let e := s.testEnd n cls pass
  let s1 := s.endTest n cls pass
  match e with
  | .transient => ((s1.blockBack d n).holderDone n).holderDone ⟨0x01, d.ix⟩
  | .lasting =>
    (if n.cls = 0x12 then s1.updHalf d fun h => { h with planeBad := setBit h.planeBad (n.idx % 2) true } else s1).enterHolding n
  | .noTest => if n.cls = 0x1A && !pass then s1.deviceFail n 0 else s1
  | .further => s1

/-- DEVICE_BLOCK_TEST_VERDICT (R370). -/
def execDeviceBlockTestVerdict (sd : Side) (b : DevBlock) (pass : Bool) (s : State) : Res :=
  settled (s.deviceVerdict sd (devNode sd b).1 (devNode sd b).2 pass)

/-- The verdict of a requested coach test (R376): a powered reserve is power-gated again or retired; a slot's coach lets the slot
rejoin as in R204, or is retired and replaced. -/
def State.coachVerdict (s : State) (i : Nat) (pass : Bool) : State :=
  let d : Side := if i < 64 then .A else .B
  if (s.slotOfCoach d (i % 64)).isNone ∧ !(s.cstOf i).powered then s else
  let s1 := (s.endTest (nCoach i) tcCoach pass).clearScratch i
  match s.slotOfCoach d (i % 64) with
  | none => if pass then s1.updCst i fun c => { c with powered := false, powering := false } else s1.dropCoach i
  | some p =>
    if pass then s1.updSlot p fun x =>
      if x.st = .testing && x.joining then { x with rebuilt := true, rebuiltAt := s.clock.count } else x
    else (s1.dropCoach i).needReserve d p

/-- The verdict of a test by the node and class of its block. -/
def State.verdictOf (s : State) (n : Node) (cls : Nat) (pass : Bool) : State :=
  let d : Side := if n.sides = [.B] then .B else .A
  if cls = tcCoach then s.coachVerdict n.idx pass
  else if cls = tcBank then s.bankVerdict d (n.idx % 16) pass
  else if cls = tcFront then s.frontVerdict n.idx pass
  else if cls = tcConv then s.convVerdict n.idx pass
  else if cls = tcHalf then s.halfDone n.idx pass
  else if cls = tcPlane then s.deviceVerdict d n cls pass
  else if cls = tcEngine ∨ cls = tcTimer then s.unitVerdict n cls pass
  else if cls = tcLane then s.laneVerdict n.idx pass
  else if cls = tcBarrier then s.echoVerdict n.idx
  else if cls = tcOtp then (s.otpMargin (Side.ofIx n.idx)).endTest n cls pass
  else s.endTest n cls pass

/-- SELF_TEST_FINAL (R378): the requested test that runs ends with PASS, FAIL or ABORTED. -/
def execSelfTestFinal (verdict : Fin 3) (s : State) : Res :=
  match s.tests.running.find? fun q => q.requested with
  | none => settled s
  | some q =>
    if verdict.val = 2 then settled (s.abortTest q)
    else settled (s.verdictOf q.node q.cls (decide (verdict.val = 0)))

end Sys2Proof.Machine
end

