-- ==== Sys2Proof/Machine/SideLink.lean ====
section
/-! DEFINITION. The traffic classes of the side link (R19): the input-image exchange has the link during ticks 0–2 of every
frame, and the transfers of the lower classes wait for it in the order of their priority. -/

namespace Sys2Proof.Machine

/-- The priority of a command that is a transfer on the side link (R19, R366): 2 coupling signatures and the notices on their
class, 3 tick alignment, 4 hand-over traffic with the checkpoints, 5 debugger replay; none for any other command. -/
def linkClass : Instr → Option Nat
  | .couplingSignature _ _ _ => some 2
  | .bankNotice _ _ => some 2
  | .derailNotice _ _ => some 2
  | .tickAlignment _ _ => some 3
  | .handoverCopy _ => some 4
  | .rebuildCompare _ _ _ => some 4
  | .debugReplay _ => some 5
  | _ => none

/-- Insert a transfer behind those of its class and of the higher ones (R19). -/
def linkInsert (c : Instr) : List Instr → List Instr
  | [] => [c]
  | d :: r => if (linkClass d).getD 0 ≤ (linkClass c).getD 0 then d :: linkInsert c r else c :: d :: r

/-- The image exchange has the side link (R19): ticks 0–2. -/
def State.linkTaken (s : State) : Bool := decide (s.clock.tick < 3)

/-- A transfer arrives. -/
def State.linkRun (s : State) (c : Instr) : State :=
  match c with
  | .couplingSignature sd p lag => s.couplingArrive sd p.val lag
  | .bankNotice sd p => s.bankNoticeArrive sd p.val
  | .derailNotice sd p => s.derailArrive sd p.val
  | .tickAlignment sd skew => s.alignArrive sd skew
  | .handoverCopy p => s.handoverCopyArrive p.val
  | .rebuildCompare p a b => s.rebuildArrive p.val a b
  | .debugReplay p => s.replayArrive p.val
  | _ => s

/-- The transfers that have waited arrive, those of a higher class first (R19). -/
def State.linkDrain (s : State) : State := s.linkWait.foldl State.linkRun { s with linkWait := [] }

/-- A transfer waits while the image exchange has the link, and else arrives behind those that have waited (R19). -/
def State.linkSend (s : State) (c : Instr) : State :=
  if s.linkTaken then { s with linkWait := linkInsert c s.linkWait } else s.linkDrain.linkRun c

/-- COUPLING_SIGNATURE (R188, R182, R19). -/
def execCouplingSignature (sd : Side) (p : SlotIx) (lag : Int) (s : State) : Res :=
  done (s.linkSend (.couplingSignature sd p lag))

/-- BANK_NOTICE (R366, R19). -/
def execBankNotice (sd : Side) (p : SlotIx) (s : State) : Res := done (s.linkSend (.bankNotice sd p))

/-- DERAIL_NOTICE (R188, R19). -/
def execDerailNotice (sd : Side) (p : SlotIx) (s : State) : Res := done (s.linkSend (.derailNotice sd p))

/-- TICK_ALIGNMENT (R31–R33, R40, R19). -/
def execTickAlignment (sd : Side) (skewNs : Int) (s : State) : Res := done (s.linkSend (.tickAlignment sd skewNs))

/-- HANDOVER_COPY (R199, R19). -/
def execHandoverCopy (p : SlotIx) (s : State) : Res := done (s.linkSend (.handoverCopy p))

/-- REBUILD_COMPARE (R194, R19): with each side's result as it arrives at the other. -/
def execRebuildCompare (p : SlotIx) (foldA foldB : Word) (s : State) : Res := done (s.linkSend (.rebuildCompare p foldA foldB))

/-- DEBUG_REPLAY (R205, R19). -/
def execDebugReplay (p : SlotIx) (s : State) : Res := done (s.linkSend (.debugReplay p))

end Sys2Proof.Machine
end

