-- ==== Sys2Proof/Machine/Functions.lean ====
section
/-! DEFINITION. Safety functions (spec/10: R243–R265, R271, R477, R482, R483): what each evaluates at a capture into its
working buffer, and the inspection ledger's pages (R266–R270). -/

namespace Sys2Proof.Machine

/-- A terminal's qualified state in the image. -/
def State.imgOn (s : State) (t : Nat) : Bool := (s.termOf t).img.qual
/-- A terminal is at demand in the image (R61). -/
def State.imgDem (s : State) (t : Nat) : Bool := s.imgOn t = s.demVal t
/-- Both terminals of a channel read on, or off (R255, R264, R482). -/
def State.chOn (s : State) (c : Nat) : Bool := s.imgOn (2 * c) && s.imgOn (2 * c + 1)
def State.chOff (s : State) (c : Nat) : Bool := !s.imgOn (2 * c) && !s.imgOn (2 * c + 1)
/-- A channel is at demand (R472). -/
def State.chDem (s : State) (c : Nat) : Bool := s.imgDem (2 * c) || s.imgDem (2 * c + 1)
/-- The terminals of a list of channels. -/
def chTerms (l : List Nat) : List Nat := (l.map fun c => [2 * c, 2 * c + 1]).flatten

/-- The templates whose switches are demands (R260). -/
def isSwitch (tid : Nat) : Bool := [0x01, 0x02, 0x03, 0x10, 0x11, 0x14].contains tid
/-- The permissive templates (R259). -/
def isPermissive (tid : Nat) : Bool := [0x20, 0x21, 0x30, 0x40, 0x41].contains tid
/-- A present terminal fault (R55, R102, R251): FSAFE = 1 in the image for more than a chatter force. Its code is 0 while the
terminal has no cause yet (R66, R102). -/
def State.termFault (s : State) (t : Nat) : Option FnCause :=
  let x := s.termOf t
  if x.img.fsafe && !x.img.chat then some (0x10, BitVec.ofNat 8 (firstCause (x.img.causes &&& presentCauses)), t) else none

/-- A chatter force or discrepancy at a terminal, which is a present cause of a RESET or MODESEL instance (R255, R257). -/
def State.modeFault (s : State) (t : Nat) : Option FnCause :=
  let cs := (s.termOf t).img.causes
  if cs.getLsbD 1 then some (0x10, 1, t) else if cs.getLsbD 8 then some (0x10, 8, t) else none

/-- The present fault causes of a function (R251). -/
def State.presentFaults (s : State) (f : Nat) : List FnCause :=
  let ts := s.fnTerms f
  ts.filterMap s.termFault ++
  (if isMode (s.tid f) then ts.filterMap s.modeFault else []) ++
  ((s.monsOf f).filter fun m => (s.monOf m).mflt ≠ 0).map
    (fun m => ((0x10 : Byte), (0x10 : Byte), if s.msrc m = 1 then (0x1FF : Nat) else s.msrcTerm m .A)) ++
  (if (s.slotOf (s.fSlot f)).st ≠ .locked then [((0x11 : Byte), BitVec.ofNat 8 (s.slotOf (s.fSlot f)).cause, (0x1FF : Nat))] else []) ++
  ((s.fnWagons f).filter fun w => (s.viewOf (2 * w)).lostImg || (s.viewOf (2 * w + 1)).lostImg).map
    (fun w => ((0x12 : Byte), BitVec.ofNat 8 w, (0x1FF : Nat))) ++
  (if (s.fnConns f).any (fun c => !(s.connOf c).st.up) then [((0x16 : Byte), (0 : Byte), (0x1FF : Nat))] else []) ++
  (if s.dev.st = .holding then [((0x18 : Byte), (0 : Byte), (0x1FF : Nat))] else [])

/-- The demands that reach a group from outside its inputs (R245, R246, R477): stop doorbell, network stop, stop lines. -/
def State.groupDemands (s : State) (f : Nat) : List FnCause :=
  let w := s.gmap (s.fGroup f)
  let d := fld w 71 67
  let g := fld w 65 60
  let sl (i : Nat) : Bool := bit s.half.a.slImg i || bit s.half.b.slImg i
  (if bit s.half.a.doorImg d || bit s.half.b.doorImg d then [((0x02 : Byte), BitVec.ofNat 8 d, (0x1FF : Nat))] else []) ++
  (if bit w 66 && (bit s.half.a.nstopImg g || bit s.half.b.nstopImg g) then [((0x03 : Byte), BitVec.ofNat 8 g, (0x1FF : Nat))] else []) ++
  (if bit w 59 && sl 0 then [((0x04 : Byte), (1 : Byte), (0x1FF : Nat))] else []) ++
  (if bit w 58 && sl 1 then [((0x04 : Byte), (2 : Byte), (0x1FF : Nat))] else [])

/-- A reversal sentinel of a monitor's ports or units has tripped (R143, R145). -/
def State.monRev (s : State) (m : Nat) : Bool :=
  if s.msrc m = 1 then (s.encOf (mport m .A)).revTrip || (s.encOf (mport m .B)).revTrip
  else (s.termOf (s.msrcTerm m .A)).ctr.revTrip || (s.termOf (s.msrcTerm m .B)).ctr.revTrip
/-- An overspeed sentinel of a monitor's ports or units has tripped (R144). -/
def State.monOvs (s : State) (m : Nat) : Bool :=
  if s.msrc m = 1 then (s.encOf (mport m .A)).ovsTrip || (s.encOf (mport m .B)).ovsTrip
  else (s.termOf (s.msrcTerm m .A)).ctr.ovsTrip || (s.termOf (s.msrcTerm m .B)).ctr.ovsTrip

/-- The sentinels that an instance reads (R251, R262, R263, R277, R292): the reversal sentinels of its ES_REV monitor and of a
monitor that it is bound to, outside RAMP, and the overspeed sentinels of its ES_OVSPD monitor (log entry 30). -/
def State.sentinels (s : State) (f : Nat) : List FnCause :=
  let m := s.fpar f 0
  let det (k a b : Nat) : List FnCause := [((0x05 : Byte), if s.msrc k = 1 then BitVec.ofNat 8 b else BitVec.ofNat 8 a, (0x1FF : Nat))]
  let rev := ((s.monsOf f) ++ (if s.tid f = 0x17 then [m] else [])).find? fun k =>
    s.msrc k ≠ 0 && s.monRev k && (s.monOf k).sstate ≠ 2
  match rev with
  | some k => det k 1 3
  | none => if s.tid f = 0x16 ∧ s.msrc m ≠ 0 ∧ s.monOvs m then det m 2 4 else []

/-- A door source (R264): connection × 512 + payload bit, or 2^24 + DI channel; on says its bit is set, or its channel at
demand. -/
def State.srcSet (s : State) (v : Nat) : Bool :=
  if 2 ^ 24 ≤ v then s.chDem (v - 2 ^ 24) else (s.connOf (v / 512)).st.up && bit (s.connOf (v / 512)).data (v % 512)
/-- A door is closed and locked (R264). -/
def State.srcClosed (s : State) (v : Nat) : Bool :=
  if 2 ^ 24 ≤ v then !s.chDem (v - 2 ^ 24) else (s.connOf (v / 512)).st.up && bit (s.connOf (v / 512)).data (v % 512)

/-- The used entries of a parameter list: n words from FPARlo (R244). -/
def State.entries (s : State) (f lo n : Nat) : List Nat :=
  ((List.range n).map fun i => s.fpar f (lo + i)).filter fun v => v ≠ fparNone

/-- An operand of BOOL or TIMER (R483): an instance as it stood at the commit that started the frame, or a channel. -/
def State.operand (s : State) (v : Nat) : Bool :=
  if 2 ^ 24 ≤ v then !s.chDem (v - 2 ^ 24)
  else (s.fnOf v).st = .run && (!isPermissive (s.tid v) || (s.fnOf v).cond)

/-- A voltage sample of a DI terminal in mV, none when it is invalid or stale (R113, R115). -/
def State.sampleMv (s : State) (t : Nat) : Option Nat :=
  let a := (s.termOf t).ana
  if a.sample = 0x20000 ∨ a.stale then none else some (a.sample.toNat / 4)

/-- A door-chain point is at or above v mV at both terminals (R264). -/
def State.pointAbove (s : State) (c v : Nat) : Bool :=
  [2 * c, 2 * c + 1].all fun t => match s.sampleMv t with | none => false | some x => decide (v ≤ x)

/-- The open contact of a door chain (R264): the terminal, plus 1, that reads below CL_V at the first such point; 0 for none. -/
def State.openContact (s : State) (f : Nat) : Nat :=
  let low (t : Nat) : Bool := match s.sampleMv t with | none => true | some x => decide (x < 1000 * s.fpar f 17)
  match (chTerms (s.entries f 1 (Nat.min (s.fpar f 0) 16))).find? low with
  | some t => t + 1
  | none => 0

/-- A TIMER's output and variables at a capture (R265, R483): 0 output, 1 tick count of the operand's last change, 2 the
operand + 1, 4 the delay has run out. -/
def State.timerStep (s : State) (f : Nat) : Bool × List (Nat × Nat) :=
  let x := (s.fnOf f).vars
  let op := s.operand (s.fpar f 0)
  let off : Bool := s.fpar f 1 = 1
  let last := Tab.get 0 x 2
  if last = 0 then (off && op, [(0, b2n (off && op)), (1, s.edgeCount), (2, 1 + b2n op)])
  else
    let changed := last ≠ 1 + b2n op
    let since := if changed then s.edgeCount else Tab.get 0 x 1
    let done_ : Bool := decide (since + s.fpar f 2 * 1000 ≤ s.edgeCount) || (!changed && Tab.get 0 x 4 = 1)
    let out := if off then op || (decide (Tab.get 0 x 0 = 1) && !done_) else op && done_
    (out, [(0, b2n out), (1, since), (2, 1 + b2n op), (4, 0)])

/-- The permissive condition of a function at a capture (R259, R264, R265), and MODESEL's selection (R261). -/
def State.condOf (s : State) (f : Nat) : Bool :=
  match s.tid f with
  | 0x06 => s.imgOn (2 * s.fpar f 0) && !s.imgOn (2 * s.fpar f 0 + 1)
  | 0x20 => (s.entries f 1 (Nat.min (s.fpar f 0) 16)).all fun c => s.pointAbove c (1000 * s.fpar f 17)
  | 0x21 => s.chOn (s.fpar f 0)
  | 0x30 => (s.entries f 1 (Nat.min (s.fpar f 0) 24)).all s.srcClosed
  | 0x40 =>
    let l := (s.entries f 2 (Nat.min (s.fpar f 1) 8)).map s.operand
    if s.fpar f 0 = 0 then l.all id else l.any id
  | 0x41 => (s.timerStep f).1
  | _ => false

/-- The travel of a monitor from a position kept as a code (R262, R264). -/
def State.travel (s : State) (m ref : Nat) : Nat := (sdiff 64 ((s.monOf m).pos - ref)).natAbs
/-- A position as a code. -/
def State.posCode (s : State) (m : Nat) : Nat := encInt 64 (s.monOf m).pos

/-- ES_MSTEP (R262): per sensor 2k the position of its last step edge + 1, and 2k + 1 its last reading; a step edge is a
change of the sensor to on. -/
def State.stepSensor (s : State) (f k : Nat) : Bool × List (Nat × Nat) :=
  let x := (s.fnOf f).vars
  let m := s.fpar f 0
  let on := s.chOn (s.fpar f (1 + k))
  let edge : Bool := (on && decide (Tab.get 0 x (2 * k + 1) = 0)) || decide (Tab.get 0 x (2 * k) = 0)
  let ref := if edge then s.posCode m + 1 else Tab.get 0 x (2 * k)
  (decide (s.fpar f 3 * s.fpar f 4 < 100 * s.travel m (ref - 1)), [(2 * k, ref), (2 * k + 1, b2n on)])

/-- LF_UCM (R264): 0 the position + 1 at which the chain opened, 1 the car has been in the zone since, 2 it has left. -/
def State.ucmStep (s : State) (f : Nat) : Bool × List (Nat × Nat) :=
  let x := (s.fnOf f).vars
  let zone := s.operand (s.fpar f 0)
  if s.operand (s.fpar f 1) then (false, [(0, 0), (1, 0), (2, 0)])
  else
    let m := s.fpar f 2
    let ref := if Tab.get 0 x 0 = 0 then s.posCode m + 1 else Tab.get 0 x 0
    let was : Bool := Tab.get 0 x 1 = 1
    let gone : Bool := decide (Tab.get 0 x 2 = 1) || (was && !zone)
    let moved : Bool := decide (m < 64) && decide (s.fpar f 3 < s.travel m (ref - 1))
    (gone || moved, [(0, ref), (1, b2n (was || zone)), (2, b2n gone)])

/-- The period of a measurement code in 10 ns units (R140). -/
def codePeriod (c : Nat) : Nat := c % 512 * 2 ^ (c / 512)

/-- Handrail speed by a terminal of HR_CH in µm/s (R140, R262); 0 without a measurement. -/
def State.handrailSpeed (s : State) (f t : Nat) : Nat :=
  let p := codePeriod (s.termOf t).ana.cnt.toNat
  if p = 0 then 0 else s.fpar f 2 * 100000000 / p

/-- The handrail's speed by either terminal lies outside (100 ± DEV_PCT) % of the step speed, which is at least MIN_UMS (R262; log
entry 90). -/
def State.handrailOff (s : State) (f : Nat) : Bool :=
  let v := (s.monOf (s.fpar f 0)).vmax
  let c := s.fpar f 1
  let off (t : Nat) : Bool := decide (100 * s.handrailSpeed f t < (100 - s.fpar f 3) * v) ||
    decide ((100 + s.fpar f 3) * v < 100 * s.handrailSpeed f t)
  (s.monOf (s.fpar f 0)).valid && decide (s.fpar f 5 ≤ v) && (off (2 * c) || off (2 * c + 1))

/-- A door chain reads bridged (R264): a point at or above CL_V while one nearer the supply reads at most 5 V. -/
def State.chainBridged (s : State) (f : Nat) : Bool :=
  let l := s.entries f 1 (Nat.min (s.fpar f 0) 16)
  let low (c : Nat) : Bool := [2 * c, 2 * c + 1].any fun t => match s.sampleMv t with | none => false | some x => decide (x ≤ 5000)
  (List.range l.length).any fun j => s.pointAbove (l.getD j 0) (1000 * s.fpar f 17) && ((l.take j).any low)

/-- The channels of a VOTE disagree (R265). -/
def State.voteSplit (s : State) (f : Nat) : Bool :=
  let l := s.fnChans f
  l.any s.chDem && !(l.all s.chDem)

/-- A condition that a template lets last for a time before it is a cause (R262, R264, R265): whether the capture finds it, and the
ticks that it may last. -/
def State.lastingCond (s : State) (f : Nat) : Bool × Nat :=
  match s.tid f with
  | 0x12 => (s.handrailOff f, 1000000 * s.fpar f 4)
  | 0x20 => (s.chainBridged f, 1000 * s.fpar f 18)
  | 0x42 => (s.voteSplit f, 1000 * s.fpar f 10 + 1)
  | _ => (false, 0)

/-- Variable 8 holds since when that condition has lasted, as a tick count + 1, 0 while it does not. -/
def State.lastingSets (s : State) (f : Nat) : List (Nat × Nat) :=
  if s.tid f = 0x12 ∨ s.tid f = 0x20 ∨ s.tid f = 0x42 then
    let v := Tab.get 0 (s.fnOf f).vars 8
    [(8, if !(s.lastingCond f).1 then 0 else if v = 0 then s.edgeCount + 1 else v)]
  else []

/-- The condition has lasted its time at a tick count. -/
def State.lastedBy (s : State) (f now : Nat) : Bool :=
  let v := Tab.get 0 (s.fnOf f).vars 8
  decide (v ≠ 0) && decide (v + (s.lastingCond f).2 ≤ now + 1)

/-- The cause that such a condition is at a capture (R262, R264, R265). -/
def State.lastedCause (s : State) (f : Nat) : List FnCause :=
  if !(s.lastingCond f).1 || !s.lastedBy f s.edgeCount then []
  else match s.tid f with
  | 0x12 => [(0x07, 1, 0x1FF)]
  | 0x20 => [(0x17, 1, 0x1FF)]
  | 0x42 => [(0x17, 2, 0x1FF)]
  | _ => []

/-- The template's own demand at a capture (R262–R265). -/
def State.templateDemands (s : State) (f : Nat) : List FnCause :=
  let sub (b : Bool) (d : Byte) : List FnCause := if b then [(0x07, d, 0x1FF)] else []
  match s.tid f with
  | 0x12 => s.lastedCause f
  | 0x13 => sub ((s.stepSensor f 0).1 || (s.stepSensor f 1).1) 2
  | 0x16 =>
    let x := s.monOf (s.fpar f 0)
    sub (x.valid && decide (s.fpar f 2 * s.fpar f 1 < 100 * x.vmax)) 3
  | 0x22 => sub (s.ucmStep f).1 5
  | 0x31 => sub ((s.entries f 1 (Nat.min (s.fpar f 0) 24)).any s.srcSet) 7
  | _ => []

/-- The variables that a capture writes. -/
def State.templateSets (s : State) (f : Nat) : List (Nat × Nat) :=
  s.lastingSets f ++ match s.tid f with
  | 0x13 => (s.stepSensor f 0).2 ++ (s.stepSensor f 1).2
  | 0x20 => [(0, s.openContact f)]
  | 0x22 => (s.ucmStep f).2
  | 0x41 => (s.timerStep f).2
  | _ => []

/-- Terminals at demand that count as an input demand (R251): one whose value is forced by plug removal does not, one that is forced
for chatter counts at every template but RESET and MODESEL (R257). -/
def State.inputDemands (s : State) (f : Nat) : List FnCause :=
  let ts := (chTerms (s.fnChans f)).filter fun t => s.imgDem t && !(s.termOf t).img.causes.getLsbD 9
  let chat := (s.fnTerms f).filter fun t => (s.termOf t).img.causes.getLsbD 1
  let first (l : List Nat) : List FnCause := match l with | [] => [] | t :: _ => [(0x01, 0, t)]
  if isSwitch (s.tid f) ∨ (s.tid f = 0x42 ∧ s.fpar f 1 ≤ ((s.fnChans f).filter s.chDem).length) then first ts
  else if isMode (s.tid f) then []
  else first chat

/-- A switching commit that the instance watches lies so many ms back at a tick count (R262, R482): variable 3 holds its tick count
+ 1. -/
def State.switchedFor (s : State) (f ms now : Nat) : Bool :=
  let v := Tab.get 0 (s.fnOf f).vars 3
  decide (v ≠ 0) && decide (v + 1000 * ms ≤ now + 1)

/-- EDM's check runs (R482): variable 1 says so, or FB_MS have passed since the switching commit that variable 2 says to check: 1 in
RUN, 2 as the function left RUN, which ends when it is in RUN again. -/
def State.edmRuns (s : State) (f : Nat) : Bool :=
  let x := (s.fnOf f).vars
  (Tab.get 0 x 1 = 1 || (Tab.get 0 x 2 ≠ 0 && s.switchedFor f (s.fpar f 10) s.edgeCount)) &&
  (Tab.get 0 x 2 ≠ 2 || (s.fnOf f).st ≠ .run)

/-- EDM's feedback check (R482); variable 0 holds the outputs as last committed. -/
def State.edmFails (s : State) (f : Nat) : List FnCause :=
  let x := (s.fnOf f).vars
  if s.tid f = 0x04 ∧ s.edmRuns f then
    (if (if Tab.get 0 x 0 = 1 then s.chOff (s.fpar f 9) else s.chOn (s.fpar f 9)) then [] else [(0x14, 1, 0x1FF)])
  else []

/-- The class of a cause (R251). -/
def isFaultCause (c : Byte) : Bool := 0x10 ≤ c.toNat
/-- The latched causes (R251). -/
def isLatched (c : FnCause) : Bool :=
  [(0x08 : Byte), 0x11, 0x13, 0x14, 0x15, 0x17].contains c.1 || (c.1 = 0x10 && (c.2.1 = 1 || c.2.1 = 8))

/-- The lowest code among causes, the first of equal ones (R252). -/
def lowest : List FnCause → Option FnCause
  | [] => none
  | c :: r =>
    match lowest r with
    | none => some c
    | some d => if d.1.toNat < c.1.toNat then some d else some c

/-- A local reset reaches a function in this frame (R255): its RESET instance has produced one and is in RUN. -/
def State.localReset (s : State) (f : Nat) : Bool :=
  let r := s.fRst f
  decide (r < 4096) && decide (s.tid r = 0x05) && decide ((s.fnOf r).st = .run) && decide (Tab.get 0 (s.fnOf r).vars 5 = 1)

/-- The number of the first condition of R254 that a reset fails, 0 when it is accepted. -/
def State.resetRefusal (s : State) (f : Nat) (fault dem : Bool) : Nat :=
  let st := (s.fnOf f).st
  if st ≠ .locked ∧ st ≠ .tripped ∧ st ≠ .fault then 1
  else if s.dev.st ≠ .running then 2
  else if (s.slotOf (s.fSlot f)).st ≠ .locked then 3
  else if fault then 4
  else if st ≠ .fault ∧ dem then 5
  else 0

/-- A process-data bit (R335). -/
def State.pdBit (s : State) (i : Nat) : Bool := bit (Tab.get (0 : BitVec 64) s.pd (i / 64)) (i % 64)

/-- The start condition of a function (R244, R482). -/
def State.startMet (s : State) (f : Nat) : Bool :=
  let w := s.fcfg f
  let ref := fld w 31 20
  (match fld w 33 32 with
   | 0 => true
   | 1 => s.chOn ref && !(s.fnOf f).startPrev
   | 2 => s.pdBit ref
   | _ => false) &&
  (s.tid f ≠ 0x04 || s.chOn (s.fpar f 9))

/-- ARM_S seconds have passed in ARMED (R250). -/
def State.armExpired (s : State) (f : Nat) : Bool :=
  let n := fld (s.fcfg f) 19 10
  decide ((s.fnOf f).st = .armed) && decide (n ≠ 0) && decide ((s.fnOf f).armedAt + n * 1000000 ≤ s.edgeCount)

/-- Both terminals of a RESET instance's channel have read off for 1 s (R250). -/
def State.offOneSecond (s : State) (f : Nat) : Bool :=
  let c := s.fpar f 0
  s.chOff c && [2 * c, 2 * c + 1].all fun t => (s.termOf t).img.stamp + 100000000 ≤ s.edge10

/-- A RESET or MODESEL instance at a capture (R257). -/
def State.modeChange (s : State) (f : Nat) (faults : List FnCause) : Option (FnState × FnCause) :=
  match lowest faults with
  | some c => if (s.fnOf f).st = .fault then none else some (.fault, c)
  | none =>
    if (s.fnOf f).st = .fault ∧ (s.tid f = 0x06 ∨ s.offOneSecond f) then some (.run, 0, 0, 0x1FF) else none

/-- The state change that a capture brings (R250, R252). expired says that ARM_S has run out. -/
def State.fnChange (s : State) (f : Nat) (faults demands : List FnCause) (accepted expired : Bool) :
    Option (FnState × FnCause) :=
  let st := (s.fnOf f).st
  match lowest faults with
  | some c => if st = .fault then none else some (.fault, c)
  | none =>
    match lowest demands, st with
    | some c, .locked => some (.tripped, c)
    | some c, .armed => some (.tripped, c)
    | some c, .run => some (.tripped, c)
    | some c, .fault => if accepted then some (.tripped, 0x01, 0, c.2.2) else none
    | some _, _ => none
    | none, .armed =>
      if expired then some (.locked, 0, 0, 0x1FF)
      else if s.startMet f then some (.run, 0, 0, 0x1FF)
      else none
    | none, .run => none
    | none, .none => none
    | none, _ => if accepted then some (.armed, 0, 0, 0x1FF) else none

/-- A function's evaluation in a frame (R250–R252), from the image and the causes of its capture. -/
def State.evalFn (s : State) (f : Nat) (expired : Bool) : FnWork :=
  let x := s.fnOf f
  let pres := s.presentFaults f
  let dems := s.inputDemands f ++ s.groupDemands f ++ s.templateDemands f ++ x.cur.filter fun c => !isFaultCause c.1
  let arisen := pres ++ (x.cur.filter fun c => isFaultCause c.1) ++ s.edmFails f ++
    (if s.tid f = 0x12 then [] else s.lastedCause f)
  let mode := isMode (s.tid f)
  let asked := !mode && (x.reset || s.localReset f)
  let refusal := s.resetRefusal f (arisen ≠ []) (dems ≠ [])
  let accepted := asked && decide (refusal = 0)
  let new := (arisen ++ dems).filter fun c => !x.was.contains c
  let chg := if mode then s.modeChange f arisen else s.fnChange f arisen dems accepted (expired || s.armExpired f)
  let again : List FnCause := match x.st with
    | .fault => new.filter fun c => isFaultCause c.1
    | .tripped => if arisen = [] then new.filter fun c => !isFaultCause c.1 else []
    | _ => []
  { chg := chg
    latched := if accepted then [] else if mode then [] else
      x.latched ++ (arisen ++ dems).filter fun c => isLatched c && !x.latched.contains c
    was := arisen ++ dems
    dem := dems ≠ []
    pres := pres ≠ []
    cond := s.condOf f
    startPrev := s.chOn (fld (s.fcfg f) 31 20)
    sets := s.templateSets f
    posts := (match lowest again with
      | none => []
      | some c => [(0x0801, (match x.st with | .fault => 3 | _ => 4),
          x.st.code * 2 ^ 24 + c.1.toNat * 2 ^ 16 + c.2.1.toNat * 2 ^ 8)]) ++
      (if asked && !accepted then [(0x0802, 1, refusal)] else [])
    ledg := if asked then [if accepted then 3 else 4] else [] }

/-- Evaluate a function into its working buffer; one before the end of LOADING has none. -/
def State.runFn (s : State) (f : Nat) (expired : Bool) : State :=
  match (s.fnOf f).st with
  | .none => s
  | _ => s.updFn f fun x => { x with next := some (s.evalFn f expired) }

/-- The causes that a capture takes for a function (R250): those raised since the last one, and its sentinels. -/
def State.takeCauses (s : State) (f : Nat) : State :=
  s.updFn f fun x => { x with
    cur := x.raised ++ (s.sentinels f).filter fun c => !x.raised.contains c, raised := [], reset := false,
    vars := if s.tid f = 0x05 then Tab.set 0 (Tab.set 0 x.vars 5 (Tab.get 0 x.vars 4)) 4 0 else x.vars }

/-- The present cause that a function's FAULT event reported has ended (R379). -/
def State.endFnCondition (s : State) (f : Nat) : State :=
  let x := s.fnOf f
  if (s.presentFaults f).any fun c => c.1 = x.cause && (c.1 ≠ 0x10 || c.2.2 = x.term) then s else s.endCondition (nFn f) 0x0801

/-- Every function at a capture. -/
def State.fnCaptures (s : State) : State :=
  let s1 := (s.forEach s.fns State.takeCauses).forEach s.fns State.endFnCondition
  s1.forEach s1.fns fun z f => z.runFn f false

/-- Every function is evaluated again on the complete image (R35, R99, R126). -/
def State.fnImages (s : State) : State := s.forEach s.fns fun z f => z.runFn f false

/-- A working buffer becomes the current state at the commit (R36, R250). -/
def State.commitFn (s : State) (f : Nat) : State :=
  match (s.fnOf f).next with
  | none => s
  | some w =>
    let old := (s.fnOf f).st
    let s1 := s.updFn f fun x => { x with
      next := none, cur := [], latched := w.latched, was := w.was, dem := w.dem, pres := w.pres, cond := w.cond,
      startPrev := w.startPrev, vars := w.sets.foldl (fun (v : Tab Nat) (e : Nat × Nat) => Tab.set 0 v e.1 e.2) x.vars }
    let s2 := match w.chg with
      | none => s1
      | some (st, c, d, t) => s1.setFn f st c.toNat d.toNat t
    let s3 := w.posts.foldl (fun (z : State) (e : Nat × Nat × Nat) => z.post e.1 (nFn f) e.2.1 e.2.2) s2
    w.ledg.foldl (fun (z : State) (k : Nat) => z.ledgerAdd k f noChan 0 0 old.code (z.fnOf f).st.code) s3

/-- A working buffer is discarded (R36): the causes of its capture, and a press that it took for a RESET instance, are met again at
the next one. -/
def State.dropFn (s : State) (f : Nat) : State :=
  s.updFn f fun x => { x with
    next := none, raised := (x.cur.filter fun c => !x.raised.contains c) ++ x.raised, cur := []
    vars := if s.tid f = 0x05 then
        Tab.set 0 (Tab.set 0 x.vars 4 (Nat.max (Tab.get 0 x.vars 4) (Tab.get 0 x.vars 5))) 5 0 else x.vars }

/-- ARMED_TIMEOUT (R250): ARM_S seconds in ARMED; the frame's evaluation takes it in the order of R252. -/
def execArmedTimeout (f : FnIx) (s : State) : Res :=
  if s.armExpired f.val then done (s.runFn f.val true) else done s

/-- The button of a RESET instance has been held for more than 60 s (R255). -/
def State.heldLong (s : State) (f : Nat) : Bool :=
  [0, 1].any fun k => let on := Tab.get 0 (s.fnOf f).vars k; decide (on ≠ 0) && decide (on - 1 + 6000000000 < s.t10)

/-- RESET_HELD_LONG (R255). -/
def execResetHeldLong (f : FnIx) (secs : Nat) (s : State) : Res :=
  if s.tid f.val = 0x05 ∧ s.heldLong f.val then done (s.post 0x0805 (nFn f.val) 1 (Nat.min secs (2 ^ 28 - 1))) else done s

/-- RESET_INSTANCE_RECOVERY (R250, R255): a RESET instance in FAULT without a cause, whose terminals have read off for 1 s, returns to
RUN at the commit. -/
def execResetInstanceRecovery (f : FnIx) (s : State) : Res :=
  let x := s.fnOf f.val
  if s.tid f.val = 0x05 ∧ x.st = .fault ∧ s.presentFaults f.val = [] ∧ x.cur = [] ∧ s.offOneSecond f.val then
    done (s.updFn f.val fun y => { y with next := some { s.evalFn f.val false with chg := some (.run, 0, 0, 0x1FF) } })
  else done s

/-- The 2 s in which an armed reset must be confirmed have passed (R256). -/
def State.armVoid (s : State) : Bool := match s.armed with | none => false | some a => decide (a.at_ + 2000000 ≤ s.clock.count)

/-- REMOTE_RESET_EXPIRY (R256). -/
def execRemoteResetExpiry (s : State) : Res := if s.armVoid then done { s with armed := none } else done s

/-- EDM_CHECK_START (R482): FB_MS have passed since a switching commit that is to be checked (variable 2). -/
def execEdmCheckStart (f : FnIx) (s : State) : Res :=
  if s.tid f.val = 0x04 ∧ Tab.get 0 (s.fnOf f.val).vars 2 ≠ 0 ∧ s.switchedFor f.val (s.fpar f.val 10) s.clock.count then
    done (s.updFn f.val fun x => { x with vars := Tab.set 0 x.vars 1 1 })
  else done s

/-- HANDRAIL_DEVIATION (R262): the deviation has lasted DEV_S. -/
def execHandrailDeviation (f : FnIx) (s : State) : Res :=
  if s.tid f.val = 0x12 ∧ s.lastedBy f.val s.clock.count then done (s.raiseFn f.val 0x07 0x01 0x1FF) else done s

/-- BRAKE_FEEDBACK_TIMEOUT (R262): REL_MS after the brake output was switched on, or APP_MS after it was switched off, the feedback
contacts do not follow: ES_BRKFB not released or not applied in time, ES_AUXBRK not applied in time. -/
def execBrakeFeedbackTimeout (f : FnIx) (applying : Bool) (s : State) : Res :=
  let due (k : Nat) : Bool := (Tab.get 0 (s.fnOf f.val).vars 0 = b2n !applying) && s.switchedFor f.val (s.fpar f.val k) s.clock.count
  if s.tid f.val = 0x15 ∧ due (if applying then 8 else 7) then done (s.raiseFn f.val 0x14 (if applying then 3 else 2) 0x1FF)
  else if s.tid f.val = 0x18 ∧ applying ∧ due 3 then done (s.raiseFn f.val 0x14 4 0x1FF)
  else done s

/-- DOORCHAIN_BRIDGED (R264): the bridge has lasted BR_MS. -/
def execDoorchainBridged (f : FnIx) (s : State) : Res :=
  if s.tid f.val = 0x20 ∧ s.lastedBy f.val s.clock.count then done (s.raiseFn f.val 0x17 1 0x1FF) else done s

/-- TIMER_DELAY_EXPIRY (R265): the delay has run out; the output follows the operand at the next capture. -/
def execTimerDelayExpiry (f : FnIx) (s : State) : Res :=
  if s.tid f.val = 0x41 ∧ Tab.get 0 (s.fnOf f.val).vars 1 + s.fpar f.val 2 * 1000 ≤ s.clock.count then
    done (s.updFn f.val fun x => { x with vars := Tab.set 0 x.vars 4 1 })
  else done s

/-- VOTE_DISAGREEMENT (R265): the channels have disagreed for longer than DISAG_MS. -/
def execVoteDisagreement (f : FnIx) (s : State) : Res :=
  if s.tid f.val = 0x42 ∧ s.lastedBy f.val s.clock.count then done (s.raiseFn f.val 0x17 2 0x1FF) else done s

/-- CURVE_TRANSFER (R267): the 256 current samples of a qualified change, sent to the other side. -/
def execCurveTransfer (t : TermIx) (curve : List (BitVec 18)) (s : State) : Res :=
  done (s.updTerm t.val fun x => { x with dig := { x.dig with curve := curve.take 256, curveSent := true } })

/-- Four 18-bit samples of a curve in a word (R268). -/
def curveWord (l : List (BitVec 18)) (j : Nat) : Word :=
  BitVec.ofNat 72 (at_ (l.getD (4 * j) 0).toNat 0 + at_ (l.getD (4 * j + 1) 0).toNat 18 +
    at_ (l.getD (4 * j + 2) 0).toNat 36 + at_ (l.getD (4 * j + 3) 0).toNat 54)

/-- Words 0–135 of a ledger page (R268), without SEQ, SKIPPED and LOST. -/
def State.ledgerWords (s : State) (e : LedgerEntry) (seq : BitVec 40) (skipped lost : Nat) : List Word :=
  let c := e.ch
  let a := s.termOf (2 * c)
  let b := s.termOf (2 * c + 1)
  let curves : Bool := c < 192 && (e.kind = 1 || e.kind = 2)
  let diff : Int := if e.ta = 0 ∨ e.tb = 0 then 0 else satInt (-(2 ^ 35 - 1)) (2 ^ 35 - 1) ((e.tb : Int) - e.ta)
  let cv (x : Terminal) : List Word := (List.range 64).map fun j => if curves then curveWord x.dig.curve j else 0
  [e.time,
   BitVec.ofNat 72 (at_ e.kind.toNat 64 + at_ e.inst 51 + at_ c 43 + at_ e.mode.toNat 41 + at_ e.cause.toNat 33),
   BitVec.ofNat 72 e.ta, BitVec.ofNat 72 e.tb,
   BitVec.ofNat 72 (at_ (encInt 36 diff) 36 + at_ e.sess 4),
   BitVec.ofNat 72 (if c < 192 then at_ (a.dig.rLoop.getD 0xFFFFFFFFF) 36 + b.dig.rLoop.getD 0xFFFFFFFFF else 0),
   BitVec.ofNat 72 (at_ e.old.toNat 68 + at_ e.new.toNat 64 + at_ seq.toNat 24 + at_ (Nat.min skipped 4095) 12 + Nat.min lost 4095),
   s.pkg.digest.setWidth 72] ++ cv a ++ cv b

/-- The ledger key (R269, R414), derived from the secret that both sides hold. -/
def State.ledgerKey (s : State) : Nat := Config.ledgerScalar (s.secret .A)

/-- LEDGER_PAGE_WRITE (R266–R270): the oldest waiting page is signed and written in both MRAMs, or, beyond 8 in the running
second, counted in SKIPPED; the oldest unexported page is overwritten when every page is; event 0x0803 at 80 %. -/
def execLedgerPageWrite (s : State) : Res :=
  match s.ledger.waiting with
  | [] => done s
  | e :: r =>
    let l := s.ledger
    let sec := s.clock.count / 1000000
    let counts : Tab Nat := if l.second = sec then l.written else []
    let k := e.key
    if k ≠ noFn ∧ 8 ≤ Tab.get 0 counts k then
      done { s with ledger := { l with waiting := r, skipped := Nat.min (l.skipped + 1) 4095, second := sec, written := counts } }
    else if !s.writable then done s
    else
      let unexported := l.seq.toNat - 1 - l.mark.toNat
      let lost := if ledgPages ≤ unexported then Nat.min (l.lost + 1) 4095 else l.lost
      let words := s.ledgerWords e l.seq l.skipped lost
      let sig := Config.ecdsaP384Sign s.ledgerKey (leBytes 48 (Config.sha384 ((words.map wordBytes).flatten)).toNat)
      let body := words ++ Config.packWords sig 11 ++ List.replicate 12 0
      let page := body ++ [commitWord body l.seq]
      let s1 := (s.writePage .A (ledgAddr l.next) page).writePage .B (ledgAddr l.next) page
      let s2 := { s1 with ledger := { l with
        waiting := r, next := (l.next + 1) % ledgPages, seq := nextPseq l.seq, lost := lost, skipped := 0,
        second := sec, written := Tab.set 0 counts k (Tab.get 0 counts k + 1) } }
      done (if unexported + 1 = ledgPages * 4 / 5 then s2.post 0x0803 nDevice 1 (unexported + 1) else s2)

end Sys2Proof.Machine
end

