-- ==== Sys2Proof/Machine/Startup.lean ====
section
/-! DEFINITION. Start-up (spec/16: R402–R423): PROVING, BOOT and LOADING, the OTP regions, the choice of image and package,
the slot map, and the state in which a start-up ends. -/

namespace Sys2Proof.Machine

/-- The lifecycle code of a side's bits 194–192 (R416). -/
def State.lifeOn (s : State) (d : Side) : Nat :=
  match s.otpFld d 194 192 with
  | 0 => 0
  | 1 => 1
  | 3 => 2
  | _ => 3

/-- The number of bits set from bit 200 upward (R410 FW_SVN). -/
def svnBits : Nat → Nat → Nat
  | 0, _ => 0
  | k + 1, v => if v % 2 = 1 then 1 + svnBits k (v / 2) else 0
/-- The minimum security version of a side. -/
def State.svnMin (s : State) (d : Side) : Nat := svnBits 64 (s.otpFld d 263 200)

/-- Program FW_SVN bits of a side up to a security version (R419, R430). -/
def State.svnTop (s : State) (d : Side) (svn : Nat) : State :=
  s.otpOr d (BitVec.ofNat 4096 ((2 ^ Nat.min svn 64 - 1) * 2 ^ 200))

/-- A start-up phase goes on: it has not been abandoned (R436). -/
def State.inPhase (s : State) (x : DevState) : Bool := s.dev.st = x && !s.dev.abandoned

/-- Number of bits set in a retire map. -/
def popcount (n : Nat) (w : BitVec n) : Nat := (List.range n).foldl (fun k i => if w.getLsbD i then k + 1 else k) 0

/-- PROVING compares the retire map in MRAM with the one in OTP (R373, R374): both become their union, with event 0x0A07
when they differ. -/
def State.unionRetire (s : State) (d : Side) : State :=
  let a := s.mramRetire d
  let b := s.otpRetire d
  if a = b then s
  else
    let s1 := s.forEach (List.range 8) fun x k => x.recWrite d (2 + k) (BitVec.ofNat 72 (fld (a ||| b) (72 * k + 71) (72 * k)))
    (s1.otpOr d (BitVec.ofNat 4096 (at_ (a ||| b).toNat 3520))).post 0x0A07 ⟨0x01, d.ix⟩ 1 (popcount 576 (a ^^^ b))

/-- A device-level failure that PROVING or BOOT finds (R403). -/
def State.provFailed (s : State) (n : Node) : State :=
  { s with dev := { s.dev with provFail := if s.dev.provFail.contains n then s.dev.provFail else s.dev.provFail ++ [n] } }

/-- A block failed its PROVING test twice (R404): lasting (R373). A second retired lane is a failed side link (R21). -/
def State.provingFail (s : State) (d : Side) (b : ProvBlock) : State :=
  match b with
  | .coach c => (s.retireBlock (nCoach (coachIx d c.val)) tcCoach).dropCoach (coachIx d c.val)
  | .bank b => s.retireBlock (nBank d b.val) tcBank
  | .lane l =>
    let s1 := s.retireBlock (nLane l.val) tcLane
    if 2 ≤ s1.lanesRetired.length then (s1.retireBlock nLink 0).provFailed nLink else s1
  | .device x => (s.retireBlock (devNode d x).1 (devNode d x).2).provFailed (devNode d x).1

/-- Both crypto engines have failed (R414). -/
def State.cryptoFailed (s : State) (d : Side) : State :=
  ((s.retireBlock (nCrypto d) 0).provFailed (nCrypto d)).updNet d fun n => { n with muted := true }

/-- PROVING_DONE (R403, R404, R414): the OTP copies, the retire maps, the failures found, then BOOT. -/
def execProvingDone (failed : List (Side × ProvBlock)) (keyCheckAgrees : Bool) (s : State) : Res :=
  if !s.inPhase .proving then settled s
  else
    let s1 := (((s.otpMargin .A).otpMargin .B).unionRetire .A).unionRetire .B
    let s2 := failed.foldl (fun (x : State) (e : Side × ProvBlock) => x.provingFail e.1 e.2) s1
    let s3 := if keyCheckAgrees then s2 else (s2.cryptoFailed .A).cryptoFailed .B
    settled { s3 with dev := { s3.dev with st := .boot, enteredAt := s.clock.count } }

/-- An entry that the sides exchange to agree an image or a package (R419): region, ACT_SEQ, digest. -/
abbrev Offer := Nat × BitVec 40 × BitVec 384

/-- select_image() of R419: the region of the common entry with the highest ACT_SEQ. -/
def selectCommon (mine theirs : List Offer) : Option Nat :=
  let common := mine.filter fun (e : Offer) => theirs.any fun (o : Offer) => o.2.1 = e.2.1 && o.2.2 = e.2.2
  (common.foldl (fun (b : Option Offer) (e : Offer) => match b with
    | none => some e
    | some x => if x.2.1 < e.2.1 then some e else some x) none).map Prod.fst

/-- The image region that a lifecycle state uses to verify images is not invalid (R411, R416). -/
def State.rootOk (s : State) (d : Side) : Bool := s.region d (if s.dev.lifecycle = 0 then 1 else 3) ≠ .invalid

/-- The ACTIVE valid images of a side (R418, R419). -/
def State.fwOffers (s : State) (d : Side) : List Offer :=
  let e (r : Side) : List Offer :=
    let x := (s.dev.fw.get d).get r
    if x.state = 2 ∧ x.valid ∧ s.rootOk d ∧ s.svnMin d ≤ x.svn.toNat then [(r.ix, x.actSeq, x.digest)] else []
  e .A ++ e .B

/-- The ACTIVE valid packages of a side (R421, R422). -/
def State.cfgOffers (s : State) (d : Side) : List Offer :=
  let e (r : Side) : List Offer :=
    let x := (s.dev.cfg.get d).get r
    if x.state = 2 ∧ x.valid ∧ s.region d 0 ≠ .invalid ∧ s.region d 2 ≠ .invalid ∧
        x.pkg.ownerRoot.toNat = s.otpFld d 1031 648 then [(r.ix, x.actSeq, x.pkg.digest)] else []
  e .A ++ e .B

/-- The encodings of a ledger page are defined (R268). -/
def ledgOk (ws : List Word) : Bool := 1 ≤ fld (ws.getD 1 0) 71 64 && fld (ws.getD 1 0) 71 64 ≤ 0x0B

/-- The valid ledger pages of a side. -/
def State.ledgValid (s : State) (d : Side) : List (Nat × Nat) :=
  (validPages ((s.mem.get d).mram.filter fun (e : Nat × Word) => 0x07800000 ≤ e.1) 0x07800000 1440 160 ledgOk).filter
    fun (p : Nat × Nat) => s.pageReads d (ledgAddr p.1) 160

/-- Recover the ledger (R270, R393): the newest page of the two sides' rings, and the export mark of word 1. -/
def State.recoverLedger (s : State) : State :=
  let mark : BitVec 40 := BitVec.ofNat 40 (Nat.max (fld (s.recRead .A 1) 39 0) (fld (s.recRead .B 1) 39 0))
  match ringHead (s.ledgValid .A ++ s.ledgValid .B) with
  | none => { s with ledger := { s.ledger with mark := mark } }
  | some h => { s with ledger := { s.ledger with
      next := (h.1 + 1) % ledgPages, seq := nextPseq (BitVec.ofNat 40 h.2), mark := mark } }

/-- The SECRET region of a side is invalid: its crypto engine has failed (R411). -/
def State.secretCheck (s : State) (d : Side) : State := if s.region d 4 = .invalid then (s.provFailed (nCrypto d)).updNet d fun n =>
  { n with muted := true } else s

/-- BOOT_DONE (R403, R405, R406, R411, R416, R419): lifecycle, regions, journal and ledger, then LOADING with the agreed
image, or HOLDING with the boot responder. -/
def execBootDone (s : State) : Res :=
  if !s.inPhase .boot then settled s
  else
    let s1 := { s with dev := { s.dev with lifecycle := BitVec.ofNat 2 (Nat.max (s.lifeOn .A) (s.lifeOn .B)) } }
    let s2 := (s1.secretCheck .A).secretCheck .B
    let s3 := ((s2.bootJournal .A).bootJournal .B).recoverLedger
    let s4 := if s3.writable then { s3 with time := { s3.time with seals := [] } } else s3
    match selectCommon (s4.fwOffers .A) (s4.fwOffers .B) with
    | none => settled { s4 with dev := { s4.dev with st := .holding, responder := true } }
    | some r =>
      let run : Side := Side.ofIx r
      let top (x : State) (d : Side) : State := x.svnTop d ((x.dev.fw.get .A).get run).svn.toNat
      settled (top (top { s4 with dev := { s4.dev with st := .loading, enteredAt := s.clock.count, running := run } } .A) .B)

/-- The calibration of a terminal at LOADING (R118): from the records that its side's MRAM keeps. -/
def State.loadCal (s : State) (t : Nat) : State :=
  s.calUse t (s.recRead (tSide t) (58 + 2 * tChan t)) (s.recRead (tSide t) (59 + 2 * tChan t))

/-- LOADING links a field chip (R407, R438): its bank and its tokens. -/
def State.linkChip (s : State) (i : Nat) : State :=
  let s1 := s.updChip i fun x => { x with active := s.chipBank i, linked := true, spent := false, filled := [] }
  s1.updLanes i fun l => { l with tokens := s1.tokenCap i }

/-- A terminal without a valid record of either kind for a path has a failed front-end (R118). -/
def State.uncalibrated (s : State) (t : Nat) : Bool :=
  (s.calOf t false (s.recRead (tSide t) (58 + 2 * tChan t))).isNone || (s.calOf t true (s.recRead (tSide t) (59 + 2 * tChan t))).isNone

/-- The terminals of a field chip after LOADING: filters at demand (R474), the supply, the connector and a failed or retired
front-end or converter as they stand (R77, R81, R118, R365, R437). -/
def State.startTerm (s : State) (t : Nat) : State :=
  let l := s.lanesOf (tChip t)
  let s1 := (s.updTerm t fun x => { x with tstat := { x.tstat with plug := !l.plugOpen } }).restartFilter t
  let s2 := if l.fsup then s1.raiseCause t 0x11 else s1
  let s3 := if l.plugOpen then s2.raiseCause t 9 else s2
  let failed : Bool := s.isRetired (nFront t) tcFront || s.isRetired (nFront t) tcConv || s.uncalibrated t
  if failed ∧ (s.termOf t).tstat.causes.getLsbD 0x0A = false then s3.raiseCause t 0x0A else s3

/-- The map of a side as MRAM holds it; at the first start, when every word is zero, slot n has coach n (R179). -/
def State.mapWords (s : State) (d : Side) : List Nat × Bool :=
  let l := (List.range 48).map fun p => fld (s.recRead d (10 + p)) 5 0
  if l.all (· = 0) then (List.range 48, true) else (l, false)

/-- The coach for slot 0 (R193): its own entry, a reserve, the coach of the highest slot with HOSTS = 0, of the highest with
HOSTS = 1. -/
def slot0Coach (e : List Nat) (ok hosts : Nat → Bool) : Option Nat :=
  let qs := ((List.range 48).reverse).filter fun q => q ≠ 0
  let reserves := (List.range 52).filter fun c => !e.contains c
  ([e.getD 0 0] ++ reserves ++ (qs.filter fun q => !hosts q).map (e.getD · 0) ++ (qs.filter hosts).map (e.getD · 0)).find? ok

/-- The coaches of the other slots in ascending order (R192, R193): its own, else the next reserve, else none. -/
def mapRest (ok : Nat → Bool) (reserves : List Nat) : List (Nat × Nat) → List Nat → List (Nat × Option Nat)
  | [], _ => []
  | (q, c) :: r, used =>
    if ok c ∧ !used.contains c then (q, some c) :: mapRest ok reserves r (c :: used)
    else if used.contains c then (q, none) :: mapRest ok reserves r used
    else
      match reserves.find? fun x => ok x && !used.contains x with
      | some x => (q, some x) :: mapRest ok reserves r (x :: used)
      | none => (q, none) :: mapRest ok reserves r used

/-- A map entry as MRAM holds it already. -/
def State.mapCoachAt (s : State) (d : Side) (q c : Nat) : State := s.updSlot q fun x =>
  match d with
  | .A => { x with mapA := c, mapped := true }
  | .B => { x with mapB := c, mapped := true }

/-- Enter a slot's coach of a side in the map, or retire the slot. -/
def State.loadSlot (s : State) (d : Side) (first : Bool) (e : List Nat) (q : Nat) (c : Option Nat) : State :=
  match c with
  | none => s.retireSlot q (if (s.cstOf (coachIx d (e.getD q 0))).retired then 0 else 8)
  | some c =>
    let s1 := s.mapCoachAt d q c
    if c = e.getD q 0 ∧ !first then s1
    else
      let s2 := s1.mapCoach d q c
      if c = e.getD q 0 then s2 else s2.post 0x0303 (nCoach (coachIx d c)) 0 q

/-- A coach of a side that LOADING may map. -/
def State.coachOk (s : State) (d : Side) (c : Nat) : Bool := c < 52 && !s.retired d c

/-- The slots whose coach of a side LOADING takes for slot 0 (R193): by their entry, another slot than slot 0. -/
def State.goneFor0 (s : State) (d : Side) : List Nat :=
  let e := (s.mapWords d).1
  match slot0Coach e (s.coachOk d) s.hosts with
  | none => []
  | some c => ((List.range 48).filter fun q => q ≠ 0 && e.getD q 0 = c)

/-- LOADING maps the slots of a side, slot 0 first (R179, R192, R193). A slot whose coach slot 0 takes on either side is RETIRED;
its coach on the other side is among that side's reserves. -/
def State.loadMap (s : State) (d : Side) (gone : List Nat) : State :=
  let e0 := s.mapWords d
  let e : List Nat × Bool := (((List.range 48).map fun q => if gone.contains q then 52 else e0.1.getD q 0), e0.2)
  let s0 := s.forEach (List.range 52) fun x c => x.updCst (coachIx d c) fun k => { k with
    retired := s.retired d c, powered := false }
  let c0 := slot0Coach e0.1 (s.coachOk d) s.hosts
  let reserves := (List.range 52).filter fun c => !e.1.contains c
  let rest := mapRest (s.coachOk d) reserves
    (((List.range 48).filter fun q => q ≠ 0 && !gone.contains q).map fun q => (q, e.1.getD q 0)) c0.toList
  let s1 := ((0, c0) :: rest).foldl (fun (x : State) (m : Nat × Option Nat) => x.loadSlot d e.2 e.1 m.1 m.2) s0
  s1.forEach (gone.filter fun q => (s1.slotOf q).st ≠ .retired) fun x q => x.retireSlot q 8

/-- The slots at the end of LOADING (R197, R198): LOCKED, or SPLIT with its coaches at their entries. -/
def State.startSlots (s : State) : State :=
  s.forEach (List.range 48) fun x p =>
    if (x.slotOf p).st = .retired then x
    else if s.slotSplit p then
      ((x.updSlot p fun y => { y with st := .split }).startCoach (x.slotCoach .A p) p (s.splitEntry .A p)).startCoach
        (x.slotCoach .B p) p (s.splitEntry .B p)
    else ((x.updSlot p fun y => { y with st := .locked }).updCst (x.slotCoach .A p) fun c => { c with powered := true }).updCst
      (x.slotCoach .B p) fun c => { c with powered := true }

/-- A function at the end of LOADING (R257). -/
def State.startFn (s : State) (f : Nat) : State :=
  match lowest (s.presentFaults f) with
  | some c => s.setFn f .fault c.1.toNat c.2.1.toNat c.2.2
  | none =>
    if isMode (s.tid f) then s.setFn f .run 0 0 0x1FF
    else match lowest (s.inputDemands f ++ s.groupDemands f ++ s.templateDemands f) with
      | some c => s.setFn f .tripped 1 0 c.2.2
      | none => s.setFn f .locked 0 0 0x1FF

/-- Freeze a terminal's state into the image (R13, R35). -/
def State.freezeTerm (s : State) (t : Nat) : State :=
  s.updTerm t fun x => { x with img := { x.img with
    causes := x.tstat.causes
    qual := s.qualOf t, fsafe := s.fsafe t, stale := false, stamp := x.dig.stamp, plug := x.tstat.plug,
    chat := s.chatOnly t,
    prevQ := x.img.qual, prevF := x.img.fsafe, prevC := x.ana.cnt } }

/-- The stop signals of a side freeze into the image (R13, R163, R165, R477). -/
def Half.freeze (h : Half) : Half := { h with slImg := h.sl, doorImg := h.door, nstopImg := h.nstop }

/-- What the sides hold themselves freezes into the image: stop signals, and which field chips are lost (R13, R251). -/
def State.freezeSides (s : State) : State :=
  ((s.updHalf .A Half.freeze).updHalf .B Half.freeze).forEach (List.range 24) fun x i =>
    x.updView i fun v => { v with lostImg := v.lost }

/-- The terminals whose channel is not OFF. -/
def State.liveTerms (s : State) : List Nat :=
  if s.dev.loaded then (List.range 384).filter fun t => s.mode (tChan t) ≠ mOFF else []

/-- The connections of the package that are enabled (R305). -/
def State.pkgConns (s : State) : List Nat :=
  s.pkg.words.filterMap fun (e : Nat × Word) =>
    if e.1 / 64 / 1048576 = cCONN ∧ e.1 % 64 = 0 ∧ bit e.2 71 then some (e.1 / 64 % 1048576) else none

/-- A connection at the end of LOADING (R323): CLOSED, in the epoch that MRAM keeps (R395). -/
def State.startConn (s : State) (c : Nat) : State :=
  let lo := 16 * (c % 4)
  s.updConn c fun k => { k with st := .closed, epoch := BitVec.ofNat 16 (fld (s.recRead .A (1113 + c / 4)) (lo + 15) lo) }

/-- The nodes of the device-level retire bits 540–546 of a side (R374). -/
def State.retiredNodes (s : State) (d : Side) : List Node :=
  ([(540, nClock d), (541, nSupv d), (542, nPlane d 0), (543, nPlane d 1), (544, nMaster d), (545, nLink), (546, nCrypto d)].filter
    fun (e : Nat × Node) => s.retired d e.1).map Prod.snd

/-- Units that are retired stay out of service (R26), and the banks of a side that has lost one have no free bank (R366). -/
def State.loadUnits (s : State) (d : Side) : State :=
  let m := s.retireMap d
  let s1 := s.forEach ((List.range 8).filter fun n => bit m (468 + n)) fun x n => x.unitTesting ⟨0x10, 8 * d.ix + n⟩ true
  let s2 := s1.forEach ((List.range 64).filter fun n => bit m (476 + n)) fun x n => x.unitTesting ⟨0x11, 64 * d.ix + n⟩ true
  if (List.range 16).any fun b => bit m (52 + b) then
    { s2 with tests := { s2.tests with freeBank := s2.tests.freeBank.set none d } }
  else s2

/-- The configuration of a start-up in force: the package of a copy, or none (R422). -/
def State.withPkg (s : State) (p : Option Pkg) : State :=
  match p with
  | none => { s with pkg := {}, dev := { s.dev with loaded := true, pkgActive := false } }
  | some p => { s with
      pkg := p, dev := { s.dev with loaded := true, pkgActive := true },
      clock := { s.clock with pend := some (p.fl, p.cdl, p.k) } }

/-- The hardware side of LOADING (R407): calibration, chips, terminals, units, slots. -/
def State.loadHardware (s : State) (silent : List ChipIx) : State :=
  let s1 := s.forEach (List.range 384) State.loadCal
  let s2 := s1.forEach (List.range 24) State.linkChip
  let s3 := s2.forEach (List.range 384) State.startTerm
  let gone := (List.range 24).filter fun i => (silent.map Fin.val).contains i || s.isRetired (nChip i) 0
  let s4 := s3.forEach gone State.chipLost
  let gone := s4.goneFor0 .A ++ (s4.goneFor0 .B).filter fun q => !(s4.goneFor0 .A).contains q
  ((((s4.loadUnits .A).loadUnits .B).loadMap .A gone).loadMap .B gone).startSlots

/-- The device takes a state (R402). -/
def State.withSt (s : State) (x : DevState) : State := { s with dev := { s.dev with st := x } }

/-- The hold lanes are exercised as the device passes from LOADING to STANDBY (R105, R173): those that regain their carrier have passed. -/
def State.exerciseHolds (s : State) : State :=
  s.forEach ((List.range 24).filter fun i => !(s.lanesOf i).hold) fun x i => x.restPassed i 20

/-- The end of LOADING for an OWNED device (R287, R403, R407): functions, connections and monitors (STOPPED), then HOLDING or
STANDBY. -/
def State.endLoading (s : State) : State :=
  let s1 := (s.forEach s.liveTerms State.freezeTerm).freezeSides
  let s2 := s1.forEach s1.fns State.startFn
  let s3 := s2.forEach s2.pkgConns State.startConn
  let s4 := (State.withSt s3.exerciseHolds .standby).forEach ((List.range 64).filter fun m => s3.msrc m ≠ 0) fun x m => x.updMon m fun y =>
    { y with sstate := 3 }
  let bad := s4.retiredNodes .A ++ s4.retiredNodes .B ++ s4.dev.provFail ++
    (if (s4.slotOf 0).st = .retired then [nSlot 0] else [])
  bad.foldl (fun (x : State) (n : Node) => x.enterHolding n) s4

/-- LOADING_DONE (R403, R407, R408, R422): the package that both sides hold, the field chips that answer, and the state in
which the start-up ends. -/
def execLoadingDone (silent : List ChipIx) (s : State) : Res :=
  if !s.inPhase .loading then settled s
  else if s.dev.lifecycle ≠ 2 then
    let s1 := (s.withPkg none).loadHardware silent
    settled (s1.withSt .service).zeroise
  else
    let sel := (selectCommon (s.cfgOffers .A) (s.cfgOffers .B)).map fun r => ((s.dev.cfg.get .A).get (Side.ofIx r)).pkg
    settled ((s.withPkg sel).loadHardware silent).endLoading

end Sys2Proof.Machine
end

