-- ==== Sys2Proof/Machine/Host.lean ====
section
/-! DEFINITION. Host ports (spec/13: R331–R343, R350–R353, R356–R358): registers, doorbells, rings, packets, replies,
streams, the process image, the turn token and the semaphores. -/

namespace Sys2Proof.Machine

/-- The device states in which a port answers beside configuration requests and stop words (R402). -/
def DevState.answers : DevState → Bool
  | .dormant => false
  | .proving => false
  | .boot => false
  | _ => true

/-- The code of DEV_STATE (R334); DORMANT has none. -/
def DevState.code : DevState → Nat
  | .dormant => 0 | .proving => 1 | .boot => 2 | .loading => 3 | .standby => 4 | .running => 5 | .holding => 6 | .service => 7

/-- The DEV_STATE register (R334). -/
def State.devWord (s : State) : Nat := at_ s.dev.st.code 60

/-- The holder code of a port (R352). -/
def holderCode : Option Side → Nat
  | none => 0
  | some .A => 1
  | some .B => 2

/-- The TOKEN register (R352). -/
def State.tokenWord (s : State) : Nat :=
  at_ (holderCode s.token.holder) 62 + at_ (holderCode s.token.last) 60 + s.token.left % 2 ^ 32

/-- First queue of a port's pool: its admin command ring (R337). -/
def poolBase (p : Side) : Nat := 4096 * p.ix
/-- The port whose pool holds a queue (R337). -/
def poolOf (q : Nat) : Option Side := if q < 4096 then some .A else if q < 8192 then some .B else none

/-- TYPE of a ring (R338): 0 command, 1 completion, 2 stream. -/
def Queue.type (q : Queue) : Nat := fld q.d0 71 70
/-- Entries of a ring. -/
def Queue.size (q : Queue) : Nat := 2 ^ fld q.d0 69 65
/-- Bytes of an entry (R338). -/
def Queue.esize (q : Queue) : Nat := 64 * 4 ^ fld q.d0 64 63
/-- The completion ring of a command ring (R338). -/
def Queue.cq (q : Queue) : Nat := fld q.d1 71 57
/-- Entries outstanding: producer index less consumer index, modulo 2^32 (R339). -/
def Queue.used (q : Queue) : Nat := (q.prod - q.cons).toNat
/-- Free entries. -/
def Queue.free (q : Queue) : Nat := q.size - q.used
/-- The phase bit of the entry at the producer index (R339). -/
def Queue.phase (q : Queue) : Bool := decide (q.prod.toNat / q.size % 2 = 0)

/-- Write an entry into a ring that the device produces into. -/
def Queue.push (q : Queue) (ws : List Word) : Queue := { q with prod := q.prod + 1, written := q.written + 1, last := ws }

/-- PORT_LINK_UP (R331): its event (R363). -/
def execPortLinkUp (p : Side) (gen width : Nat) (s : State) : Res :=
  done ((s.updPort p fun x => { x with link := true, gen := gen, width := width }).post 0x0701 (nPort p) 0 0)

/-- The command rings of a port's pool drop their unfetched entries (R334, R353). -/
def State.discardRings (s : State) (p : Side) : State :=
  { s with queue := s.queue.map fun (e : Nat × Queue) =>
      if poolOf e.1 = some p ∧ e.2.live ∧ e.2.type = 0 then (e.1, { e.2 with cons := e.2.prod }) else e }

/-- The open session of a port or of the service port. -/
def State.sessionOf (s : State) (port : Option Side) : Option Session :=
  match port with
  | some d => (s.portOf d).session
  | none => s.svc.session

/-- Put a session, or none, at a port. -/
def State.withSession (s : State) (port : Option Side) (x : Option Session) : State :=
  match port with
  | some d => s.updPort d fun y => { y with session := x }
  | none => { s with svc := { s.svc with session := x } }

/-- The node of a session's events: its port; the service port counts under Port 1 (R478). -/
def sessNode (port : Option Side) : Node := nPort (port.getD .A)

/-- A session ends (R426), with its event; DETAIL is its identity (R363). -/
def State.sessionEnd (s : State) (port : Option Side) : State :=
  match s.sessionOf port with
  | none => s
  | some x => (s.withSession port none).post 0x0705 (sessNode port) 0 (x.id.toNat % 2 ^ 28)

/-- PORT_LINK_DOWN (R353, R426): rings stop, replies are dropped and counted, the session ends; the token and the
semaphores are released at the next capture. -/
def execPortLinkDown (p : Side) (s : State) : Res :=
  let s1 := s.sessionEnd (some p)
  done (((s1.discardRings p).updPort p fun x => { x with
    link := false, resetPend := true, dropped := x.dropped + x.replies.length, replies := [], session := none }).post 0x0701
    (nPort p) 1 0)

/-- A logic input powers the device, or the device runs. -/
def State.powered (s : State) : Bool :=
  match s.dev.st with
  | .dormant => s.power.la.st = .inRange || s.power.lb.st = .inRange
  | _ => true

/-- A stop word is well-formed (R357). -/
def stopOk (w : BitVec 64) (size : Nat) : Bool :=
  size = 8 && fld w 63 48 = 0x5A0F && fld w 31 0 = 2 ^ 32 - 1 - fld w 63 32

/-- A group is configured (R246). -/
def State.groupUsed (s : State) (g : Nat) : Bool := s.fns.any fun f => s.fGroup f = g

/-- The DOOR signals of a stop word's index (R165). -/
def State.doorsOf (s : State) (g : Nat) : List Nat :=
  if s.groupUsed g then [fld (s.gmap g) 71 67] else List.range 32

/-- A stop demand is registered on a side for a DOOR signal (R165). -/
def Half.ring (h : Half) (port : Side) (frame d : Nat) : Half :=
  { h with
    door := setBit h.door d true
    doorAt := Tab.set 0 h.doorAt d frame
    doorBy := if bit h.door d then h.doorBy else Tab.set 0 h.doorBy d (port.ix + 1) }

/-- A write to STOP.WORD (R356–R358) with its event; malformed words are counted for the frame's event (R363). -/
def State.stopWrite (s : State) (p : Side) (w : BitVec 64) (size : Nat) (onVc0 : Bool) : State :=
  if !s.powered then s
  else if stopOk w size then
    let s1 := s.updPort p fun x => { x with
      taken := satInc x.taken, vc0 := if onVc0 then satInc x.vc0 else x.vc0 }
    let s2 := s1.updHalf p fun h => (s.doorsOf (fld w 47 32)).foldl (fun (k : Half) d => k.ring p s.clock.nextCapture d) h
    match s.dev.st with
    | .dormant => s2
    | _ => s2.post 0x0702 (nPort p) 4 (fld w 47 32)
  else s.updPort p fun x => { x with bad := satInc x.bad, badFrame := x.badFrame + 1 }

/-- STOP_WORD (R356–R358). -/
def execStopWord (p : Side) (w : BitVec 64) (size : Nat) (onVc0 : Bool) (s : State) : Res :=
  settled (s.stopWrite p w size onVc0)

/-- VC1_TLP_DISCARD (R332). -/
def execVc1TlpDiscard (p : Side) (nonPosted : Bool) (s : State) : Res :=
  let s1 := s.ignored p
  done (if nonPosted then s1.updPort p fun x => { x with urCount := x.urCount + 1 } else s1)

/-- A write of a non-zero reserved field is counted (R8). -/
def State.countRsv (s : State) (p : Side) (v : Nat) : State := if v = 0 then s else s.ignored p

/-- A register write reaches the port's registers only in the states in which it answers (R402). -/
def State.atRegs (s : State) (f : State → State) : State := if s.dev.st.answers then f s else s

/-- A write to SEM.REQ (R352). -/
def State.semReqWrite (s : State) (p : Side) (w : BitVec 64) : State :=
  (s.countRsv p (fld w 63 16)).updPort p fun x => { x with semReq := x.semReq ||| w.setWidth 16 }
/-- A write to SEM.REL (R352). -/
def State.semRelWrite (s : State) (p : Side) (w : BitVec 64) : State :=
  (s.countRsv p (fld w 63 16)).updPort p fun x => { x with semRel := x.semRel ||| w.setWidth 16 }

/-- SEM_REQ (R352): decided at the next capture. -/
def execSemReq (p : Side) (w : BitVec 64) (s : State) : Res := done (s.atRegs fun x => x.semReqWrite p w)
/-- SEM_REL (R352): decided at the next capture. -/
def execSemRel (p : Side) (w : BitVec 64) (s : State) : Res := done (s.atRegs fun x => x.semRelWrite p w)

/-- The ADM_CTL register without its reserved fields (R334). -/
def admFields (w : BitVec 64) : BitVec 64 := w &&& (0x8000FFFC000007FF#64)

/-- The admin command and completion rings as their registers describe them (R334, R338). -/
def admRings (x : Port) (base : Nat) (w : BitVec 64) : Queue × Queue :=
  ({ live := true,
     d0 := BitVec.ofNat 72 (at_ (fld w 47 43) 65 + at_ (fld w 42 41) 63 + at_ (fld x.cmdBase 63 12) 11)
     d1 := BitVec.ofNat 72 (at_ (base + 1) 57) },
   { live := true,
     d0 := BitVec.ofNat 72 (at_ 1 70 + at_ (fld w 40 36) 65 + at_ (fld w 35 34) 63 + at_ (fld x.cplBase 63 12) 11)
     d1 := BitVec.ofNat 72 (at_ (fld w 10 0) 46) })

/-- A ring size code is defined (R334, R338). -/
def sizeOk (n : Nat) : Bool := 4 ≤ n && n ≤ 16

/-- A write to ADM_CTL (R334; log entry 45). -/
def State.admWrite (s : State) (p : Side) (w : BitVec 64) : State :=
  let s0 := s.countRsv p (fld w 62 48 + fld w 33 11)
  let v := admFields w
  let x := s.portOf p
  let rest (y : BitVec 64) : BitVec 64 := setBit y 63 false
  let base := poolBase p
  if bit x.admCtl 63 then
    if rest v ≠ rest x.admCtl then s0.ignored p
    else if bit v 63 then s0
    else ((s0.updPort p fun y => { y with admCtl := v }).updQueue base fun _ => {}).updQueue (base + 1) fun _ => {}
  else if bit v 63 ∧ !(sizeOk (fld v 47 43) && sizeOk (fld v 40 36)) then
    (s0.updPort p fun y => { y with admCtl := rest v }).ignored p
  else
    let s1 := s0.updPort p fun y => { y with admCtl := v }
    if bit v 63 then
      let r := admRings x base v
      (s1.updQueue base fun _ => r.1).updQueue (base + 1) fun _ => r.2
    else s1

/-- ADM_CTL_WRITE (R334). -/
def execAdmCtlWrite (p : Side) (w : BitVec 64) (s : State) : Res := done (s.atRegs fun x => x.admWrite p w)

/-- An index write is accepted (R339): the ring is a live host ring of the port of a TYPE that takes this index, the index
does not move backwards, and no more than the ring's size is outstanding. -/
def State.indexOk (s : State) (p : Side) (q : Nat) (prod : Bool) (v : BitVec 32) : Bool :=
  let x := s.queueOf q
  poolOf q = some p && x.live &&
  (if prod then x.type = 0 && x.used ≤ (v - x.cons).toNat && (v - x.cons).toNat ≤ x.size
   else (x.type = 1 || x.type = 2) && (v - x.cons).toNat ≤ x.used)

/-- A write to PROD (R339; log entry 45). -/
def State.prodWrite (s : State) (p : Side) (q : Nat) (w : BitVec 64) : State :=
  let s0 := s.countRsv p (fld w 63 32)
  if s.indexOk p q true (w.setWidth 32) then s0.updQueue q fun x => { x with prod := w.setWidth 32 } else s0.ignored p

/-- QUEUE_PROD_WRITE (R339). -/
def execQueueProdWrite (p : Side) (q : QueueIx) (w : BitVec 64) (s : State) : Res :=
  done (s.atRegs fun x => x.prodWrite p q.val w)

/-- The stream queues bound to a ring (R337). -/
def State.boundTo (s : State) (r : Nat) : List Nat :=
  (s.queue.filter fun (e : Nat × Queue) => e.2.bind = some r).map Prod.fst

/-- A stream's own node (R382): the terminal of a channel stream, the connection of a network queue, else the device. -/
def streamNode (q : Nat) : Node :=
  if 8192 ≤ q ∧ q < 20480 then nTerm ((q - 8192) / 32)
  else if 20480 ≤ q ∧ q < 28672 then nConn (q - 20480) 0
  else nDevice

/-- The port that owns the ring of a stream (R332, R478). -/
def State.ringPort (s : State) (q : Nat) : Side := (((s.queueOf q).bind).bind poolOf).getD .A

/-- The entries that a stream holds back: its roots, then a SUMMARY per counted code, and the count of roots beyond the
backlog (R363, R382, R478). -/
def State.heldEntries (s : State) (q : Nat) : List Event :=
  let x := s.queueOf q
  x.backlog ++ x.counts.map fun (c : Nat × Nat) =>
    if c.1 = 0x0B01 then ⟨s.timeWord, c.1, nPort (s.ringPort q), 1, Nat.min c.2 (2 ^ 28 - 1)⟩
    else ⟨s.timeWord, c.1, streamNode q, 7, Nat.min c.2 (2 ^ 28 - 1)⟩

/-- Count a record of a stream under its code, for up to 16 codes, the rest under 0x0B02 (R380, R382). -/
def countHeld (code : Nat) (cs : List (Nat × Nat)) : List (Nat × Nat) :=
  let own := cs.filter fun c => c.1 ≠ 0x0B01 && c.1 ≠ 0x0B02
  if own.any (fun c => c.1 = code) ∨ own.length < 16 then countDrop code cs else countDrop 0x0B02 cs

/-- Half of the ring is free again: the entries held back are written while entries remain (R382). -/
def State.streamSummary (s : State) (q r : Nat) : State :=
  let x := s.queueOf r
  let held := s.heldEntries q
  if !x.live ∨ x.free * 2 < x.size ∨ held = [] then s
  else
    (s.updQueue r fun y => held.foldl (fun (z : Queue) (e : Event) => if z.free = 0 then z else z.push [e.time, e.word1]) y).updQueue q
      fun y => { y with backlog := y.backlog.drop x.free, counts := y.counts.drop (x.free - y.backlog.length) }

/-- A write to CONS (R339; log entry 45). -/
def State.consWrite (s : State) (p : Side) (q : Nat) (w : BitVec 64) : State :=
  let s0 := s.countRsv p (fld w 63 32)
  if s.indexOk p q false (w.setWidth 32) then
    let s1 := s0.updQueue q fun x => { x with cons := w.setWidth 32 }
    s1.forEach (s1.boundTo q) fun z k => z.streamSummary k q
  else s0.ignored p

/-- QUEUE_CONS_WRITE (R339, R382). -/
def execQueueConsWrite (p : Side) (q : QueueIx) (w : BitVec 64) (s : State) : Res :=
  done (s.atRegs fun x => x.consWrite p q.val w)

/-- The FRAME_STAT register (R40). -/
def FrameStat.word (f : FrameStat) : BitVec 64 :=
  BitVec.ofNat 64 (at_ f.frameNo.toNat 32 + at_ f.ovr.toNat 16 + at_ f.skew.toNat 8 + at_ (b2n f.imgLate) 1 + b2n f.alignWarn)

/-- FRAME_STAT_READ (R6, R40): the register's value is returned, and OVR_COUNT is cleared. -/
def execFrameStatRead (p : Side) (s : State) : Res :=
  done (s.atRegs fun x => (x.updPort p fun y => { y with rdata := (x.fstOf p).word }).updFst p fun f => { f with ovr := 0 })

/-- A write to FRAME_STAT (R6, R40). -/
def State.fstWrite (s : State) (p : Side) (w : BitVec 64) : State :=
  (s.countRsv p (fld w 7 2)).updFst p fun f => { f with
    imgLate := f.imgLate && !bit w 1, alignWarn := f.alignWarn && !bit w 0 }

/-- FRAME_STAT_CLEAR (R6, R40). -/
def execFrameStatClear (p : Side) (w : BitVec 64) (s : State) : Res := done (s.atRegs fun x => x.fstWrite p w)

/-- CNT_READ (R6, R334): the register's value is returned, and it is cleared. -/
def execCntRead (p : Side) (s : State) : Res :=
  done (s.atRegs fun x => x.updPort p fun y => { y with rdata := y.cnt, cnt := 0 })

/-- A write to ADM_CMD_BASE or ADM_CPL_BASE (R334): bits [11:0] are reserved; the admin rings' fields stand while EN = 1
(log entry 45). -/
def State.baseWrite (s : State) (p : Side) (cmd : Bool) (v : BitVec 64) : State :=
  let x := s.portOf p
  let new : BitVec 64 := putFld v 11 0 0
  let s0 := s.countRsv p (fld v 11 0)
  let old := if cmd then x.cmdBase else x.cplBase
  if bit x.admCtl 63 ∧ new ≠ old then s0.ignored p
  else s0.updPort p fun y => if cmd then { y with cmdBase := new } else { y with cplBase := new }

/-- The registers of BAR0 that only report: a write is ignored, and counted when it is non-zero in a reserved field
(R6, R8). None for an offset without a register. -/
def roReserved (o : Nat) : Option (List (Nat × Nat)) :=
  if o = 0x000000 then some [(31, 0)]
  else if o = 0x000008 then some []
  else if o = 0x000010 then some [(59, 0)]
  else if o = 0x000118 then some []
  else if o = 0x000300 then some [(24, 0)]
  else if o = 0x000308 then some []
  else if o = 0x010000 then some [(59, 32)]
  else if o = 0x010008 then some [(63, 32)]
  else if o = 0x010020 then some [(63, 32)]
  else if o = 0x020008 ∨ o = 0x020010 ∨ o = 0x020018 then some []
  else none

/-- A write to a BAR0 offset (R333): the register's own effect, or ignored and counted. -/
def State.barWrite (s : State) (p : Side) (w : BarWrite) : State :=
  let o := w.offset.toNat
  if o = 0x020000 then s.stopWrite p w.value w.size true
  else if !s.dev.st.answers then s
  else if 0x400000 ≤ o ∧ o < 0x800000 then s
  else if w.size ≠ 8 ∨ o % 8 ≠ 0 then s.ignored p
  else if 0x100000 ≤ o ∧ o < 0x300000 then
    let q := (o - 0x100000) / 64
    if o % 64 = 0 then s.prodWrite p q w.value
    else if o % 64 = 8 then s.consWrite p q w.value
    else s.ignored p
  else if o = 0x000100 then s.baseWrite p true w.value
  else if o = 0x000108 then s.baseWrite p false w.value
  else if o = 0x000110 then s.admWrite p w.value
  else if o = 0x000200 then s.fstWrite p w.value
  else if o = 0x010010 then s.semReqWrite p w.value
  else if o = 0x010018 then s.semRelWrite p w.value
  else
    match roReserved o with
    | some rs => s.countRsv p ((rs.map fun (r : Nat × Nat) => fld w.value r.1 r.2).foldl (· + ·) 0)
    | none => s.ignored p

/-- REGISTER_WRITE (R333). -/
def execRegisterWrite (p : Side) (w : BarWrite) (s : State) : Res := settled (s.barWrite p w)

/-- The fetch budget of a port in bytes and packets (R340); the defaults without a package. -/
def State.budget (s : State) : Nat × Nat :=
  let w := s.cw cHCFG 0 0
  if w = 0 then (8192, 32) else (fld w 71 56, fld w 55 49)

/-- Little-endian field of a packet: k bytes at an offset (R344). -/
def pktFld (bs : List Byte) (o k : Nat) : Nat := ofLe ((bs.drop o).take k)

/-- Check 1 of R346: the total length. -/
def lengthOk (bs : List Byte) (esize : Nat) : Bool :=
  let l := pktFld bs 2 2
  32 ≤ l && l ≤ 4096 && l % 16 = 0 && l ≤ esize && l ≤ bs.length

/-- Check 2 of R346: the CRC, over the whole packet with its field zero (R344). -/
def crcOk (bs : List Byte) : Bool :=
  let p := bs.take (pktFld bs 2 2)
  pktFld bs 28 4 = (crc32c (p.take 28 ++ [0, 0, 0, 0] ++ p.drop 32)).toNat

/-- A refusal is counted by status (R354 PORT_STATUS). -/
def State.countReject (s : State) (port : Option Side) (status : Nat) : State :=
  match port with
  | some d => if 0x0100 ≤ status then s.updPort d fun x => { x with rejected := Tab.upd 0 x.rejected status (· + 1) } else s
  | none => s

/-- The depot's own reply to a packet that fails check 1 or 2 (R346); it belongs to no frame (R347). -/
def State.depotReply (s : State) (port : Option Side) (q : Nat) (bs : List Byte) (status offset : Nat) : State :=
  (s.addReply ⟨port, q, pktFld bs 0 1, BitVec.ofNat 32 (pktFld bs 4 4), status, offset, 0, []⟩).countReject port status

/-- The packets that have entered by a port since the last capture; Port 1's with the service port's (R449). -/
def State.fetchedN (s : State) (p : Side) : Nat :=
  (s.portOf p).fetched.length + (match p with | .A => s.svc.fetched.length | .B => 0)

/-- A command ring of a port has work, and room in its completion ring (R341, R342). -/
def State.hasWork (s : State) (p : Side) (q : Nat) : Bool :=
  let k := s.queueOf q
  let c := s.queueOf k.cq
  poolOf q = some p && k.live && k.type = 0 && k.used ≠ 0 && (c.live && (s.portOf p).replies.length < c.free)

/-- The ring that the round robin serves next (R341): the one with work that follows the last served, or the first one. -/
def State.nextRing (s : State) (p : Side) : Option Nat :=
  let l := (s.queue.map Prod.fst).filter (s.hasWork p)
  let later (q : Nat) : Bool := match (s.portOf p).served with | none => true | some k => decide (k < q)
  match l.find? later with
  | some q => some q
  | none => l.head?

/-- The port fetches from command ring q now (R341, R342): it is the ring's turn. -/
def State.ringTurn (s : State) (p : Side) (q : Nat) : Bool :=
  s.dev.st.answers && (s.portOf p).link && !(s.portOf p).stopped && s.nextRing p = some q

/-- A packet of n bytes fits the budget that the frame leaves (R340, R46). -/
def State.inBudget (s : State) (p : Side) (n : Nat) : Bool :=
  let x := s.portOf p
  let b := s.budget
  x.fetchB + n ≤ b.1 && s.fetchedN p + x.carried + 1 ≤ b.2

/-- PACKET_FETCH (R341, R344, R346): from the ring whose turn it is; one beyond the budget stops the frame's fetching; checks 1 and
2, and the packet waits for the next capture. -/
def execPacketFetch (p : Side) (q : QueueIx) (bytes : List Byte) (s : State) : Res :=
  let n := pktFld bytes 2 2
  if !s.ringTurn p q.val then done s
  else if !s.inBudget p n then done (s.updPort p fun x => { x with stopped := true })
  else
    let s1 := (s.updQueue q.val fun k => { k with cons := k.cons + 1 }).updPort p fun x =>
      { x with fetchB := x.fetchB + n, served := some q.val }
    if !lengthOk bytes (s.queueOf q.val).esize then done (s1.depotReply (some p) q.val bytes stLENGTH 2)
    else if !crcOk bytes then done (s1.depotReply (some p) q.val bytes stCHECK 28)
    else done (s1.updPort p fun x => { x with fetched := x.fetched ++ [{ port := some p, queue := q.val, bytes := bytes.take n }] })

/-- A reply as its completion ring holds it (R347): header words with the ring's sequence and phase, then the slots. -/
def Reply.words (r : Reply) (seq : BitVec 32) (phase : Bool) : List Word :=
  let n := 32 + 16 * r.slots.length
  let head : List Byte := [BitVec.ofNat 8 r.opcode, 1] ++ leBytes 2 n ++ leBytes 4 r.tag.toNat ++ leBytes 2 r.status ++
    leBytes 2 r.offset ++ leBytes 4 seq.toNat ++ leBytes 4 r.frame.toNat ++ leBytes 2 r.queue ++ [BitVec.ofNat 8 (b2n phase)] ++
    List.replicate 5 0
  let body := (r.slots.map fun (x : Slot16) => leBytes 16 x.toNat).flatten
  let all := head ++ leBytes 4 (crc32c (head ++ [0, 0, 0, 0] ++ body)).toNat ++ body
  (List.range ((all.length + 8) / 9)).map fun k => BitVec.ofNat 72 (ofLe ((all.drop (9 * k)).take 9))

/-- The commit that starts the next frame has passed since the frame of a reply (R342); a depot reply belongs to none (R347). -/
def State.replyDue (s : State) (r : Reply) : Bool :=
  r.frame = 0 || (r.frame ≠ BitVec.ofNat 32 s.clock.frame.toNat && (s.clock.committed || s.clock.tick ≠ 0 ||
    r.frame ≠ BitVec.ofNat 32 (s.clock.frame.toNat - 1)))

/-- REPLY_WRITE (R342, R347): the oldest reply of a port goes into its completion ring once its frame's outputs have been committed; a
reply that finds the ring full waits; one whose completion ring is gone is dropped and counted (log entry 68). -/
def execReplyWrite (p : Side) (s : State) : Res :=
  match (s.portOf p).replies with
  | [] => done s
  | r :: rest =>
    let c := (s.queueOf r.queue).cq
    let x := s.queueOf c
    if (s.portOf p).link ∧ !(x.live && x.type = 1) then
      done (s.updPort p fun y => { y with replies := rest, dropped := y.dropped + 1 })
    else if !(s.portOf p).link ∨ x.free = 0 ∨ !s.replyDue r then done s
    else
      done ((s.updPort p fun y => { y with replies := rest }).updQueue c fun y =>
        { (y.push (r.words y.seq y.phase)) with seq := y.seq + 1 })

/-- An event stream: kind 0 of a channel stream (R337). -/
def isEventStream (q : Nat) : Bool := 8192 ≤ q && q < 20480 && q % 32 = 0

/-- An event record from its two words (R360). -/
def eventOf (ws : List Word) : Event :=
  let w := ws.getD 1 0
  ⟨ws.getD 0 0, fld w 71 56, ⟨fld w 55 51, fld w 50 32⟩, fld w 31 28, fld w 27 0⟩

/-- An event record reaches an event stream's ring (R382): with fewer than one eighth free, and until half is free again, only
roots are written (log entry 78). -/
def State.streamEvent (s : State) (q r : Nat) (ws : List Word) : State :=
  let s1 := (s.streamSummary q r).updQueue q fun y => { y with words := y.words.drop ws.length }
  let x := s1.queueOf r
  let e := eventOf ws
  if x.size ≤ x.free * 8 ∧ s1.heldEntries q = [] then s1.updQueue r fun y => y.push ws
  else if !e.isRoot then s1.updQueue q fun y => { y with counts := countHeld e.code y.counts }
  else if x.free ≠ 0 then s1.updQueue r fun y => y.push ws
  else s1.updQueue q fun y =>
    if y.backlog.length < 64 then { y with backlog := y.backlog ++ [e] }
    else { y with counts := countDrop 0x0B01 y.counts }

/-- A measurement or network record reaches a stream ring (R343): counted while the ring is full; the first record after
carries the count in its word 1. -/
def State.streamData (s : State) (q r : Nat) (ws : List Word) : State :=
  let lost := (s.queueOf q).lost
  if (s.queueOf r).free = 0 then s.updQueue q fun y => { y with lost := y.lost + 1, words := y.words.drop ws.length }
  else
    let rec_ := if lost = 0 then ws else ws.set 1 (putFld (ws.getD 1 0) 71 64 (Nat.min lost 255))
    (s.updQueue r fun y => y.push rec_).updQueue q fun y => { y with lost := 0, words := y.words.drop ws.length }

/-- The words of a record come from the queue itself (R79, R325, R337): the next ones that wait. The record of every tick (k = 2) is
what the row brings. -/
def State.recordWaits (s : State) (q : Nat) (ws : List Word) : Bool :=
  (8192 ≤ q && q < 20480 && q % 32 = 2) || (ws ≠ [] && (s.queueOf q).words.take ws.length = ws)

/-- STREAM_RECORD_WRITE (R343, R382): a record of a bound stream or network queue. -/
def execStreamRecordWrite (q : QueueIx) (words : List Word) (s : State) : Res :=
  match (s.queueOf q.val).bind with
  | none => done s
  | some r =>
    if !(s.queueOf r).live ∨ !s.recordWaits q.val words then done s
    else if isEventStream q.val then done (s.streamEvent q.val r words)
    else done (s.streamData q.val r words)

/-- FSTAT.TERM (R248): the terminal of the cause; of a door chain in RUN, its open contact (R264, log entry 75). -/
def State.fstatTerm (s : State) (f : Nat) : Nat :=
  let x := s.fnOf f
  if s.tid f = 0x20 ∧ x.st = .run then
    (match Tab.get 0 x.vars 0 with | 0 => 0x1FF | v + 1 => v)
  else x.term

/-- FSTAT of an instance (R248). -/
def State.fstat (s : State) (f : Nat) : Word :=
  let x := s.fnOf f
  let armed := (s.armed.map fun (a : Armed) => a.fn) = some f
  BitVec.ofNat 72 (at_ x.st.code 68 + at_ (b2n x.comm) 67 + at_ (b2n x.dem) 66 + at_ (b2n x.pres) 65 + at_ (b2n armed) 64 +
    at_ x.cause.toNat 56 + at_ x.detail.toNat 48 + at_ (s.fstatTerm f) 39 + x.chgFrame.toNat)

/-- TSTAT of a terminal (R54): QUAL as the last capture took it. -/
def State.tstatWord (s : State) (t : Nat) : Word :=
  let x := s.termOf t
  BitVec.ofNat 72 (at_ x.tstat.fault.toNat 64 + at_ (b2n x.img.qual) 63 + at_ (b2n x.tstat.raw) 62 + at_ (b2n x.forced) 61 +
    at_ (b2n x.tstat.plug) 60 + at_ x.tstat.edges.toNat 32 + x.tstat.lastQual.toNat)

/-- The capture values of a terminal (R335). -/
def State.capWord (s : State) (t : Nat) : Word :=
  let a := (s.termOf t).ana
  BitVec.ofNat 72 (a.sample.toNat + at_ a.cnt.toNat 18)

/-- MSTAT0–MSTAT2 of a monitor (R297). -/
def State.mstat (s : State) (m : Nat) : List Word :=
  let x := s.monNow m
  let lim : Int := 2 ^ 35 - 1
  [BitVec.ofNat 72 (at_ x.sstate.toNat 68 + at_ x.mflt.toNat 64 + at_ x.lastDet.toNat 56 + at_ (b2n x.valid) 55 +
     at_ (b2n x.still) 54 + at_ (b2n x.mdir) 53 + at_ (b2n x.revarm) 52 + at_ x.tms.toNat 36 + x.v0 % 2 ^ 36),
   BitVec.ofInt 72 x.pos,
   BitVec.ofNat 72 (at_ (encInt 36 (satInt (-lim) lim x.va)) 36 + encInt 36 (satInt (-lim) lim x.vb))]

/-- The code of a slot state (R197). -/
def SlotState.code : SlotState → Nat
  | .none => 0 | .locked => 1 | .split => 2 | .shadow => 3 | .testing => 4 | .retired => 5

/-- The transients of a coach in the last 24 h, as PAIR_STAT shows them (R196). -/
def State.transShown (s : State) (i : Nat) : Nat := Nat.min 2 (s.transCount (nCoach i) tcCoach)

/-- PAIR_STAT of a slot (R196). -/
def State.pairStat (s : State) (p : Nat) : Word :=
  let x := s.slotOf p
  BitVec.ofNat 72 (at_ x.st.code 68 + at_ (x.cause % 16) 64 + at_ x.mapA 58 + at_ x.mapB 52 +
    at_ (s.transShown (s.slotCoach .A p)) 50 + at_ (s.transShown (s.slotCoach .B p)) 48 + at_ (b2n (s.hosts p)) 47 +
    at_ x.shadowOk 36 + x.lastCpl.toNat)

/-- LSTAT of a connection (R322). -/
def State.lstat (s : State) (c : Nat) : Word :=
  let k := s.connOf c
  BitVec.ofNat 72 (at_ k.st.code 68 + at_ k.epoch.toNat 52 + at_ k.seq.toNat 4 + at_ (b2n k.stopRx) 3)

/-- The eight cells of a connection's received DATA (R335); zero unless R325 admits the data. -/
def State.dataCells (s : State) (c : Nat) : List Word :=
  let k := s.connOf c
  (List.range 8).map fun j => if k.st.up then BitVec.ofNat 72 (fld k.data (Nat.min (72 * j + 71) 511) (72 * j)) else 0

/-- Cells at rising cell numbers: n words from a first one. -/
def cells (first n : Nat) (f : Nat → Word) : List (Nat × Word) := (List.range n).map fun i => (first + i, f i)

/-- The process image, by cell number offset / 16 (R335); an unlisted cell reads zero. -/
def State.processImage (s : State) : Tab Word :=
  let head : Word := BitVec.ofNat 72 (s.clock.frame.toNat - 1)
  (([(0x40000, head), (0x40001, BitVec.ofNat 72 s.devWord)] ++
    cells 0x40100 4096 s.fstat ++
    cells 0x41100 384 s.tstatWord ++ cells 0x41300 384 s.capWord ++
    cells 0x41500 192 (fun j => (s.mstat (j / 3)).getD (j % 3) 0) ++ cells 0x41600 48 s.pairStat ++
    cells 0x41700 64 (fun j => (Tab.get (0 : BitVec 64) s.pd j).setWidth 72) ++
    (s.conn.map fun (e : Nat × Conn) => (0x42000 + e.1, s.lstat e.1)) ++
    ((s.conn.map fun (e : Nat × Conn) => cells (0x44000 + 8 * e.1) 8 fun j => (s.dataCells e.1).getD j 0).flatten) ++
    [(0x7FFFF, head)]).filter fun (e : Nat × Word) => e.2 ≠ 0)

/-- The commits from one refresh of the process image to the next (R336). -/
def State.imageEvery (s : State) : Nat := if s.clock.fl = 0 then 1 else (39 + s.clock.fl) / s.clock.fl

/-- After a commit the image of the committed frame stands for the sides' refreshes; for short frames every so-manieth (R336). -/
def State.newImage (s : State) : State :=
  if s.clock.frame.toNat % s.imageEvery = 0 then { s with pimgNew := s.processImage } else s

/-- PROCESS_IMAGE_REFRESH (R336): the side's region takes the image of the last committed frame. -/
def execProcessImageRefresh (p : Side) (s : State) : Res :=
  done { s with pimg := s.pimg.set s.pimgNew p }

/-- Commissioning mode of an instance ends (R258, R266): ARMED and RUN return to LOCKED, and a ledger page is written. -/
def State.leaveComm (s : State) (f : Nat) : State :=
  if !(s.fnOf f).comm then s
  else
    let old := (s.fnOf f).st
    let s1 := s.updFn f fun x => { x with comm := false }
    let s2 := match old with
      | .armed | .run => s1.setFn f .locked 0 0 0x1FF
      | _ => s1
    s2.ledgerAdd 0x08 f noChan 0 0 old.code (s2.fnOf f).st.code

/-- What the release of the token brings with it (R353): staging that has not verified is discarded, commissioning ends, an
armed remote reset is void; its event (R363). -/
def State.tokenFreed (s : State) : State :=
  let drop (o : Option Staging) : Option Staging := match o with
    | none => none
    | some g => if g.ended then some g else none
  let s1 := { s with
    token := { s.token with holder := none, left := 0 }
    dev := { s.dev with cfgStage := drop s.dev.cfgStage, fwStage := drop s.dev.fwStage }
    armed := none }
  let s2 := match s.token.holder with
    | none => s1
    | some d => s1.post 0x0704 (nPort d) 0 (d.ix + 1)
  s2.forEach s2.fns State.leaveComm

/-- TOKEN_LEASE_EXPIRY (R350, R353): the lease has run out; the token is released at the capture. -/
def execTokenLeaseExpiry (s : State) : Res :=
  if s.token.holder.isSome ∧ s.token.left = 0 then done (s.toTick 0).tokenFreed else done s

/-- The session of a port has lasted its 3,600 s (R426). -/
def State.sessionOver (s : State) (port : Option Side) : Bool :=
  match s.sessionOf port with
  | none => false
  | some x => decide (x.opened + 3600000000 ≤ s.clock.count)

/-- SESSION_EXPIRY (R426): 3,600 s after it opened. -/
def execSessionExpiry (port : Option Side) (s : State) : Res :=
  if s.sessionOver port then done (s.sessionEnd port) else done s

/-- The opcode of a token command. -/
def TokKind.opcode : TokKind → Nat
  | .acquire _ => 0x08
  | .renew _ => 0x09
  | .release => 0x0A

/-- The reply of a token command (R350, R354). -/
def State.tokReply (s : State) (r : TokReq) (status : Nat) : State :=
  let slots : List Nat := match r.kind with
    | .release => []
    | _ => if status = stOK then [s.tokenWord] else []
  (s.addReply { (s.mkReply (some r.port) r.queue r.kind.opcode r.tag status slots) with offset := 0xFFFF }).countReject
    (some r.port) status

/-- A lease is granted, with its event, or renewed for a port (R350); DETAIL of 0x0704 is the port's number. -/
def State.lease (s : State) (p : Side) (ms : Nat) : State :=
  let s1 := { s with token := { s.token with holder := some p, last := some p, left := 1000 * ms } }
  if s.token.holder = some p then s1 else s1.post 0x0704 (nPort p) 0 (p.ix + 1)

/-- One token command in its step (R350). -/
def State.tokStep (s : State) (r : TokReq) : State :=
  let mine : Bool := decide (s.token.holder = some r.port)
  let refused (x : State) : State := x.tokReply r (if s.token.holder = none then stTOKEN else stOTHER)
  match r.kind with
  | .release => if mine then s.tokenFreed.tokReply r stOK else refused s
  | .renew ms => if mine then (let s1 := s.lease r.port ms; s1.tokReply r stOK) else refused s
  | .acquire ms =>
    if s.token.holder = none ∨ mine then (let s1 := s.lease r.port ms; s1.tokReply r stOK) else s.tokReply r stOTHER

/-- The port that wins a tie (R350, R352): the one that did not hold last, Port 1 before any has. -/
def tieWinner (last : Option Side) : Side := match last with | some d => d.other | none => .A

/-- Both ports ask. -/
def bothPorts (l : List TokReq) : Bool := (l.any fun r => r.port = .A) && l.any fun r => r.port = .B

/-- The token at a capture (R350, R353): expiry and lost ports, releases, renewals, acquisitions. -/
def State.decideToken (s : State) : State :=
  let gone : Bool := match s.token.holder with
    | none => false
    | some d => s.token.left = 0 || (s.portOf d).resetPend
  let s1 := if gone then s.tokenFreed else s
  let is (k : Nat) (r : TokReq) : Bool := r.kind.opcode = k
  let rs := s.token.reqs
  let s2 := { s1 with token := { s1.token with reqs := [] } }
  let s3 := (rs.filter (is 0x0A)).foldl State.tokStep s2
  let s4 := (rs.filter (is 0x09)).foldl State.tokStep s3
  let acq := rs.filter (is 0x08)
  let win := tieWinner s4.token.last
  let order := if s4.token.holder = none ∧ bothPorts acq then
      (acq.filter fun r => r.port = win) ++ acq.filter fun r => r.port ≠ win
    else acq
  order.foldl State.tokStep s4

/-- One semaphore at a capture (R352). -/
def State.decideSem (s : State) (k : Nat) : State :=
  let code := fld s.token.semStat (2 * k + 1) (2 * k)
  let lastC := fld s.token.semLast (2 * k + 1) (2 * k)
  let rel (d : Side) : Bool := code = d.ix + 1 && (bit (s.portOf d).semRel k || (s.portOf d).resetPend)
  let free : Bool := code = 0 || rel .A || rel .B
  let a := bit s.port.a.semReq k
  let b := bit s.port.b.semReq k
  let grant := if !free then code
    else if a && b then (if lastC = 1 then 2 else 1)
    else if a then 1 else if b then 2 else 0
  { s with token := { s.token with
      semStat := putFld s.token.semStat (2 * k + 1) (2 * k) grant
      semLast := if grant = 0 then s.token.semLast else putFld s.token.semLast (2 * k + 1) (2 * k) grant } }

/-- The semaphores at a capture, after the token (R352). -/
def State.decideSems (s : State) : State :=
  let s1 := s.forEach (List.range 16) State.decideSem
  let clear (x : Port) : Port := { x with semReq := 0, semRel := 0, resetPend := false }
  (s1.updPort .A clear).updPort .B clear

/-- The malformed stop words of the last frame are reported (R363 code 0x0703). -/
def State.badWords (s : State) (p : Side) : State :=
  let n := (s.portOf p).badFrame
  if n = 0 then s else (s.updPort p fun x => { x with badFrame := 0 }).post 0x0703 (nPort p) 1 n

/-- The packets that pair 0's overrun carries forward are charged to the budget of the next capture (R46, R340): Port 1's with
the service port's (R449). -/
def State.carryPackets (s : State) (p : Side) : State :=
  let l := (s.portOf p).image ++ (match p with | .A => s.svc.image | .B => [])
  s.updPort p fun x => { x with
    fetchB := x.fetchB + (l.map fun (k : Packet) => k.bytes.length).foldl (· + ·) 0, carried := l.length }

/-- The packets fetched on a port enter the image behind those carried forward (R46, R341), with the service port's behind
Port 1's (R449). -/
def State.takePackets (s : State) (p : Side) : State :=
  let s1 := s.updPort p fun x => { x with
    image := (x.image.map fun k => { k with old := true }) ++ x.fetched, fetched := []
    fetchB := 0, carried := 0, stopped := false }
  match p with
  | .A => { s1 with svc := { s1.svc with
      image := (s1.svc.image.map fun k => { k with old := true }) ++ s1.svc.fetched, fetched := [] } }
  | .B => s1

end Sys2Proof.Machine
end

