-- ==== Sys2Proof/Machine/Dispatcher.lean ====
section
/-! DEFINITION. The dispatcher's treatment of a command packet (R341, R344–R349, R351, R353, R406, R449): checks 3–12, the
expected sequence, the reply. What an opcode does is the caller's. -/

namespace Sys2Proof.Machine

/-- A parameter slot: a value of a field width with its least and greatest value (R345), or byte data. -/
abbrev SlotForm := Option (Nat × Nat × Nat)

/-- What R354 asks of an opcode's packet: checks 5, 7, 8, 9, 10 and 11 of R346. -/
structure Form where
  op       : Nat
  /-- the opcode needs the turn token -/
  token    : Bool
  countOk  : Bool
  slots    : List SlotForm
  targetOk : Bool
  /-- a slot whose value, within its own range, runs past the last object (check 11) -/
  far      : Option Nat := none
  defined  : Bool := true
  /-- the first offending byte of a reserved field within a slot (check 8) -/
  rsvAt    : Option Nat := none

/-- A parameter's value. -/
def pv (ps : List Slot16) (i : Nat) : Nat := (ps.getD i 0).toNat

/-- A form whose slots are all values. -/
def plain (op : Nat) (token : Bool) (ps : List Slot16) (slots : List (Nat × Nat × Nat)) (targetOk : Bool) : Form :=
  ⟨op, token, ps.length = slots.length, slots.map some, targetOk, none, true, none⟩

/-- The target index of an opcode that names no object (R344). -/
def noTarget (h : Hdr) : Bool := h.target = 0xFFFF
/-- The target index is below n. -/
def below (h : Hdr) (n : Nat) : Bool := h.target.toNat < n

/-- What an opcode answers at check 12 or after (R346, R349). -/
inductive Answer where
  /-- refused without effect, with an offset -/
  | refuse (status offset : Nat)
  /-- carried out, with a status and reply slots -/
  | reply (s : State) (status : Nat) (slots : List Nat)
  /-- ACCEPTED; the number of slots that the final reply will carry -/
  | accept (s : State) (final : Nat)
  /-- the reply is formed later, with the decision at the capture (R350) -/
  | later (s : State)

/-- Refused at check 12. -/
def refuse (status : Nat) : Answer := .refuse status 0xFFFF
/-- Done, with reply slots. -/
def ok (s : State) (slots : List Nat) : Answer := .reply s stOK slots

/-- Check 3: the first offending byte of version, reserved flags and zero bytes. -/
def headBad (h : Hdr) : Option Nat :=
  if h.ver ≠ 1 then some 1
  else if fld h.rsv 5 0 ≠ 0 then some 10
  else if h.rsv ≠ 0 then some 11
  else ((List.range 12).find? fun k => fld h.zeros (8 * k + 7) (8 * k) ≠ 0).map (16 + ·)

/-- Check 4: the sequence is not the ring's expected one; the service port has none (log entry 49). -/
def State.seqBad (s : State) (h : Hdr) : Bool :=
  match h.port with
  | some _ => h.seq ≠ (s.queueOf h.queue.val).seq
  | none => false

/-- A packet that passes check 4 advances the expected sequence (R346). -/
def State.advance (s : State) (h : Hdr) : State :=
  match h.port with
  | some _ => s.updQueue h.queue.val fun q => { q with seq := q.seq + 1 }
  | none => s

/-- Check 6, and the service port before a session (R346, R449). -/
def State.authBad (s : State) (h : Hdr) (op : Nat) : Bool :=
  (s.sessionOf h.port).isNone && !(op = 0xF0 || op = 0xF1) && (h.port.isNone || 0xF0 ≤ op)

/-- The first offending byte of a value slot (R345). -/
def slotBad (w : Nat) (v : Slot16) : Option Nat :=
  (List.range 16).find? fun k => v.toNat / 2 ^ w * 2 ^ w / 2 ^ (8 * k) % 256 ≠ 0

/-- Check 8 over the slots, from slot i on. -/
def encBad : Nat → List SlotForm → List Slot16 → Option Nat
  | i, f :: fs, v :: vs =>
    match f with
    | none => encBad (i + 1) fs vs
    | some (w, _, _) =>
      match slotBad w v with
      | some k => some (32 + 16 * i + k)
      | none => encBad (i + 1) fs vs
  | _, _, _ => none

/-- Check 11 over the slots, from slot i on. -/
def rangeBad : Nat → List SlotForm → List Slot16 → Option Nat
  | i, f :: fs, v :: vs =>
    match f with
    | none => rangeBad (i + 1) fs vs
    | some (_, lo, hi) => if v.toNat < lo ∨ hi < v.toNat then some (32 + 16 * i) else rangeBad (i + 1) fs vs
  | _, _, _ => none

/-- Check 10 (R351, R449): the status with which a packet fails, if it does. -/
def State.tokenBad (s : State) (h : Hdr) (f : Form) : Option Nat :=
  match h.port with
  | none => if h.token ∨ f.token ∨ (0x08 ≤ f.op ∧ f.op ≤ 0x0A) then some stTOKEN else none
  | some d =>
    if h.token then
      match s.token.holder with
      | none => some stTOKEN
      | some x => if x = d then none else some stOTHER
    else if f.token then some stTOKEN
    else none

/-- The opcodes that the boot responder carries out (R406). -/
def responds (op : Nat) : Bool :=
  [0x00, 0x01, 0x02, 0x03, 0x08, 0x09, 0x0A, 0x0B, 0x60, 0x61, 0x72, 0xB0, 0xB1, 0xB2, 0xB3, 0xB4, 0xC0, 0xC1, 0xF0, 0xF1,
    0xF2].contains op

/-- Checks 5–11 and the boot responder's refusal: status and offset of the first that fails. -/
def State.check (s : State) (h : Hdr) (ps : List Slot16) (f : Form) : Option (Nat × Nat) :=
  if !f.defined then some (stUNKNOWN, 0)
  else if s.authBad h f.op then some (stAUTH, 0)
  else if !f.countOk then some (stLENGTH, 2)
  else match encBad 0 f.slots ps with
    | some o => some (stRESERVED, o)
    | none =>
      match f.rsvAt with
      | some o => some (stRESERVED, o)
      | none =>
      if !f.targetOk then some (stRANGE, 8)
      else match s.tokenBad h f with
        | some st => some (st, 10)
        | none =>
          match rangeBad 0 f.slots ps with
          | some o => some (stRANGE, o)
          | none =>
            match f.far with
            | some i => some (stRANGE, 32 + 16 * i)
            | none => if s.dev.responder && !responds f.op then some (stCONFLICT, 0xFFFF) else none

/-- The port that a packet came from answers (R402, R449). -/
def State.portAnswers (s : State) (port : Option Side) : Bool :=
  match port with
  | some _ => s.dev.st.answers
  | none => s.svc.cable && !s.dev.responder &&
    (match s.dev.st with | .running => true | .standby => true | .holding => true | .service => true | _ => false)

/-- A packet in the image is the one that a command carries. -/
def Packet.is (k : Packet) (h : Hdr) (op : Nat) : Bool :=
  k.queue = h.queue.val && pktFld k.bytes 0 1 = op && pktFld k.bytes 4 4 = h.tag.toNat

/-- A packet of the image with this command's queue and tag. -/
def Packet.sent (k : Packet) (h : Hdr) : Bool := k.queue = h.queue.val && pktFld k.bytes 4 4 = h.tag.toNat

/-- The place of a packet in pair 0's order (R341, R46, R449): urgent ones first, within each step those carried forward, then by
port, which takes turns with the frame counter, the service port's behind Port 1's, then by ring. -/
def State.packetRank (s : State) (k : Packet) : Nat :=
  let first : Side := if s.clock.frame.toNat % 2 = 0 then .A else .B
  let urgent : Bool := pktFld k.bytes 10 2 / 2 % 2 = 1
  at_ (b2n !urgent) 22 + at_ (b2n !k.old) 21 + at_ (b2n (k.port.getD .A ≠ first)) 20 +
    (match k.port with | none => 32768 | some _ => k.queue % 32768)

/-- The packet that pair 0 carries out next (R341): of the least rank, the first fetched of equal ones. -/
def State.duePacket (s : State) : Option Packet :=
  ((s.portOf .A).image ++ s.svc.image ++ (s.portOf .B).image).foldl (fun (o : Option Packet) k => match o with
    | none => some k
    | some b => if s.packetRank k < s.packetRank b then some k else some b) none

/-- It is the command's turn (R341): its packet is the next one of the image, or is not among those that wait in it. -/
def State.inTurn (s : State) (h : Hdr) : Bool :=
  match s.duePacket with
  | none => true
  | some k => (k.port = h.port && k.sent h) || !((match h.port with | some d => (s.portOf d).image | none => s.svc.image).any fun x => x.sent h)

/-- Pair 0 carries the command out now: its port answers (R402), pair 0 completes the frame (R37, R46), and it is its turn (R341). -/
def State.serves (s : State) (h : Hdr) : Bool := s.portAnswers h.port && !s.clock.halt0 && s.inTurn h

/-- The packet leaves the image: it has been carried out (R46). A token packet is taken before the capture that decides it
(R350), from those that wait for it. -/
def State.unqueue (s : State) (h : Hdr) (op : Nat) : State :=
  match h.port with
  | some d => s.updPort d fun x =>
      if x.image.any fun k => k.is h op then { x with image := x.image.eraseP fun k => k.is h op }
      else { x with fetched := x.fetched.eraseP fun k => k.is h op }
  | none =>
      if s.svc.image.any fun k => k.is h op then { s with svc := { s.svc with image := s.svc.image.eraseP fun k => k.is h op } }
      else { s with svc := { s.svc with fetched := s.svc.fetched.eraseP fun k => k.is h op } }

/-- Form a reply with a status and an offset (R347); a refusal is counted. -/
def State.answer (s : State) (h : Hdr) (op status offset : Nat) (slots : List Nat) : State :=
  (s.addReply { (s.mkReply h.port h.queue.val op h.tag status slots) with offset := offset }).countReject h.port status

/-- Accepted commands of a port that are not yet final (R349). -/
def State.openOf (s : State) (port : Option Side) : Nat :=
  match port with
  | some d => (s.portOf d).open_
  | none => s.svc.opened

/-- Another accepted command. -/
def State.openMore (s : State) (port : Option Side) : State :=
  match port with
  | some d => s.updPort d fun x => { x with open_ := x.open_ + 1 }
  | none => { s with svc := { s.svc with opened := s.svc.opened + 1 } }

/-- A reply of n slots fits in the completion ring (R342). -/
def State.fits (s : State) (h : Hdr) (n : Nat) : Bool :=
  match h.port with
  | some _ =>
    let c := s.queueOf (s.queueOf h.queue.val).cq
    !c.live || 32 + 16 * n ≤ c.esize
  | none => true

/-- What an opcode's answer comes to (R342, R349). -/
def State.conclude (s : State) (h : Hdr) (op : Nat) (a : Answer) : State :=
  match a with
  | .refuse st o => s.answer h op st o []
  | .later t => t
  | .reply t st slots => if s.fits h slots.length then t.answer h op st 0xFFFF slots else s.answer h op stLENGTH 0xFFFF []
  | .accept t n =>
    if 16 ≤ s.openOf h.port then s.answer h op stBUSY 0xFFFF []
    else if s.fits h n then (t.answer h op stACCEPTED 0xFFFF []).openMore h.port
    else s.answer h op stLENGTH 0xFFFF []

/-- The dispatcher carries out a packet (R346): the checks in their order, then what the opcode does. -/
def State.serveNow (s : State) (h : Hdr) (ps : List Slot16) (f : Form) (act : State → Answer) : State :=
  let s0 := s.unqueue h f.op
  match headBad h with
  | some o => s0.answer h f.op stRESERVED o []
  | none =>
    if s0.seqBad h then s0.answer h f.op stCHECK 12 []
    else
      let s1 := s0.advance h
      match s1.check h ps f with
      | some (st, o) => s1.answer h f.op st o []
      | none => s1.conclude h f.op (act s1)

/-- The opcodes that R354 defines. -/
def definedOps : List Nat :=
  [0x00, 0x01, 0x02, 0x03, 0x08, 0x09, 0x0A, 0x0B, 0x10, 0x11, 0x12, 0x13, 0x14, 0x15, 0x16, 0x20, 0x21, 0x22, 0x23, 0x24,
    0x25, 0x30, 0x31, 0x40, 0x41, 0x42, 0x43, 0x44, 0x45, 0x46, 0x50, 0x51, 0x52, 0x53, 0x54, 0x60, 0x61, 0x62, 0x63, 0x64,
    0x65, 0x70, 0x71, 0x72, 0x80, 0x81, 0x82, 0x83, 0x84, 0x90, 0x91, 0x92, 0x93, 0xA0, 0xA1, 0xA2, 0xA3, 0xB0, 0xB1, 0xB2,
    0xB3, 0xB4, 0xC0, 0xC1, 0xC2, 0xF0, 0xF1, 0xF2]

/-- The header of a packet in the image (R344). -/
def Packet.hdr (k : Packet) : Hdr :=
  { port := k.port, queue := ⟨k.queue % 32768, Nat.mod_lt _ (by decide)⟩, tag := BitVec.ofNat 32 (pktFld k.bytes 4 4),
    target := BitVec.ofNat 16 (pktFld k.bytes 8 2), token := pktFld k.bytes 10 2 % 2 = 1,
    urgent := pktFld k.bytes 10 2 / 2 % 2 = 1, rsv := BitVec.ofNat 14 (pktFld k.bytes 10 2 / 4),
    zeros := BitVec.ofNat 96 (pktFld k.bytes 16 12), ver := BitVec.ofNat 8 (pktFld k.bytes 1 1),
    seq := BitVec.ofNat 32 (pktFld k.bytes 12 4) }

/-- A packet whose opcode the table does not define (R346, R354): UNKNOWN_OPCODE. -/
def State.unknownPacket (s : State) (k : Packet) : State :=
  if s.portAnswers k.port then
    s.serveNow k.hdr [] ⟨pktFld k.bytes 0 1, false, true, [], true, none, false, none⟩ fun _ => .refuse stUNKNOWN 0
  else s

/-- Answer the packets with an undefined opcode for as long as one is next in pair 0's order (R341, R354), at most n. -/
def State.passUnknown : Nat → State → State
  | 0, s => s
  | n + 1, s =>
    match s.duePacket with
    | none => s
    | some k => if definedOps.contains (pktFld k.bytes 0 1) then s else State.passUnknown n (s.unknownPacket k)

/-- Those that stand before the other packets of the image. -/
def State.unknownPackets (s : State) : State :=
  s.passUnknown ((s.portOf .A).image.length + s.svc.image.length + (s.portOf .B).image.length)

/-- A packet is carried out in its turn, in a frame that pair 0 can complete (R37, R46, R341): packets of undefined opcodes before it
are answered first; one whose turn it is not stays in the image. -/
def State.serve (s : State) (h : Hdr) (ps : List Slot16) (f : Form) (act : State → Answer) : State :=
  if s.serves h then s.serveNow h ps f act
  else
    let s1 := s.unknownPackets
    if !s.clock.halt0 && s1.serves h then s1.serveNow h ps f act else s

end Sys2Proof.Machine
end

