-- ==== Sys2Proof/Machine/Activation.lean ====
section
/-! DEFINITION. What a package or image activation does when it takes effect (R50, R168, R200, R257, R417, R419, R422,
R447). -/

namespace Sys2Proof.Machine

/-- The region of the active package, none without one (R419, R422). -/
def State.cfgRunning (s : State) : Option Side := (selectCommon (s.cfgOffers .A) (s.cfgOffers .B)).map Side.ofIx
/-- The region that CFG_STAGE_BEGIN writes: the one that is not active (R422). -/
def State.cfgSpare (s : State) : Side := match s.cfgRunning with | some r => r.other | none => .A
/-- The region that FW_STAGE_BEGIN writes: the one that is not running (R419). -/
def State.fwSpare (s : State) : Side := s.dev.running.other

/-- Change a configuration copy in a region, on both sides. -/
def State.updCfg (s : State) (r : Side) (f : CfgCopy → CfgCopy) : State :=
  let c := s.dev.cfg
  { s with dev := { s.dev with cfg := ⟨c.a.set (f (c.a.get r)) r, c.b.set (f (c.b.get r)) r⟩ } }
/-- Change a firmware image in a region, on both sides. -/
def State.updFw (s : State) (r : Side) (f : Image → Image) : State :=
  let c := s.dev.fw
  { s with dev := { s.dev with fw := ⟨c.a.set (f (c.a.get r)) r, c.b.set (f (c.b.get r)) r⟩ } }

/-- The package that is staged and verified, if any (R421, R422). -/
def State.cfgStaged (s : State) : Option Pkg :=
  let c := (s.dev.cfg.get .A).get s.cfgSpare
  if c.state = 1 ∧ c.valid then some c.pkg else none
/-- The image that is staged and verified, if any (R418, R419). -/
def State.fwStaged (s : State) : Option Image :=
  let c := (s.dev.fw.get .A).get s.fwSpare
  if c.state = 1 ∧ c.valid then some c else none

/-- ACT_SEQ of the active package (R419). -/
def State.cfgSeq (s : State) : BitVec 40 := match s.cfgRunning with | some r => ((s.dev.cfg.get .A).get r).actSeq | none => 0

/-- The staged package's copies become ACTIVE, one above the active one (R419, R422); staging is over. -/
def State.cfgMark (s : State) : State :=
  let n := s.cfgSeq + 1
  let s1 := s.updCfg s.cfgSpare fun c => { c with state := 2, actSeq := n }
  { s1 with dev := { s1.dev with cfgStage := none } }

/-- Channels whose mode two packages give differently (R50). -/
def modeDiff (old new : Pkg) : List Nat :=
  (List.range 192).filter fun c => fld (old.word cCCFG c 0) 71 68 ≠ fld (new.word cCCFG c 0) 71 68

/-- A channel changes its mode (R50): OFF for two frames, its outputs off and its causes gone with the old mode (R475). -/
def State.changeMode (s : State) (ch : Nat) : State :=
  let one (x : State) (t : Nat) : State :=
    let y := x.forEach (causeOrder.filter fun c => (x.termOf t).tstat.causes.getLsbD c) fun z c => z.lowerCause t c
    y.updTerm t fun z => { z with out := {}, ctr := {}, dig := {} }
  let clear (c : Chip) : Chip := { c with clkCnt := [] }
  ((([2 * ch, 2 * ch + 1].foldl one s).updChip (tChip (2 * ch)) clear).updChip (tChip (2 * ch + 1)) clear).updChan ch fun c =>
    { c with offLeft := 2, discAt := none, band := 0 }

/-- A field chip's tables change, the old terms counting through the overlap frame (R168); its bucket follows its
capacity (R438). -/
def State.switchChip (s : State) (old : Pkg) (i : Nat) : State :=
  let b := s.chipBank i
  let s1 := if b = (s.chipOf i).active then s
    else s.updChip i fun x => { x with active := b, shadow := x.active, oldTerms := some x.active }
  if old.word cSCFG (i / 2) 0 = s.cw cSCFG (i / 2) 0 then s1 else s1.updLanes i fun l => { l with tokens := s1.tokenCap i }

/-- A function starts anew outside RUNNING (R257). -/
def State.freshFn (s : State) (f : Nat) : State := (s.updFn f fun _ => {}).startFn f

/-- A changed or new function at a hand-over (R200, R257): LOCKED in its initial state; RESET and MODESEL as R257 states. -/
def State.newFn (s : State) (f : Nat) : State :=
  let s1 := s.updFn f fun _ => {}
  if isMode (s.tid f) then s1.startFn f else s1.setFn f .locked 0 0 0x1FF

/-- A connection that both packages enable (R330): a change of OPENER closes it with a loss, a raised KGEN begins a
rollover. -/
def State.changeConn (s : State) (old : Pkg) (c : Nat) : State :=
  let w := old.word cCONN c 0
  if bit w 70 ≠ s.connOpener c then s.connLoss c (s.connOf c).st .closed
  else if fld w 69 54 < s.connKgen c then s.updConn c fun k => { k with rollover := true }
  else s

/-- A connection that the new package disables is OFF, with a loss (R330). -/
def State.endConn (s : State) (c : Nat) : State := (s.connLoss c (s.connOf c).st .off).updConn c fun _ => {}

/-- A package comes into force (R50, R168, R200, R257, R323, R330, R470); hot says that functions go on through a hand-over. -/
def State.install (s : State) (p : Pkg) (hot : Bool) : State :=
  let old := s.pkg
  let oldFns := s.fns
  let oldConns := s.pkgConns
  let s1 := s.withPkg (some p)
  let s2 := s1.forEach (modeDiff old p) State.changeMode
  let s3 := s2.forEach ((modeDiff old p).map fun c => 2 * c) fun x t => (x.loadCal t).loadCal (t + 1)
  let s4 := s3.forEach (List.range 24) fun x i => x.switchChip old i
  let s5 := (s4.updHalf .A fun h => { h with oldPkg := some old.words }).updHalf .B fun h => { h with oldPkg := some old.words }
  let fs := s5.fns
  let s6 := s5.forEach (oldFns.filter fun f => !fs.contains f) fun x f => x.updFn f fun _ => {}
  let s7 := if hot then s6.forEach (fs.filter fun f => p.changed.contains f || !oldFns.contains f) State.newFn
    else s6.forEach fs State.freshFn
  let cs := s7.pkgConns
  let s8 := (s7.forEach (oldConns.filter fun c => !cs.contains c) State.endConn).forEach
    (cs.filter fun c => !oldConns.contains c) State.startConn
  let s9 := s8.forEach (cs.filter fun c => oldConns.contains c) fun x c => x.changeConn old c
  ({ s9 with monOld := none } : State).forEach (List.range 64) fun x m =>
    if x.msrc m = 0 then (x.updMon m fun _ => {}).updMonx m fun _ => {}
    else if (x.monOf m).sstate = 0 then x.updMon m fun y => { y with sstate := 3 }
    else x

/-- A package activation is recorded: event 0x0804 and a ledger page (R266, R363). -/
def State.cfgRecord (s : State) (p : Pkg) : State :=
  (s.post 0x0804 nDevice 0 (fld p.digest 27 0)).ledgerAdd 0x09 noFn noChan 0 0 0 0

/-- The staged package becomes the active one. -/
def State.activatePkg (s : State) (p : Pkg) (hot : Bool) : State := (s.cfgMark.install p hot).cfgRecord p

/-- The final reply of CFG_ACTIVATE (R349, R354). -/
def State.cfgActDone (s : State) : State :=
  let s1 := { s with dev := { s.dev with cfgAct := none, applyPkg := false } }
  match s.dev.cfgAct with
  | none => s1
  | some a => s1.finalReply (some a.port) a.queue 0x13 a.tag stOK []

/-- OWNER_ROOT, its CRC, then the lifecycle bit of OWNED (R417). -/
def ownMask (root : BitVec 384) : BitVec 4096 :=
  BitVec.ofNat 4096 (at_ root.toNat 648 + at_ (crc16Num 384 root.toNat).toNat 3336)

/-- The OWNER_ROOT region of a side holds no bit that the new digest or its CRC lacks (R417). -/
def State.completable (s : State) (d : Side) (root : BitVec 384) : Bool :=
  let m := ownMask root
  let held := BitVec.ofNat 4096 (at_ (s.otpFld d 1031 648) 648 + at_ (s.otpFld d 3351 3336) 3336)
  held &&& m = held

/-- Program both sides' OTP (R409). -/
def State.otpBoth (s : State) (m : BitVec 4096) : State := (s.otpOr .A m).otpOr .B m

/-- The lifecycle transition that a package brings (R417), in force at the next start; decommissioning enters SERVICE. -/
def State.lifecycleStep (s : State) (p : Pkg) : State :=
  if bit p.flags 1 then
    let s1 := s.otpBoth (BitVec.ofNat 4096 (at_ (2 ^ 256 - 1) 1416 + at_ 1 194))
    match s.dev.st with
    | .service => s1
    | _ => { s1 with dev := { s1.dev with toService := true } }
  else s.otpBoth (ownMask p.ownerRoot ||| BitVec.ofNat 4096 (at_ 1 193))

/-- An activation of a package ends (R417, R419, R422): the package takes effect, or the lifecycle changes at the next
start; the final reply follows. -/
def State.cfgActEnd (s : State) : State :=
  match s.dev.cfgAct, s.cfgStaged with
  | some a, some p =>
    if s.dev.applyPkg ∨ a.slots ≠ [] then s
    else if bit p.flags 0 ∨ bit p.flags 1 then ((s.cfgMark.lifecycleStep p).cfgRecord p).cfgActDone
    else (s.activatePkg p true).cfgActDone
  | _, _ => s

/-- The staged image becomes ACTIVE and runs, FW_SVN follows its security version (R419). -/
def State.fwMark (s : State) (g : Image) : State :=
  let r := s.fwSpare
  let n := ((s.dev.fw.get .A).get s.dev.running).actSeq + 1
  let s1 := (s.updFw r fun c => { c with state := 2, actSeq := n })
  let s2 := { s1 with dev := { s1.dev with running := r, fwStage := none } }
  let top (x : State) (d : Side) : State := if x.svnMin d < g.svn.toNat then x.svnTop d g.svn.toNat else x
  top (top s2 .A) .B

/-- A firmware activation ends after its last hand-over (R419). -/
def State.fwActEnd (s : State) : State :=
  match s.dev.fwAct, s.fwStaged with
  | some a, some g =>
    if a.slots ≠ [] then s
    else
      let s1 := s.fwMark g
      ({ s1 with dev := { s1.dev with fwAct := none } }).finalReply (some a.port) a.queue 0xB3 a.tag stOK []
  | _, _ => s

/-- The commit of this tick-0 edge is taking effect: tables and modes change only then (R50, R168). -/
def State.atCommit (s : State) : Bool := s.clock.tick = 0 && s.clock.committed

/-- ACTIVATION_DONE (R168, R417, R419, R422): a package or an image takes effect at a commit edge. -/
def execActivationDone (firmware : Bool) (s : State) : Res :=
  settled (if !s.atCommit then s else if firmware then s.fwActEnd else s.cfgActEnd)

end Sys2Proof.Machine
end

