-- ==== Sys2Proof/Machine/Frame.lean ====
section
/-! DEFINITION. The frame (spec/02: R29, R34–R46, R470): capture, image exchange, commit deadline and commit, with
everything that the other chapters place at those edges. -/

namespace Sys2Proof.Machine

/-- The terminals whose channel the package gives a mode, OFF for a mode change included (R50). -/
def State.confTerms (s : State) : List Nat :=
  if s.dev.loaded then (List.range 384).filter fun t => fld (s.ccfg (tChan t)) 71 68 ≠ 0 else []
/-- The field chips with such a terminal. -/
def State.confChips (s : State) : List Nat := (List.range 24).filter fun i => s.confTerms.any fun t => tChip t = i

/-! ### Capture -/

/-- A field chip at a capture (R99, R111): a lost one returns, and the misses of the frame before are remembered. -/
def State.captureChip (s : State) (i : Nat) : State :=
  let v := s.viewOf i
  let back : Bool := v.lost && !s.isRetired (nChip i) 0 && (match v.returnAt with | none => false | some t => decide (t < s.edgeCount))
  let s1 := s.updView i fun x => { x with
    missBoth := x.loBad && x.hiBad, missLo := x.loBad, missHi := x.hiBad, loOk := false, hiOk := false, loBad := false, hiBad := false }
  if back then
    let s2 := (s1.updView i fun x => { x with lost := false, returnAt := none, seen := false }).updLanes (chipOther i) fun l =>
      { l with otherLost := false }
    (s2.forEach (chipTerms i) State.restartFilter).endCondition (nChip i) 0x0202
  else s1

/-- The CNT field of a terminal's unit at a capture (R97, R139, R140); a change that the field does not hold saturates
(R479). -/
def State.cntField (s : State) (t : Nat) : BitVec 13 :=
  let c := (s.termOf t).ctr
  match s.kmode t with
  | 1 | 4 => BitVec.ofInt 13 (satInt (-4096) 4095 c.since)
  | 2 =>
    let run := match c.lastEdge with | none => 0 | some e => measCode (s.edge10 - e)
    if c.meas = 0 then 0 else BitVec.ofNat 13 (Nat.max c.meas.toNat run)
  | 3 => c.meas
  | _ => 0

/-- The change of a unit since the previous capture lies outside the range of CNT (R479). -/
def State.cntOver (s : State) (t : Nat) : Bool :=
  (s.kmode t = 1 || s.kmode t = 4) && !(s.termOf t).ctr.stale && ((s.termOf t).ctr.since < -4096 || 4095 < (s.termOf t).ctr.since)

/-- The counter of a terminal freezes (R97, R136): CNT, and a new count since the capture; a change beyond the field's range
is cause 0x10, and the unit's counts are stale from then on (R479). -/
def State.captureCount (s : State) (t : Nat) : State :=
  let s1 := s.updTerm t fun y => { y with
    ana := { y.ana with cnt := s.cntField t, stale := y.ctr.stale }, ctr := { y.ctr with since := 0 } }
  if s.cntOver t then
    (s1.updTerm t fun y => { y with ctr := { y.ctr with stale := true } }).raiseCause t 0x10
  else s1

/-- A terminal at a capture (R35, R76, R107, R126): its state freezes into the image; a lost field chip's terminals read
their demand values, and a terminal in calibration, with an open loop flagged or with a retired converter (R115) has an
invalid sample. The converter's raw result, which nothing gives, is a free value; its field chip corrects it (R112, R116). -/
def State.captureTerm (s : State) (t : Nat) : State :=
  let s1 := (s.freezeTerm t).captureCount t
  if (s.viewOf (tChip t)).lost then
    s1.updTerm t fun x => { x with
      img := { x.img with qual := s.demVal t, fsafe := false }, ana := { x.ana with sample := 0x20000, cnt := 0, stale := false } }
  else
    let raw := BitVec.ofNat 18 (s.drawNat (2 ^ 18))
    let s2 := (s1.updTerm t fun x => { x with ana := { x.ana with conv := s.converted t raw } }).drawn
    if s.noSample t then s2.updTerm t fun x => { x with ana := { x.ana with sample := 0x20000 } } else s2

/-- A disagreement of a DI channel at a capture (R62): longer than DISC_MS since the change that began it. -/
def State.captureDisc (s : State) (ch : Nat) : State :=
  let ms := fld (s.ccfg ch) 63 48
  match (s.chanOf ch).discAt with
  | some a => if s.mode ch = mDI ∧ ms ≠ 0 ∧ s.disagrees ch ∧ a + ms * 100000 < s.edge10 then s.discFault ch else s
  | none => s

/-- Timer units and encoder ports enter the image (R147, R150, R480). -/
def State.captureUnits (s : State) : State :=
  let s1 := { s with timer := s.timer.map fun (e : Nat × TimerU) => (e.1, { e.2 with img := e.2.value }) }
  s1.forEach (List.range 16) fun x i =>
    let w := x.encWords i
    x.updEnc i fun e =>
      let v : Word × Word := match e.keep with | none => w | some k => k
      let tested : Bool := (x.engOf i).testing
      { e with img0 := v.1, img1 := if tested then putFld v.2 71 68 0 else v.2, stat := if e.keep.isSome then e.stat else 0, keep := none }

/-- The physical half of a capture: chips, terminals, disagreements, units, stop lines, ends of test-pulse causes. -/
def State.captureImage (s : State) : State :=
  let s1 := s.forEach s.confChips State.captureChip
  let s2 := s1.forEach s1.confTerms State.captureTerm
  let s3 := s2.forEach ((s2.liveTerms.filter fun t => t % 2 = 0).map tChan) State.captureDisc
  let s4 := s3.captureUnits.freezeSides
  s4.forEach (s4.liveTerms.filter fun t => s4.mode (tChan t) = mTS) State.tsRelease

/-- The host side of a capture: packets, malformed stop words, token, semaphores (R341, R350–R353). -/
def State.captureHost (s : State) : State :=
  ((((s.badWords .A).badWords .B).takePackets .A).takePackets .B).decideToken.decideSems

/-- The monitors at a capture, from entry to RUNNING on (R274). -/
def State.captureMons (s : State) : State :=
  match s.dev.st with
  | .running | .holding => s.monCaptures s.pdBit
  | _ => s

/-- CAPTURE (R35): at tick 0 the image freezes, and the evaluations of the frame follow: token, connections, monitors,
functions. -/
def execCapture (s : State) : Res :=
  let s0 := s.toCapture
  let s1 := { s0 with clock := { s0.clock with captured := true }, time := { s0.time with capTai := s0.time.tai } }
  settled s1.captureImage.captureHost.connCaptures.captureMons.fnCaptures

/-! ### Image exchange -/

/-- A valid sample (R122): neither the invalid marker nor stale, as a signed code. -/
def State.sampleOf (s : State) (t : Nat) : Option Int :=
  let a := (s.termOf t).ana
  if a.sample = 0x20000 ∨ a.stale then none else some a.sample.toInt

/-- An invalid sample, outside a calibration (R124); a second miss and a lost field chip have causes of their own (R99, R23). -/
def State.sampleBad (s : State) (t : Nat) : Bool :=
  let a := (s.termOf t).ana
  a.sample = 0x20000 && !a.missed && !s.occupied t && !(s.viewOf (tChip t)).lost

/-- The last step of the exchange (R126): FSAFE of the latest frame invalidates an AI or AO sample. -/
def State.lateFlag (s : State) (t : Nat) : State :=
  if s.isAnalog t ∧ bit (s.viewOf (tChip t)).fsafeNow (tLocal t) then
    s.updTerm t fun x => { x with ana := { x.ana with sample := 0x20000 } }
  else s

/-- The fault of an AI terminal reaches its functions in the frame (R123, R124). -/
def State.termFaultNow (s : State) (t cause : Nat) : State :=
  s.forEach (s.fnsOfChan (tChan t)) fun x f => x.updFn f fun y => y.faultInFrame 0x10 (BitVec.ofNat 8 cause) t

/-- NAMUR NE 43 at a capture (R123, R473): the counts of one terminal, its causes and their end; codes are 0.2 µA. -/
def State.ne43 (s : State) (t : Nat) : State :=
  match s.sampleOf t with
  | none => s
  | some v =>
    let n := fld (s.acfg (tChan t)) 55 52
    let s1 := s.updTerm t fun x => { x with ana := { x.ana with
      below := if v < 18000 then x.ana.below + 1 else 0, above := if 105000 < v then x.ana.above + 1 else 0 } }
    let a := (s1.termOf t).ana
    if v < 18000 then (if n ≤ a.below then ((s1.raiseCause t 0x0B).termFaultNow t 0x0B).calAbort (tOther t) else s1)
    else if 105000 < v then (if n ≤ a.above then ((s1.raiseCause t 0x0C).termFaultNow t 0x0C).calAbort (tOther t) else s1)
    else (s1.lowerCause t 0x0B).lowerCause t 0x0C

/-- A terminal's NE 43 cause makes the channel read FAULT_UA (R123). -/
def State.ne43Held (s : State) (t : Nat) : Bool :=
  (s.termOf t).tstat.causes.getLsbD 0x0B || (s.termOf t).tstat.causes.getLsbD 0x0C

/-- A calibration of a terminal is under way, from its acceptance on (R130, R131). -/
def State.calibrating (s : State) (t : Nat) : Bool :=
  (s.termOf t).ana.calTag.isSome || (s.termOf t).ana.cal.isSome || (s.termOf t).ana.calRun

/-- The frames that a calibration takes (R130). -/
def State.calFrames (s : State) : Nat := (2176 + s.clock.fl - 1) / s.clock.fl

/-- Functions of a list in ARMED or RUN. -/
def State.anyLive (s : State) (fs : List Nat) : Bool := fs.any fun f => (s.fnOf f).st = .armed || (s.fnOf f).st = .run

/-- A function bound to a channel is in ARMED or RUN. -/
def State.liveOn (s : State) (ch : Nat) : Bool := s.anyLive (s.fnsOfChan ch)

/-- The other terminal of an AI channel cannot carry the channel alone (R131). -/
def State.otherUnfit (s : State) (t : Nat) : Bool :=
  s.calibrating (tOther t) || (s.termOf (tOther t)).tstat.causes ≠ 0 || (s.sampleOf (tOther t)).isNone

/-- The conditions of R131 on the channel, in its order: the refusal of one that does not hold. -/
def State.calUnfit (s : State) (t : Nat) : Option Nat :=
  let ch := tChan t
  if s.mode ch = mAI then
    if fld (s.acfg ch) 27 12 * 1000 < s.calFrames * s.clock.fl ∨ s.otherUnfit t then some stSAFETY else none
  else if s.liveOn ch then some stSAFETY
  else none

/-- The value of an AI channel (R122), in codes of 0.2 µA; FAULT_UA is in µA. -/
def State.aiValue (s : State) (ch : Nat) : Int :=
  let a := 2 * ch
  let b := 2 * ch + 1
  if s.ne43Held a ∨ s.ne43Held b then 5 * (fld (s.acfg ch) 71 56 : Nat)
  else match s.sampleOf a, s.sampleOf b with
    | some x, some y => (x + y).tdiv 2
    | some x, none => if s.occupied b then x else 5 * (fld (s.acfg ch) 71 56 : Nat)
    | none, some y => if s.occupied a then y else 5 * (fld (s.acfg ch) 71 56 : Nat)
    | none, none => 5 * (fld (s.acfg ch) 71 56 : Nat)

/-- The samples of an AI channel lie apart by more than BAND_UA (R122). -/
def State.aiApart (s : State) (ch : Nat) : Bool :=
  match s.sampleOf (2 * ch), s.sampleOf (2 * ch + 1) with
  | some x, some y => decide (5 * fld (s.acfg ch) 51 40 < (x - y).natAbs)
  | _, _ => false

/-- A calibration on one terminal of an AI channel ends with a bad sample of the other, and the channel's functions go to FAULT in
this frame (R132). -/
def State.calGuard (s : State) (t : Nat) : State :=
  if (s.sampleOf t).isSome then s
  else
    let s1 := if s.occupied (tOther t) && !s.occupied t then
        s.termFaultNow t (firstCause (s.termOf t).tstat.causes) else s
    s1.calAbort (tOther t)

/-- An AI channel once the image is complete (R122–R124, R132, R473; log entry 55). -/
def State.aiChannel (s : State) (ch : Nat) : State :=
  let a := 2 * ch
  let b := 2 * ch + 1
  let bad (x : State) (t : Nat) : State := if s.sampleBad t then x.termFaultNow t (firstCause (s.termOf t).tstat.causes) else x
  let s1 := (((bad (bad s a) b).ne43 a).ne43 b)
  let apart := s1.aiApart ch
  let s2 := s1.updChan ch fun c => { c with band := if apart then c.band + 1 else 0, aiVal := s1.aiValue ch }
  let s3 := if apart ∧ fld (s.acfg ch) 39 28 ≤ (s2.chanOf ch).band then s2.aiDisagree ch true
    else if apart then s2
    else (s2.lowerCause a 8).lowerCause b 8
  (s3.calGuard a).calGuard b

/-- The set point that was in force at the sampling instant of the capture, and since when (R128): a commit at the same edge does not
count. -/
def Ana.setAtEdge (x : Ana) (edge : Nat) : Option (BitVec 14 × Nat) := if x.setAt = edge then x.setPrev else some (x.setp, x.setAt)

/-- Field chip B compares an AO current with the setpoint in force (R127, R128): a setpoint is 2 µA, a sample 0.2 µA. -/
def State.aoChannel (s : State) (ch : Nat) : State :=
  let t := 2 * ch + 1
  let x := s.termOf t
  match s.sampleOf t, x.ana.setAtEdge s.edgeCount with
  | some v, some (p, at_) =>
    if !x.out.on ∨ s.pairLow (tChip t) (tLocal t) ∨ s.edgeCount < at_ + 100 then s
    else
      let set : Int := 10 * (Nat.min p.toNat 12000 : Nat)
      let n := if 5 * fld (s.acfg ch) 51 40 < (v - set).natAbs then x.ana.persist + 1 else 0
      let s1 := s.updTerm t fun y => { y with ana := { y.ana with persist := n } }
      if n ≠ 0 ∧ fld (s.acfg ch) 39 28 ≤ n then s1.raiseCause t 0x0F else s1
  | _, _ => s

/-- The analog side of the complete image. -/
def State.imageAnalog (s : State) : State :=
  let s1 := s.forEach s.liveTerms State.lateFlag
  let chans (m : Nat) : List Nat := ((s.liveTerms.filter fun t => t % 2 = 0).map tChan).filter fun c => s.mode c = m
  (s1.forEach (chans mAI) State.aiChannel).forEach (chans mAO) State.aoChannel

/-- A slot runs frame work: LOCKED with work to run, or in SHADOW (R42, R199). -/
def State.works (s : State) (p : Nat) : Bool :=
  match (s.slotOf p).st with
  | .locked => s.hosts p
  | .shadow => true
  | _ => false

/-- The slots that run frame work. -/
def State.workSlots (s : State) : List Nat := (List.range 48).filter s.works

/-- The image is late (R37): the status bit of both sides and the event; no pair executes. -/
def State.imageLate (s : State) : State :=
  let late (f : FrameStat) : FrameStat := { f with imgLate := true }
  let s1 := { s with clock := { s.clock with late := true, halt0 := true } }
  ((s1.updFst .A late).updFst .B late).postL 0x0205 nLink 3 0 false

/-- The monitors of field units at the end of the exchange, from entry to RUNNING on (R274). -/
def State.imageMons (s : State) : State :=
  match s.dev.st with
  | .running | .holding => s.monImages s.pdBit
  | _ => s

/-- IMAGE_EXCHANGE_COMPLETE (R20, R35, R37, R122–R128, R181, R320): at the tick-3 edge the receipts that were in
flight are decided, and the image is complete and every pair starts its frame work on it, or it is late. -/
def execImageExchangeComplete (complete : Bool) (s : State) : Res :=
  let s0 := (s.toTick 3).connLates
  if complete then
    let s2 := s0.imageAnalog.imageMons.fnImages
    settled (s2.forEach s2.workSlots State.startFrameWork).linkDrain
  else settled s0.imageLate.linkDrain

/-! ### Commit deadline -/

/-- An overrun is counted on both sides (R40). -/
def State.countOvr (s : State) : State :=
  let inc (f : FrameStat) : FrameStat := { f with ovr := satInc f.ovr }
  (s.updFst .A inc).updFst .B inc

/-- A function trips for an overrun (R43, R250): TRIPPED with the latched cause 0x08; in TRIPPED only the event. -/
def State.overrunFn (s : State) (f : Nat) : State :=
  let c : FnCause := (0x08, 0, 0x1FF)
  let s1 := s.updFn f fun x => { x with latched := if x.latched.contains c then x.latched else x.latched ++ [c] }
  if isMode (s.tid f) then s
  else match (s.fnOf f).st with
    | .locked | .armed | .run => s1.setFn f .tripped 0x08 0 0x1FF
    | .tripped => s1.postFn f .tripped 0x08 0
    | _ => s

/-- The working buffers of a slot's functions are discarded, and its copies are stopped (R36, R42). -/
def State.stopWork (s : State) (p : Nat) : State :=
  let stop (c : CoachSt) : CoachSt := { c with stopped := true }
  (((s.forEach (s.fnsOfSlot p) State.dropFn).updCst (s.slotCoach .A p) stop).updCst (s.slotCoach .B p) stop).updSlot p fun x =>
    { x with cplA := ⟨[], []⟩, cplB := ⟨[], []⟩, work := ⟨[], []⟩ }

/-- A locked pair has overrun (R42, R43, R46): its count, its event, and at K the trip of its functions. -/
def State.overrun (s : State) (p : Nat) : State :=
  let n := (s.slotOf p).ovr + 1
  let s1 := ((s.stopWork p).countOvr.updSlot p fun x => { x with ovr := n }).postL
    0x0302 (nSlot p) 3 n false
  let s2 := if p = 0 then (({ s1 with clock := { s1.clock with halt0 := true } } : State).carryPackets .A).carryPackets .B else s1
  if s.clock.k ≤ n then s2.forEach (s.fnsOfSlot p) State.overrunFn else s2

/-- A slot at the tick-C edge (R42, R43, R45, R201): a pair that has not verified has overrun; a mismatch in the frame
governs; a shadow target aborts its hand-over; a split coach that still runs is counted. -/
def State.deadline (s : State) (p : Nat) : State :=
  let x := s.slotOf p
  match x.st with
  | .locked => if x.verified ∨ !s.hosts p then s else s.overrun p
  | .shadow => if x.verified then s else
      match s.sourceOf p with
      | none => s.stopWork p
      | some q => (s.abortHandover q).stopWork p
  | .testing => if x.mismatched ∧ !x.verified then s.countOvr else s
  | .split => [Side.A, Side.B].foldl (fun (y : State) (d : Side) =>
      let i := y.slotCoach d p
      let c := y.cstOf i
      if c.stopped ∨ c.waitFend ∨ c.retired ∨ c.testing then y else y.countOvr.postL 0x0302 (nCoach i) 3 1 false) s
  | _ => s

/-- COMMIT_DEADLINE (R42, R43, R45, R46): at the tick-C edge. When pair 0 overran, the packets of its image stay in it (R46);
else those with an undefined opcode have been answered (R354). -/
def execCommitDeadline (s : State) : Res :=
  let s0 := (s.toTick s.clock.cdl).linkDrain
  let s1 := if (s0.slotOf 0).verified then s0.unknownPackets else s0
  settled (s1.forEach (List.range 48) State.deadline)

/-! ### Commit -/

/-- The commit's frame status and the frame parameters that come into force (R39, R40, R470). -/
def State.commitClock (s : State) : State :=
  let c := s.clock
  let c1 := match c.pend with
    | none => { c with committed := true }
    | some (fl, cdl, k) => { c with committed := true, fl := fl, cdl := cdl, k := k, pend := none }
  let no (f : FrameStat) : FrameStat := { f with frameNo := BitVec.ofNat 32 (c.frame.toNat - 1) }
  ({ s with clock := c1 }.updFst .A no).updFst .B no

/-- A frame number of 16 bits names the frame that this commit starts. -/
def State.nowFrame (s : State) (n : BitVec 16) : Bool := n = BitVec.ofNat 16 s.clock.frame.toNat

/-- A field chip's bank switch and the end of the overlap frame (R92, R168). -/
def State.commitBank (s : State) (i : Nat) : State :=
  let x := s.chipOf i
  match x.switchAt with
  | some n =>
    if s.nowFrame n then
      let s1 := (s.updChip i fun y => { y with
        active := y.shadow, shadow := y.active, oldTerms := some y.active, switchAt := none, spent := true, filled := [] }).updView i
        fun v => { v with sentBank := [], shadowCrc := none }
      s1.forEach (List.range 16) fun z c => z.calUse (chipTerm i c) (bankWord x.shadow oTCALI c 0) (bankWord x.shadow oTCALV c 0)
    else s.updChip i fun y => { y with oldTerms := none }
  | none => s.updChip i fun y => { y with oldTerms := none }

/-- A channel's mode change goes on (R50): its new mode, with its counters at 0 (R136), its filters at demand and the causes that
stand (R77, R437, R365), once its frames have run out. -/
def State.commitMode (s : State) (ch : Nat) : State :=
  let c := s.chanOf ch
  if c.offLeft = 0 then s
  else
    let s1 := s.updChan ch fun x => { x with offLeft := x.offLeft - 1 }
    if c.offLeft = 1 then
      s1.forEach [2 * ch, 2 * ch + 1] fun x t => (x.updTerm t fun y => { y with
        ctr := { run := bit (s.kcfg t) 1 && s.dev.st = .running, begun := bit (s.kcfg t) 1 && s.dev.st = .running } }).startTerm t
    else s1

/-- The slots' functions at the commit (R36, R250): the working buffer of a verified frame becomes the current state, any
other is discarded. -/
def State.commitFns (s : State) : State :=
  s.forEach s.fns fun x f =>
    if (s.slotOf (s.fSlot f)).verified then x.commitFn f
    else match (x.fnOf f).next with
      | none => x
      | some _ => x.dropFn f

/-- A monitor takes its RUN_CH off (R288, R296): in RAMP, or with a stop request. -/
def State.noStop (s : State) (m : Nat) : Bool := (s.monOf m).sstate ≠ 2 && !(s.monxOf m).stopReq

/-- An ES_AUXBRK instance releases its brake (R262): no trigger instance is TRIPPED or FAULT. -/
def State.auxReleases (s : State) (f : Nat) : Bool :=
  (s.entries f 5 (Nat.min (s.fpar f 4) 4)).all fun g => !s.fnDown g

/-- The functions bound to an output terminal (R247, R259): those whose output it is, and its permissives. -/
def State.fnsOfOut (s : State) (t : Nat) : List Nat :=
  (s.fns.filter fun f => (s.outsOf f).contains t) ++ if s.dev.loaded then Tab.get [] s.pkg.perms t else []

/-- The output image may command a terminal on (R189, R247, R262, R288, R294): every bound function in RUN on a LOCKED slot and
not in commissioning mode, every bound permissive, pulse and stop condition holds, and no trigger of an auxiliary brake. A
test source needs none. -/
def State.permitted (s : State) (t : Nat) : Bool :=
  if s.mode (tChan t) = mTS then true
  else
    let fs := s.fnsOfOut t
    let pulse (k : Nat) : Bool := (Tab.get ({} : PosEvent) (s.monxOf (k / 8)).events (k % 8)).st = 3
    fs ≠ [] &&
    (fs.all fun f => (s.fnOf f).st = .run && !(s.fnOf f).comm && (s.slotOf (s.fSlot f)).st = .locked) &&
    ((Tab.get [] s.pkg.perms t).all fun g => (s.fnOf g).cond) &&
    ((Tab.get [] s.pkg.pulses t).all pulse) &&
    (s.fns.all fun f => s.tid f ≠ 0x18 || s.fpar f 1 ≠ tChan t || s.auxReleases f) &&
    ((List.range 8).all fun m => s.msrc m = 0 || fld (s.mbind m) 19 12 ≠ tChan t || s.noStop m)

/-- The previous committed output image holds for a terminal (R35, R43): a bound function's pair has not verified the frame. -/
def State.heldOut (s : State) (t : Nat) : Bool :=
  (s.fnsOfOut t).any fun f => (s.slotOf (s.fSlot f)).st = .locked && !(s.slotOf (s.fSlot f)).verified

/-- The output image that a commit applies to a field chip (R35, R43): the sides send the previous one's bits and set points for
the terminals of a pair that overran, and the verified ones of the others. -/
def State.sentImage (s : State) (i : Nat) (on : BitVec 16) (ao : BitVec 224) : BitVec 16 × BitVec 224 :=
  let old := s.chipOf i
  (List.range 16).foldl (fun (m : BitVec 16 × BitVec 224) c =>
    if s.heldOut (chipTerm i c) then
      (setBit m.1 c (bit old.on c), putFld m.2 (14 * c + 13) (14 * c) (fld old.ao (14 * c + 13) (14 * c)))
    else m) (on, ao)

/-- The ON bits that a field chip commits (R91, R110, R247, R402): of terminals with an output, permitted, in RUNNING; none for
a lost field chip. -/
def State.onBits (s : State) (i : Nat) (on : BitVec 16) : BitVec 16 :=
  if s.dev.st ≠ .running ∨ (s.viewOf i).lost then 0
  else (List.range 16).foldl (fun (m : BitVec 16) c =>
    let t := chipTerm i c
    setBit m c (bit on c && hasOutput (s.mode (tChan t)) && s.permitted t)) 0

/-- Causes 0x06, and 0x03 of an output, end when the terminal reads switched off at the commit (R473): at most 5 V, or 11 V and
more on the low side. No row brings that sample, so it is a free value (log entry 17). -/
def State.sampleOff (s : State) (t : Nat) : State :=
  let has (c : Nat) : Bool := (s.termOf t).tstat.causes.getLsbD c
  let crossed : Bool := has 3 && isDO (s.mode (tChan t))
  if !(has 6) ∧ !crossed then s
  else if s.drawNat 2 = 0 then s.drawn
  else
    let s1 := if has 6 then s.drawn.lowerCause t 6 else s.drawn
    if crossed then s1.lowerCause t 3 else s1

/-- Terminal causes that end at a commit with ON = 0 (R473). -/
def State.commitCauses (s : State) (t : Nat) : State :=
  let on (x : State) (u : Nat) : Bool := (x.termOf u).out.on
  if on s t then s
  else
    let has (x : State) (c : Nat) : Bool := (x.termOf t).tstat.causes.getLsbD c
    let s1 := if has s 7 then s.lowerCause t 7 else s
    let s2 := s1.sampleOff t
    let s3 := if has s2 0x0F ∧ !on s2 (tOther t) then s2.lowerCause t 0x0F else s2
    if (s3.termOf (tOther t)).out.off ∧ !has s3 6 ∧ !has s3 3 then
      s3.updTerm (tOther t) fun x => { x with out := { x.out with off := false } }
    else s3

/-- The output of a terminal takes its committed ON bit (R16, R141, R157, R439): off, on, or a switch-on, which waits for
its start token in the modes that need one. -/
def Out.commit (o : Out) (on needs : Bool) (now : Nat) : Out :=
  if !on then { o with on := false, waiting := false, dark := false, pwm := 0 }
  else
    let freed := o.latch && o.latchOff
    let start := !o.on || freed
    { o with
      on := true
      latch := o.latch && !freed
      latchOff := false
      waiting := if start then needs && !(o.latch && !freed) else o.waiting
      onAt := if start then now else o.onAt }

/-- A terminal at the commit (R127, R141): its ON bit and its setpoint. -/
def State.commitOut (s : State) (t : Nat) (on : Bool) (ao : BitVec 14) : State :=
  let m := s.mode (tChan t)
  s.updTerm t fun x => { x with
    out := x.out.commit on (needsToken m) s.clock.count
    ana := if m = mAO && (x.ana.setp ≠ ao || (on && !x.out.on)) then
        { x.ana with setp := ao, setAt := s.clock.count, setPrev := if x.out.on then some (x.ana.setp, x.ana.setAt) else none }
      else x.ana }

/-- The valid copy of the output image that a field chip holds (R91): one that names the frame before this commit. -/
def State.copyNow (s : State) (i : Nat) : Option (BitVec 16 × BitVec 224) :=
  match (s.chipOf i).copy with
  | some (no, on, ao) => if no = BitVec.ofNat 16 (s.clock.frame.toNat + 65535) then some (on, ao) else none
  | none => none

/-- The terminals with an output of a field chip. -/
def State.chipOuts (s : State) (i : Nat) : List Nat := (chipTerms i).filter fun t => hasOutput (s.mode (tChan t))

/-- A field chip applies its last valid copy of the output image (R38, R91), or keeps its outputs with an event. -/
def State.commitChip (s : State) (i : Nat) : State :=
  match s.copyNow i with
  | some (on0, ao0) =>
    let on := (s.sentImage i on0 ao0).1
    let ao := (s.sentImage i on0 ao0).2
    let bits := s.onBits i on
    let s1 := s.updChip i fun y => { y with
      on := bits, ao := ao, copy := none, safe := y.silent || (s.lanesOf i).otherLost }
    s1.forEach (s.chipOuts i) fun z t =>
      z.commitOut t (bit bits (tLocal t)) (BitVec.ofNat 14 (fld ao (14 * tLocal t + 13) (14 * tLocal t)))
  | none => (s.updChip i fun y => { y with copy := none }).postL 0x0206 (nChip i) 3 0 false

/-- An ON = 0 committed with every term false and no hold left opens the way out of the latch (R157, R476). -/
def State.commitLatch (s : State) (t : Nat) : State :=
  if (s.termOf t).out.on ∨ !(s.termOf t).out.latch ∨ s.tripped t then s
  else s.updTerm t fun x => { x with out := { x.out with latchOff := true } }

/-- Every field chip commits: ON bits, then the causes that end with them, then the latches. -/
def State.commitOutputs (s : State) : State :=
  let valid := s.confChips.filter fun i => (s.copyNow i).isSome
  let outs := (valid.map s.chipOuts).flatten
  let s1 := s.forEach s.confChips State.commitChip
  (s1.forEach outs State.commitCauses).forEach outs State.commitLatch

/-- What waits at a terminal for this commit (R92, R93, R130, R133, R145): sentinel arming and release, a calibration's
start and its new records. -/
def State.commitTerm (s : State) (t : Nat) : State :=
  let s0 := match (s.termOf t).ana.calNew with
    | none => s
    | some (wi, wv) => s.updChip (tChip t) fun x => { x with
        active := Tab.set 0 (Tab.set 0 x.active (bankKey oTCALI (tLocal t) 0) wi) (bankKey oTCALV (tLocal t) 0) wv }
  s0.updTerm t fun x =>
    let armed : Option (BitVec 2) := match x.ctr.armPend with
      | some (n, d) => if s.nowFrame n then some d else none
      | none => none
    let ovs : Bool := match x.ctr.ovsPend with | some n => s.nowFrame n | none => false
    let cal : Bool := match x.ana.cal with | some n => s.nowFrame n | none => false
    { x with
      ctr := { x.ctr with
        arm := armed.getD x.ctr.arm
        revTrip := x.ctr.revTrip && armed ≠ some 0
        armPend := if armed.isSome then none else x.ctr.armPend
        ovsTrip := x.ctr.ovsTrip && !ovs
        ovsPend := if ovs then none else x.ctr.ovsPend }
      ana := { x.ana with
        cal := if cal then none else x.ana.cal
        calRun := (x.ana.calRun && !x.ana.calDone) || cal
        calDone := false
        tcalI := (x.ana.calNew.map Prod.fst).getD x.ana.tcalI
        tcalV := (x.ana.calNew.map Prod.snd).getD x.ana.tcalV
        calNew := none } }

/-- A calibration outside AI mode ends when a bound function has left the states that R131 requires (R132). -/
def State.commitCal (s : State) (t : Nat) : State :=
  if s.mode (tChan t) ≠ mAI ∧ (s.fnsOfChan (tChan t)).any (fun f => (s.fnOf f).st = .armed || (s.fnOf f).st = .run) then s.calAbort t
  else s

/-- The outputs that an EDM instance supervises, or the brake output of ES_BRKFB and ES_AUXBRK, are on in the committed image (R262,
R482). -/
def State.edmOutputs (s : State) (f : Nat) : Bool :=
  (if s.tid f = 0x04 then s.entries f 1 (Nat.min (s.fpar f 0) 8) else [s.fpar f 1]).any fun c =>
    (s.termOf (2 * c)).out.on || (s.termOf (2 * c + 1)).out.on

/-- EDM at the commit (R482): a switching commit in RUN, or one that switches off as the function leaves RUN, starts a check
FB_MS later; any other switching commit ends the running one. was says that the function was in RUN before. -/
def State.commitEdm (s : State) (f : Nat) (was : Bool) : State :=
  let now := s.edmOutputs f
  if now = decide (Tab.get 0 (s.fnOf f).vars 0 = 1) then s
  else
    let judged := if (s.fnOf f).st = .run then 1 else if was && !now then 2 else 0
    s.updFn f fun x =>
      { x with vars := Tab.set 0 (Tab.set 0 (Tab.set 0 (Tab.set 0 x.vars 0 (b2n now)) 1 0) 2 judged) 3 (s.clock.count + 1) }

/-- The functions of every group that a DOOR signal, or a network stop group, reaches. -/
def State.doorFns (s : State) (d : Nat) : List Nat := s.fns.filter fun f => fld (s.gmap (s.fGroup f)) 71 67 = d

/-- A latched DOOR or NSTOP signal of a side is released at this commit (R165). -/
def State.releases (s : State) (at_ : Nat) (fs : List Nat) : Bool :=
  decide (at_ + 1 ≤ s.clock.frame.toNat) && s.imageStopped fs

/-- Release the DOOR, NSTOP and MISMATCH signals of a side (R165, R195), and end the overlap of group words (R168). -/
def State.commitHalf (s : State) (d : Side) : State :=
  let h := s.halfOf d
  let doors := (List.range 32).filter fun k => bit h.door k && s.releases (Tab.get 0 h.doorAt k) (s.doorFns k)
  let stops := (List.range 64).filter fun k => bit h.nstop k && s.releases (Tab.get 0 h.nstopAt k) (s.nsgFns k)
  let mism := (List.range 48).filter fun p => (s.slotOf p).awaitRel && (s.slotOf p).verified
  s.updHalf d fun x => { x with
    door := doors.foldl (fun (w : BitVec 32) k => setBit w k false) x.door
    nstop := stops.foldl (fun (w : BitVec 64) k => setBit w k false) x.nstop
    mismatch := mism.foldl (fun (w : BitVec 48) p => setBit w p false) x.mismatch
    oldPkg := none }

/-- A SPLIT slot that is to join stops both programs, releases their queues, is TESTING and clears its coaches (R204). -/
def State.commitJoin (s : State) (p : Nat) : State :=
  let x := s.slotOf p
  if x.st = .split ∧ x.joining then
    let stop (c : CoachSt) : CoachSt := { c with stopped := true, waitFend := false }
    let s1 := ((s.updCst (s.slotCoach .A p) stop).updCst (s.slotCoach .B p) stop).updCoach (s.slotCoach .A p) fun _ => {}
    (s1.updCoach (s.slotCoach .B p) fun _ => {}).updSlot p fun y => { y with st := .testing, rebuilt := false, reg := ⟨false, false⟩ }
  else s

/-- A slot whose coaches a requested test takes is TESTING from this commit on (R198, R376). -/
def State.commitTest (s : State) (p : Nat) : State :=
  let x := s.slotOf p
  if x.testPend ∧ x.st = .locked then
    let stop (c : CoachSt) : CoachSt := { c with stopped := true, waitFend := false }
    ((s.updCst (s.slotCoach .A p) stop).updCst (s.slotCoach .B p) stop).updSlot p fun y => { y with
      st := .testing, joining := true, rebuilt := false, testPend := false, reg := ⟨false, false⟩ }
  else s

/-- A slot at the end of a frame: a join or a requested test begins (R204, R376), a target enters SHADOW (R199), and the frame's
marks are cleared. -/
def State.commitSlot (s : State) (p : Nat) : State :=
  ((s.commitJoin p).commitTest p).updSlot p fun x => { x with
    st := if x.shadowOf.isSome && x.st = .locked then .shadow else x.st
    awaitRel := x.awaitRel && !x.verified
    ver := ⟨false, false⟩, outNow := none, mismatched := false, work := ⟨[], []⟩
    cplA := if x.st = .testing then x.cplA else ⟨[], []⟩
    cplB := if x.st = .testing then x.cplB else ⟨[], []⟩ }

/-- The condition on which a requested test goes on (R376, R378): of a front-end, a converter, a plane, a unit, a lane. -/
def State.testHolds (s : State) (q : Test) : Bool :=
  let t := q.node.idx
  if q.cls = tcFront then !(s.liveOn (tChan t)) || hasOutput (s.mode (tChan t)) || bit (s.tin t) 20
  else if q.cls = tcConv then (s.calUnfit t).isNone
  else if q.cls = tcPlane then
    let o := if t % 2 = 0 then t + 1 else t - 1
    !bit (s.halfOf (if t < 2 then .A else .B)).planeTest (o % 2)
  else if q.cls = tcEngine then !(s.msrc (t % 8) = 1 && ((s.monOf (t % 8)).sstate = 1 || (s.monOf (t % 8)).sstate = 2))
  else if q.cls = tcTimer then !s.anyLive (Config.timerFns t)
  else if q.cls = tcLane then s.lanesRetired = []
  else true

/-- A requested test whose condition has ceased to hold is aborted (R378). -/
def State.testGuard (s : State) : State :=
  (s.tests.running.filter fun q => q.requested && !s.testHolds q).foldl State.abortTest s

/-- Banks whose map redirects at this commit are tested from now on (R366). -/
def State.commitBanks (s : State) : State :=
  s.forEach (List.range 32) fun x i =>
    let b := Tab.get ({} : Bank) x.tests.banks i
    if b.redirect ∧ !b.testing then
      { x with tests := { x.tests with banks := Tab.upd {} x.tests.banks i fun y => { y with testing := true } } }
    else x

/-- Process-data bits that the frame's packets wrote (R335). -/
def State.commitPd (s : State) : State :=
  { s with
    pd := s.pdNext.foldl (fun (t : Tab (BitVec 64)) (e : Nat × BitVec 64) => Tab.set 0 t e.1 e.2) s.pd
    pdNext := [] }

/-- Entry to RUNNING (R136, R145, R146, R149, R403): counters, timers and encoder positions at 0, sentinels disarmed, the
chatter windows begin, the monitors start. -/
def State.enterRunning (s : State) : State :=
  let s1 := s.withSt .running
  let s2 := s1.forEach s1.confTerms fun x t => x.updTerm t fun y => { y with
    ctr := { run := bit (s.kcfg t) 1 && s.kmode t ≠ 5, begun := bit (s.kcfg t) 1 && s.kmode t ≠ 5 }, dig := { y.dig with chatEdges := 0, chatStart := s.clock.count } }
  let s3 := s2.forEach ((List.range 128).filter fun i => fld (s.cw cTMR i 0) 71 68 ≠ 0) fun x i => x.updTimer i fun u =>
    { u with value := 0, run := bit (s.cw cTMR i 0) 49 }
  let s4 := s3.forEach (List.range 16) fun x i => x.updEnc i fun e => { e with
    pos := if s.pmode i = 1 then 0 else e.pos, arm := 0, armReq := 0, revTrip := false, ovsTrip := false, hist := [], seen := false }
  let s5 := s4.forEach s4.confChips fun x i => x.updChip i fun y => { y with clkCnt := [] }
  s5.monRunning

/-- The device enters SERVICE (R402, R403), and level S with it where that is enabled (R428). -/
def State.enterService (s : State) : State :=
  State.zeroise { (s.withSt .service) with dev := { (s.withSt .service).dev with toService := false } }

/-- The state changes of the device that stand at a commit (R371, R403). -/
def State.commitDevice (s : State) : State :=
  if s.dev.toService then s.enterService
  else match s.dev.st with
    | .holding =>
      if s.dev.holders = [] ∧ !s.dev.responder then
        let s1 := (s.endCondition nDevice 0x0A05).post 0x0A06 nDevice 0 s.dev.holdCause
        if s1.dev.pkgActive then s1.enterRunning else s1.withSt .standby
      else s
    | .standby => if s.dev.pkgActive then s.enterRunning else s
    | _ => s

/-- A package applies at this commit outside RUNNING (R354 CFG_ACTIVATE, R422, R257), with its final reply. -/
def State.commitPkg (s : State) : State :=
  if !s.dev.applyPkg then s
  else match s.cfgStaged with
    | some p => (s.activatePkg p false).cfgActDone
    | none => s

/-- Start tokens at a commit (R440). -/
def State.commitGrants (s : State) : State := s.forEach s.confChips State.grant

/-- The functions' states before the commit that EDM needs. -/
def State.runsNow (s : State) : List Nat := s.fns.filter fun f => (s.fnOf f).st = .run

/-- The frame's results take effect: functions, monitors, outputs, EDM, lattice latches, slots. -/
def State.commitFrame (s : State) : State :=
  let were := s.runsNow
  let s1 := s.commitFns.monCommits.commitConns.commitOutputs
  let s2 := s1.forEach (s1.fns.filter fun f => s1.tid f = 0x04 ∨ s1.tid f = 0x15 ∨ s1.tid f = 0x18) fun x f => x.commitEdm f (were.contains f)
  let s3 := (s2.commitHalf .A).commitHalf .B
  s3.forEach (List.range 48) State.commitSlot

/-- What else stands at a commit: banks, mode changes, terminals, calibrations, memory banks, process data. -/
def State.commitRest (s : State) : State :=
  let s1 := s.forEach s.confChips State.commitBank
  let s2 := s1.forEach ((s1.confTerms.filter fun t => t % 2 = 0).map tChan) State.commitMode
  let s3 := (s2.forEach (s2.term.map Prod.fst) State.commitTerm).forEach s2.confTerms State.commitCal
  s3.testGuard.commitBanks.commitPd

/-- COMMIT (R35): at tick 0 the field chips apply the last valid output image, and the changes timed to this commit take
effect. -/
def execCommit (s : State) : Res :=
  let s0 := s.toCommit.commitClock
  done s0.commitFrame.commitRest.commitDevice.commitPkg.commitGrants.settle.newImage

end Sys2Proof.Machine
end

