-- ==== Sys2Proof/Machine/Commands.lean ====
section
/-! DEFINITION. Host commands 0x00–0x0B, 0x15, 0x20–0x24, 0x30–0x54 (R354): identity, status, the turn token, reading
configuration, channels, process data, safety functions, monitors, encoders. -/

namespace Sys2Proof.Machine

/-- The port whose registers a packet reads: its own; the service port lies with Port 1 (R449, log entry 63). -/
def Hdr.side (h : Hdr) : Side := h.port.getD .A

/-- A channel's words as CFG_READ and CH_READ_CFG return them: the configuration in force. -/
def natWord (w : Word) : Nat := w.toNat

/-- ID0 of a port (R334, R410). -/
def State.id0 (s : State) (d : Side) : Nat := at_ 0x0192 48 + at_ (s.otpFld d 71 64) 40 + at_ (d.ix + 1) 32

/-- The versions of images A and B of sides A and B. -/
def State.versions (s : State) : List Nat :=
  [s.dev.fw.a.a.version.toNat, s.dev.fw.a.b.version.toNat, s.dev.fw.b.a.version.toNat, s.dev.fw.b.b.version.toNat]

/-- IDENTIFY (R354). -/
def execIdentify (h : Hdr) (params : List Slot16) (s : State) : Res :=
  let d := Hdr.side h
  done (s.serve h params (plain 0x00 false params [] (noTarget h)) fun x =>
    ok x ([x.id0 d, x.serialOn d] ++ x.versions ++ [fld x.pkg.digest 71 0, x.dev.lifecycle.toNat]))

/-- ECHO (R354): 0–254 byte-data slots. -/
def execEcho (h : Hdr) (params : List Slot16) (s : State) : Res :=
  done (s.serve h params ⟨0x01, false, params.length ≤ 254, params.map fun _ => none, noTarget h, none, true, none⟩ fun x =>
    ok x (params.map BitVec.toNat))

/-- The HOLDING cause: the source class of event 0x0A05; zero outside HOLDING (log entry 63). -/
def State.holdingCause (s : State) : Nat := match s.dev.st with | .holding => s.dev.holdCause | _ => 0

/-- DEV_STATUS (R354). -/
def execDevStatus (h : Hdr) (params : List Slot16) (s : State) : Res :=
  done (s.serve h params (plain 0x02 false params [] (noTarget h)) fun x =>
    ok x [x.devWord, x.clock.frame.toNat, x.tokenWord, x.holdingCause])

/-- PORT_STATUS (R354): generation and width, CNT, which the packet does not clear (log entry 45), the doorbell counts, packets
rejected by status. -/
def execPortStatus (h : Hdr) (params : List Slot16) (s : State) : Res :=
  done (s.serve h params (plain 0x03 false params [] (noTarget h)) fun x =>
    let p := x.portOf (Hdr.side h)
    ok x ([p.gen, p.width, p.cnt.toNat, p.taken.toNat, p.bad.toNat, p.vc0.toNat] ++
      (List.range 13).map fun k => Tab.get 0 p.rejected (0x0100 + k)))

/-- A token command waits for the decision at the next capture (R350); the service port's never reach it (R449). -/
def State.askToken (s : State) (h : Hdr) (k : TokKind) : State :=
  match h.port with
  | some d => { s with token := { s.token with reqs := s.token.reqs ++ [⟨k, d, h.tag, h.queue.val⟩] } }
  | none => s

/-- A lease in ms (R350). -/
def leaseSlot : Nat × Nat × Nat := (16, 100, 60000)

/-- TOKEN_ACQUIRE (R350). -/
def execTokenAcquire (h : Hdr) (params : List Slot16) (s : State) : Res :=
  done (s.serve h params (plain 0x08 false params [leaseSlot] (noTarget h)) fun x => .later (x.askToken h (.acquire (pv params 0))))

/-- TOKEN_RENEW (R350). -/
def execTokenRenew (h : Hdr) (params : List Slot16) (s : State) : Res :=
  done (s.serve h params (plain 0x09 false params [leaseSlot] (noTarget h)) fun x => .later (x.askToken h (.renew (pv params 0))))

/-- TOKEN_RELEASE (R350). -/
def execTokenRelease (h : Hdr) (params : List Slot16) (s : State) : Res :=
  done (s.serve h params (plain 0x0A false params [] (noTarget h)) fun x => .later (x.askToken h .release))

/-- TOKEN_STATUS (R354). -/
def execTokenStatus (h : Hdr) (params : List Slot16) (s : State) : Res :=
  done (s.serve h params (plain 0x0B false params [] (noTarget h)) fun x => ok x [x.tokenWord])

/-- The number of parameter words of a template (R244, R260–R265). -/
def fparCount (tid : Nat) : Nat :=
  match tid with
  | 0x01 | 0x02 | 0x03 | 0x10 | 0x11 | 0x14 => 14
  | 0x04 => 11
  | 0x05 => 3
  | 0x06 => 1
  | 0x12 => 6
  | 0x13 => 5
  | 0x15 => 9
  | 0x16 => 3
  | 0x17 => 2
  | 0x18 => 9
  | 0x20 => 19
  | 0x21 => 2
  | 0x22 => 4
  | 0x30 | 0x31 => 25
  | 0x40 => 10
  | 0x41 => 3
  | 0x42 => 12
  | _ => 0

/-- The classes of CFG_READ: number of target indices and of words (R355); none for a reserved class. -/
def State.cfgClass (s : State) (cls target : Nat) : Option (Nat × Nat) :=
  match cls with
  | 0x01 => some (12, 1)
  | 0x02 => some (6144, 2)
  | 0x03 => some (48, 1)
  | 0x04 => some (48, 24)
  | 0x05 => some (1, 1)
  | 0x06 => some (4096, 1 + fparCount (s.tid target))
  | 0x07 => some (128, 2)
  | 0x08 => some (16, 1)
  | 0x09 => some (2, 1)
  | 0x0A => some (8192, 4)
  | 0x0B => some (1, 1)
  | 0x0C => some (512, 1)
  | 0x0D => some (12, 1)
  | 0x0E => some (1, 1)
  | 0x0F => some (1, 1)
  | _ => none

/-- CFG_READ (R354, R355). -/
def execCfgRead (h : Hdr) (params : List Slot16) (s : State) : Res :=
  let cls := pv params 0
  let w := pv params 1
  let t := h.target.toNat
  let c := s.cfgClass cls t
  let tOk : Bool := match c with | some (n, _) => t < n | none => true
  let far : Option Nat := match c with | some (_, n) => if w < n then none else some 1 | none => some 0
  let f : Form := { plain 0x15 false params [(8, 0, 255), (8, 0, 255)] tOk with far := far }
  done (s.serve h params f fun x => ok x [natWord (x.cw cls t w)])

/-- CH_READ_CFG (R354). -/
def execChReadCfg (h : Hdr) (params : List Slot16) (s : State) : Res :=
  let c := h.target.toNat
  done (s.serve h params (plain 0x20 false params [] (below h 192)) fun x =>
    ok x ([x.cw cCCFG c 0, x.cw cTIN (2 * c) 0, x.cw cTIN (2 * c + 1) 0, x.cw cTOUT (2 * c) 0, x.cw cTOUT (2 * c + 1) 0,
      x.cw cACFG c 0, x.cw cKCFG (2 * c) 0, x.cw cKCFG (2 * c + 1) 0].map natWord))

/-- CH_STATUS (R354). -/
def execChStatus (h : Hdr) (params : List Slot16) (s : State) : Res :=
  let c := h.target.toNat
  done (s.serve h params (plain 0x21 false params [] (below h 192)) fun x =>
    ok x ([x.tstatWord (2 * c), x.tstatWord (2 * c + 1), x.capWord (2 * c), x.capWord (2 * c + 1)].map natWord))

/-- CH_READ_CAL (R354). -/
def execChReadCal (h : Hdr) (params : List Slot16) (s : State) : Res :=
  let t := h.target.toNat
  done (s.serve h params (plain 0x22 false params [] (below h 384)) fun x =>
    ok x [(x.tcal t false).toNat, (x.tcal t true).toNat])

/-- The refusals of R131, in its order, without the token. -/
def State.calRefusal (s : State) (t : Nat) : Option Nat := if s.calibrating t then some stBUSY else s.calUnfit t

/-- CH_CALIBRATE (R131): accepted; its CAL_START frame is a row of its own, and R132, R133 bring the final reply. -/
def execChCalibrate (h : Hdr) (params : List Slot16) (s : State) : Res :=
  let t := h.target.toNat
  done (s.serve h params (plain 0x23 true params [] (below h 384)) fun x =>
    if x.dev.st = .holding then refuse stCONFLICT
    else match x.calRefusal t with
      | some st => refuse st
      | none => .accept (x.updTerm t fun y => { y with ana := { y.ana with
          calTag := some (Hdr.side h, h.tag, h.queue.val) } }) 0)

/-- The plug, the supply and the barrier counts of a field chip, as WAGON_STATUS returns them (log entry 63). -/
def State.wagonSide (s : State) (i : Nat) : List Nat :=
  [b2n (!(s.lanesOf i).plugOpen), b2n (!(s.lanesOf i).fsup), (s.chipOf i).badIn, (s.viewOf i).badIn]

/-- WAGON_STATUS (R354). -/
def execWagonStatus (h : Hdr) (params : List Slot16) (s : State) : Res :=
  let w := h.target.toNat
  done (s.serve h params (plain 0x24 false params [] (below h 12)) fun x =>
    ok x (natWord (x.cw cWCFG w 0) :: (x.wagonSide (2 * w) ++ x.wagonSide (2 * w + 1))))

/-- A count of n objects from a first one that runs past the last of them. -/
def runsPast (h : Hdr) (n last : Nat) : Option Nat := if last < h.target.toNat + n then some 0 else none

/-- PD_WRITE (R354): the cells change in the image of the next capture. -/
def execPdWrite (h : Hdr) (params : List Slot16) (s : State) : Res :=
  let n := pv params 0
  let vals := params.drop 1
  let f : Form := ⟨0x30, false, params.length = 1 + n % 2 ^ 72 && params ≠ [],
    some (7, 1, 64) :: vals.map fun _ => some (64, 0, 2 ^ 64 - 1), below h 64, runsPast h n 64, true, none⟩
  done (s.serve h params f fun x =>
    ok { x with pdNext := x.pdNext ++ (List.range n).map fun i =>
      (h.target.toNat + i, BitVec.ofNat 64 (pv vals i)) } [])

/-- PD_READ (R354). -/
def execPdRead (h : Hdr) (params : List Slot16) (s : State) : Res :=
  let n := pv params 0
  let f : Form := { plain 0x31 false params [(7, 1, 64)] (below h 64) with far := runsPast h n 64 }
  done (s.serve h params f fun x =>
    ok x ((List.range n).map fun i => (Tab.get (0 : BitVec 64) x.pd (h.target.toNat + i)).toNat))

/-- SF_STATUS (R354). -/
def execSfStatus (h : Hdr) (params : List Slot16) (s : State) : Res :=
  let f := h.target.toNat
  done (s.serve h params (plain 0x40 false params [] (below h 4096)) fun x => ok x [natWord (x.fcfg f), natWord (x.fstat f)])

/-- SF_STATUS_BULK (R354). -/
def execSfStatusBulk (h : Hdr) (params : List Slot16) (s : State) : Res :=
  let n := pv params 0
  let f : Form := { plain 0x41 false params [(8, 1, 240)] (below h 4096) with far := runsPast h n 4096 }
  done (s.serve h params f fun x => ok x ((List.range n).map fun i => natWord (x.fstat (h.target.toNat + i))))

/-- The DOOR index of the groups from a first one on, 14 to a word (log entry 63). -/
def State.doorMap (s : State) (k : Nat) : Nat :=
  ((List.range 14).map fun i => at_ (fld (s.gmap (14 * k + i)) 71 67) (5 * i)).foldl (· + ·) 0

/-- SF_DEMANDS (R354): the DOOR and NSTOP latches of both sides, then the groups' DOOR map. -/
def execSfDemands (h : Hdr) (params : List Slot16) (s : State) : Res :=
  done (s.serve h params (plain 0x42 false params [] (noTarget h)) fun x =>
    ok x ([x.half.a.door.toNat, x.half.b.door.toNat, x.half.a.nstop.toNat, x.half.b.nstop.toNat] ++
      (List.range 37).map x.doorMap))

/-- An instance that the active package configures. -/
def State.configured (s : State) (h : Hdr) : Bool := s.fns.contains h.target.toNat

/-- SF_RESET_ARM (R256). -/
def execSfResetArm (h : Hdr) (params : List Slot16) (s : State) : Res :=
  let f := h.target.toNat
  done (s.serve h params (plain 0x43 true params [] (s.configured h)) fun x =>
    if !bit (x.fcfg f) 35 then refuse stSAFETY
    else
      let chal := BitVec.ofNat 16 x.clock.frame.toNat ^^^ BitVec.ofNat 16 h.tag.toNat
      ok { x with armed := some ⟨f, Hdr.side h, chal, x.edgeCount⟩ } [chal.toNat])

/-- A confirmed remote reset reaches the function in the running frame, and R254 decides it: OK, or STATE_CONFLICT when it is
not accepted. The arm is consumed. -/
def State.confirmReset (s : State) (f : Nat) : Answer :=
  let s1 := (({ s with armed := none }).updFn f fun x => { x with reset := true }).runFn f false
  let taken : Bool := match (s1.fnOf f).next with
    | some w => w.ledg.contains 3
    | none => false
  .reply s1 (if taken then stOK else stCONFLICT) []

/-- SF_RESET_CONFIRM (R256): no valid arm of this port for this instance within 2 s, or a wrong CHAL, which voids the arm. -/
def execSfResetConfirm (h : Hdr) (params : List Slot16) (s : State) : Res :=
  let f := h.target.toNat
  settled (s.serve h params (plain 0x44 true params [(16, 0, 65535)] (s.configured h)) fun x =>
    if !bit (x.fcfg f) 35 then refuse stSAFETY
    else match x.armed with
      | none => refuse stCONFLICT
      | some a =>
        if a.fn ≠ f ∨ some a.port ≠ h.port ∨ a.at_ + 2000000 < x.edgeCount then refuse stCONFLICT
        else if BitVec.ofNat 16 (pv params 0) ≠ a.chal ^^^ (0xFFFF#16) then .reply { x with armed := none } stCHECK []
        else x.confirmReset f)

/-- Commissioning mode is entered (R258, R266). -/
def State.enterComm (s : State) (f : Nat) : State :=
  let st := (s.fnOf f).st.code
  (s.updFn f fun x => { x with comm := true }).ledgerAdd 0x07 f noChan 0 0 st st

/-- SF_COMMISSION (R258); R258 names no code for COMM_OK = 0, so R3 gives REFUSED_SAFETY. -/
def execSfCommission (h : Hdr) (params : List Slot16) (s : State) : Res :=
  let f := h.target.toNat
  settled (s.serve h params (plain 0x45 true params [(1, 0, 1)] (s.configured h)) fun x =>
    if !bit (x.fcfg f) 34 then refuse stSAFETY
    else if pv params 0 = 0 then ok (x.leaveComm f) []
    else match (x.fnOf f).st with
      | .locked => ok (if (x.fnOf f).comm then x else x.enterComm f) []
      | .tripped => ok (if (x.fnOf f).comm then x else x.enterComm f) []
      | .fault => ok (if (x.fnOf f).comm then x else x.enterComm f) []
      | _ => refuse stCONFLICT)

/-- SF_GROUP_STATUS (R354): the instances of a group counted by STATE, code 0 first. -/
def execSfGroupStatus (h : Hdr) (params : List Slot16) (s : State) : Res :=
  let g := h.target.toNat
  done (s.serve h params (plain 0x46 false params [] (below h 512)) fun x =>
    let fs := x.fns.filter fun f => x.fGroup f = g
    ok x ((List.range 6).map fun k => (fs.filter fun f => (x.fnOf f).st.code = k).length))

/-- MON_READ_CFG (R354): the 14 words of a monitor. -/
def execMonReadCfg (h : Hdr) (params : List Slot16) (s : State) : Res :=
  done (s.serve h params (plain 0x50 false params [] (below h 64)) fun x =>
    ok x ((List.range 14).map fun w => natWord (x.cw cMON h.target.toNat w)))

/-- MON_STATUS (R354). -/
def execMonStatus (h : Hdr) (params : List Slot16) (s : State) : Res :=
  done (s.serve h params (plain 0x51 false params [] (below h 64)) fun x => ok x ((x.mstat h.target.toNat).map natWord))

/-- A motion stop command is a stop request at the capture whose image holds it (R286, R287): the monitor's verdict of that capture
is formed with it. One that finds no frame in progress waits for the next capture. -/
def State.monStopNow (s : State) (m : Nat) : State :=
  let hold (x : State) : State := x.updMonx m fun y => { y with hostStop := true }
  if s.monOld.isNone ∨ s.msrc m = 0 then hold s
  else
    let r := s.monStop m true
    let v := lowerRaise r.2 (s.monLimits m)
    let s1 := hold (s.monNext m true r.1)
    if v = (s.monxOf m).raise then s1
    else (s1.monRaise m true v).forEach ((s.bound m).filter fun f => (s.fnOf f).next.isSome) fun z f => z.runFn f false

/-- MON_STOP (R286): a stop request at the capture; NOT_IN_MODE when HOST_EN = 0. -/
def execMonStop (h : Hdr) (params : List Slot16) (s : State) : Res :=
  let m := h.target.toNat
  done (s.serve h params (plain 0x52 false params [] (below h 8)) fun x =>
    if bit (x.mstop m 1) 6 then ok (x.monStopNow m) [] else refuse stMODE)

/-- Instruction k of a program's parameter slots (R354 SHIFT_LOAD). -/
def progIns (ps : List Slot16) (k : Nat) : BitVec 24 := BitVec.ofNat 24 (pv ps (3 + k / 3) / 2 ^ (24 * (k % 3)))

/-- An OP that R151 defines. -/
def opDefined (w : BitVec 24) : Bool := 1 ≤ fld w 23 20 && fld w 23 20 ≤ 0x0A

/-- The engines that a side mask names. -/
def maskSides (m : Nat) : List Side := (if m % 2 = 1 then [Side.A] else []) ++ (if m / 2 % 2 = 1 then [Side.B] else [])

/-- SHIFT_LOAD (R151–R153): the verdict of the running frame, from RUN in the image; the load waits for the commit. -/
def execShiftLoad (h : Hdr) (params : List Slot16) (s : State) : Res :=
  let n := h.target.toNat
  let count := pv params 2
  let f : Form := ⟨0x53, true, 4 ≤ params.length && params.length = 3 + (count % 2 ^ 72 + 2) / 3,
    [some (2, 1, 3), some (1, 0, 1), some (7, 1, 64)] ++ (params.drop 3).map fun _ => some (72, 0, 2 ^ 72 - 1), below h 8, none, true, none⟩
  done (s.serve h params f fun x =>
    let prog := (List.range count).map (progIns params)
    let engines := (maskSides (pv params 0)).map fun (d : Side) => 8 * d.ix + n
    if x.dev.st = .holding then refuse stCONFLICT
    else if !prog.all opDefined then refuse stCHECK
    else if pv params 1 = 0 ∧ engines.any (fun i => bit (x.encOf i).img1 67) then refuse stSHIFT
    else ok (x.forEach engines fun y i => y.updEng i fun g => { g with load := some prog }) [])

/-- ENC_STATUS (R354): ECFG of both sides, then image words 0 and 1 of side A and of side B (log entry 63). -/
def execEncStatus (h : Hdr) (params : List Slot16) (s : State) : Res :=
  let n := h.target.toNat
  done (s.serve h params (plain 0x54 false params [] (below h 8)) fun x =>
    ok x ([x.cw cECFG n 0, x.cw cECFG (8 + n) 0, (x.encOf n).img0, (x.encOf n).img1, (x.encOf (8 + n)).img0,
      (x.encOf (8 + n)).img1].map natWord))

end Sys2Proof.Machine
end

