-- ==== Sys2Proof/Machine/Insn.lean ====
section
/-! DEFINITION. The instruction words of the Coach ISA (R209–R211, R218–R228): which instruction a 36-bit word is. -/

namespace Sys2Proof.Machine

/-- An instruction as its word gives it: the command, the register fields that it uses, the mode that it needs (0 any, 1 trap
mode, 2 normal mode; R226), and the special register that it reads or writes (R228). -/
structure Insn where
  ins  : Instr
  regs : List RegField := []
  mode : Nat := 0
  rd   : Option Nat := none
  wr   : Option Nat := none
  deriving DecidableEq, Repr

/-- One of the two instructions of a word (R209): the low one is executed first. -/
def insnAt (w : Word) (high : Bool) : BitVec 36 := BitVec.ofNat 36 (if high then fld w 71 36 else fld w 35 0)

/-- An RR instruction with two sources and a destination. -/
def rrInsn (i : RegField → RegField → RegField → Instr) (d a b : RegField) : Option Insn := some { ins := i d a b, regs := [d, a, b] }

/-- The ALU group (R220). -/
def decodeAlu (c : CoachRef) (d a b : RegField) : Nat → Option Insn
  | 0 => rrInsn (.add c) d a b
  | 1 => rrInsn (.addc c) d a b
  | 2 => rrInsn (.addx c) d a b
  | 3 => rrInsn (.sub c) d a b
  | 4 => rrInsn (.subc c) d a b
  | 5 => rrInsn (.subx c) d a b
  | 6 => if b = 0 then some { ins := .neg c d a, regs := [d, a] } else none
  | 7 => if b = 0 then some { ins := .negc c d a, regs := [d, a] } else none
  | 8 => rrInsn (.and c) d a b
  | 9 => rrInsn (.or c) d a b
  | 10 => rrInsn (.xor c) d a b
  | 11 => rrInsn (.andn c) d a b
  | 12 => if d = 0 then some { ins := .cmp c a b, regs := [a, b] } else none
  | 13 => if d = 0 then some { ins := .tst c a b, regs := [a, b] } else none
  | 14 => rrInsn (.min c) d a b
  | 15 => rrInsn (.max c) d a b
  | 16 => rrInsn (.minu c) d a b
  | 17 => rrInsn (.maxu c) d a b
  | _ => none

/-- The MULDIV group (R221). -/
def decodeMul (c : CoachRef) (d a b : RegField) : Nat → Option Insn
  | 0 => rrInsn (.mul c) d a b
  | 1 => rrInsn (.mulc c) d a b
  | 2 => rrInsn (.mulh c) d a b
  | 3 => rrInsn (.mulhu c) d a b
  | 4 => rrInsn (.div c) d a b
  | 5 => rrInsn (.divc c) d a b
  | 6 => rrInsn (.rem c) d a b
  | 7 => rrInsn (.remc c) d a b
  | 8 => rrInsn (.divu c) d a b
  | 9 => rrInsn (.remu c) d a b
  | 10 => rrInsn (.divuc c) d a b
  | 11 => rrInsn (.remuc c) d a b
  | _ => none

/-- The SHIFT, SAT and BYTE groups (R222, R223, R225), by primary opcode. -/
def decodeSmall (c : CoachRef) (op : Nat) (d a b : RegField) (func : Nat) : Option Insn :=
  match op, func with
  | 3, 0 => rrInsn (.shl c) d a b
  | 3, 1 => rrInsn (.shr c) d a b
  | 3, 2 => rrInsn (.sar c) d a b
  | 4, 0 => rrInsn (.adds c) d a b
  | 4, 1 => rrInsn (.subs c) d a b
  | 4, 2 => rrInsn (.muls c) d a b
  | 5, 0 => rrInsn (.bxt c) d a b
  | 5, 1 => rrInsn (.bxts c) d a b
  | 5, 2 => rrInsn (.bins c) d a b
  | _, _ => none

/-- The SYS group (R226). -/
def decodeSys (c : CoachRef) (d a b : RegField) (func : Nat) : Option Insn :=
  if d ≠ 0 ∨ b ≠ 0 then none
  else if a ≠ 0 ∧ func ≠ 4 ∧ func ≠ 5 ∧ func ≠ 7 ∧ func ≠ 8 then none
  else match func with
    | 0 => some { ins := .nop c }
    | 1 => some { ins := .save c, mode := 2 }
    | 2 => some { ins := .restore c, mode := 2 }
    | 3 => some { ins := .ret c, mode := 2 }
    | 4 => some { ins := .jmpr c a, regs := [a], mode := 2 }
    | 5 => some { ins := .callr c a, regs := [a], mode := 2 }
    | 6 => some { ins := .tret c, mode := 1 }
    | 7 => some { ins := .spill c a, regs := [a], mode := 1 }
    | 8 => some { ins := .fill c a, regs := [a], mode := 1 }
    | 9 => some { ins := .tlbf c, mode := 1 }
    | 10 => some { ins := .isync c, mode := 1 }
    | _ => none

/-- The immediate and memory instructions (R218). -/
def decodeImm (c : CoachRef) (op : Nat) (d a : RegField) (imm : BitVec 16) : Option Insn :=
  let two (i : RegField → RegField → BitVec 16 → Instr) : Option Insn := some { ins := i d a imm, regs := [d, a] }
  match op with
  | 0x10 => two (.addi c)
  | 0x11 => two (.andi c)
  | 0x12 => two (.ori c)
  | 0x13 => two (.xori c)
  | 0x14 => if d = 0 then some { ins := .cmpi c a imm, regs := [a] } else none
  | 0x15 => two (.shli c)
  | 0x16 => two (.shri c)
  | 0x17 => two (.sari c)
  | 0x18 => two (.muli c)
  | 0x1A => if imm.toNat < 9 then two (.bxti c) else none
  | 0x1B => if imm.toNat < 9 then two (.binsi c) else none
  | 0x20 => two (.ld c)
  | 0x21 => two (.st c)
  | 0x22 => two (.xchg c)
  | 0x23 => if d = 0 ∧ a = 0 ∧ imm = 0 then some { ins := .fence c } else none
  | 0x40 => if d = 0 ∧ a = 0 ∧ imm.toNat < 256 then some { ins := .trap c imm } else none
  | 0x41 => if d = 0 ∧ a = 0 ∧ imm = 0 then some { ins := .cpl c, mode := 2 } else none
  | 0x42 => if d = 0 ∧ a = 0 ∧ imm = 0 then some { ins := .fend c, mode := 2 } else none
  | 0x43 => if a = 0 then some { ins := .rdsr c d imm, regs := [d], rd := some imm.toNat } else none
  | 0x44 => if d = 0 then some { ins := .wrsr c a imm, regs := [a], wr := some imm.toNat } else none
  | _ => none

/-- The branches (R218, R219). -/
def decodeJ (c : CoachRef) (op : Nat) (disp : BitVec 28) : Option Insn :=
  match op with
  | 0x30 => some { ins := .br c disp }
  | 0x31 => some { ins := .call c disp }
  | 0x32 => some { ins := .beq c disp }
  | 0x33 => some { ins := .bne c disp }
  | 0x34 => some { ins := .blt c disp }
  | 0x35 => some { ins := .bge c disp }
  | 0x36 => some { ins := .ble c disp }
  | 0x37 => some { ins := .bgt c disp }
  | 0x38 => some { ins := .blo c disp }
  | 0x39 => some { ins := .bhs c disp }
  | 0x3A => some { ins := .bls c disp }
  | 0x3B => some { ins := .bhi c disp }
  | 0x3C => some { ins := .bvs c disp }
  | 0x3D => some { ins := .bvc c disp }
  | 0x3E => some { ins := .bmi c disp }
  | 0x3F => some { ins := .bpl c disp }
  | _ => none

/-- The instruction of a word (R210, R211, R218), none when it is illegal: a reserved opcode or func value, or an unused field
that is not zero. -/
def decodeInsn (c : CoachRef) (w : BitVec 36) : Option Insn :=
  let op := fld w 35 28
  let d : RegField := BitVec.ofNat 6 (fld w 27 22)
  let a : RegField := BitVec.ofNat 6 (fld w 21 16)
  let b : RegField := BitVec.ofNat 6 (fld w 15 10)
  let func := fld w 9 0
  if op = 1 then decodeAlu c d a b func
  else if op = 2 then decodeMul c d a b func
  else if op = 3 ∨ op = 4 ∨ op = 5 then decodeSmall c op d a b func
  else if op = 7 then decodeSys c d a b func
  else if op = 0x19 then some { ins := .ldu c d (BitVec.ofNat 22 (fld w 21 0)), regs := [d] }
  else if 0x30 ≤ op ∧ op ≤ 0x3F then decodeJ c op (BitVec.ofNat 28 (fld w 27 0))
  else decodeImm c op d a (BitVec.ofNat 16 (fld w 15 0))

end Sys2Proof.Machine
end

