-- ==== Sys2Proof/Machine/Isa.lean ====
section
/-! DEFINITION. The Coach ISA (spec/09: R208–R242): one meaning per instruction over the core of Cpu.lean. -/

namespace Sys2Proof.Machine

/-- What a derail does (R233, R188, R198): the coach stops; a locked slot registers DERAIL on its side, a split coach is
tested. -/
def State.derailed (s : State) (c : CoachRef) : State :=
  let s1 := s.updCst c.ix fun x => { x with stopped := true, derailed := true }
  match s1.slotOfCoach c.side c.coach.val with
  | none => s1
  | some p => if (s1.slotOf p).st = .split then s1.startTest (nCoach c.ix) tcCoach else s1.registerMismatch c.side p 6

/-- A coupling of a locked copy (R186, R187): its values go to the coupling units; a split coach has none (R236). -/
def State.coupled (s : State) (c : CoachRef) (v : Bool × Word × Nat) : State :=
  match s.slotOfCoach c.side c.coach.val with
  | none => s
  | some p =>
    if (s.slotOf p).st = .split then s
    else s.sendCpl c.side p ⟨v.2.1, v.2.2, v.1, if v.1 then s.outSig c.side p else 0⟩

/-- The slot of a coach is SPLIT, or it serves none: its device accesses are permitted (R237). -/
def State.lockedCoach (s : State) (c : CoachRef) : Bool :=
  match s.slotOfCoach c.side c.coach.val with
  | none => false
  | some p => (s.slotOf p).st ≠ .split

/-- What a coach reads in the device region of its side: the timer units, the timer mailbox queue and the depot queues assigned to
its slot, of which the oldest word (R14, R146, R147, R237). -/
def State.liveDevice (s : State) (c : CoachRef) : Tab (Option Word) :=
  let timers := (List.range 64).foldl (fun t n =>
    Tab.set none t (Config.timerWord n) (some (s.timerOf (64 * c.side.ix + n)).value)) []
  let mail := match s.mailbox.get c.side with
    | [] => timers
    | n :: _ => Tab.set none timers Config.mailWord (some (BitVec.ofNat 72 n))
  let own := match s.slotOfCoach c.side c.coach.val with | none => [] | some p => Config.splitQueues p
  own.foldl (fun t q =>
    match (s.queueOf q).words with
    | [] => t
    | w :: _ => Tab.set none t (Config.queueRead q) (some w)) mail

/-- The core of a coach with the memories that it reaches (R36, R209, R237). -/
def State.cpu (s : State) (c : CoachRef) : Cpu :=
  let m := s.mem.get c.side
  let x : Slot := match s.slotOfCoach c.side c.coach.val with | some p => if s.lockedCoach c then s.slotOf p else {} | none => {}
  { co := s.coachOf c.ix, frame := m.frame, device := m.device,
    poison := s.tests.poison.get c.side ++ s.tests.ecc.get c.side, locked := s.lockedCoach c, free := s.free,
    work := x.work.get c.side, buf := x.buf.get c.side,
    live := s.liveDevice c }

/-- What a core has written goes back to the state. -/
def State.putCpu (s : State) (c : CoachRef) (u : Cpu) : State :=
  let s1 := { s with
    coach := Tab.set {} s.coach c.ix u.co
    mem := s.mem.set { (s.mem.get c.side) with frame := u.frame, device := u.device } c.side
    tests := { s.tests with
      poison := s.tests.poison.set ((s.tests.poison.get c.side).filter fun a => u.poison.contains a) c.side
      ecc := s.tests.ecc.set ((s.tests.ecc.get c.side).filter fun a => u.poison.contains a) c.side }
    free := u.free }
  if u.work = (s.cpu c).work then s1
  else match s.slotOfCoach c.side c.coach.val with
    | none => s1
    | some p => s1.updSlot p fun x => { x with work := x.work.set u.work c.side }

/-- A word with a correctable error has been read (R240, R365, R369): it is written back with event 0x0401; a second error of the
word within 24 h starts the bank's test. -/
def State.corrected (s : State) (d : Side) (pa : Nat) : State :=
  if !(s.tests.soft.get d).contains pa then s
  else
    let old := Tab.get 0 (s.tests.softAt.get d) pa
    let s1 := { s with tests := { s.tests with
      soft := s.tests.soft.set ((s.tests.soft.get d).filter (· ≠ pa)) d
      softAt := s.tests.softAt.set (Tab.set 0 (s.tests.softAt.get d) pa (s.clock.count + 1)) d } }
    let s2 := s1.post 0x0401 (nBank d (bankOf pa)) 0 (pa % 2 ^ 19)
    if old ≠ 0 ∧ s.clock.count < old + 86400000000 then s2.errorBank d (bankOf pa) else s2

/-- A split coach writes a depot queue that the package assigns to it (R14). -/
def State.deviceOut (s : State) (c : CoachRef) (e : Nat × Word) : State :=
  match s.slotOfCoach c.side c.coach.val, Config.queueWord e.1 with
  | some p, some q =>
    if (Config.splitQueues p).contains q ∧ (s.queueOf q).live then s.updQueue q fun x => { x with words := x.words ++ [e.2] } else s
  | _, _ => s

/-- The errors that an instruction met (R235, R240, R365): walk faults, the test of a split coach, memory events. -/
def State.meetErrors (s : State) (c : CoachRef) (u : Cpu) : State :=
  let s1 := u.seen.foldl (fun (x : State) (pa : Nat) => x.corrected c.side pa) s
  let s2 := match u.walk with
    | none => s1
    | some w => s1.post 0x0403 (nCoach c.ix) 3 w
  let s3 := if (u.walk.isSome ∨ u.hit.isSome) ∧ !u.derail ∧ !u.locked ∧ (s.slotOfCoach c.side c.coach.val).isSome then
      (s2.updCst c.ix fun x => { x with stopped := true }).startTest (nCoach c.ix) tcCoach
    else s2
  match u.hit with
  | none => s3
  | some pa => if (s.tests.ecc.get c.side).contains pa then s3.memoryError c.side pa else s3

/-- The trail of a locked slot holds for the debugger (R205). -/
def State.waits (s : State) (c : CoachRef) : Bool :=
  match c.side, s.slotOfCoach c.side c.coach.val with
  | .B, some p => (s.slotOf p).st ≠ .split && s.trailHolds p
  | _, _ => false

/-- A coach executes one instruction (R209, R210): nothing happens on a coach that is stopped, derailed, halted, waiting
after FEND or held for the debugger; an uncorrectable error in the core derails it (R235); a breakpoint or a single step halts
it again (R206). A coupling's values are formed before what follows it (R186, R242). -/
def State.isa (s : State) (c : CoachRef) (f : Cpu → Cpu) : State :=
  let k := s.cstOf c.ix
  if k.stopped ∨ k.derailed ∨ k.waitFend ∨ k.halted ∨ s.waits c then s
  else if k.eccBad then s.derailed c
  else
    let u := f (s.cpu c)
    let s1 := u.out.foldl (fun (x : State) (e : Nat × Word) => x.deviceOut c e) (s.putCpu c u)
    let s2 := match u.couple with
      | none => s1
      | some v => s1.coupled c v
    let s3 := if k.stepping ∨ k.breaks.contains u.co.pc then s2.updCst c.ix fun x => { x with halted := true, stepping := false } else s2
    let s4 := s3.meetErrors c u
    let s5 := if u.derail then s4.derailed c else s4
    if u.fend then s5.updCst c.ix fun x => { x with waitFend := true } else s5

/-- An instruction of the RR format with two sources and a destination. -/
def Cpu.rr (u : Cpu) (op func : Nat) (d a b : RegField) (res : Word × FlagW) (tval : Nat) : Cpu :=
  u.compute (insnRR op func d a b) [d, a, b] (some d) (some res.1) res.2 tval

/-- An instruction of the I format with a source, an immediate and a destination. -/
def Cpu.ri (u : Cpu) (op : Nat) (d a : RegField) (imm : BitVec 16) (res : Word × FlagW) : Cpu :=
  u.compute (insnI op d a imm) [d, a] (some d) (some res.1) res.2 0

/-- An immediate sign-extended, and zero-extended (R210). -/
def simm (imm : BitVec 16) : Word := imm.signExtend 72
def zimm (imm : BitVec 16) : Word := imm.setWidth 72

/-- ADD (R220): d := a + b. -/
def execAdd (c : CoachRef) (d a b : RegField) (s : State) : Res :=
  settled (s.isa c fun u => let r := addF (u.get a) (u.get b) 0; u.rr 1 0 d a b r 0)

/-- ADDC (R220): as ADD; V = 1 traps. -/
def execAddc (c : CoachRef) (d a b : RegField) (s : State) : Res :=
  settled (s.isa c fun u => let r := addF (u.get a) (u.get b) 0; u.rr 1 1 d a b r (trapV r.2))

/-- ADDX (R220): d := a + b + C. -/
def execAddx (c : CoachRef) (d a b : RegField) (s : State) : Res :=
  settled (s.isa c fun u => let r := addF (u.get a) (u.get b) (if fC u.co.flags then 1 else 0); u.rr 1 2 d a b r 0)

/-- SUB (R220): d := a − b. -/
def execSub (c : CoachRef) (d a b : RegField) (s : State) : Res :=
  settled (s.isa c fun u => let r := subF (u.get a) (u.get b) 0; u.rr 1 3 d a b r 0)

/-- SUBC (R220): as SUB; V = 1 traps. -/
def execSubc (c : CoachRef) (d a b : RegField) (s : State) : Res :=
  settled (s.isa c fun u => let r := subF (u.get a) (u.get b) 0; u.rr 1 4 d a b r (trapV r.2))

/-- SUBX (R220): d := a − b − C. -/
def execSubx (c : CoachRef) (d a b : RegField) (s : State) : Res :=
  settled (s.isa c fun u => let r := subF (u.get a) (u.get b) (if fC u.co.flags then 1 else 0); u.rr 1 5 d a b r 0)

/-- NEG (R220, R224): d := 0 − a. -/
def execNeg (c : CoachRef) (d a : RegField) (s : State) : Res :=
  settled (s.isa c fun u => let r := negF (u.get a); u.compute (insnRR 1 6 d a 0) [d, a] (some d) (some r.1) r.2 0)

/-- NEGC (R220, R224): as NEG; V = 1 traps. -/
def execNegc (c : CoachRef) (d a : RegField) (s : State) : Res :=
  settled (s.isa c fun u => let r := negF (u.get a); u.compute (insnRR 1 7 d a 0) [d, a] (some d) (some r.1) r.2 (trapV r.2))

/-- AND (R220): d := a and b. -/
def execAnd (c : CoachRef) (d a b : RegField) (s : State) : Res :=
  settled (s.isa c fun u => let r := logicF ((u.get a) &&& (u.get b)); u.rr 1 8 d a b r 0)

/-- OR (R220): d := a or b. -/
def execOr (c : CoachRef) (d a b : RegField) (s : State) : Res :=
  settled (s.isa c fun u => let r := logicF ((u.get a) ||| (u.get b)); u.rr 1 9 d a b r 0)

/-- XOR (R220): d := a xor b. -/
def execXor (c : CoachRef) (d a b : RegField) (s : State) : Res :=
  settled (s.isa c fun u => let r := logicF ((u.get a) ^^^ (u.get b)); u.rr 1 10 d a b r 0)

/-- ANDN (R220): d := a and not b. -/
def execAndn (c : CoachRef) (d a b : RegField) (s : State) : Res :=
  settled (s.isa c fun u => let r := logicF ((u.get a) &&& ~~~(u.get b)); u.rr 1 11 d a b r 0)

/-- CMP (R220): flags of SUB; no register write. -/
def execCmp (c : CoachRef) (a b : RegField) (s : State) : Res :=
  settled (s.isa c fun u => let r := subF (u.get a) (u.get b) 0; u.compute (insnRR 1 12 0 a b) [a, b] none none r.2 0)

/-- TST (R220): flags of AND; no register write. -/
def execTst (c : CoachRef) (a b : RegField) (s : State) : Res :=
  settled (s.isa c fun u => let r := logicF ((u.get a) &&& (u.get b)); u.compute (insnRR 1 13 0 a b) [a, b] none none r.2 0)

/-- MIN (R220): signed minimum, no flags. -/
def execMin (c : CoachRef) (d a b : RegField) (s : State) : Res :=
  settled (s.isa c fun u => let r := (if (u.get a).toInt ≤ (u.get b).toInt then (u.get a) else (u.get b), ({} : FlagW)); u.rr 1 14 d a b r 0)

/-- MAX (R220): signed maximum, no flags. -/
def execMax (c : CoachRef) (d a b : RegField) (s : State) : Res :=
  settled (s.isa c fun u => let r := (if (u.get a).toInt ≤ (u.get b).toInt then (u.get b) else (u.get a), ({} : FlagW)); u.rr 1 15 d a b r 0)

/-- MINU (R220): unsigned minimum, no flags. -/
def execMinu (c : CoachRef) (d a b : RegField) (s : State) : Res :=
  settled (s.isa c fun u => let r := (if (u.get a).toNat ≤ (u.get b).toNat then (u.get a) else (u.get b), ({} : FlagW)); u.rr 1 16 d a b r 0)

/-- MAXU (R220): unsigned maximum, no flags. -/
def execMaxu (c : CoachRef) (d a b : RegField) (s : State) : Res :=
  settled (s.isa c fun u => let r := (if (u.get a).toNat ≤ (u.get b).toNat then (u.get b) else (u.get a), ({} : FlagW)); u.rr 1 17 d a b r 0)

/-- MUL (R221, R224): low half of the signed product. -/
def execMul (c : CoachRef) (d a b : RegField) (s : State) : Res :=
  settled (s.isa c fun u => let r := mulF (u.get a) (u.get b); u.rr 2 0 d a b r 0)

/-- MULC (R221, R224): as MUL; V = 1 traps. -/
def execMulc (c : CoachRef) (d a b : RegField) (s : State) : Res :=
  settled (s.isa c fun u => let r := mulF (u.get a) (u.get b); u.rr 2 1 d a b r (trapV r.2))

/-- MULH (R221, R224): high half of the signed product. -/
def execMulh (c : CoachRef) (d a b : RegField) (s : State) : Res :=
  settled (s.isa c fun u => let r := mulhF (u.get a) (u.get b); u.rr 2 2 d a b r 0)

/-- MULHU (R221, R224): high half of the unsigned product. -/
def execMulhu (c : CoachRef) (d a b : RegField) (s : State) : Res :=
  settled (s.isa c fun u => let r := mulhuF (u.get a) (u.get b); u.rr 2 3 d a b r 0)

/-- DIV (R221, R224): signed quotient. -/
def execDiv (c : CoachRef) (d a b : RegField) (s : State) : Res :=
  settled (s.isa c fun u => let r := divF (u.get a) (u.get b); u.rr 2 4 d a b r 0)

/-- DIVC (R221, R224): as DIV; V = 1 or DZ = 1 traps. -/
def execDivc (c : CoachRef) (d a b : RegField) (s : State) : Res :=
  settled (s.isa c fun u => let r := divF (u.get a) (u.get b); u.rr 2 5 d a b r (trapV r.2))

/-- REM (R221, R224): signed remainder. -/
def execRem (c : CoachRef) (d a b : RegField) (s : State) : Res :=
  settled (s.isa c fun u => let r := remF (u.get a) (u.get b); u.rr 2 6 d a b r 0)

/-- REMC (R221, R224): as REM; V = 1 or DZ = 1 traps. -/
def execRemc (c : CoachRef) (d a b : RegField) (s : State) : Res :=
  settled (s.isa c fun u => let r := remF (u.get a) (u.get b); u.rr 2 7 d a b r (trapV r.2))

/-- DIVU (R221, R224): unsigned quotient. -/
def execDivu (c : CoachRef) (d a b : RegField) (s : State) : Res :=
  settled (s.isa c fun u => let r := divuF (u.get a) (u.get b); u.rr 2 8 d a b r 0)

/-- REMU (R221, R224): unsigned remainder. -/
def execRemu (c : CoachRef) (d a b : RegField) (s : State) : Res :=
  settled (s.isa c fun u => let r := remuF (u.get a) (u.get b); u.rr 2 9 d a b r 0)

/-- DIVUC (R221, R224): as DIVU; DZ = 1 traps. -/
def execDivuc (c : CoachRef) (d a b : RegField) (s : State) : Res :=
  settled (s.isa c fun u => let r := divuF (u.get a) (u.get b); u.rr 2 10 d a b r (trapV r.2))

/-- REMUC (R221, R224): as REMU; DZ = 1 traps. -/
def execRemuc (c : CoachRef) (d a b : RegField) (s : State) : Res :=
  settled (s.isa c fun u => let r := remuF (u.get a) (u.get b); u.rr 2 11 d a b r (trapV r.2))

/-- SHL (R222, R224): the amount is the full unsigned value of b. -/
def execShl (c : CoachRef) (d a b : RegField) (s : State) : Res :=
  settled (s.isa c fun u => let r := shlF (u.get a) (u.get b).toNat; u.rr 3 0 d a b r 0)

/-- SHR (R222, R224): the amount is the full unsigned value of b. -/
def execShr (c : CoachRef) (d a b : RegField) (s : State) : Res :=
  settled (s.isa c fun u => let r := shrF (u.get a) (u.get b).toNat; u.rr 3 1 d a b r 0)

/-- SAR (R222, R224): the amount is the full unsigned value of b. -/
def execSar (c : CoachRef) (d a b : RegField) (s : State) : Res :=
  settled (s.isa c fun u => let r := sarF (u.get a) (u.get b).toNat; u.rr 3 2 d a b r 0)

/-- ADDS (R223, R224): clamped to the signed bounds. -/
def execAdds (c : CoachRef) (d a b : RegField) (s : State) : Res :=
  settled (s.isa c fun u => let r := satF ((u.get a).toInt + (u.get b).toInt); u.rr 4 0 d a b r 0)

/-- SUBS (R223, R224): clamped to the signed bounds. -/
def execSubs (c : CoachRef) (d a b : RegField) (s : State) : Res :=
  settled (s.isa c fun u => let r := satF ((u.get a).toInt - (u.get b).toInt); u.rr 4 1 d a b r 0)

/-- MULS (R223, R224): clamped to the signed bounds. -/
def execMuls (c : CoachRef) (d a b : RegField) (s : State) : Res :=
  settled (s.isa c fun u => let r := satF ((u.get a).toInt * (u.get b).toInt); u.rr 4 2 d a b r 0)

/-- BXT (R225): byte b of a, zero-extended. -/
def execBxt (c : CoachRef) (d a b : RegField) (s : State) : Res :=
  settled (s.isa c fun u => let r := bxtF (u.get a) (u.get b).toNat false; u.rr 5 0 d a b r 0)

/-- BXTS (R225): byte b of a, sign-extended. -/
def execBxts (c : CoachRef) (d a b : RegField) (s : State) : Res :=
  settled (s.isa c fun u => let r := bxtF (u.get a) (u.get b).toNat true; u.rr 5 1 d a b r 0)

/-- BINS (R225): byte b of d is replaced by the low byte of a; an index of 9 or more writes no register. -/
def execBins (c : CoachRef) (d a b : RegField) (s : State) : Res :=
  settled (s.isa c fun u =>
    let r := binsF (u.get d) (u.get a) (u.get b).toNat
    u.compute (insnRR 5 2 d a b) [d, a, b] (some d) r.1 r.2 0)

/-- ADDI (R218, R220): d := a + imm, sign-extended. -/
def execAddi (c : CoachRef) (d a : RegField) (imm : BitVec 16) (s : State) : Res :=
  settled (s.isa c fun u => u.ri 16 d a imm (addF (u.get a) (simm imm) 0))

/-- ANDI (R218): d := a and imm, zero-extended. -/
def execAndi (c : CoachRef) (d a : RegField) (imm : BitVec 16) (s : State) : Res :=
  settled (s.isa c fun u => u.ri 17 d a imm (logicF ((u.get a) &&& zimm imm)))

/-- ORI (R218): d := a or imm. -/
def execOri (c : CoachRef) (d a : RegField) (imm : BitVec 16) (s : State) : Res :=
  settled (s.isa c fun u => u.ri 18 d a imm (logicF ((u.get a) ||| zimm imm)))

/-- XORI (R218): d := a xor imm. -/
def execXori (c : CoachRef) (d a : RegField) (imm : BitVec 16) (s : State) : Res :=
  settled (s.isa c fun u => u.ri 19 d a imm (logicF ((u.get a) ^^^ zimm imm)))

/-- CMPI (R218): flags of a − imm; no register write. -/
def execCmpi (c : CoachRef) (a : RegField) (imm : BitVec 16) (s : State) : Res :=
  settled (s.isa c fun u => u.compute (insnI 0x14 0 a imm) [a] none none (subF (u.get a) (simm imm) 0).2 0)

/-- SHLI (R218, R222): as SHL with amount imm. -/
def execShli (c : CoachRef) (d a : RegField) (imm : BitVec 16) (s : State) : Res :=
  settled (s.isa c fun u => u.ri 21 d a imm (shlF (u.get a) imm.toNat))

/-- SHRI (R218, R222): as SHR with amount imm. -/
def execShri (c : CoachRef) (d a : RegField) (imm : BitVec 16) (s : State) : Res :=
  settled (s.isa c fun u => u.ri 22 d a imm (shrF (u.get a) imm.toNat))

/-- SARI (R218, R222): as SAR with amount imm. -/
def execSari (c : CoachRef) (d a : RegField) (imm : BitVec 16) (s : State) : Res :=
  settled (s.isa c fun u => u.ri 23 d a imm (sarF (u.get a) imm.toNat))

/-- MULI (R218, R221): as MUL with b = imm, sign-extended. -/
def execMuli (c : CoachRef) (d a : RegField) (imm : BitVec 16) (s : State) : Res :=
  settled (s.isa c fun u => u.ri 24 d a imm (mulF (u.get a) (simm imm)))

/-- LDU (R218): d := imm × 2^16, sign-extended; no flags. -/
def execLdu (c : CoachRef) (d : RegField) (imm : BitVec 22) (s : State) : Res :=
  settled (s.isa c fun u => u.compute (insnU 0x19 d imm) [d] (some d) (some (imm.signExtend 72 <<< 16)) {} 0)

/-- BXTI (R218, R225): as BXT with index imm; 9 and above are illegal. -/
def execBxti (c : CoachRef) (d a : RegField) (imm : BitVec 16) (s : State) : Res :=
  settled (s.isa c fun u =>
    if 9 ≤ imm.toNat then u.illegal (insnI 0x1A d a imm) else u.ri 0x1A d a imm (bxtF (u.get a) imm.toNat false))

/-- BINSI (R218, R225): as BINS with index imm; 9 and above are illegal. -/
def execBinsi (c : CoachRef) (d a : RegField) (imm : BitVec 16) (s : State) : Res :=
  settled (s.isa c fun u =>
    if 9 ≤ imm.toNat then u.illegal (insnI 0x1B d a imm)
    else
      let r := binsF (u.get d) (u.get a) imm.toNat
      u.compute (insnI 0x1B d a imm) [d, a] (some d) r.1 r.2 0)

/-- The value of a special register, none when an access is illegal in the mode (R228). -/
def Cpu.readSr (u : Cpu) (n : Nat) : Option Word :=
  let c := u.co
  match n with
  | 0x00 => some (c.flags.setWidth 72)
  | 0x01 => some (c.ef.setWidth 72)
  | 0x02 => some (BitVec.ofNat 72 c.retcnt)
  | 0x03 => some (BitVec.ofNat 72 (at_ c.spilled 8 + at_ c.depth 5 + c.cur))
  | 0x04 => some (c.part.setWidth 72)
  | 0x05 => some (c.slotNo.setWidth 72)
  | 0x06 => some c.vbase
  | _ =>
    if 0x08 ≤ n ∧ n ≤ 0x0F then (if c.trapMode then some (c.getPhys (136 + (n - 8))) else none)
    else if 0x10 ≤ n ∧ n ≤ 0x1F then (if c.trapMode then some (Tab.get 0 c.ptbr (n - 0x10)) else none)
    else none

/-- Write a special register, none when the access is illegal in the mode (R228, R217, R238). -/
def Cpu.writeSr (u : Cpu) (n : Nat) (w : Word) : Option Cpu :=
  let c := u.co
  match n with
  | 0x00 => some { u with co := { c with flags := w.setWidth 5 } }
  | 0x01 => some { u with co := { c with ef := w.setWidth 2 } }
  | 0x06 => if c.trapMode then some { u with co := { c with vbase := BitVec.ofNat 72 (fld w 39 4 * 16) } } else none
  | _ =>
    if 0x08 ≤ n ∧ n ≤ 0x0F then (if c.trapMode then some { u with co := c.setPhys (136 + (n - 8)) w } else none)
    else if 0x10 ≤ n ∧ n ≤ 0x1F then
      (if c.trapMode then
        some { u with co := { c with
          ptbr := Tab.set 0 c.ptbr (n - 0x10) (BitVec.ofNat 72 (at_ (fld w 71 71) 71 + at_ (fld w 35 14) 14)) } }
       else none)
    else none

/-- A word is a legal instruction on a core (R211, R212, R226, R228): it decodes, its registers and its mode are permitted, and a
special register that it names is one that the mode may read or write. -/
def Cpu.legal (u : Cpu) (c : CoachRef) (w : BitVec 36) : Bool :=
  match decodeInsn c w with
  | none => false
  | some k => !k.regs.any u.badReg && (k.mode = 0 || (k.mode = 1) = u.co.trapMode) &&
      (match k.rd with | none => true | some n => (u.readSr n).isSome) &&
      (match k.wr with | none => true | some n => (u.writeSr n 0).isSome)

/-- ILLEGAL_INSTRUCTION (R211): a word that is no legal instruction takes a precise trap with no side effect; a legal one is not
this command's. -/
def execIllegalInstruction (c : CoachRef) (insn : BitVec 36) (s : State) : Res :=
  settled (s.isa c fun u => if u.legal c insn then u else u.illegal (insn.setWidth 72))

/-- NOP (R226). -/
def execNop (c : CoachRef) (s : State) : Res := settled (s.isa c fun u => u.next)

/-- The new window of SAVE: zeroed without a fold, with g15 folded into its k7 (R215). -/
def Coach.saveWindow (c : Coach) : Coach :=
  let w := (c.cur + 1) % 7
  let z := (List.range 16).foldl (fun r j => Tab.set 0 r (16 + 16 * w + j) 0) c.regs
  { c with regs := z, cur := w, depth := c.depth + 1 }.setPhys (16 + 16 * w + 7) (c.getPhys 15)

/-- SAVE (R215, R226). -/
def execSave (c : CoachRef) (s : State) : Res :=
  settled (s.isa c fun u =>
    let insn := insnRR 7 1 0 0 0
    if u.co.trapMode then u.illegal insn
    else if u.co.depth = 7 then u.trap 0x03 0 insn
    else { u with co := u.co.saveWindow }.next)

/-- RESTORE may leave the current window (R215). -/
def Coach.canRestore (c : Coach) : Bool := 3 ≤ c.depth || (c.depth = 2 && c.spilled = 0)

/-- The window step of RESTORE (R215). -/
def Coach.restoreWindow (c : Coach) : Coach := { c with cur := (c.cur + 6) % 7, depth := c.depth - 1 }

/-- RESTORE (R215, R226). -/
def execRestore (c : CoachRef) (s : State) : Res :=
  settled (s.isa c fun u =>
    let insn := insnRR 7 2 0 0 0
    if u.co.trapMode then u.illegal insn
    else if !u.co.canRestore then u.trap 0x04 0 insn
    else { u with co := u.co.restoreWindow }.next)

/-- RET (R215, R226): the target is k7 of the window left, within the 41-bit instruction address (R209). -/
def execRet (c : CoachRef) (s : State) : Res :=
  settled (s.isa c fun u =>
    let insn := insnRR 7 3 0 0 0
    if u.co.trapMode then u.illegal insn
    else if !u.co.canRestore then u.trap 0x04 0 insn
    else
      let target := u.co.getPhys (16 + 16 * u.co.cur + 7)
      { u with co := u.co.restoreWindow }.retire (target.setWidth 41))

/-- JMPR (R226): bits [71:41] of a must be zero. -/
def execJmpr (c : CoachRef) (a : RegField) (s : State) : Res :=
  settled (s.isa c fun u =>
    let insn := insnRR 7 4 0 a 0
    if u.co.trapMode ∨ u.badReg a then u.illegal insn
    else if fld (u.get a) 71 41 ≠ 0 then u.trap 0x08 (u.get a) insn
    else u.retire ((u.get a).setWidth 41))

/-- CALLR (R226): g15 := address + 1, then the jump; a is read before g15 is written (R210). -/
def execCallr (c : CoachRef) (a : RegField) (s : State) : Res :=
  settled (s.isa c fun u =>
    let insn := insnRR 7 5 0 a 0
    if u.co.trapMode ∨ u.badReg a then u.illegal insn
    else if fld (u.get a) 71 41 ≠ 0 then u.trap 0x08 (u.get a) insn
    else { u with co := u.co.setPhys 15 ((u.co.pc + 1).setWidth 72) }.retire ((u.get a).setWidth 41))

/-- TRET (R232): FLAGS and PART come back, trap mode ends, execution continues at TPC. -/
def execTret (c : CoachRef) (s : State) : Res :=
  settled (s.isa c fun u =>
    if !u.co.trapMode then u.illegal (insnRR 7 6 0 0 0)
    else { u with co := { u.co with
             flags := (u.co.getPhys 140).setWidth 5, part := (u.co.getPhys 141).setWidth 4, trapMode := false
           } }.retire ((u.co.getPhys 136).setWidth 41))

/-- Store the first n words of a window from an address on, word by word (R216); a word whose access faults ends it, with the
double trap of R233 and what else the fault does (log entry 80). -/
def Cpu.spillWords (u : Cpu) (addr : Word) (w : Nat) : Nat → Except Cpu Cpu
  | 0 => .ok u
  | k + 1 =>
    match u.spillWords addr w k with
    | .error v => .error v
    | .ok v =>
      let a := addr + BitVec.ofNat 72 k
      if fld a 71 40 ≠ 0 then .error { v with derail := true }
      else
        let v1 := v.sees (v.walkReads a.toNat)
        match v.translate a.toNat kStore with
        | .ok pa => .ok (v1.writePhys pa a.toNat (v.co.getPhys (16 + 16 * w + k)))
        | f => .error (v1.faultOf f a.toNat kStore 0)
/-- Load the first n words of a window (R216). -/
def Cpu.fillWords (u : Cpu) (addr : Word) (w : Nat) : Nat → Except Cpu Cpu
  | 0 => .ok u
  | k + 1 =>
    match u.fillWords addr w k with
    | .error v => .error v
    | .ok v =>
      let a := addr + BitVec.ofNat 72 k
      if fld a 71 40 ≠ 0 then .error { v with derail := true }
      else
        let v1 := v.sees (v.walkReads a.toNat)
        match v.translate a.toNat kLoad with
        | .ok pa =>
          if v.poison.contains pa then .error { v1 with derail := true, hit := some pa }
          else .ok { ((v1.didRead pa).sees [pa]) with co := v.co.setPhys (16 + 16 * w + k) (v.readPhys pa) }
        | f => .error (v1.faultOf f a.toNat kLoad 0)

/-- SPILL (R216): only in trap mode; a fault is a double trap (R233). -/
def execSpill (c : CoachRef) (a : RegField) (s : State) : Res :=
  settled (s.isa c fun u =>
    if !u.co.trapMode ∨ u.badReg a then u.illegal (insnRR 7 7 0 a 0)
    else if u.co.depth ≤ 2 then (u.flagged { z := some true }).next
    else
      match u.spillWords (u.get a) ((u.co.cur + 8 - u.co.depth) % 7) 16 with
      | .error v => v
      | .ok v => ({ v with co := { v.co with depth := v.co.depth - 1, spilled := v.co.spilled + 1 } }.flagged
          { z := some false }).next)

/-- FILL (R216). -/
def execFill (c : CoachRef) (a : RegField) (s : State) : Res :=
  settled (s.isa c fun u =>
    if !u.co.trapMode ∨ u.badReg a then u.illegal (insnRR 7 8 0 a 0)
    else if u.co.spilled = 0 ∨ 7 ≤ u.co.depth then (u.flagged { z := some true }).next
    else
      match u.fillWords (u.get a) ((u.co.cur + 7 - u.co.depth) % 7) 16 with
      | .error v => v
      | .ok v => ({ v with co := { v.co with depth := v.co.depth + 1, spilled := v.co.spilled - 1 } }.flagged
          { z := some false }).next)

/-- TLBF (R226, R241): the model keeps no translations, so there are none to discard. -/
def execTlbf (c : CoachRef) (s : State) : Res :=
  settled (s.isa c fun u => if u.co.trapMode then u.next else u.illegal (insnRR 7 9 0 0 0))

/-- ISYNC (R226): stores are visible to instruction fetch at once in the model. -/
def execIsync (c : CoachRef) (s : State) : Res :=
  settled (s.isa c fun u => if u.co.trapMode then u.next else u.illegal (insnRR 7 10 0 0 0))

/-- LD (R227, R235, R240). -/
def execLd (c : CoachRef) (d a : RegField) (imm : BitVec 16) (s : State) : Res :=
  settled (s.isa c fun u =>
    let insn := insnI 0x20 d a imm
    if u.badReg d ∨ u.badReg a then u.illegal insn
    else u.access (u.get a + simm imm) kLoad insn fun v pa _ => ((v.didRead pa).set d (v.readPhys pa)).next)

/-- ST (R227): memory[a + imm] := d. -/
def execSt (c : CoachRef) (d a : RegField) (imm : BitVec 16) (s : State) : Res :=
  settled (s.isa c fun u =>
    let insn := insnI 0x21 d a imm
    if u.badReg d ∨ u.badReg a then u.illegal insn
    else u.access (u.get a + simm imm) kStore insn fun v pa va => (v.writePhys pa va (v.get d)).next)

/-- XCHG (R227): reads memory, writes the register first and then memory. -/
def execXchg (c : CoachRef) (d a : RegField) (imm : BitVec 16) (s : State) : Res :=
  settled (s.isa c fun u =>
    let insn := insnI 0x22 d a imm
    if u.badReg d ∨ u.badReg a then u.illegal insn
    else u.access (u.get a + simm imm) kXchg insn fun v pa va =>
      (((v.didRead pa).set d (v.readPhys pa)).writePhys pa va (v.get d)).next)

/-- FENCE (R218): accesses complete in program order in the model. -/
def execFence (c : CoachRef) (s : State) : Res := settled (s.isa c fun u => u.next)

/-- The target of a J-format instruction: address of the branch plus a signed count of instructions (R210). -/
def Cpu.jTarget (u : Cpu) (disp : BitVec 28) : BitVec 41 := u.co.pc + disp.signExtend 41

/-- BR (R218). -/
def execBr (c : CoachRef) (disp : BitVec 28) (s : State) : Res := settled (s.isa c fun u => u.retire (u.jTarget disp))

/-- CALL (R218): g15 := address + 1, then the branch. -/
def execCall (c : CoachRef) (disp : BitVec 28) (s : State) : Res :=
  settled (s.isa c fun u =>
    { u with co := u.co.setPhys 15 ((u.co.pc + 1).setWidth 72) }.retire (u.jTarget disp))

/-- A conditional branch (R219). -/
def Cpu.bcc (u : Cpu) (taken : Bool) (disp : BitVec 28) : Cpu := if taken then u.retire (u.jTarget disp) else u.next

/-- BEQ (R219). -/
def execBeq (c : CoachRef) (disp : BitVec 28) (s : State) : Res :=
  settled (s.isa c fun u => let f := u.co.flags; u.bcc (fZ f) disp)

/-- BNE (R219). -/
def execBne (c : CoachRef) (disp : BitVec 28) (s : State) : Res :=
  settled (s.isa c fun u => let f := u.co.flags; u.bcc (!fZ f) disp)

/-- BLT (R219). -/
def execBlt (c : CoachRef) (disp : BitVec 28) (s : State) : Res :=
  settled (s.isa c fun u => let f := u.co.flags; u.bcc (fN f != fV f) disp)

/-- BGE (R219). -/
def execBge (c : CoachRef) (disp : BitVec 28) (s : State) : Res :=
  settled (s.isa c fun u => let f := u.co.flags; u.bcc (fN f == fV f) disp)

/-- BLE (R219). -/
def execBle (c : CoachRef) (disp : BitVec 28) (s : State) : Res :=
  settled (s.isa c fun u => let f := u.co.flags; u.bcc (fZ f || (fN f != fV f)) disp)

/-- BGT (R219). -/
def execBgt (c : CoachRef) (disp : BitVec 28) (s : State) : Res :=
  settled (s.isa c fun u => let f := u.co.flags; u.bcc (!fZ f && (fN f == fV f)) disp)

/-- BLO (R219). -/
def execBlo (c : CoachRef) (disp : BitVec 28) (s : State) : Res :=
  settled (s.isa c fun u => let f := u.co.flags; u.bcc (fC f) disp)

/-- BHS (R219). -/
def execBhs (c : CoachRef) (disp : BitVec 28) (s : State) : Res :=
  settled (s.isa c fun u => let f := u.co.flags; u.bcc (!fC f) disp)

/-- BLS (R219). -/
def execBls (c : CoachRef) (disp : BitVec 28) (s : State) : Res :=
  settled (s.isa c fun u => let f := u.co.flags; u.bcc (fC f || fZ f) disp)

/-- BHI (R219). -/
def execBhi (c : CoachRef) (disp : BitVec 28) (s : State) : Res :=
  settled (s.isa c fun u => let f := u.co.flags; u.bcc (!fC f && !fZ f) disp)

/-- BVS (R219). -/
def execBvs (c : CoachRef) (disp : BitVec 28) (s : State) : Res :=
  settled (s.isa c fun u => let f := u.co.flags; u.bcc (fV f) disp)

/-- BVC (R219). -/
def execBvc (c : CoachRef) (disp : BitVec 28) (s : State) : Res :=
  settled (s.isa c fun u => let f := u.co.flags; u.bcc (!fV f) disp)

/-- BMI (R219). -/
def execBmi (c : CoachRef) (disp : BitVec 28) (s : State) : Res :=
  settled (s.isa c fun u => let f := u.co.flags; u.bcc (fN f) disp)

/-- BPL (R219). -/
def execBpl (c : CoachRef) (disp : BitVec 28) (s : State) : Res :=
  settled (s.isa c fun u => let f := u.co.flags; u.bcc (!fN f) disp)

/-- TRAP (R218, R229, R234): it retires, then the trap is taken with TPC at the next instruction; imm above 255 is illegal,
and in trap mode it is a double trap. -/
def execTrap (c : CoachRef) (imm : BitVec 16) (s : State) : Res :=
  settled (s.isa c fun u =>
    let insn := insnI 0x40 0 0 imm
    if 256 ≤ imm.toNat then u.illegal insn
    else u.next.trapAt (u.co.pc + 1) 0x0D (imm.setWidth 72) 0 insn)

/-- CPL (R236): a declared coupling, only in normal mode; it resets the count of 4,096. -/
def execCpl (c : CoachRef) (s : State) : Res :=
  settled (s.isa c fun u =>
    if u.co.trapMode then u.illegal (insnI 0x41 0 0 0)
    else u.next.coupleNow false)

/-- FEND (R236): the final coupling; the copy waits. -/
def execFend (c : CoachRef) (s : State) : Res :=
  settled (s.isa c fun u =>
    if u.co.trapMode then u.illegal (insnI 0x42 0 0 0)
    else { (u.next.coupleNow true) with fend := true })

/-- SPLIT_FEND_RESUME (R236): a split coach that waits after FEND continues at the next tick-2 edge. -/
def execSplitFendResume (c : CoachRef) (s : State) : Res :=
  if (s.cstOf c.ix).waitFend ∧ !s.lockedCoach c then settled (s.updCst c.ix fun x => { x with waitFend := false })
  else settled s

/-- RDSR (R218, R228). -/
def execRdsr (c : CoachRef) (d : RegField) (imm : BitVec 16) (s : State) : Res :=
  settled (s.isa c fun u =>
    match u.readSr imm.toNat with
    | none => u.illegal (insnI 0x43 d 0 imm)
    | some w => u.compute (insnI 0x43 d 0 imm) [d] (some d) (some w) {} 0)

/-- WRSR (R218, R228): FLAGS and EF are written whole; a trap-state register write is folded. -/
def execWrsr (c : CoachRef) (a : RegField) (imm : BitVec 16) (s : State) : Res :=
  settled (s.isa c fun u =>
    let insn := insnI 0x44 0 a imm
    if u.badReg a then u.illegal insn
    else
      match u.writeSr imm.toNat (u.get a) with
      | none => u.illegal insn
      | some v => v.next)

end Sys2Proof.Machine
end

