-- ==== Sys2Proof/Machine/Staging.lean ====
section
/-! DEFINITION. Host commands that stage, verify and activate packages and images, and channel moves (spec/16: R417–R424;
spec/17: R445–R447; R354 opcodes 0x10–0x16, 0x25, 0xB0–0xB4). -/

namespace Sys2Proof.Machine

/-- The last byte of a region's contents: the greatest length that a staging may have (R354). -/
def cfgMax : Nat := 8388603
/-- The same for a firmware image (R354). -/
def fwMax : Nat := 33554430

/-- Change a staging, of a package or of an image. -/
def State.withStage (s : State) (firmware : Bool) (g : Option Staging) : State :=
  if firmware then { s with dev := { s.dev with fwStage := g } } else { s with dev := { s.dev with cfgStage := g } }
/-- The staging, of a package or of an image. -/
def State.stageOf (s : State) (firmware : Bool) : Option Staging := if firmware then s.dev.fwStage else s.dev.cfgStage

/-- A staging runs: it has begun and its verification has not ended well (R349). -/
def Staging.runs (g : Option Staging) : Bool := match g with | some x => !x.verified | none => false

/-- Staging begins (R419, R422): the region's STATE is EMPTY first, as one atomic word on each side. -/
def State.beginStage (s : State) (firmware : Bool) (d : Side) (len : Nat) : State :=
  let s1 := if firmware then s.updFw s.fwSpare fun c => { c with state := 0, valid := false }
    else s.updCfg s.cfgSpare fun c => { c with state := 0, valid := false }
  s1.withStage firmware (some { port := d, length := len })

/-- CFG_STAGE_BEGIN or FW_STAGE_BEGIN: BUSY while another staging runs. -/
def State.stageBegin (s : State) (firmware : Bool) (h : Hdr) (ps : List Slot16) : State :=
  s.serve h ps (plain (if firmware then 0xB0 else 0x10) true ps
      [if firmware then (25, 0, fwMax) else (23, 0, cfgMax)] (noTarget h)) fun x =>
    if Staging.runs (x.stageOf firmware) then refuse stBUSY else ok (x.beginStage firmware (Hdr.side h) (pv ps 0)) []

/-- Put the bytes of data slots at an offset of a staging. -/
def Staging.put (g : Staging) (off : Nat) (data : List Slot16) : Staging :=
  let bs := (data.map fun (v : Slot16) => leBytes 16 v.toNat).flatten
  let put1 (t : Tab Byte) (e : Byte × Nat) : Tab Byte := if off + e.2 < g.length then Tab.set 0 t (off + e.2) e.1 else t
  { g with bytes := bs.zipIdx.foldl put1 g.bytes }

/-- CFG_STAGE_DATA or FW_STAGE_DATA: an offset that is a multiple of 16, within the length begun. -/
def State.stageData (s : State) (firmware : Bool) (h : Hdr) (ps : List Slot16) : State :=
  let off := pv ps 0
  let len : Nat := match s.stageOf firmware with
    | some g => g.length
    | none => if firmware then fwMax else cfgMax
  let out : Bool := off % 16 ≠ 0 || (len + 15) / 16 * 16 < off + 16 * (ps.length - 1)
  let f : Form := ⟨if firmware then 0xB1 else 0x11, true, ps ≠ [],
    some (if firmware then (25, 0, fwMax) else (23, 0, cfgMax)) :: (ps.drop 1).map fun _ => none, noTarget h,
    if out then some 0 else none, true, none⟩
  s.serve h ps f fun x =>
    match x.stageOf firmware with
    | some g => if some g.port = h.port ∧ !g.ended then ok (x.withStage firmware (some (g.put off (ps.drop 1)))) []
        else refuse stCONFLICT
    | none => refuse stCONFLICT

/-- CFG_STAGE_END or FW_STAGE_END: the verification starts; a package needs valid device time (R421). -/
def State.stageEnd (s : State) (firmware : Bool) (h : Hdr) (ps : List Slot16) : State :=
  s.serve h ps (plain (if firmware then 0xB2 else 0x12) true ps [] (noTarget h)) fun x =>
    match x.stageOf firmware with
    | some g =>
      if some g.port ≠ h.port ∨ g.verified ∨ (!firmware ∧ !x.time.valid) then refuse stCONFLICT
      else if g.ended then refuse stBUSY
      else .accept (x.withStage firmware (some { g with ended := true, tag := h.tag, queue := h.queue.val })) 0
    | none => refuse stCONFLICT

/-- CFG_STAGE_BEGIN (R354, R419, R422). -/
def execCfgStageBegin (h : Hdr) (params : List Slot16) (s : State) : Res := done (s.stageBegin false h params)
/-- CFG_STAGE_DATA (R354). -/
def execCfgStageData (h : Hdr) (params : List Slot16) (s : State) : Res := done (s.stageData false h params)
/-- CFG_STAGE_END (R354, R421). -/
def execCfgStageEnd (h : Hdr) (params : List Slot16) (s : State) : Res := done (s.stageEnd false h params)
/-- FW_STAGE_BEGIN (R354, R419). -/
def execFwStageBegin (h : Hdr) (params : List Slot16) (s : State) : Res := done (s.stageBegin true h params)
/-- FW_STAGE_DATA (R354). -/
def execFwStageData (h : Hdr) (params : List Slot16) (s : State) : Res := done (s.stageData true h params)
/-- FW_STAGE_END (R354, R418, R419). -/
def execFwStageEnd (h : Hdr) (params : List Slot16) (s : State) : Res := done (s.stageEnd true h params)

/-- The bytes of a staging. -/
def Staging.all (g : Staging) : List Byte := (List.range g.length).map (Tab.get 0 g.bytes)
/-- Word k of a byte string (R5). -/
def wordAt (bs : List Byte) (k : Nat) : Word := BitVec.ofNat 72 (ofLe ((bs.drop (9 * k)).take 9))
/-- n bytes from word k on: a byte field in the order of R268. -/
def bytesAt (bs : List Byte) (k n : Nat) : List Byte := (bs.drop (9 * k)).take n
/-- A digest as its 48 bytes make a number. -/
def digestAt (bs : List Byte) (k : Nat) : BitVec 384 := BitVec.ofNat 384 (ofLe (bytesAt bs k 48))

/-- The encodings of a package header (R420). -/
def cfgHeadOk (bs : List Byte) : Bool :=
  let w := wordAt bs
  fld (w 0) 71 40 = 0x505A5843 && fld (w 0) 39 32 = 1 && fld (w 0) 31 27 = 0 && fld (w 0) 23 0 = 0 && fld (w 1) 7 0 = 0 &&
  fld (w 2) 71 32 = 0 && fld (w 2) 31 0 ≤ 8388027 && 576 + fld (w 2) 31 0 = bs.length && fld (w 32) 7 0 = 0 &&
  ((List.range 9).all fun k => w (55 + k) = 0)

/-- The package's owner key is the device's, whose region is not invalid, or takes ownership (R411, R417, R421, R430). -/
def State.ownerOk (s : State) (flags : Nat) (root : BitVec 384) : Bool :=
  if flags % 2 = 1 then s.dev.lifecycle = 1 && s.completable .A root && s.completable .B root
  else s.otpFld .A 1031 648 = root.toNat && s.otpFld .B 1031 648 = root.toNat &&
    s.region .A 2 ≠ .invalid && s.region .B 2 ≠ .invalid

/-- The signatures of a package and the dates of its signer (R420, R421). -/
def State.cfgSigned (s : State) (bs : List Byte) : Bool :=
  let w := wordAt bs 32
  Config.ecdsaP384Verify (bytesAt bs 10 97) (bytesAt bs 21 108) (bytesAt bs 33 96) &&
  Config.ecdsaP384Verify (bytesAt bs 21 97) (bytesAt bs 0 27 ++ bytesAt bs 4 360) (bytesAt bs 44 96) &&
  fld w 71 56 ≤ s.taiDay && s.taiDay ≤ fld w 55 40

/-- What the recovery of the transport key takes from a package: EPH, WRAP, NSALT, the serial number (R424). -/
def State.wrapOf (s : State) (p : Pkg) : List Byte := p.wrap ++ leBytes 16 p.nsalt.toNat ++ leBytes 8 (s.serialOn .A)

/-- Credential j of a package body (R423, R425). -/
def credAt (body : List Byte) (j : Nat) : Cred :=
  let k := 17 + 12 * j
  let w := wordAt body k
  ⟨BitVec.ofNat 32 (fld w 71 40), BitVec.ofNat 8 (fld w 39 32), BitVec.ofNat 16 (fld w 31 16), BitVec.ofNat 16 (fld w 15 0),
    bytesAt body (k + 1) 97⟩

/-- A directory entry of a package body of n words (R423): a class of R355, and a section within the body. -/
def dirEntryOk (w : Word) (n : Nat) : Bool :=
  1 ≤ fld w 71 64 && fld w 71 64 ≤ 0x0F && fld w 31 0 + fld w 63 32 ≤ n

/-- The fields that begin a package body are defined (R423, R425): CRED_N, the credentials' roles, the directory,
whose sections hold every word that follows. -/
def bodyHeadOk (body : List Byte) : Bool :=
  let n := body.length / 9
  let c := wordAt body 16
  let k := 17 + 12 * fld c 7 0
  let m := (wordAt body k).toNat
  let e (i : Nat) : Word := wordAt body (k + 1 + i)
  let covered (j : Nat) : Bool := (List.range m).any fun i => fld (e i) 31 0 ≤ j && j < fld (e i) 31 0 + fld (e i) 63 32
  fld c 71 8 = 0 && fld c 7 0 ≤ 64 && k + 1 + m ≤ n && ((List.range (fld c 7 0)).all fun j => fld (wordAt body (17 + 12 * j)) 39 38 = 0) &&
  ((List.range m).all fun i => dirEntryOk (e i) n) && ((List.range (n - (k + 1 + m))).all fun j => covered (k + 1 + m + j))

/-- A package body read (R423): its first fields, and the words of its sections as Config.parsePackage reads them (log entry 7). -/
def readBody (body : List Byte) : Option Pkg :=
  if bodyHeadOk body then
    (Config.parsePackage body).map fun p => { p with
      nsalt := BitVec.ofNat 128 (ofLe (bytesAt body 0 16)), wrap := bytesAt body 2 97 ++ bytesAt body 13 24
      creds := (List.range (fld (wordAt body 16) 7 0)).map (credAt body) }
  else none

/-- Verification of a staged package (R421): OK with the package read, AUTH_FAILED for a signature or its dates,
CHECK_FAILED for anything else. -/
def State.verifyCfg (s : State) (bs : List Byte) : Nat × Option Pkg :=
  let flags := fld (wordAt bs 0) 31 24
  let root := Config.sha384 (bytesAt bs 10 97)
  let body := bs.drop 576
  if !s.cfgSigned bs then (stAUTH, none)
  else if !cfgHeadOk bs ∨ s.region .A 0 = .invalid ∨ s.region .B 0 = .invalid ∨ fld (wordAt bs 1) 71 8 ≠ s.serialOn .A ∨ fld (wordAt bs 1) 71 8 ≠ s.serialOn .B ∨ !s.ownerOk flags root ∨
      digestAt bs 4 ≠ Config.sha384 body then (stCHECK, none)
  else match readBody body with
    | none => (stCHECK, none)
    | some p =>
      if !s.keysHeld .A ∨ (Config.transportKey (s.secret .A) (s.wrapOf p)).isNone then (stCHECK, none)
      else (stOK, some { p with digest := digestAt bs 4, flags := BitVec.ofNat 8 flags, ownerRoot := root })

/-- The encodings of an image header (R418). -/
def fwHeadOk (bs : List Byte) : Bool :=
  let w := wordAt bs
  fld (w 0) 71 40 = 0x505A5846 && fld (w 0) 39 32 = 1 && fld (w 0) 31 24 ≤ 64 && fld (w 0) 23 0 = 0 && fld (w 2) 71 32 = 0 &&
  fld (w 2) 31 0 ≤ 33554142 && 288 + fld (w 2) 31 0 = bs.length

/-- The digest of the key under which images verify (R410, R416). -/
def State.imageRoot (s : State) (d : Side) : Nat := if s.dev.lifecycle = 0 then s.otpFld d 647 264 else s.otpFld d 1415 1032

/-- Verification of a staged image (R411, R418). -/
def State.verifyFw (s : State) (bs : List Byte) : Nat × Option Image :=
  let svn := fld (wordAt bs 0) 31 24
  let root := (Config.sha384 (bytesAt bs 10 97)).toNat
  let body := bs.drop 288
  if !Config.ecdsaP384Verify (bytesAt bs 10 97) (bytesAt bs 0 27 ++ bytesAt bs 4 153) (bytesAt bs 21 96) then (stAUTH, none)
  else if !fwHeadOk bs ∨ root ≠ s.imageRoot .A ∨ root ≠ s.imageRoot .B ∨ digestAt bs 4 ≠ Config.sha384 body ∨
      svn < s.svnMin .A ∨ svn < s.svnMin .B ∨ !s.rootOk .A ∨ !s.rootOk .B then (stCHECK, none)
  else (stOK, some { state := 1, svn := BitVec.ofNat 8 svn, version := wordAt bs 1, digest := digestAt bs 4, valid := true,
                     creds := Config.imageCreds body })

/-- The verification of a package ends: the copies are STAGED, or the staging is discarded (R419, R421, R422). -/
def State.cfgVerified (s : State) (g : Staging) : State :=
  match s.verifyCfg g.all with
  | (st, some p) =>
    ((s.updCfg s.cfgSpare fun c => { c with state := 1, valid := true, pkg := p }).withStage false
      (some { g with verified := true, pkg := p })).finalReply (some g.port) g.queue 0x12 g.tag st []
  | (st, none) => (s.withStage false none).finalReply (some g.port) g.queue 0x12 g.tag st []

/-- The same for an image (R418, R419). -/
def State.fwVerified (s : State) (g : Staging) : State :=
  match s.verifyFw g.all with
  | (st, some i) =>
    ((s.updFw s.fwSpare fun c => { i with actSeq := c.actSeq }).withStage true
      (some { g with verified := true, image := i })).finalReply (some g.port) g.queue 0xB2 g.tag st []
  | (st, none) => (s.withStage true none).finalReply (some g.port) g.queue 0xB2 g.tag st []

/-- STAGE_VERIFY_DONE (R418, R421): its final reply. -/
def execStageVerifyDone (firmware : Bool) (s : State) : Res :=
  match s.stageOf firmware with
  | none => done s
  | some g =>
    if !g.ended ∨ g.verified then done s
    else done (if firmware then s.fwVerified g else s.cfgVerified g)

/-- A spare slot for hand-overs (R199, R359): LOCKED, without functions, in no hand-over. -/
def State.isSpare (s : State) (q : Nat) : Bool :=
  q < 48 && (s.slotOf q).st = .locked && !s.hosts q && (s.slotOf q).shadowOf.isNone && !(s.slotOf q).splitPend &&
  !(s.slotOf q).testPend && !((List.range 48).any fun p => ((s.slotOf p).hand.map fun (h : Handover) => h.target) = some q)

/-- The slots with changed or new functions of a package, in ascending order (R200, R354). -/
def State.changedSlots (s : State) (p : Pkg) : List Nat :=
  (List.range 48).filter fun q => s.hosts q && q ≠ 0 &&
    p.changed.any fun f => fld (p.word cFCFG f 0) 54 49 = q || (s.fns.contains f && s.fSlot f = q)

/-- A package's templates are all defined (R259). -/
def tidsOk (p : Pkg) : Bool :=
  p.words.all fun (e : Nat × Word) =>
    match fnOfKey e with
    | some _ => fparCount (fld e.2 71 64) ≠ 0
    | none => true

/-- A package gives no channel a reserved mode (R49). -/
def modesOk (p : Pkg) : Bool := (List.range 192).all fun c => fld (p.word cCCFG c 0) 71 68 < 8

/-- An activation is under way (R349). -/
def State.activating (s : State) : Bool := s.dev.cfgAct.isSome || s.dev.fwAct.isSome || s.rehome.isSome

/-- The session of a port holds a role (R425, R426). -/
def State.portRole (s : State) (port : Option Side) (r : Nat) : Bool :=
  match s.sessionOf port with
  | some x => bit x.roles r
  | none => false

/-- A ledger page is not exported (R270). -/
def State.unexported (s : State) : Nat := s.ledger.seq.toNat - 1 - s.ledger.mark.toNat

/-- CFG_ACTIVATE in a device state (R354, R417): the slots to hand over and whether the next commit applies it, or none
where it is refused. -/
def State.cfgPlan (s : State) (h : Hdr) (p : Pkg) : Option (List Nat × Bool) :=
  let q := h.target.toNat
  let decomm : Bool := q = 0xFFFF && bit p.flags 1 && s.portRole h.port 3 && s.unexported = 0 && s.dev.lifecycle = 2
  match s.dev.st with
  | .running => if s.isSpare q ∧ !bit p.flags 0 ∧ !bit p.flags 1 then some (s.changedSlots p, false) else none
  | .standby | .holding =>
    if bit p.flags 1 then (if decomm then some ([], false) else none)
    else if q = 0xFFFF ∧ !bit p.flags 0 then some ([], true)
    else none
  | .service =>
    if bit p.flags 1 then (if decomm then some ([], false) else none)
    else if q = 0xFFFF ∧ bit p.flags 0 ∧ s.dev.lifecycle = 1 ∧ s.portRole h.port 4 ∧ s.completable .A p.ownerRoot ∧
      s.completable .B p.ownerRoot then some ([], false)
    else none
  | _ => none

/-- N of a hand-over: the parameter, or 16 where a packet gives none (R199). -/
def handN (ps : List Slot16) (i : Nat) : Nat := if ps.length ≤ i then 16 else pv ps i

/-- CFG_ACTIVATE (R49, R259, R354, R417, R422). -/
def execCfgActivate (h : Hdr) (params : List Slot16) (s : State) : Res :=
  done (s.serve h params (plain 0x13 true params [(11, 1, 1024)] (below h 48 || noTarget h)) fun x =>
    if x.activating then refuse stBUSY
    else match x.cfgStaged with
      | none => refuse stCONFLICT
      | some p =>
        if !tidsOk p ∨ !modesOk p then refuse stCHECK
        else match x.cfgPlan h p with
          | none => refuse stCONFLICT
          | some (slots, next) =>
            let a : Activation := ⟨Hdr.side h, h.tag, h.queue.val, h.target.toNat, pv params 0, slots, p.changed, []⟩
            let r := x.startNext a
            .accept { r.1 with dev := { r.1.dev with cfgAct := some r.2, applyPkg := next } } 0)

/-- CFG_ABORT (R354): the staging is discarded, with the copy that it had verified. -/
def execCfgAbort (h : Hdr) (params : List Slot16) (s : State) : Res :=
  done (s.serve h params (plain 0x14 true params [] (noTarget h)) fun x =>
    if x.activating then refuse stBUSY
    else ok ((x.updCfg x.cfgSpare fun c => if c.state = 1 then { c with state := 0, valid := false } else c).withStage false none) [])

/-- The staging state that CFG_STATUS and FW_STATUS report: 0 none, 1 data, 2 verification, 3 verified (log entry 63). -/
def stageCode (g : Option Staging) : Nat :=
  match g with
  | none => 0
  | some x => if x.verified then 3 else if x.ended then 2 else 1

/-- A digest in six words of nine bytes (log entry 63). -/
def digestSlots (d : BitVec 384) : List Nat := (List.range 6).map fun k => fld d (Nat.min (72 * k + 71) 383) (72 * k)

/-- CFG_STATUS (R354): active and staged digest, staging state. -/
def execCfgStatus (h : Hdr) (params : List Slot16) (s : State) : Res :=
  done (s.serve h params (plain 0x16 false params [] (noTarget h)) fun x =>
    ok x (digestSlots x.pkg.digest ++ digestSlots (match x.cfgStaged with | some p => p.digest | none => 0) ++
      [stageCode x.dev.cfgStage]))

/-- FW_ACTIVATE of the boot responder (R406): the staged image is ACTIVE and the device restarts at PROVING. -/
def State.respondActivate (s : State) (h : Hdr) : Answer :=
  if h.target ≠ 0xFFFF then refuse stCONFLICT
  else match s.fwStaged with
    | none => refuse stCONFLICT
    | some g => .later ((s.answer h 0xB3 stACCEPTED 0xFFFF []).finalReply h.port h.queue.val 0xB3 h.tag stOK [] |>.fwMark g |>.enterProving)

/-- FW_ACTIVATE (R354, R419): slot 0, then every slot with functions, through the spare slot. -/
def execFwActivate (h : Hdr) (params : List Slot16) (s : State) : Res :=
  done (s.serve h params (plain 0xB3 true params [(11, 1, 1024)] (below h 48 || noTarget h)) fun x =>
    if x.dev.responder then x.respondActivate h
    else if x.dev.st = .holding ∨ !x.isSpare h.target.toNat then refuse stCONFLICT
    else if x.activating then refuse stBUSY
    else match x.fwStaged with
      | none => refuse stCONFLICT
      | some _ =>
        let slots := (List.range 48).filter fun p => x.hosts p && (x.slotOf p).st ≠ .retired
        let r := x.startNext ⟨Hdr.side h, h.tag, h.queue.val, h.target.toNat, pv params 0, slots, [], []⟩
        .accept { r.1 with dev := { r.1.dev with fwAct := some r.2 } } 0)

/-- FW_STATUS (R354): image versions, the running region, staging state. -/
def execFwStatus (h : Hdr) (params : List Slot16) (s : State) : Res :=
  done (s.serve h params (plain 0xB4 false params [] (noTarget h)) fun x =>
    ok x (x.versions ++ [x.dev.running.ix, stageCode x.dev.fwStage]))

/-! ### Channel moves (R445–R447) -/

/-- Move the bits of local index a to local index b in a signal mask of a field chip: demands, FSAFE, overspeed (R158). -/
def moveSignals (w : Word) (a b : Nat) : Word :=
  [0, 16, 40].foldl (fun (m : Word) k => if bit m (a + k) then setBit (setBit m (a + k) false) (b + k) true else m) w

/-- The parameters of a template that name a channel, and those that name one above 2^24 (R260–R265). -/
def chanParams (tid : Nat) : List Nat :=
  match tid with
  | 0x01 | 0x02 | 0x03 | 0x10 | 0x11 | 0x14 => [1, 2, 3, 4, 5, 6, 7, 8]
  | 0x04 => [1, 2, 3, 4, 5, 6, 7, 8, 9]
  | 0x05 | 0x06 | 0x21 => [0]
  | 0x12 => [1]
  | 0x13 => [1, 2]
  | 0x15 => [1, 3, 4, 5, 6]
  | 0x18 => [1, 2]
  | 0x20 => (List.range 16).map (· + 1)
  | 0x42 => (List.range 8).map (· + 2)
  | _ => []
def operandParams (tid : Nat) : List Nat :=
  match tid with
  | 0x30 | 0x31 => (List.range 24).map (· + 1)
  | 0x40 => (List.range 8).map (· + 2)
  | 0x41 => [0]
  | _ => []

/-- A function's word w under the move of channel a to channel b. -/
def moveFnWord (tid w : Nat) (x : Word) (a b : Nat) : Word :=
  if w = 0 then (if fld x 33 32 = 1 ∧ fld x 31 20 = a then putFld x 31 20 b else x)
  else if (chanParams tid).contains (w - 1) ∧ x.toNat = a then BitVec.ofNat 72 b
  else if (operandParams tid).contains (w - 1) ∧ x.toNat = 2 ^ 24 + a then BitVec.ofNat 72 (2 ^ 24 + b)
  else x

/-- A channel index under the move. -/
def moveIx (i a b : Nat) : Nat := if i = a then b else i
/-- A terminal index under the move. -/
def moveTerm (t a b : Nat) : Nat := if t / 2 = a then 2 * b + t % 2 else t

/-- One word of a package under the move of channel a to channel b of the same wagon: its new key and value. -/
def moveWord (p : Pkg) (a b : Nat) (e : Nat × Word) : Nat × Word :=
  let w := e.1 % 64
  let idx := e.1 / 64 % 1048576
  let cls := e.1 / 64 / 1048576
  let la := a % 16
  let lb := b % 16
  let chip : Bool := idx / 256 / 2 = a / 16
  if cls = cCCFG ∨ cls = cACFG then (Pkg.key cls (moveIx idx a b) w, e.2)
  else if cls = cTIN then
    (Pkg.key cls (moveTerm idx a b) w,
      if idx / 32 = a / 16 ∧ bit e.2 20 ∧ fld e.2 19 16 = la then putFld e.2 19 16 lb else e.2)
  else if cls = cTOUT ∨ cls = cKCFG then (Pkg.key cls (moveTerm idx a b) w, e.2)
  else if cls = cWCFG ∧ idx = a / 16 then
    (e.1, putFld (putFld e.2 (2 * lb + 1) (2 * lb) (fld e.2 (2 * la + 1) (2 * la))) (2 * la + 1) (2 * la) 0)
  else if cls = cLTERM ∧ chip then
    let tg := idx % 256 / 8
    let nt := if tg = la then lb else if tg = 16 + la then 16 + lb else tg
    (Pkg.key cls (idx / 256 * 256 + nt * 8 + idx % 8) w, moveSignals e.2 la lb)
  else if cls = cLEXP ∧ idx / 2 / 2 = a / 16 then (e.1, moveSignals e.2 la lb)
  else if cls = cFCFG then (e.1, moveFnWord (fld (p.word cFCFG idx 0) 71 64) w e.2 a b)
  else e

/-- The words of a package under the move, canonical. -/
def moveWords (p : Pkg) (a b : Nat) : Tab Word :=
  (p.words.map (moveWord p a b)).foldl (fun (t : Tab Word) (e : Nat × Word) => Tab.set 0 t e.1 e.2) []

/-- A terminal-indexed binding under the move. -/
def moveKeys (t : Tab (List Nat)) (a b : Nat) : Tab (List Nat) :=
  t.foldl (fun (m : Tab (List Nat)) (e : Nat × List Nat) => Tab.set [] m (moveTerm e.1 a b) e.2) []

/-- The staged package's words with SAFE of the vacated channel cleared, for the comparison. -/
def clearSafe (ws : Tab Word) (a : Nat) : Tab Word :=
  Tab.upd 0 ws (Pkg.key cWCFG (a / 16) 0) fun w => putFld w (2 * (a % 16) + 1) (2 * (a % 16)) 0

/-- A staged package differs from the active one only by the move (R445). -/
def onlyMove (old new : Pkg) (a b : Nat) : Bool :=
  clearSafe new.words a = moveWords old a b && new.fl = old.fl && new.cdl = old.cdl && new.k = old.k &&
  new.outs = (old.outs.map fun (e : Nat × List Nat) => (e.1, e.2.map fun t => moveTerm t a b)) &&
  new.perms = moveKeys old.perms a b && new.pulses = moveKeys old.pulses a b && new.creds = old.creds &&
  new.nsalt = old.nsalt && new.flags = old.flags

/-- A targeted test or a calibration runs on a channel (R446). -/
def State.chanBusy (s : State) (ch : Nat) : Bool :=
  [2 * ch, 2 * ch + 1].any fun t => s.calibrating t || s.termBusy t

/-- A channel belongs to a quadrature or chained pair (R135). -/
def State.pairedUnit (s : State) (ch : Nat) : Bool :=
  [2 * ch, 2 * ch + 1].any fun t =>
    s.kmode t = 4 || s.kmode t = 6 || (ch % 2 = 1 && s.kmode (t - 2) = 4) || (ch % 2 = 0 && s.kmode (t + 2) = 6)

/-- A spare channel can take a move (R446). -/
def State.spareOk (s : State) (p : Nat) : Bool :=
  fld (s.ccfg p) 71 68 = 0 && s.fnsOfChan p = [] &&
  [2 * p, 2 * p + 1].all fun t => !s.isRetired (nFront t) tcFront && !s.isRetired (nFront t) tcConv

/-- The refusals of R446, in its order. -/
def State.rehomeRefusal (s : State) (h : Hdr) (a b : Nat) : Option Nat :=
  let mine : Option Pkg := match s.dev.cfgStage with
    | some g => if g.verified ∧ some g.port = h.port then some g.pkg else none
    | none => none
  if a = b ∨ a / 16 ≠ b / 16 then some stRANGE
  else match mine with
    | none => some stCONFLICT
    | some p =>
      if !s.spareOk b ∨ s.pairedUnit a then some stCONFLICT
      else if s.chanBusy a ∨ s.chanBusy b then some stBUSY
      else if s.liveOn a then some stSAFETY
      else if !onlyMove s.pkg p a b then some stCHECK
      else none

/-- CH_REHOME (R445, R446): accepted, it takes effect at the next commit. -/
def execChRehome (h : Hdr) (params : List Slot16) (s : State) : Res :=
  let a := h.target.toNat
  let b := pv params 0
  done (s.serve h params (plain 0x25 true params [(8, 0, 191)] (below h 192)) fun x =>
    match x.rehomeRefusal h a b with
    | some st => refuse st
    | none =>
      if x.activating then refuse stBUSY
      else .accept { x with rehome := some ⟨a, b, h.port, h.tag, h.queue.val⟩ } 0)

/-- The move takes effect (R447): modes as R50, tables as R168, parameters, the package ACTIVE, its ledger page; every
function keeps its state. -/
def State.applyMove (s : State) (p : Pkg) : State := s.activatePkg { p with changed := [] } true

/-- REHOME_APPLY (R168, R447): at a commit edge; the final reply follows. -/
def execRehomeApply (s : State) : Res :=
  match s.rehome, s.cfgStaged with
  | some m, some p =>
    if s.atCommit then settled (({ s.applyMove p with rehome := none }).finalReply m.port m.queue 0x25 m.tag stOK [])
    else settled s
  | _, _ => settled s

end Sys2Proof.Machine
end

