-- ==== Sys2Proof/Machine/Maintenance.lean ====
section
/-! DEFINITION. Host commands on the journal, the ledger, self-tests and slots (R354 opcodes 0x60–0x65, 0x70–0x72, 0x80–0x84;
R269, R270, R376, R378, R393, R415, R199–R204). -/

namespace Sys2Proof.Machine

/-- The sequence of a page, 0 without one. -/
def seqOf (o : Option (Nat × Nat)) : Nat := match o with | some p => p.2 | none => 0

/-- JRNL_INFO (R354, R393). -/
def execJrnlInfo (h : Hdr) (params : List Slot16) (s : State) : Res :=
  done (s.serve h params (plain 0x60 false params [] (below h 2)) fun x =>
    let ps := x.jrnlValid (Side.ofIx h.target.toNat)
    ok x [seqOf (ringOldest ps), seqOf (ringHead ps)])

/-- A sequence lies outside the span of a ring's valid pages (R393). -/
def outsideSpan (ps : List (Nat × Nat)) (n : Nat) : Bool :=
  match ringOldest ps, ringHead ps with
  | some a, some b => serialGt a.2 n || serialGt n b.2
  | _, _ => true

/-- JRNL_READ (R354, R393): 64 words, OUT_OF_RANGE outside the span, CHECK_FAILED for an invalid page within it. -/
def execJrnlRead (h : Hdr) (params : List Slot16) (s : State) : Res :=
  done (s.serve h params (plain 0x61 false params [(40, 0, 2 ^ 40 - 1)] (below h 2)) fun x =>
    let d := Side.ofIx h.target.toNat
    let ps := x.jrnlValid d
    let n := pv params 0
    if outsideSpan ps n then refuse stRANGE
    else match ps.find? fun p => p.2 = n with
      | some p => ok x ((pageWords (x.mem.get d).mram (jrnlAddr p.1) 64).map natWord)
      | none => refuse stCHECK)

/-- The valid ledger pages of both sides. -/
def State.ledgPages2 (s : State) : List (Nat × Nat) := s.ledgValid .A ++ s.ledgValid .B

/-- LEDGER_INFO (R354, R270). -/
def execLedgerInfo (h : Hdr) (params : List Slot16) (s : State) : Res :=
  done (s.serve h params (plain 0x62 false params [] (noTarget h)) fun x =>
    ok x [seqOf (ringOldest x.ledgPages2), seqOf (ringHead x.ledgPages2), x.unexported, x.ledger.lost])

/-- The words of the ledger page with a SEQ on a side. -/
def State.ledgCopy (s : State) (d : Side) (n : Nat) : Option (List Word) :=
  ((s.ledgValid d).find? fun p => p.2 = n).map fun (p : Nat × Nat) => pageWords (s.mem.get d).mram (ledgAddr p.1) 160

/-- LEDGER_READ (R270): the page when both sides' copies are identical, else CHECK_FAILED and an event. -/
def execLedgerRead (h : Hdr) (params : List Slot16) (s : State) : Res :=
  done (s.serve h params (plain 0x63 false params [(40, 0, 2 ^ 40 - 1)] (noTarget h)) fun x =>
    match x.ledgCopy .A (pv params 0), x.ledgCopy .B (pv params 0) with
    | some a, some b => if a = b then ok x (a.map natWord) else .reply (x.postFree nDevice) stCHECK []
    | _, _ => .reply (x.postFree nDevice) stCHECK [])

/-- The export mark, in word 1 of both record areas before it takes effect (R395). -/
def State.ledgMark (s : State) (n : Nat) : State :=
  let w := BitVec.ofNat 72 (n % 2 ^ 40)
  let s1 := (s.recWrite .A 1 w).recWrite .B 1 w
  { s1 with ledger := { s1.ledger with mark := BitVec.ofNat 40 n } }

/-- LEDGER_ACK (R270): pages up to a SEQ that has been written are exported; the mark never falls. -/
def execLedgerAck (h : Hdr) (params : List Slot16) (s : State) : Res :=
  let n := pv params 0
  done (s.serve h params (plain 0x64 true params [(40, 0, 2 ^ 40 - 1)] (noTarget h)) fun x =>
    if x.ledger.seq.toNat ≤ n then refuse stRANGE
    else if n ≤ x.ledger.mark.toNat then ok x []
    else ok (x.ledgMark n) [])

/-- LEDGER_KEY (R415): the device key record; without a valid SECRET or after a zeroise (R411, R428) there is no key, and the status is not named (log entry
5). -/
def execLedgerKey (h : Hdr) (params : List Slot16) (s : State) : Res :=
  let d := Hdr.side h
  done (s.serve h params (plain 0x65 false params [] (noTarget h)) fun x =>
    if !x.keysHeld d then .reply x.drawn x.freeStatus []
    else ok x (((Config.keyRecord (x.secret d) (BitVec.ofNat 64 (x.serialOn d))).take 33).map natWord))

/-! ### Self-tests (R376, R378) -/

/-- The target indices of a test class (R376). -/
def testTarget (cls t : Nat) : Bool :=
  match cls with
  | 0x01 => t < 128 && t % 64 < 52
  | 0x02 => t < 32
  | 0x03 | 0x04 => t < 384
  | 0x05 | 0x0A => t < 24
  | 0x06 | 0x09 => t < 4
  | 0x07 => t < 16
  | 0x08 => t < 128
  | 0x0B => t < 2
  | _ => true

/-- The node of a test class's target (R362, R376). -/
def testNode (cls t : Nat) : Node :=
  match cls with
  | 0x01 => nCoach t
  | 0x02 => ⟨0x0C, t⟩
  | 0x03 | 0x04 => nFront t
  | 0x05 => nChip t
  | 0x06 => ⟨0x12, t⟩
  | 0x07 => ⟨0x10, t⟩
  | 0x08 => ⟨0x11, t⟩
  | 0x09 => nLane t
  | 0x0A => nBarrier t
  | _ => ⟨0x01, t⟩

/-- The side of a class's target index. -/
def testSide (cls t : Nat) : Side :=
  match cls with
  | 0x01 | 0x08 => if t < 64 then .A else .B
  | 0x02 => if t < 16 then .A else .B
  | 0x06 => if t < 2 then .A else .B
  | 0x07 => if t < 8 then .A else .B
  | _ => Side.ofIx t

/-- The lowest spare slot (R199). -/
def State.lowestSpare (s : State) : Option Nat := (List.range 48).find? s.isSpare

/-- A slot can be the source of a hand-over (R199). -/
def State.canHand (s : State) (p : Nat) : Bool := (s.slotOf p).st = .locked && s.hosts p && (s.slotOf p).hand.isNone

/-- The condition of class 0x01 (R376). -/
def State.coachRefusal (s : State) (t : Nat) : Option Nat :=
  match s.slotOfCoach (testSide 1 t) (t % 64) with
  | none => none
  | some p =>
    if s.isSpare p then none
    else if s.canHand p ∧ s.lowestSpare.isSome then none
    else some stCONFLICT

/-- The conditions of each class (R376). -/
def State.testRefusal (s : State) (cls t : Nat) : Option Nat :=
  match cls with
  | 0x01 => s.coachRefusal t
  | 0x02 => if (s.tests.freeBank.get (testSide cls t)).isNone then some stCONFLICT else none
  | 0x03 => if s.liveOn (tChan t) ∧ !hasOutput (s.mode (tChan t)) ∧ !bit (s.tin t) 20 then some stSAFETY else none
  | 0x04 => s.calRefusal t
  | 0x06 =>
    let o := if t % 2 = 0 then t + 1 else t - 1
    if bit (s.halfOf (testSide cls t)).planeTest (o % 2) ∨ (s.tests.find ⟨0x12, o⟩ tcPlane).isSome then some stBUSY else none
  | 0x07 =>
    let m := t % 8
    if bit (s.encOf t).img1 67 then some stSHIFT
    else if s.msrc m = 1 ∧ ((s.monOf m).sstate = 1 ∨ (s.monOf m).sstate = 2) then some stSAFETY
    else none
  | 0x08 => if s.anyLive (Config.timerFns t) then some stSAFETY else none
  | 0x09 => if s.tests.lanesOut ≠ 0 ∨ s.lanesRetired ≠ [] then some stCONFLICT else none
  | _ => none

/-- Why ST_RUN is refused (R376, R349, R371), if it is. -/
def State.stRefusal (s : State) (cls t : Nat) : Option Nat :=
  let n := testNode cls t
  let gone : Bool := s.isRetired n cls || (cls = 1 && (s.cstOf t).retired)
  if s.dev.st = .holding then some stCONFLICT
  else if gone ∨ (s.tests.find n cls).isSome ∨ s.tests.running.any (·.requested) then some stBUSY
  else s.testRefusal cls t

/-- A slot without functions takes its coach test (R376): TESTING, both coaches under LBIST, rejoining as R204. -/
def State.testSlot (s : State) (p : Nat) : State :=
  let stop (c : CoachSt) : CoachSt := { c with stopped := true, waitFend := false }
  ((s.updCst (s.slotCoach .A p) stop).updCst (s.slotCoach .B p) stop).updSlot p fun x => { x with
    st := .testing, joining := true, rebuilt := false }

/-- A requested coach test (R376): a reserve is powered up; a slot is tested, or hands its work over first. -/
def State.startCoachTest (s : State) (t : Nat) : State :=
  match s.slotOfCoach (testSide 1 t) (t % 64) with
  | none => s.updCst t fun c => { c with powering := true }
  | some p =>
    if s.isSpare p then s.testSlot p
    else match s.lowestSpare with
      | some q => s.startHand p { target := q, n := 16 }
      | none => s

/-- What a requested test of a class does to its block (R376). -/
def State.runTest (s : State) (cls t : Nat) : State :=
  match cls with
  | 0x01 => s.startCoachTest t
  | 0x02 => s.beginBankTest (testSide cls t) (t % 16)
  | 0x05 =>
    let left := (List.range 16).foldl (fun (m : BitVec 16) c => setBit m c (s.termOf (chipTerm t c)).out.gate) 0
    s.updChip t fun x => { x with halfLeft := left }
  | 0x06 => s.updHalf (testSide cls t) fun k => { k with planeTest := setBit k.planeTest (t % 2) true }
  | 0x07 | 0x08 => s.unitTesting (testNode cls t) true
  | 0x0A => s.updView t fun v => { v with echoRun := 0, echoBad := 0 }
  | 0x09 => { s with tests := { s.tests with lanesOut := setBit s.tests.lanesOut t true } }
  | _ => s

/-- The requested test is entered among those that run (R378). -/
def State.enterTest (s : State) (h : Hdr) (cls t : Nat) : State :=
  let q : Test := { node := testNode cls t, cls := cls, requested := true, started := s.clock.count,
                    reply := some (h.port, h.tag, h.queue.val) }
  { s with tests := { s.tests with running := s.tests.running ++ [q] } }

/-- The form of ST_RUN and ST_RESULT (R354, R376): a reserved class is out of range. -/
def testForm (op : Nat) (token : Bool) (h : Hdr) (ps : List Slot16) : Form :=
  plain op token ps [(8, 1, 11)] (testTarget (pv ps 0) h.target.toNat)

/-- ST_RUN (R376, R378): refused with event 0x0A04, or ACCEPTED; the verdict brings the final reply. -/
def execStRun (h : Hdr) (params : List Slot16) (s : State) : Res :=
  let cls := pv params 0
  let t := h.target.toNat
  settled (s.serve h params (testForm 0x70 true h params) fun x =>
    match x.stRefusal cls t with
    | some st => .reply (x.post 0x0A04 (testNode cls t) 0 st) st []
    | none => .accept ((x.enterTest h cls t).runTest cls t) 5)

/-- ST_RESULT (R378): the last verdict of a block; without one the status is not named (log entry 5). -/
def execStResult (h : Hdr) (params : List Slot16) (s : State) : Res :=
  let cls := pv params 0
  let n := testNode cls h.target.toNat
  done (s.serve h params (testForm 0x71 false h params) fun x =>
    let v := Tab.get ({} : Verdict) x.tests.last (testKey n cls)
    if v.known then ok x (testSlots n cls v.verdict v.elapsed ++ [v.at_, b2n v.requested])
    else .reply x.drawn x.freeStatus [])

/-- RETIRE_READ (R354, R374): the eight words of a side's retire map. -/
def execRetireRead (h : Hdr) (params : List Slot16) (s : State) : Res :=
  done (s.serve h params (plain 0x72 false params [] (below h 2)) fun x =>
    ok x ((List.range 8).map fun k => fld (x.retireMap (Side.ofIx h.target.toNat)) (72 * k + 71) (72 * k)))

/-! ### Slots (R196–R204) -/

/-- PAIR_STATUS (R354, R196). -/
def execPairStatus (h : Hdr) (params : List Slot16) (s : State) : Res :=
  done (s.serve h params (plain 0x80 false params [] (below h 48)) fun x => ok x [natWord (x.pairStat h.target.toNat)])

/-- The state code of a physical coach (R197); t = 64 × side + coach. -/
def State.coachCode (s : State) (t : Nat) : Nat :=
  if !s.dev.loaded then 0
  else match s.slotOfCoach (testSide 1 t) (t % 64) with
    | none => if (s.cstOf t).retired || s.isRetired (nCoach t) tcCoach then 5 else 6
    | some p =>
      match (s.slotOf p).st with
      | .split =>
        if (s.cstOf t).retired then 5
        else if (s.tests.find (nCoach t) tcCoach).isSome then 4
        else 2
      | st => st.code

/-- COACH_STATUS (R354, R197). -/
def execCoachStatus (h : Hdr) (params : List Slot16) (s : State) : Res :=
  done (s.serve h params (plain 0x81 false params [] (testTarget 1 h.target.toNat)) fun x => ok x [x.coachCode h.target.toNat])

/-- Where a slot command's final reply goes. -/
def replyTo (h : Hdr) (op : Nat) : Option (Option Side × BitVec 32 × Nat × Nat) := some (h.port, h.tag, h.queue.val, op)

/-- PAIR_SPLIT (R203, R15): of a slot without functions at the next commit; of one with functions through a spare slot. -/
def execPairSplit (h : Hdr) (params : List Slot16) (s : State) : Res :=
  let p := h.target.toNat
  let q := pv params 0
  let far : Option Nat := if q < 48 ∨ q = 0xFFFF then none else some 0
  done (s.serve h params { plain 0x82 true params [(16, 0, 65535)] (below h 48) with far := far } fun x =>
    if p = 0 then refuse stSAFETY
    else if x.dev.st = .holding then refuse stCONFLICT
    else if x.isSpare p then
      .accept (x.updSlot p fun y => { y with splitPend := true, reply := replyTo h 0x82 }) 1
    else if x.canHand p ∧ x.isSpare q then
      .accept (x.startHand p { target := q, n := 16, thenSplit := true, reply := replyTo h 0x82 }) 1
    else refuse stCONFLICT)

/-- PAIR_JOIN (R204): the next commit stops both programs and starts the tests. -/
def execPairJoin (h : Hdr) (params : List Slot16) (s : State) : Res :=
  let p := h.target.toNat
  done (s.serve h params (plain 0x83 true params [] (below h 48)) fun x =>
    if x.dev.st = .holding ∨ (x.slotOf p).st ≠ .split ∨ (x.slotOf p).joining then refuse stCONFLICT
    else .accept (x.updSlot p fun y => { y with joining := true, reply := replyTo h 0x83 }) 0)

/-- PAIR_HANDOVER (R199, R201). -/
def execPairHandover (h : Hdr) (params : List Slot16) (s : State) : Res :=
  let p := h.target.toNat
  let q := pv params 0
  let f : Form := ⟨0x84, true, 1 ≤ params.length && params.length ≤ 2, [some (6, 0, 47), some (11, 1, 1024)], below h 48, none, true,
    none⟩
  done (s.serve h params f fun x =>
    if x.dev.st = .holding ∨ !x.canHand p ∨ !x.isSpare q then refuse stCONFLICT
    else .accept (x.startHand p { target := q, n := handN params 1, reply := replyTo h 0x84 }) 0)

end Sys2Proof.Machine
end

