-- ==== Sys2Proof/Machine/Service.lean ====
section
/-! DEFINITION. Host commands on queues, networks, time and service sessions (R354 opcodes 0x90–0x93, 0xA0–0xA3, 0xC0–0xC2,
0xF0–0xF2; R337, R338, R314, R398, R426), the service port (R448, R449) and the debug TAP (R427). -/

namespace Sys2Proof.Machine

/-! ### Queues (R337, R338) -/

/-- A queue lies in the pool of a port. -/
def ofPool (port : Option Side) (q : Nat) : Bool := match port with | some d => poolOf q = some d | none => true

/-- An admin ring (R337). -/
def isAdmin (q : Nat) : Bool := q % 4096 < 2 && q < 8192

/-- The first offending byte of the ring words: their reserved bits, a CQ outside a command ring, a VEC in one (R338). -/
def ringRsv (w0 w1 : Word) : Option Nat :=
  if fld w0 7 0 ≠ 0 then some 32
  else if fld w0 10 8 ≠ 0 then some 33
  else if fld w1 7 0 ≠ 0 then some 48
  else if fld w1 15 8 ≠ 0 then some 49
  else if fld w1 23 16 ≠ 0 then some 50
  else if fld w1 29 24 ≠ 0 then some 51
  else if fld w0 71 70 ≠ 0 ∧ fld w1 71 57 ≠ 0 then some (if fld w1 63 57 ≠ 0 then 55 else 56)
  else if fld w0 71 70 = 0 ∧ fld w1 56 46 ≠ 0 then some (if fld w1 47 46 ≠ 0 then 53 else if fld w1 55 48 ≠ 0 then 54 else 55)
  else none

/-- The completion ring that a command ring names is a live one of its port (R338). -/
def State.cqOk (s : State) (port : Option Side) (w0 w1 : Word) : Bool :=
  let c := fld w1 71 57
  fld w0 71 70 ≠ 0 || (ofPool port c && (s.queueOf c).live && (s.queueOf c).type = 1)

/-- Q_CREATE (R338). -/
def execQCreate (h : Hdr) (params : List Slot16) (s : State) : Res :=
  let q := h.target.toNat
  let w0 := BitVec.ofNat 72 (pv params 0)
  let w1 := BitVec.ofNat 72 (pv params 1)
  let far : Option Nat := if fld w0 71 70 = 3 ∨ !sizeOk (fld w0 69 65) then some 0 else none
  let f : Form := { plain 0x90 false params [(72, 0, 2 ^ 72 - 1), (72, 0, 2 ^ 72 - 1)] (q < 8192 && ofPool h.port q) with
    far := far, rsvAt := ringRsv w0 w1 }
  done (s.serve h params f fun x =>
    if h.port.isNone ∨ (x.queueOf q).live ∨ isAdmin q ∨ !x.cqOk h.port w0 w1 then refuse stCONFLICT
    else ok (x.updQueue q fun _ => { live := true, d0 := w0, d1 := w1 }) [])

/-- A live command ring names the completion ring (R359). -/
def State.named (s : State) (q : Nat) : Bool :=
  s.queue.any fun (e : Nat × Queue) => e.1 < 8192 && e.2.live && e.2.type = 0 && e.2.cq = q

/-- A ring is taken down: its unfetched entries are discarded, its streams unbound (log entry 68). -/
def State.dropQueue (s : State) (q : Nat) : State :=
  (s.forEach (s.boundTo q) fun x k => x.updQueue k fun y => { y with bind := none }).updQueue q fun y =>
    { y with live := false, cons := y.prod }

/-- Q_DELETE (R354, R359). -/
def execQDelete (h : Hdr) (params : List Slot16) (s : State) : Res :=
  let q := h.target.toNat
  done (s.serve h params (plain 0x91 false params [] (q < 8192 && ofPool h.port q)) fun x =>
    if h.port.isNone ∨ !(x.queueOf q).live ∨ isAdmin q ∨ ((x.queueOf q).type = 1 ∧ x.named q) then refuse stCONFLICT
    else ok (x.dropQueue q) [])

/-- A queue that Q_BIND binds: a channel stream of kind 0–2, or a network queue (R337). -/
def bindable (q : Nat) : Bool := 8192 ≤ q && q < 28672 && (20480 ≤ q || q % 32 < 3)

/-- The package assigns the queue to a split coach (R337). -/
def State.splitOwned (s : State) (q : Nat) : Bool :=
  (List.range 48).any fun p => (s.slotOf p).st = .split && (Config.splitQueues p).contains q

/-- The queue is bound to a ring of another port. -/
def State.boundElse (s : State) (port : Option Side) (q : Nat) : Bool :=
  match (s.queueOf q).bind with
  | some r => poolOf r ≠ port
  | none => false

/-- Q_BIND (R337). -/
def execQBind (h : Hdr) (params : List Slot16) (s : State) : Res :=
  let q := h.target.toNat
  let r := pv params 0
  let far : Option Nat := if r = 0xFFFF ∨ h.port.isNone ∨ (r < 8192 ∧ ofPool h.port r) then none else some 0
  done (s.serve h params { plain 0x92 false params [(16, 0, 65535)] (bindable q) with far := far } fun x =>
    if h.port.isNone ∨ x.boundElse h.port q ∨ x.splitOwned q then refuse stCONFLICT
    else if r = 0xFFFF then ok (x.updQueue q fun y => { y with bind := none }) []
    else if (x.queueOf r).live ∧ (x.queueOf r).type = 2 then ok (x.updQueue q fun y => { y with bind := some r }) []
    else refuse stCONFLICT)

/-- Q_STATUS (R354): descriptor, indices, lost count. -/
def execQStatus (h : Hdr) (params : List Slot16) (s : State) : Res :=
  done (s.serve h params (plain 0x93 false params [] (below h 32768)) fun x =>
    if h.port.isNone then refuse stCONFLICT
    else
      let q := x.queueOf h.target.toNat
      ok x [q.d0.toNat, q.d1.toNat, q.prod.toNat, q.cons.toNat, q.lost])

/-! ### Networks (R300–R330) -/

/-- The state of a cage in a reply slot: present, accepted, up (log entry 63). -/
def Cage.code (c : Cage) : Nat := b2n c.present + 2 * b2n c.accepted + 4 * b2n c.up

/-- NET_STATUS (R354): NCFG, both cages, PTP lock and offset. -/
def execNetStatus (h : Hdr) (params : List Slot16) (s : State) : Res :=
  let n := h.target.toNat
  let d := Side.ofIx n
  done (s.serve h params (plain 0xA0 false params [] (below h 2)) fun x =>
    ok x [natWord (x.ncfg d), (x.cageOf (2 * n)).code, (x.cageOf (2 * n + 1)).code, b2n (x.netOf d).locked,
      encInt 128 (x.netOf d).offset])

/-- CONN_STATUS (R354): LSTAT, LCFG0, LCFG1, then the discards per cause 1–8 of side A and of side B (log entry 63). -/
def execConnStatus (h : Hdr) (params : List Slot16) (s : State) : Res :=
  let c := h.target.toNat
  done (s.serve h params (plain 0xA1 false params [] (below h 8192)) fun x =>
    let k := x.connOf c
    ok x ([x.lstat c, x.lcfg0 c, x.lcfg1 c].map natWord ++ (List.range 8).map (fun i => Tab.get 0 k.discA (i + 1)) ++
      (List.range 8).map fun i => Tab.get 0 k.discB (i + 1)))

/-- KEY_EXPORT (R314): the wrapped key, 24 bytes in two byte-data slots; AUTH_FAILED without a session with KEYX. Without a
transport key the status is not named (log entry 5). -/
def execKeyExport (h : Hdr) (params : List Slot16) (s : State) : Res :=
  let d := Hdr.side h
  done (s.serve h params (plain 0xA2 true params [(16, 0, 65535), (1, 0, 1)] (below h 8192)) fun x =>
    if !x.portRole h.port 0 then refuse stAUTH
    else if !x.keysHeld d then .reply x.drawn x.freeStatus []
    else match Config.transportKey (x.secret d) (x.wrapOf x.pkg) with
      | none => .reply x.drawn x.freeStatus []
      | some k =>
        let w := Config.keyWrap k (Config.connKey (x.secret d) x.pkg.nsalt h.target.toNat (pv params 0) (pv params 1 = 1))
        ok x [fld w 127 0, fld w 191 128])

/-- What a module says of itself, in a reply slot (log entry 63). -/
def ModuleInfo.code (m : ModuleInfo) : Nat := b2n m.speed10g + 2 * b2n m.typeKnown + 4 * b2n m.powerOk + 8 * b2n m.eepromOk

/-- CAGE_STATUS (R354, R300): identity and alarm flags. -/
def execCageStatus (h : Hdr) (params : List Slot16) (s : State) : Res :=
  done (s.serve h params (plain 0xA3 false params [] (below h 4)) fun x =>
    let c := x.cageOf h.target.toNat
    ok x [c.code, (match c.ident with | some m => ModuleInfo.code m | none => 0), c.alarms.toNat])

/-- PTP_STATUS (R354): the states of the network's ports, offset, grandmaster identity (log entry 63). -/
def execPtpStatus (h : Hdr) (params : List Slot16) (s : State) : Res :=
  let d := Side.ofIx h.target.toNat
  done (s.serve h params (plain 0xC2 false params [] (below h 2)) fun x =>
    let n := x.netOf d
    ok x [b2n n.locked + 2 * b2n n.master, encInt 128 n.offset, n.gm.toNat])

/-! ### Time (R398) -/

/-- TIME_GET (R398): time in the form of R312, TSRC. -/
def execTimeGet (h : Hdr) (params : List Slot16) (s : State) : Res :=
  done (s.serve h params (plain 0xC0 false params [] (noTarget h)) fun x => ok x [x.timeWord.toNat, x.time.tsrc.toNat])

/-- TIME_SET (R354, R398): STATE_CONFLICT while PTP is locked on either network. -/
def execTimeSet (h : Hdr) (params : List Slot16) (s : State) : Res :=
  done (s.serve h params (plain 0xC1 true params [(71, 0, 2 ^ 71 - 1)] (noTarget h)) fun x =>
    if (x.netOf .A).locked ∨ (x.netOf .B).locked then refuse stCONFLICT else ok (x.setTime (pv params 0) 4) [])

/-! ### Service sessions (R425, R426) -/

/-- A nonce and when it was given out. -/
abbrev Nonce := BitVec 256 × Nat

/-- The unused nonce of a port. -/
def State.nonceOf (s : State) (port : Option Side) : Option Nonce :=
  match port with
  | some d => (s.portOf d).nonce
  | none => s.svc.nonce

/-- Put a nonce, or none, at a port. -/
def State.withNonce (s : State) (port : Option Side) (n : Option Nonce) : State :=
  match port with
  | some d => s.updPort d fun x => { x with nonce := n }
  | none => { s with svc := { s.svc with nonce := n } }

/-- A nonce of 32 bytes that nothing determines (log entry 4). -/
def State.freshNonce (s : State) : BitVec 256 :=
  BitVec.ofNat 256 (((List.range 4).map fun k => at_ ((Config.freeWord (s.free + k)).toNat % 2 ^ 64) (64 * k)).foldl (· + ·) 0)

/-- SVC_CHALLENGE (R354, R426). -/
def execSvcChallenge (h : Hdr) (params : List Slot16) (s : State) : Res :=
  done (s.serve h params (plain 0xF0 false params [] (noTarget h)) fun x =>
    let n := x.freshNonce
    ok (({ x with free := x.free + 4 }).withNonce h.port (some (n, x.clock.count))) [fld n 127 0, fld n 255 128])

/-- A vendor credential by its identity (R425). -/
def Cred.vendor (c : Cred) : Bool := bit c.id 31

/-- The credentials accepted in the lifecycle state (R416, R425): the owner's of the active package, the vendor's of the
running image. Role OWN counts only in a vendor credential. -/
def State.creds (s : State) : List Cred :=
  let own : List Cred := (s.pkg.creds.filter fun c => !Cred.vendor c).map fun (c : Cred) => { c with roles := setBit c.roles 4 false }
  let ven : List Cred := if s.dev.responder then [] else (((s.dev.fw.get .A).get s.dev.running).creds).filter Cred.vendor
  if s.dev.lifecycle = 2 then own ++ (if bit s.pkg.flags 2 then ven else []) else ven

/-- What the signature of SVC_OPEN covers (R426). -/
def State.svcMessage (s : State) (port : Option Side) (n : BitVec 256) (id : Nat) : List Byte :=
  let d : Side := port.getD .A
  leBytes 32 n.toNat ++ leBytes 8 (s.serialOn d) ++ leBytes 1 (d.ix + 1) ++ leBytes 4 id

/-- The credential under which a session opens, none where a condition of R426 fails. -/
def State.svcCred (s : State) (h : Hdr) (ps : List Slot16) : Option Cred :=
  match s.nonceOf h.port with
  | none => none
  | some n =>
    let sig := ((ps.drop 1).map fun (v : Slot16) => leBytes 16 v.toNat).flatten
    s.creds.find? fun c =>
      c.id.toNat = pv ps 0 && decide (s.clock.count ≤ n.2 + 60000000) && s.time.valid &&
      decide (c.notBefore.toNat ≤ s.taiDay) && decide (s.taiDay ≤ c.notAfter.toNat) &&
      (h.port.isSome || bit c.roles 5) && Config.ecdsaP384Verify c.key (s.svcMessage h.port n.1 (pv ps 0)) sig

/-- A session opens (R426, R427), with its event; a DBG_S session brings STANDBY or HOLDING to SERVICE (R402). -/
def State.openSession (s : State) (h : Hdr) (c : Cred) : State × Nat :=
  let n := s.svc.sessions + 1
  let id := BitVec.ofNat 32 (s.time.bootSeq.toNat % 2 ^ 16 * 2 ^ 16 + n)
  let s1 := { s with svc := { s.svc with sessions := n } }
  let s2 := s1.withSession h.port (some ⟨id, c.id, c.roles, s.clock.count⟩)
  let s3 := match s.dev.st with
    | .standby | .holding => if bit c.roles 2 then { s2 with dev := { s2.dev with toService := true } } else s2
    | _ => s2.zeroise
  (s3.post 0x0705 (sessNode h.port) 0 (id.toNat % 2 ^ 28), id.toNat)

/-- SVC_OPEN (R426): the nonce is consumed whatever the outcome; DBG_S in RUNNING is refused (R427), and a second session of a
port as log entry 67 says. -/
def execSvcOpen (h : Hdr) (params : List Slot16) (s : State) : Res :=
  let f : Form := ⟨0xF1, false, params.length = 7, some (32, 0, 2 ^ 32 - 1) :: (params.drop 1).map fun _ => none, noTarget h, none, true,
    none⟩
  let s1 := s.serve h params f fun x =>
    match x.svcCred h params with
    | none => refuse stAUTH
    | some c =>
      if (x.sessionOf h.port).isSome ∨ (bit c.roles 2 ∧ x.dev.st = .running) then refuse stCONFLICT
      else
        let r := x.openSession h c
        ok r.1 [r.2]
  done (if s.serves h then s1.withNonce h.port none else s1)

/-- SVC_CLOSE (R426). -/
def execSvcClose (h : Hdr) (params : List Slot16) (s : State) : Res :=
  done (s.serve h params (plain 0xF2 false params [] (noTarget h)) fun x => ok (x.sessionEnd h.port) [])

/-! ### The service port and the TAP -/

/-- Insertion and removal of the service cable are recorded as a plug's are (R78, R448). -/
def State.cableRecord (s : State) : State :=
  match s.dev.st with
  | .dormant => s
  | _ => (s.postFree nDevice).ledgerAdd 0x06 noFn noChan 0 0 0 0

/-- SERVICE_CABLE_INSERTED (R448). -/
def execServiceCableInserted (s : State) : Res :=
  if s.svc.cable then done s else done { s.cableRecord with svc := { s.svc with cable := true } }

/-- SERVICE_CABLE_REMOVED (R448, R449): the session ends, and the replies not yet sent are dropped. -/
def execServiceCableRemoved (s : State) : Res :=
  if !s.svc.cable then done s
  else
    let s1 := s.cableRecord.sessionEnd none
    done { s1 with svc := { s1.svc with cable := false, dropped := s1.svc.dropped + s1.svc.replies.length, replies := [], nonce := none } }

/-- SERVICE_PACKET (R448, R449): one packet, within Port 1's budget; the depot's checks 1 and 2. -/
def execServicePacket (bytes : List Byte) (s : State) : Res :=
  let n := pktFld bytes 2 2
  let b := s.budget
  if !s.portAnswers none ∨ b.1 < (s.portOf .A).fetchB + n ∨ b.2 < s.fetchedN .A + 1 then done s
  else
    let s1 := s.updPort .A fun x => { x with fetchB := x.fetchB + n }
    if !lengthOk bytes 4096 then done (s1.depotReply none 0 bytes stLENGTH 2)
    else if !crcOk bytes then done (s1.depotReply none 0 bytes stCHECK 28)
    else done { s1 with svc := { s1.svc with fetched := s1.svc.fetched ++ [{ port := none, queue := 0, bytes := bytes.take n }] } }

/-- The TAP instruction that takes effect (R427): at level 0 only BYPASS and IDCODE. -/
def State.tapEffective (s : State) (i : TapIns) : TapIns :=
  match i with
  | .bypass => .bypass
  | .idcode => .idcode
  | .coachDebug => if s.debugC || s.debugS then .coachDebug else .bypass
  | .samplePreload => if s.debugS then .samplePreload else .bypass
  | .extest => if s.debugS then .extest else .bypass
  | .scan => if s.debugS then .scan else .bypass

/-- The IDCODE (R427). -/
def State.idcode (s : State) : BitVec 32 := BitVec.ofNat 32 (at_ (s.otpFld .A 67 64) 28 + at_ 0x0192 12 + 1)

/-- TAP_INSTRUCTION (R427): the instruction in effect; IDCODE's register reads the code, and every other reads zero here. -/
def execTapInstruction (ins : TapIns) (s : State) : Res :=
  let e := s.tapEffective ins
  done { s with svc := { s.svc with tap := e, tapOut := if e = .idcode then s.idcode else 0 } }

end Sys2Proof.Machine
end

