-- ==== Sys2Proof/Machine/Dispatch.lean ====
section
/-! DEFINITION. One arm per command: a direct call of its meaning. -/

namespace Sys2Proof.Machine

/-- The effect of a command on everything but the queue. -/
def exec (i : Instr) (s : State) : Host.Outcome State Fault Refusal :=
  match i with
  | .logicPowerGood => Sys2Proof.Machine.execLogicPowerGood s
  | .logicInputUnder inp mv => Sys2Proof.Machine.execLogicInputUnder inp mv s
  | .logicInputOver inp mv => Sys2Proof.Machine.execLogicInputOver inp mv s
  | .logicInputInRange inp mv => Sys2Proof.Machine.execLogicInputInRange inp mv s
  | .pfailAssert => Sys2Proof.Machine.execPfailAssert s
  | .pfailDeassert => Sys2Proof.Machine.execPfailDeassert s
  | .bankLow => Sys2Proof.Machine.execBankLow s
  | .railsFall => Sys2Proof.Machine.execRailsFall s
  | .fieldSupplyOutOfRange chip mv => Sys2Proof.Machine.execFieldSupplyOutOfRange chip mv s
  | .fieldSupplyRestored chip mv => Sys2Proof.Machine.execFieldSupplyRestored chip mv s
  | .cartridgeRemoved => Sys2Proof.Machine.execCartridgeRemoved s
  | .cartridgeInserted => Sys2Proof.Machine.execCartridgeInserted s
  | .bankMeasurement hold10us => Sys2Proof.Machine.execBankMeasurement hold10us s
  | .cellMeasurement mv => Sys2Proof.Machine.execCellMeasurement mv s
  | .sealEvent k => Sys2Proof.Machine.execSealEvent k s
  | .rtcUpdate => Sys2Proof.Machine.execRtcUpdate s
  | .clockDomainBrownout => Sys2Proof.Machine.execClockDomainBrownout s
  | .provingDone failed keyCheckAgrees => Sys2Proof.Machine.execProvingDone failed keyCheckAgrees s
  | .bootDone => Sys2Proof.Machine.execBootDone s
  | .loadingDone silent => Sys2Proof.Machine.execLoadingDone silent s
  | .startSupervisorTimeout sd => Sys2Proof.Machine.execStartSupervisorTimeout sd s
  | .supervisorFault sd k => Sys2Proof.Machine.execSupervisorFault sd k s
  | .supervisorSelfCheck sd pass => Sys2Proof.Machine.execSupervisorSelfCheck sd pass s
  | .cryptoKnownAnswerTest sd pass => Sys2Proof.Machine.execCryptoKnownAnswerTest sd pass s
  | .thermalLimit sd => Sys2Proof.Machine.execThermalLimit sd s
  | .tickAlignment sd skewNs => Sys2Proof.Machine.execTickAlignment sd skewNs s
  | .skewFault => Sys2Proof.Machine.execSkewFault s
  | .alignmentLoss => Sys2Proof.Machine.execAlignmentLoss s
  | .sideLinkCrcError lane => Sys2Proof.Machine.execSideLinkCrcError lane s
  | .capture => Sys2Proof.Machine.execCapture s
  | .imageExchangeComplete complete => Sys2Proof.Machine.execImageExchangeComplete complete s
  | .commitDeadline => Sys2Proof.Machine.execCommitDeadline s
  | .commit => Sys2Proof.Machine.execCommit s
  | .keepalive chip h payload => Sys2Proof.Machine.execKeepalive chip h payload s
  | .output chip h on ao rsv => Sys2Proof.Machine.execOutput chip h on ao rsv s
  | .diagReq chip h id part rsv => Sys2Proof.Machine.execDiagReq chip h id part rsv s
  | .config chip h p => Sys2Proof.Machine.execConfig chip h p s
  | .bankSwitch chip h p => Sys2Proof.Machine.execBankSwitch chip h p s
  | .barrierEcho chip h pattern => Sys2Proof.Machine.execBarrierEcho chip h pattern s
  | .sentArm chip h p => Sys2Proof.Machine.execSentArm chip h p s
  | .calStart chip h p => Sys2Proof.Machine.execCalStart chip h p s
  | .calAbort chip h p => Sys2Proof.Machine.execCalAbort chip h p s
  | .inject chip h p => Sys2Proof.Machine.execInject chip h p s
  | .refCheck chip h p => Sys2Proof.Machine.execRefCheck chip h p s
  | .latTest chip h p => Sys2Proof.Machine.execLatTest chip h p s
  | .restTest chip h p result => Sys2Proof.Machine.execRestTest chip h p result s
  | .bankCrc chip h p => Sys2Proof.Machine.execBankCrc chip h p s
  | .forceRel chip h p => Sys2Proof.Machine.execForceRel chip h p s
  | .ovsRel chip h p => Sys2Proof.Machine.execOvsRel chip h p s
  | .captureLo chip h payload => Sys2Proof.Machine.execCaptureLo chip h payload s
  | .captureHi chip h payload => Sys2Proof.Machine.execCaptureHi chip h payload s
  | .diag chip h payload => Sys2Proof.Machine.execDiag chip h payload s
  | .stream chip h payload => Sys2Proof.Machine.execStream chip h payload s
  | .idle chip h payload => Sys2Proof.Machine.execIdle chip h payload s
  | .fieldSilenceTimeout chip => Sys2Proof.Machine.execFieldSilenceTimeout chip s
  | .sideSilenceTimeout chip => Sys2Proof.Machine.execSideSilenceTimeout chip s
  | .fieldChipReturn chip => Sys2Proof.Machine.execFieldChipReturn chip s
  | .tripLaneChange chip lane what => Sys2Proof.Machine.execTripLaneChange chip lane what s
  | .holdLaneTrip chip => Sys2Proof.Machine.execHoldLaneTrip chip s
  | .pairLaneTrip chip c low fault => Sys2Proof.Machine.execPairLaneTrip chip c low fault s
  | .pairLineRecovery chip c => Sys2Proof.Machine.execPairLineRecovery chip c s
  | .diRawEdge chip c level stamp => Sys2Proof.Machine.execDiRawEdge chip c level stamp s
  | .filterQualify t level stamp => Sys2Proof.Machine.execFilterQualify t level stamp s
  | .stopLineQualify line sd off => Sys2Proof.Machine.execStopLineQualify line sd off s
  | .chatterWindowEnd t => Sys2Proof.Machine.execChatterWindowEnd t s
  | .demandAge t => Sys2Proof.Machine.execDemandAge t s
  | .discrepancyFault ch => Sys2Proof.Machine.execDiscrepancyFault ch s
  | .tsPulseStart t => Sys2Proof.Machine.execTsPulseStart t s
  | .tsPulseCheck t lineHigh overload stillOn rLoop => Sys2Proof.Machine.execTsPulseCheck t lineHigh overload stillOn rLoop s
  | .crossShortIdentified t matching => Sys2Proof.Machine.execCrossShortIdentified t matching s
  | .outputCurrentLimit t => Sys2Proof.Machine.execOutputCurrentLimit t s
  | .outputVoltageCheck t pass => Sys2Proof.Machine.execOutputVoltageCheck t pass s
  | .darkPulseStart t test => Sys2Proof.Machine.execDarkPulseStart t test s
  | .darkPulseVerdict t mv steps => Sys2Proof.Machine.execDarkPulseVerdict t mv steps s
  | .darkPulseEnd t => Sys2Proof.Machine.execDarkPulseEnd t s
  | .plugRemoved chip => Sys2Proof.Machine.execPlugRemoved chip s
  | .plugInserted chip => Sys2Proof.Machine.execPlugInserted chip s
  | .internalCheck chip failing => Sys2Proof.Machine.execInternalCheck chip failing s
  | .openLoopFlag t => Sys2Proof.Machine.execOpenLoopFlag t s
  | .openLoopClear t => Sys2Proof.Machine.execOpenLoopClear t s
  | .aoCompliance t => Sys2Proof.Machine.execAoCompliance t s
  | .aoMismatch t => Sys2Proof.Machine.execAoMismatch t s
  | .ne43Fault t high => Sys2Proof.Machine.execNe43Fault t high s
  | .aiDisagreement ch => Sys2Proof.Machine.execAiDisagreement ch s
  | .calibrationComplete t zeroI refI zeroV refV => Sys2Proof.Machine.execCalibrationComplete t zeroI refI zeroV refV s
  | .pullinEnd t => Sys2Proof.Machine.execPullinEnd t s
  | .overspeedSentinelTrip u => Sys2Proof.Machine.execOverspeedSentinelTrip u s
  | .timerMatch u => Sys2Proof.Machine.execTimerMatch u s
  | .timerOverflow u => Sys2Proof.Machine.execTimerOverflow u s
  | .encoderEdge sd n a b within20ns => Sys2Proof.Machine.execEncoderEdge sd n a b within20ns s
  | .encoderLineFault sd n => Sys2Proof.Machine.execEncoderLineFault sd n s
  | .clk sd n bits => Sys2Proof.Machine.execClk sd n bits s
  | .skip sd n count => Sys2Proof.Machine.execSkip sd n count s
  | .expect sd n arg line0 => Sys2Proof.Machine.execExpect sd n arg line0 s
  | .waitNs sd n arg => Sys2Proof.Machine.execWaitNs sd n arg s
  | .waitTick sd n => Sys2Proof.Machine.execWaitTick sd n s
  | .waitClk sd n bits => Sys2Proof.Machine.execWaitClk sd n bits s
  | .gray sd n count => Sys2Proof.Machine.execGray sd n count s
  | .deliver sd n => Sys2Proof.Machine.execDeliver sd n s
  | .jump sd n slot => Sys2Proof.Machine.execJump sd n slot s
  | .halt sd n => Sys2Proof.Machine.execHalt sd n s
  | .shiftLoadApply sd n clockInProgress => Sys2Proof.Machine.execShiftLoadApply sd n clockInProgress s
  | .latticeScrub hit => Sys2Proof.Machine.execLatticeScrub hit s
  | .planeTest sd failing => Sys2Proof.Machine.execPlaneTest sd failing s
  | .atRestOverdue chip item => Sys2Proof.Machine.execAtRestOverdue chip item s
  | .couplingSignature sd p lag => Sys2Proof.Machine.execCouplingSignature sd p lag s
  | .couplingTimeout sd p => Sys2Proof.Machine.execCouplingTimeout sd p s
  | .derailNotice sd p => Sys2Proof.Machine.execDerailNotice sd p s
  | .bankNotice sd p => Sys2Proof.Machine.execBankNotice sd p s
  | .coachTestVerdict p leadPass trailPass => Sys2Proof.Machine.execCoachTestVerdict p leadPass trailPass s
  | .reserveAcceptance sd coach p pass => Sys2Proof.Machine.execReserveAcceptance sd coach p pass s
  | .reserveDailyTest sd coach pass => Sys2Proof.Machine.execReserveDailyTest sd coach pass s
  | .coachPowerUpDone sd coach => Sys2Proof.Machine.execCoachPowerUpDone sd coach s
  | .rebuildCompare p foldA foldB => Sys2Proof.Machine.execRebuildCompare p foldA foldB s
  | .slotRejoin p => Sys2Proof.Machine.execSlotRejoin p s
  | .handoverCopy p => Sys2Proof.Machine.execHandoverCopy p s
  | .handoverExchange p => Sys2Proof.Machine.execHandoverExchange p s
  | .splitApply p => Sys2Proof.Machine.execSplitApply p s
  | .joinLbistDone p leadPass trailPass => Sys2Proof.Machine.execJoinLbistDone p leadPass trailPass s
  | .debugHalt p => Sys2Proof.Machine.execDebugHalt p s
  | .debugBreakpoint p addr => Sys2Proof.Machine.execDebugBreakpoint p addr s
  | .debugSingleStep p => Sys2Proof.Machine.execDebugSingleStep p s
  | .debugResume p => Sys2Proof.Machine.execDebugResume p s
  | .debugWrite p tgt value => Sys2Proof.Machine.execDebugWrite p tgt value s
  | .debugReplay p => Sys2Proof.Machine.execDebugReplay p s
  | .splitFendResume c => Sys2Proof.Machine.execSplitFendResume c s
  | .illegalInstruction c insn => Sys2Proof.Machine.execIllegalInstruction c insn s
  | .add c d a b => Sys2Proof.Machine.execAdd c d a b s
  | .addc c d a b => Sys2Proof.Machine.execAddc c d a b s
  | .addx c d a b => Sys2Proof.Machine.execAddx c d a b s
  | .sub c d a b => Sys2Proof.Machine.execSub c d a b s
  | .subc c d a b => Sys2Proof.Machine.execSubc c d a b s
  | .subx c d a b => Sys2Proof.Machine.execSubx c d a b s
  | .neg c d a => Sys2Proof.Machine.execNeg c d a s
  | .negc c d a => Sys2Proof.Machine.execNegc c d a s
  | .and c d a b => Sys2Proof.Machine.execAnd c d a b s
  | .or c d a b => Sys2Proof.Machine.execOr c d a b s
  | .xor c d a b => Sys2Proof.Machine.execXor c d a b s
  | .andn c d a b => Sys2Proof.Machine.execAndn c d a b s
  | .cmp c a b => Sys2Proof.Machine.execCmp c a b s
  | .tst c a b => Sys2Proof.Machine.execTst c a b s
  | .min c d a b => Sys2Proof.Machine.execMin c d a b s
  | .max c d a b => Sys2Proof.Machine.execMax c d a b s
  | .minu c d a b => Sys2Proof.Machine.execMinu c d a b s
  | .maxu c d a b => Sys2Proof.Machine.execMaxu c d a b s
  | .mul c d a b => Sys2Proof.Machine.execMul c d a b s
  | .mulc c d a b => Sys2Proof.Machine.execMulc c d a b s
  | .mulh c d a b => Sys2Proof.Machine.execMulh c d a b s
  | .mulhu c d a b => Sys2Proof.Machine.execMulhu c d a b s
  | .div c d a b => Sys2Proof.Machine.execDiv c d a b s
  | .divc c d a b => Sys2Proof.Machine.execDivc c d a b s
  | .rem c d a b => Sys2Proof.Machine.execRem c d a b s
  | .remc c d a b => Sys2Proof.Machine.execRemc c d a b s
  | .divu c d a b => Sys2Proof.Machine.execDivu c d a b s
  | .remu c d a b => Sys2Proof.Machine.execRemu c d a b s
  | .divuc c d a b => Sys2Proof.Machine.execDivuc c d a b s
  | .remuc c d a b => Sys2Proof.Machine.execRemuc c d a b s
  | .shl c d a b => Sys2Proof.Machine.execShl c d a b s
  | .shr c d a b => Sys2Proof.Machine.execShr c d a b s
  | .sar c d a b => Sys2Proof.Machine.execSar c d a b s
  | .adds c d a b => Sys2Proof.Machine.execAdds c d a b s
  | .subs c d a b => Sys2Proof.Machine.execSubs c d a b s
  | .muls c d a b => Sys2Proof.Machine.execMuls c d a b s
  | .bxt c d a b => Sys2Proof.Machine.execBxt c d a b s
  | .bxts c d a b => Sys2Proof.Machine.execBxts c d a b s
  | .bins c d a b => Sys2Proof.Machine.execBins c d a b s
  | .nop c => Sys2Proof.Machine.execNop c s
  | .save c => Sys2Proof.Machine.execSave c s
  | .restore c => Sys2Proof.Machine.execRestore c s
  | .ret c => Sys2Proof.Machine.execRet c s
  | .jmpr c a => Sys2Proof.Machine.execJmpr c a s
  | .callr c a => Sys2Proof.Machine.execCallr c a s
  | .tret c => Sys2Proof.Machine.execTret c s
  | .spill c a => Sys2Proof.Machine.execSpill c a s
  | .fill c a => Sys2Proof.Machine.execFill c a s
  | .tlbf c => Sys2Proof.Machine.execTlbf c s
  | .isync c => Sys2Proof.Machine.execIsync c s
  | .addi c d a imm => Sys2Proof.Machine.execAddi c d a imm s
  | .andi c d a imm => Sys2Proof.Machine.execAndi c d a imm s
  | .ori c d a imm => Sys2Proof.Machine.execOri c d a imm s
  | .xori c d a imm => Sys2Proof.Machine.execXori c d a imm s
  | .cmpi c a imm => Sys2Proof.Machine.execCmpi c a imm s
  | .shli c d a imm => Sys2Proof.Machine.execShli c d a imm s
  | .shri c d a imm => Sys2Proof.Machine.execShri c d a imm s
  | .sari c d a imm => Sys2Proof.Machine.execSari c d a imm s
  | .muli c d a imm => Sys2Proof.Machine.execMuli c d a imm s
  | .ldu c d imm => Sys2Proof.Machine.execLdu c d imm s
  | .bxti c d a imm => Sys2Proof.Machine.execBxti c d a imm s
  | .binsi c d a imm => Sys2Proof.Machine.execBinsi c d a imm s
  | .ld c d a imm => Sys2Proof.Machine.execLd c d a imm s
  | .st c d a imm => Sys2Proof.Machine.execSt c d a imm s
  | .xchg c d a imm => Sys2Proof.Machine.execXchg c d a imm s
  | .fence c => Sys2Proof.Machine.execFence c s
  | .br c disp => Sys2Proof.Machine.execBr c disp s
  | .call c disp => Sys2Proof.Machine.execCall c disp s
  | .beq c disp => Sys2Proof.Machine.execBeq c disp s
  | .bne c disp => Sys2Proof.Machine.execBne c disp s
  | .blt c disp => Sys2Proof.Machine.execBlt c disp s
  | .bge c disp => Sys2Proof.Machine.execBge c disp s
  | .ble c disp => Sys2Proof.Machine.execBle c disp s
  | .bgt c disp => Sys2Proof.Machine.execBgt c disp s
  | .blo c disp => Sys2Proof.Machine.execBlo c disp s
  | .bhs c disp => Sys2Proof.Machine.execBhs c disp s
  | .bls c disp => Sys2Proof.Machine.execBls c disp s
  | .bhi c disp => Sys2Proof.Machine.execBhi c disp s
  | .bvs c disp => Sys2Proof.Machine.execBvs c disp s
  | .bvc c disp => Sys2Proof.Machine.execBvc c disp s
  | .bmi c disp => Sys2Proof.Machine.execBmi c disp s
  | .bpl c disp => Sys2Proof.Machine.execBpl c disp s
  | .trap c imm => Sys2Proof.Machine.execTrap c imm s
  | .cpl c => Sys2Proof.Machine.execCpl c s
  | .fend c => Sys2Proof.Machine.execFend c s
  | .rdsr c d imm => Sys2Proof.Machine.execRdsr c d imm s
  | .wrsr c a imm => Sys2Proof.Machine.execWrsr c a imm s
  | .bankCopyDone sd bank => Sys2Proof.Machine.execBankCopyDone sd bank s
  | .bankTestVerdict sd bank pass => Sys2Proof.Machine.execBankTestVerdict sd bank pass s
  | .barrierTestVerdict w sd => Sys2Proof.Machine.execBarrierTestVerdict w sd s
  | .laneTestVerdict lane pass => Sys2Proof.Machine.execLaneTestVerdict lane pass s
  | .frontEndTestVerdict t pass => Sys2Proof.Machine.execFrontEndTestVerdict t pass s
  | .converterTestVerdict t pass => Sys2Proof.Machine.execConverterTestVerdict t pass s
  | .unitScanVerdict u pass => Sys2Proof.Machine.execUnitScanVerdict u pass s
  | .deviceBlockTestVerdict sd b pass => Sys2Proof.Machine.execDeviceBlockTestVerdict sd b pass s
  | .armedTimeout f => Sys2Proof.Machine.execArmedTimeout f s
  | .resetHeldLong f secs => Sys2Proof.Machine.execResetHeldLong f secs s
  | .resetInstanceRecovery f => Sys2Proof.Machine.execResetInstanceRecovery f s
  | .remoteResetExpiry => Sys2Proof.Machine.execRemoteResetExpiry s
  | .edmCheckStart f => Sys2Proof.Machine.execEdmCheckStart f s
  | .handrailDeviation f => Sys2Proof.Machine.execHandrailDeviation f s
  | .brakeFeedbackTimeout f applying => Sys2Proof.Machine.execBrakeFeedbackTimeout f applying s
  | .doorchainBridged f => Sys2Proof.Machine.execDoorchainBridged f s
  | .timerDelayExpiry f => Sys2Proof.Machine.execTimerDelayExpiry f s
  | .voteDisagreement f => Sys2Proof.Machine.execVoteDisagreement f s
  | .curveTransfer t curve => Sys2Proof.Machine.execCurveTransfer t curve s
  | .ledgerPageWrite => Sys2Proof.Machine.execLedgerPageWrite s
  | .monitorDisagreement m => Sys2Proof.Machine.execMonitorDisagreement m s
  | .monitorFaultClear m => Sys2Proof.Machine.execMonitorFaultClear m s
  | .eventPulseEnd m k => Sys2Proof.Machine.execEventPulseEnd m k s
  | .netData sd g arr => Sys2Proof.Machine.execNetData sd g arr s
  | .netOpen sd g arr => Sys2Proof.Machine.execNetOpen sd g arr s
  | .netOpenAck sd g arr => Sys2Proof.Machine.execNetOpenAck sd g arr s
  | .telegramReceipt sd r => Sys2Proof.Machine.execTelegramReceipt sd r s
  | .telegramSend c => Sys2Proof.Machine.execTelegramSend c s
  | .connectionWatchdogExpiry c => Sys2Proof.Machine.execConnectionWatchdogExpiry c s
  | .singleNetworkTimeout c => Sys2Proof.Machine.execSingleNetworkTimeout c s
  | .handshakeTimeout c => Sys2Proof.Machine.execHandshakeTimeout c s
  | .moduleInserted cage m => Sys2Proof.Machine.execModuleInserted cage m s
  | .moduleRemoved cage => Sys2Proof.Machine.execModuleRemoved cage s
  | .moduleAlarmPoll cage flags => Sys2Proof.Machine.execModuleAlarmPoll cage flags s
  | .cageDown cage cause => Sys2Proof.Machine.execCageDown cage cause s
  | .ptpSync net offsetNs taiNs => Sys2Proof.Machine.execPtpSync net offsetNs taiNs s
  | .ptpAnnounceTimeout net => Sys2Proof.Machine.execPtpAnnounceTimeout net s
  | .portLinkUp p gen width => Sys2Proof.Machine.execPortLinkUp p gen width s
  | .portLinkDown p => Sys2Proof.Machine.execPortLinkDown p s
  | .stopWord p w size onVc0 => Sys2Proof.Machine.execStopWord p w size onVc0 s
  | .vc1TlpDiscard p nonPosted => Sys2Proof.Machine.execVc1TlpDiscard p nonPosted s
  | .semReq p w => Sys2Proof.Machine.execSemReq p w s
  | .semRel p w => Sys2Proof.Machine.execSemRel p w s
  | .admCtlWrite p w => Sys2Proof.Machine.execAdmCtlWrite p w s
  | .queueProdWrite p q w => Sys2Proof.Machine.execQueueProdWrite p q w s
  | .queueConsWrite p q w => Sys2Proof.Machine.execQueueConsWrite p q w s
  | .frameStatRead p => Sys2Proof.Machine.execFrameStatRead p s
  | .frameStatClear p w => Sys2Proof.Machine.execFrameStatClear p w s
  | .cntRead p => Sys2Proof.Machine.execCntRead p s
  | .registerWrite p w => Sys2Proof.Machine.execRegisterWrite p w s
  | .packetFetch p q bytes => Sys2Proof.Machine.execPacketFetch p q bytes s
  | .replyWrite p => Sys2Proof.Machine.execReplyWrite p s
  | .streamRecordWrite q words => Sys2Proof.Machine.execStreamRecordWrite q words s
  | .processImageRefresh p => Sys2Proof.Machine.execProcessImageRefresh p s
  | .tokenLeaseExpiry => Sys2Proof.Machine.execTokenLeaseExpiry s
  | .sessionExpiry port => Sys2Proof.Machine.execSessionExpiry port s
  | .identify h params => Sys2Proof.Machine.execIdentify h params s
  | .echo h params => Sys2Proof.Machine.execEcho h params s
  | .devStatus h params => Sys2Proof.Machine.execDevStatus h params s
  | .portStatus h params => Sys2Proof.Machine.execPortStatus h params s
  | .tokenAcquire h params => Sys2Proof.Machine.execTokenAcquire h params s
  | .tokenRenew h params => Sys2Proof.Machine.execTokenRenew h params s
  | .tokenRelease h params => Sys2Proof.Machine.execTokenRelease h params s
  | .tokenStatus h params => Sys2Proof.Machine.execTokenStatus h params s
  | .cfgStageBegin h params => Sys2Proof.Machine.execCfgStageBegin h params s
  | .cfgStageData h params => Sys2Proof.Machine.execCfgStageData h params s
  | .cfgStageEnd h params => Sys2Proof.Machine.execCfgStageEnd h params s
  | .stageVerifyDone firmware => Sys2Proof.Machine.execStageVerifyDone firmware s
  | .cfgActivate h params => Sys2Proof.Machine.execCfgActivate h params s
  | .activationDone firmware => Sys2Proof.Machine.execActivationDone firmware s
  | .cfgAbort h params => Sys2Proof.Machine.execCfgAbort h params s
  | .cfgRead h params => Sys2Proof.Machine.execCfgRead h params s
  | .cfgStatus h params => Sys2Proof.Machine.execCfgStatus h params s
  | .chReadCfg h params => Sys2Proof.Machine.execChReadCfg h params s
  | .chStatus h params => Sys2Proof.Machine.execChStatus h params s
  | .chReadCal h params => Sys2Proof.Machine.execChReadCal h params s
  | .chCalibrate h params => Sys2Proof.Machine.execChCalibrate h params s
  | .wagonStatus h params => Sys2Proof.Machine.execWagonStatus h params s
  | .chRehome h params => Sys2Proof.Machine.execChRehome h params s
  | .rehomeApply => Sys2Proof.Machine.execRehomeApply s
  | .pdWrite h params => Sys2Proof.Machine.execPdWrite h params s
  | .pdRead h params => Sys2Proof.Machine.execPdRead h params s
  | .sfStatus h params => Sys2Proof.Machine.execSfStatus h params s
  | .sfStatusBulk h params => Sys2Proof.Machine.execSfStatusBulk h params s
  | .sfDemands h params => Sys2Proof.Machine.execSfDemands h params s
  | .sfResetArm h params => Sys2Proof.Machine.execSfResetArm h params s
  | .sfResetConfirm h params => Sys2Proof.Machine.execSfResetConfirm h params s
  | .sfCommission h params => Sys2Proof.Machine.execSfCommission h params s
  | .sfGroupStatus h params => Sys2Proof.Machine.execSfGroupStatus h params s
  | .monReadCfg h params => Sys2Proof.Machine.execMonReadCfg h params s
  | .monStatus h params => Sys2Proof.Machine.execMonStatus h params s
  | .monStop h params => Sys2Proof.Machine.execMonStop h params s
  | .shiftLoad h params => Sys2Proof.Machine.execShiftLoad h params s
  | .encStatus h params => Sys2Proof.Machine.execEncStatus h params s
  | .jrnlInfo h params => Sys2Proof.Machine.execJrnlInfo h params s
  | .jrnlRead h params => Sys2Proof.Machine.execJrnlRead h params s
  | .ledgerInfo h params => Sys2Proof.Machine.execLedgerInfo h params s
  | .ledgerRead h params => Sys2Proof.Machine.execLedgerRead h params s
  | .ledgerAck h params => Sys2Proof.Machine.execLedgerAck h params s
  | .ledgerKey h params => Sys2Proof.Machine.execLedgerKey h params s
  | .stRun h params => Sys2Proof.Machine.execStRun h params s
  | .selfTestFinal verdict => Sys2Proof.Machine.execSelfTestFinal verdict s
  | .stResult h params => Sys2Proof.Machine.execStResult h params s
  | .retireRead h params => Sys2Proof.Machine.execRetireRead h params s
  | .pairStatus h params => Sys2Proof.Machine.execPairStatus h params s
  | .coachStatus h params => Sys2Proof.Machine.execCoachStatus h params s
  | .pairSplit h params => Sys2Proof.Machine.execPairSplit h params s
  | .pairJoin h params => Sys2Proof.Machine.execPairJoin h params s
  | .pairHandover h params => Sys2Proof.Machine.execPairHandover h params s
  | .qCreate h params => Sys2Proof.Machine.execQCreate h params s
  | .qDelete h params => Sys2Proof.Machine.execQDelete h params s
  | .qBind h params => Sys2Proof.Machine.execQBind h params s
  | .qStatus h params => Sys2Proof.Machine.execQStatus h params s
  | .netStatus h params => Sys2Proof.Machine.execNetStatus h params s
  | .connStatus h params => Sys2Proof.Machine.execConnStatus h params s
  | .keyExport h params => Sys2Proof.Machine.execKeyExport h params s
  | .cageStatus h params => Sys2Proof.Machine.execCageStatus h params s
  | .fwStageBegin h params => Sys2Proof.Machine.execFwStageBegin h params s
  | .fwStageData h params => Sys2Proof.Machine.execFwStageData h params s
  | .fwStageEnd h params => Sys2Proof.Machine.execFwStageEnd h params s
  | .fwActivate h params => Sys2Proof.Machine.execFwActivate h params s
  | .fwStatus h params => Sys2Proof.Machine.execFwStatus h params s
  | .timeGet h params => Sys2Proof.Machine.execTimeGet h params s
  | .timeSet h params => Sys2Proof.Machine.execTimeSet h params s
  | .ptpStatus h params => Sys2Proof.Machine.execPtpStatus h params s
  | .svcChallenge h params => Sys2Proof.Machine.execSvcChallenge h params s
  | .svcOpen h params => Sys2Proof.Machine.execSvcOpen h params s
  | .svcClose h params => Sys2Proof.Machine.execSvcClose h params s
  | .serviceCableInserted => Sys2Proof.Machine.execServiceCableInserted s
  | .serviceCableRemoved => Sys2Proof.Machine.execServiceCableRemoved s
  | .servicePacket bytes => Sys2Proof.Machine.execServicePacket bytes s
  | .startTokenRefill chip => Sys2Proof.Machine.execStartTokenRefill chip s
  | .journalPageWrite sd => Sys2Proof.Machine.execJournalPageWrite sd s
  | .mramWordWrite sd addr value => Sys2Proof.Machine.execMramWordWrite sd addr value s
  | .collapseSummary cls idx => Sys2Proof.Machine.execCollapseSummary cls idx s
  | .collapseWindowClose cls idx => Sys2Proof.Machine.execCollapseWindowClose cls idx s
  | .holdingNotice sd => Sys2Proof.Machine.execHoldingNotice sd s
  | .holdLaneRelease chip => Sys2Proof.Machine.execHoldLaneRelease chip s
  | .cageUp cage => Sys2Proof.Machine.execCageUp cage s
  | .complianceRecovered t => Sys2Proof.Machine.execComplianceRecovered t s
  | .unitParityError u => Sys2Proof.Machine.execUnitParityError u s
  | .diceEntropyFault chip => Sys2Proof.Machine.execDiceEntropyFault chip s
  | .protectionReconnect inp mv => Sys2Proof.Machine.execProtectionReconnect inp mv s
  | .rtcOscillatorPeriod => Sys2Proof.Machine.execRtcOscillatorPeriod s
  | .tapInstruction ins => Sys2Proof.Machine.execTapInstruction ins s
  | .ptpAnnounce net better gm => Sys2Proof.Machine.execPtpAnnounce net better gm s
  | .ptpDelayResponse net pathDelayNs => Sys2Proof.Machine.execPtpDelayResponse net pathDelayNs s
  | .ptpMessageInterval net => Sys2Proof.Machine.execPtpMessageInterval net s

end Sys2Proof.Machine
end

