-- ==== Sys2Proof/Machine/Step.lean ====
section
/-! DEFINITION. One step of the block: the command at the front of the queue takes effect; with an empty queue one tick
passes (log entry 3). -/

namespace Sys2Proof.Machine

/-- Take the front command off the queue and execute it; on an empty queue the device's own clock ticks. -/
def step (s : State) : Host.Outcome State Fault Refusal :=
  match s.pending with
  | [] => done s.idleTick
  | c :: rest => exec c { s with pending := rest }

/-- The command that a table word spells, in front of the queue; the state itself where it spells none. -/
def State.withFetchWord (s : State) (nbits w : Nat) : State :=
  match decodeTableWord nbits w with
  | none => s
  | some c => { s with pending := c :: s.pending }

end Sys2Proof.Machine
end

