-- ==== Sys2Proof/Safety.lean ====
section
/-! DEFINITION. What a safe state is, in the terms that claims use: memories in canonical form, gates off where the trip lattice
or a hold says so (R16, R476), what only ever grows (R409); then what claims say of the state before and after a command. -/

namespace Sys2Proof.Machine

/-- The memories of a side are in canonical form: equal contents are equal data. -/
def Mem.wf (m : Mem) : Bool :=
  Tab.wf (0 : Word) m.frame && Tab.wf (0 : Word) m.device && Tab.wf (0 : Word) m.mram

/-- Both sides' memories are in canonical form. -/
def State.memWf (s : State) : Bool := s.mem.a.wf && s.mem.b.wf

/-- No output terminal that a term, a pair-lane line or a hold disables has its gate on, and each such terminal is latched
(R16, R17, R476). -/
def State.gatesSafe (s : State) : Prop :=
  ∀ t ∈ s.outTerms, s.tripped t = true → (s.termOf t).out.gate = false ∧ (s.termOf t).out.latch = true

/-- The OTP bits of t, in each copy, are those of s or more: a bit is never cleared (R409). -/
def State.otpKept (s t : State) : Prop :=
  ∀ d, s.dev.otp.get d &&& t.dev.otp.get d = s.dev.otp.get d ∧ s.dev.otp1.get d &&& t.dev.otp1.get d = s.dev.otp1.get d

/-! What the statements say of a next state t beside the state s before. -/

/-- s with the event log, its windows, the journals and the streams of t: what posting an event changes. -/
def State.takeEvents (s t : State) : State :=
  { s with log := t.log, windows := t.windows, journal := t.journal, queue := t.queue }

/-- An event at a node is folded under an open window of an ancestor (R379). -/
def State.folds (s : State) (n : Node) : Bool := s.windows.any fun w => (s.ancestors n).contains w.node

/-- t's log holds the event that s posts, unless it is folded under an open window (R360, R379). -/
def State.reports (s t : State) (code : Nat) (src : Node) (sev detail : Nat) : Prop :=
  s.folds src = true ∨ (⟨s.timeWord, code, src, sev, detail % 2 ^ 28⟩ : Event) ∈ t.log

/-- Of the words that a side's write path was writing, the first k are written, those among them that have had their 60 ns, and
the others read as before; no other word changes (R385, R387). -/
def State.tornAt (s t : State) (d : Side) : Prop :=
  ((s.journal.get d).flight = none → (t.mem.get d).mram = (s.mem.get d).mram) ∧
  ∀ f, (s.journal.get d).flight = some f → (f.2.map Prod.fst).Nodup →
    (∃ k, Nat.min f.2.length ((s.clock.count - f.1 - 1) * 1000 / 60) ≤ k ∧
      ∀ j (e : Nat × Word), f.2[j]? = some e →
        Tab.get 0 (t.mem.get d).mram e.1 = if j < k then Tab.get 0 (s.mem.get d).mram e.1 else e.2) ∧
    ∀ a, (∀ e ∈ f.2, e.1 ≠ a) → Tab.get 0 (t.mem.get d).mram a = Tab.get 0 (s.mem.get d).mram a

/-- Terminals differ in their output part alone. -/
def State.outsOnly (s t : State) : Prop := ∀ k, t.termOf k = { s.termOf k with out := (t.termOf k).out }

/-- The input that a side draws from (R432). -/
def Power.draws (p : Power) : Side → Side
  | .A => p.srcA
  | .B => p.srcB

/-- The final reply of a command with a status waits at its port (R347, R349). -/
def State.replied (t : State) (d : Side) (opcode : Nat) (tag : BitVec 32) (queue status : Nat) : Prop :=
  ∃ r ∈ (t.portOf d).replies, r.port = some d ∧ r.opcode = opcode ∧ r.tag = tag ∧ r.queue = queue ∧ r.status = status

/-! What the statements say of a coach. -/

/-- A coach executes instructions: it is not stopped, derailed, waiting or under the debugger (R205, R206, R236), and neither its
own memories nor its side's frame memory hold an error that ECC would correct or meet (R235). -/
abbrev State.ready (s : State) (c : CoachRef) : Prop :=
  (s.cstOf c.ix).stopped = false ∧ (s.cstOf c.ix).derailed = false ∧ (s.cstOf c.ix).waitFend = false ∧
  (s.cstOf c.ix).halted = false ∧ (s.cstOf c.ix).stepping = false ∧ (s.cstOf c.ix).breaks = [] ∧
  s.waits c = false ∧ (s.cstOf c.ix).eccBad = false ∧ s.tests.soft.get c.side = []

/-- It executes an instruction that is not the 4,096th since the last coupling (R186). -/
abbrev State.executes (s : State) (c : CoachRef) : Prop := s.ready c ∧ (s.coachOf c.ix).cplcnt ≠ 4095

/-- A register field is legal in the coach's mode (R212). -/
abbrev Coach.legal (k : Coach) (f : RegField) : Prop := f.toNat < 40 ∨ (f.toNat < 48 ∧ k.trapMode = true)

/-- What a register field reads (R212, R213). -/
def Coach.read (k : Coach) (f : RegField) : Word :=
  match k.phys f with
  | none => 0
  | some r => k.getPhys r

/-- A register field written, with the fold of the write (R183, R212, R213). -/
def Coach.write (k : Coach) (f : RegField) (w : Word) : Coach :=
  match k.phys f with
  | none => k
  | some r => k.setPhys r w

/-- The coach has retired one instruction and goes on at pc. -/
def Coach.goes (k : Coach) (pc : BitVec 41) : Coach := { k with pc := pc, retcnt := k.retcnt + 1, cplcnt := k.cplcnt + 1 }

/-- FLAGS of its five flags. -/
def flagBits (n z c v dz : Bool) : BitVec 5 := BitVec.ofNat 5 (16 * b2n n + 8 * b2n z + 4 * b2n c + 2 * b2n v + b2n dz)

/-- N and Z of r, C and V written, DZ kept; V_SEEN is set with V (R217). -/
def Coach.nzcv (k : Coach) (r : Word) (c v : Bool) : Coach :=
  { k with flags := flagBits r.msb (r = 0) c v (bit k.flags 0), ef := if v then k.ef ||| 2 else k.ef }

/-- N and Z of r, C = 0, V and DZ written, with V_SEEN and DZ_SEEN (R217, R221). -/
def Coach.nzvd (k : Coach) (r : Word) (v dz : Bool) : Coach :=
  { k with flags := flagBits r.msb (r = 0) false v dz,
           ef := (if v then k.ef ||| 2 else k.ef) ||| (if dz then 1 else 0) }

/-- V alone written, with V_SEEN (R217, R225). -/
def Coach.vOnly (k : Coach) (v : Bool) : Coach :=
  { k with flags := flagBits (bit k.flags 4) (bit k.flags 3) (bit k.flags 2) v (bit k.flags 0),
           ef := if v then k.ef ||| 2 else k.ef }

/-- x lies in the signed 72-bit range. -/
def signed72 (x : Int) : Bool := -(2 ^ 71) ≤ x && x < 2 ^ 71

/-- t is s with the core of one coach as k, and gates as the signals say: nothing else differs. -/
def State.coreTo (s t : State) (c : CoachRef) (k : Coach) : Prop :=
  t.coachOf c.ix = k ∧ (∀ j, j ≠ c.ix → t.coachOf j = s.coachOf j) ∧ s.outsOnly t ∧ t.gatesSafe ∧
  t = { s with coach := t.coach, term := t.term }

/-- The command answers a next state in which the core of coach c is k; nothing else differs but gates. -/
def State.runsTo (s : State) (i : Instr) (c : CoachRef) (k : Coach) : Prop := ∃ t, exec i s = .next t ∧ s.coreTo t c k

/-- The instruction retires at the next one with this core. -/
def State.retires (s : State) (i : Instr) (c : CoachRef) (k : Coach) : Prop := s.runsTo i c (k.goes (k.pc + 1))

/-- The words of a side's memories with an uncorrectable error. -/
def State.errWords (s : State) (d : Side) : List Nat := s.tests.poison.get d ++ s.tests.ecc.get d

/-- A word of frame memory as a coach sees it: a locked copy sees its own frame's writes over the verified state (R36, R199). -/
def State.sees (s : State) (c : CoachRef) (pa : Nat) : Word := (s.cpu c).word pa

/-- Frame memory after the stores f of a coach, by address: those of a locked copy stand in its working buffer, the others in the
memory of its side; every other word of both sides reads as before, and an error of a word written is gone (R36, R366). -/
def State.stored (s t : State) (c : CoachRef) (f : Nat → Option Word) : Prop :=
  (∀ q, t.sees c q = (f q).getD (s.sees c q)) ∧
  (s.lockedCoach c = true → t.mem = s.mem) ∧
  (s.lockedCoach c = false → t.slot = s.slot ∧ t.mem.get c.side.other = s.mem.get c.side.other ∧
    t.mem.get c.side = { s.mem.get c.side with frame := (t.mem.get c.side).frame } ∧
    ∀ q, Tab.get (0 : Word) (t.mem.get c.side).frame q = (f q).getD (Tab.get 0 (s.mem.get c.side).frame q)) ∧
  (∀ p, t.slotOf p = { s.slotOf p with work := (t.slotOf p).work } ∧ (t.slotOf p).work.get c.side.other = (s.slotOf p).work.get c.side.other) ∧
  (∀ q, q ∈ t.errWords c.side ↔ q ∈ s.errWords c.side ∧ f q = none) ∧ t.errWords c.side.other = s.errWords c.side.other ∧
  (∀ j, j ≠ c.ix → t.coachOf j = s.coachOf j) ∧ s.outsOnly t ∧ t.gatesSafe ∧
  t = { s with coach := t.coach, mem := t.mem, slot := t.slot, term := t.term,
               tests := { s.tests with poison := t.tests.poison, ecc := t.tests.ecc } }

/-- The address of the first-level entry of va, and that of the second-level entry (R240). -/
def State.entry1 (s : State) (c : CoachRef) (part va : Nat) : Nat :=
  fld (Tab.get (0 : Word) (s.coachOf c.ix).ptbr part) 35 14 * 2 ^ 14 + va / 2 ^ 26 % 2 ^ 14
def State.entry2 (s : State) (c : CoachRef) (part va : Nat) : Nat :=
  fld (s.sees c (s.entry1 c part va)) 35 12 * 2 ^ 12 + va / 2 ^ 12 % 2 ^ 14

/-- The word is a table pointer, and the word is a page entry that permits a kind of access in a mode (R239, R240). -/
def tableEntry (e : Word) : Bool := fld e 71 70 = 1 && fld e 65 36 = 0 && fld e 13 0 = 0
def pageEntry (e : Word) (kind : Nat) (tm : Bool) : Bool :=
  fld e 71 70 = 2 && fld e 65 36 = 0 && fld e 11 0 = 0 && (kind ≠ kFetch || bit e 67) &&
  (!(kind = kLoad || kind = kXchg) || bit e 69) && (!(kind = kStore || kind = kXchg) || bit e 68) && (!bit e 66 || tm)

/-- The walk of R240 maps va to pa for an access of a kind, in a mode and partition, both entries without error. -/
abbrev State.maps (s : State) (c : CoachRef) (part : Nat) (tm : Bool) (va kind pa : Nat) : Prop :=
  bit (Tab.get (0 : Word) (s.coachOf c.ix).ptbr part) 71 = true ∧
  s.entry1 c part va < 0x800000 ∧ s.entry1 c part va ∉ s.errWords c.side ∧
  tableEntry (s.sees c (s.entry1 c part va)) = true ∧
  s.entry2 c part va < 0x800000 ∧ s.entry2 c part va ∉ s.errWords c.side ∧
  pageEntry (s.sees c (s.entry2 c part va)) kind tm = true ∧
  pa = fld (s.sees c (s.entry2 c part va)) 35 12 * 2 ^ 12 + va % 2 ^ 12

/-- The virtual address of the vector word of a cause (R230), and w as a usable one at pa in frame memory. -/
def State.vectorVa (s : State) (c : CoachRef) (cause : Nat) : Nat := (fld (s.coachOf c.ix).vbase 39 4 * 16 + cause) % 2 ^ 40
abbrev State.vectorAt (s : State) (c : CoachRef) (pa : Nat) (w : Word) : Prop :=
  pa < 0x800000 ∧ pa ∉ s.errWords c.side ∧ s.sees c pa = w ∧ fld w 71 41 = 0

/-- The vector word of a cause is w, in frame memory, readable in trap mode through partition 0 (R230). -/
def State.vector (s : State) (c : CoachRef) (cause : Nat) (w : Word) : Prop :=
  ∃ pa, s.maps c 0 true (s.vectorVa c cause) kLoad pa ∧ s.vectorAt c pa w

/-- The core after a trap (R230): the trap-state registers in ascending order, trap mode, the vector word's address. -/
def Coach.trapped (k : Coach) (tpc : BitVec 41) (cause : Nat) (tval tdetail insn w : Word) : Coach :=
  { ((((((((k.setPhys 136 (tpc.setWidth 72)).setPhys 137 (BitVec.ofNat 72 cause)).setPhys 138 tval).setPhys 139
      tdetail).setPhys 140 (k.flags.setWidth 72)).setPhys 141 (k.part.setWidth 72)).setPhys 142 insn).setPhys 143
      (BitVec.ofNat 72 k.retcnt)) with trapMode := true, pc := w.setWidth 41 }

/-- In normal mode, with a readable vector word, the command takes a trap on the instruction itself. -/
def State.traps (s : State) (i : Instr) (c : CoachRef) (cause : Nat) (tval tdetail insn : Word) : Prop :=
  (s.coachOf c.ix).trapMode = false → ∀ w, s.vector c cause w →
    s.runsTo i c ((s.coachOf c.ix).trapped (s.coachOf c.ix).pc cause tval tdetail insn w)

/-! What the statements say of a host command (R341–R354). -/

/-- A packet that passes check 4 leaves the image, and its ring expects the next sequence (R346). -/
def State.taken (s : State) (h : Hdr) (op : Nat) : State := (s.unqueue h op).advance h

/-- Checks 3 and 4 pass, the port answers and it is the packet's turn in a frame that pair 0 completes (R37, R341, R344, R346, R402). -/
abbrev State.hears (s : State) (h : Hdr) : Prop :=
  s.serves h = true ∧ h.ver = 1 ∧ h.rsv = 0 ∧ h.zeros = 0 ∧ (h.port = none ∨ h.seq = (s.queueOf h.queue.val).seq)

/-- Check 6 passes (R346, R449). -/
abbrev State.authorised (s : State) (h : Hdr) (op : Nat) : Prop :=
  (h.port ≠ none ∧ op < 0xF0) ∨ op = 0xF0 ∨ op = 0xF1 ∨ s.sessionOf h.port ≠ none

/-- Check 10 passes (R351, R449). -/
abbrev State.tokenFits (s : State) (h : Hdr) (op : Nat) (needs : Bool) : Prop :=
  (h.token = true ∧ h.port ≠ none ∧ s.token.holder = h.port) ∨
  (h.token = false ∧ needs = false ∧ (h.port = none → ¬ (0x08 ≤ op ∧ op ≤ 0x0A)))

/-- Checks 3, 4, 6 and 10 pass for an opcode, and the boot responder carries it out where it answers (R346, R351, R406). -/
abbrev State.admits (s : State) (h : Hdr) (op : Nat) (needs : Bool) : Prop :=
  s.hears h ∧ s.authorised h op ∧ s.tokenFits h op needs ∧ (s.dev.responder = false ∨ responds op = true)

/-- The command answers x, but that gates may follow their signals. -/
def State.ends (s : State) (i : Instr) (x : State) : Prop := ∃ t, exec i s = .next t ∧ t = { x with term := t.term } ∧ x.outsOnly t

/-- The command answers x with the packet's reply of a status and slots, without an offset (R347); BAD_LENGTH where a reply of
that many slots does not fit the completion ring (R342). -/
def State.gives (s : State) (i : Instr) (h : Hdr) (op status : Nat) (slots : List Nat) (x : State) : Prop :=
  (s.fits h slots.length = true → exec i s = .next (x.answer h op status 0xFFFF slots)) ∧
  (s.fits h slots.length = false → exec i s = .next ((s.taken h op).answer h op 0x0102 0xFFFF []))

/-- The packet is refused at check 12 with a status: it has its reply and no effect (R346). -/
def State.refuses (s : State) (i : Instr) (h : Hdr) (op status : Nat) : Prop :=
  exec i s = .next ((s.taken h op).answer h op status 0xFFFF [])

/-- A read: OK with slots, and nothing else changes. -/
def State.reads (s : State) (i : Instr) (h : Hdr) (op : Nat) (slots : List Nat) : Prop :=
  s.admits h op false → s.gives i h op 0x0000 slots (s.taken h op)

/-- The packet is accepted with n slots to come, over a state x: it counts among the port's open commands (R349). -/
def State.accepts (s : State) (i : Instr) (h : Hdr) (op n : Nat) (x : State) : Prop :=
  (16 ≤ s.openOf h.port → s.refuses i h op 0x0106) ∧
  (s.openOf h.port < 16 → s.fits h n = true → exec i s = .next ((x.answer h op 0x0001 0xFFFF []).openMore h.port))

/-- A row of R354: its command, opcode, whether it needs the token, its slots as (width, least, greatest) where their number
is fixed, and the targets that it admits. -/
structure HostOp where
  cmd    : Hdr → List Slot16 → Instr
  op     : Nat
  token  : Bool := false
  slots  : Option (List (Nat × Nat × Nat)) := some []
  target : State → Hdr → List Slot16 → Bool := fun _ h _ => decide (h.target = 0xFFFF)

/-- Targets below n. -/
def upTo (n : Nat) (_ : State) (h : Hdr) (_ : List Slot16) : Bool := decide (h.target.toNat < n)
/-- Targets that are configured functions. -/
def aFunction (s : State) (h : Hdr) (_ : List Slot16) : Bool := s.fns.contains h.target.toNat
/-- Slots 0–47, or none. -/
def aSlot (_ : State) (h : Hdr) (_ : List Slot16) : Bool := decide (h.target.toNat < 48 ∨ h.target = 0xFFFF)
/-- A block of a test class (R376). -/
def aBlock (_ : State) (h : Hdr) (ps : List Slot16) : Bool := testTarget (pv ps 0) h.target.toNat
/-- A host ring of the packet's port (R337). -/
def aRing (_ : State) (h : Hdr) (_ : List Slot16) : Bool :=
  decide (h.target.toNat < 8192 ∧ (h.port = none ∨ h.port = poolOf h.target.toNat))

/-- P holds of the rows of R354: device, token and configuration. -/
def eachDeviceOp (P : HostOp → Prop) : Prop := ∀ o ∈ ([
  { cmd := .identify, op := 0x00 }, { cmd := .echo, op := 0x01, slots := none }, { cmd := .devStatus, op := 0x02 },
  { cmd := .portStatus, op := 0x03 }, { cmd := .tokenAcquire, op := 0x08, slots := some [(16, 100, 60000)] },
  { cmd := .tokenRenew, op := 0x09, slots := some [(16, 100, 60000)] }, { cmd := .tokenRelease, op := 0x0A },
  { cmd := .tokenStatus, op := 0x0B }, { cmd := .cfgStageBegin, op := 0x10, token := true, slots := some [(23, 0, 8388603)] },
  { cmd := .cfgStageData, op := 0x11, token := true, slots := none }, { cmd := .cfgStageEnd, op := 0x12, token := true },
  { cmd := .cfgActivate, op := 0x13, token := true, slots := some [(11, 1, 1024)], target := aSlot },
  { cmd := .cfgAbort, op := 0x14, token := true }, { cmd := .cfgStatus, op := 0x16 },
  { cmd := .fwStageBegin, op := 0xB0, token := true, slots := some [(25, 0, 33554430)] },
  { cmd := .fwStageData, op := 0xB1, token := true, slots := none }, { cmd := .fwStageEnd, op := 0xB2, token := true },
  { cmd := .fwActivate, op := 0xB3, token := true, slots := some [(11, 1, 1024)], target := aSlot },
  { cmd := .fwStatus, op := 0xB4 }] : List HostOp), P o
/-- P holds of the rows on channels, process data, functions, monitors, encoders; CFG_READ, whose target depends on its class, is not here. -/
def eachChannelOp (P : HostOp → Prop) : Prop := ∀ o ∈ ([
  { cmd := .chReadCfg, op := 0x20, target := upTo 192 }, { cmd := .chStatus, op := 0x21, target := upTo 192 },
  { cmd := .chReadCal, op := 0x22, target := upTo 384 }, { cmd := .chCalibrate, op := 0x23, token := true, target := upTo 384 },
  { cmd := .wagonStatus, op := 0x24, target := upTo 12 },
  { cmd := .chRehome, op := 0x25, token := true, slots := some [(8, 0, 191)], target := upTo 192 },
  { cmd := .pdWrite, op := 0x30, slots := none, target := upTo 64 },
  { cmd := .pdRead, op := 0x31, slots := some [(7, 1, 64)], target := upTo 64 },
  { cmd := .sfStatus, op := 0x40, target := upTo 4096 },
  { cmd := .sfStatusBulk, op := 0x41, slots := some [(8, 1, 240)], target := upTo 4096 }, { cmd := .sfDemands, op := 0x42 },
  { cmd := .sfResetArm, op := 0x43, token := true, target := aFunction },
  { cmd := .sfResetConfirm, op := 0x44, token := true, slots := some [(16, 0, 65535)], target := aFunction },
  { cmd := .sfCommission, op := 0x45, token := true, slots := some [(1, 0, 1)], target := aFunction },
  { cmd := .sfGroupStatus, op := 0x46, target := upTo 512 }, { cmd := .monReadCfg, op := 0x50, target := upTo 64 },
  { cmd := .monStatus, op := 0x51, target := upTo 64 }, { cmd := .monStop, op := 0x52, target := upTo 8 },
  { cmd := .shiftLoad, op := 0x53, token := true, slots := none, target := upTo 8 },
  { cmd := .encStatus, op := 0x54, target := upTo 8 }] : List HostOp), P o
/-- P holds of the rows on journal, ledger, tests, slots, queues, networks, time, sessions; Q_CREATE, whose words have rules of their own, is not
here. -/
def eachSystemOp (P : HostOp → Prop) : Prop := ∀ o ∈ ([
  { cmd := .jrnlInfo, op := 0x60, target := upTo 2 },
  { cmd := .jrnlRead, op := 0x61, slots := some [(40, 0, 2 ^ 40 - 1)], target := upTo 2 }, { cmd := .ledgerInfo, op := 0x62 },
  { cmd := .ledgerRead, op := 0x63, slots := some [(40, 0, 2 ^ 40 - 1)] },
  { cmd := .ledgerAck, op := 0x64, token := true, slots := some [(40, 0, 2 ^ 40 - 1)] }, { cmd := .ledgerKey, op := 0x65 },
  { cmd := .stRun, op := 0x70, token := true, slots := some [(8, 1, 11)], target := aBlock },
  { cmd := .stResult, op := 0x71, slots := some [(8, 1, 11)], target := aBlock },
  { cmd := .retireRead, op := 0x72, target := upTo 2 }, { cmd := .pairStatus, op := 0x80, target := upTo 48 },
  { cmd := .coachStatus, op := 0x81, target := fun _ h _ => testTarget 1 h.target.toNat },
  { cmd := .pairSplit, op := 0x82, token := true, slots := some [(16, 0, 65535)], target := upTo 48 },
  { cmd := .pairJoin, op := 0x83, token := true, target := upTo 48 },
  { cmd := .pairHandover, op := 0x84, token := true, slots := none, target := upTo 48 },
  { cmd := .qDelete, op := 0x91, target := aRing },
  { cmd := .qBind, op := 0x92, slots := some [(16, 0, 65535)], target := fun _ h _ => bindable h.target.toNat },
  { cmd := .qStatus, op := 0x93, target := upTo 32768 }, { cmd := .netStatus, op := 0xA0, target := upTo 2 },
  { cmd := .connStatus, op := 0xA1, target := upTo 8192 },
  { cmd := .keyExport, op := 0xA2, token := true, slots := some [(16, 0, 65535), (1, 0, 1)], target := upTo 8192 },
  { cmd := .cageStatus, op := 0xA3, target := upTo 4 }, { cmd := .timeGet, op := 0xC0 },
  { cmd := .timeSet, op := 0xC1, token := true, slots := some [(71, 0, 2 ^ 71 - 1)] },
  { cmd := .ptpStatus, op := 0xC2, target := upTo 2 }, { cmd := .svcChallenge, op := 0xF0 },
  { cmd := .svcOpen, op := 0xF1, slots := none }, { cmd := .svcClose, op := 0xF2 }] : List HostOp), P o

end Sys2Proof.Machine
end

