-- ==== Sys2Proof/Certificates/Slice0/Obligations.lean ====
section
/-! DEFINITION. The statements for the provers. Each says of commands that they answer a next state and what it holds; t is
always that next state, s the state before. -/

open Sys2Proof Sys2Proof.Machine

/-- For every command c, state s and list of waiting commands, a step of s with c at the front of its queue is exec of c on s
with the queue's rest. The queue is the model's own (first in, first out). -/
def Obligations.StepRunsFrontCommand : Prop :=
  ∀ (c : Instr) (s : State) (rest : List Instr),
    step { s with pending := c :: rest } = exec c { s with pending := rest }

/-- With an empty queue a step answers a next state. In DORMANT it is the same state. In every other state, while the tick is
below the frame's last one, the tick number and the tick count since PROVING advance by one, device time by the coach cycles
of 0.5 ns that the tick of the steering side lasts (of side A without one), the following ticks have 2,000 cycles, a running
lease loses one tick and the timer units count; the frame counter and everything else stay. That an empty queue passes a tick
is the model's choice (log entry 3). -/
def Obligations.EmptyQueueIsOneTick : Prop :=
  ∀ s : State, s.pending = [] →
    (s.dev.st = .dormant → step s = .next s) ∧
    (s.dev.st ≠ .dormant → s.clock.tick + 1 < s.clock.fl →
      ∃ t, step s = .next t ∧ t.clock.tick = s.clock.tick + 1 ∧ t.clock.count = s.clock.count + 1 ∧
        t.clock.frame = s.clock.frame ∧
        2 * t.time.tai + b2n t.time.half = 2 * s.time.tai + b2n s.time.half + (s.fstOf (s.steering.getD .A)).nextTick ∧
        (∀ d, t.fstOf d = { s.fstOf d with nextTick := 2000 }) ∧ t.token.left = s.token.left - 1 ∧
        t = { s with
          clock := t.clock, frameSt := t.frameSt, time := { s.time with tai := t.time.tai, half := t.time.half }
          token := { s.token with left := t.token.left }, timer := t.timer, mailbox := t.mailbox })

/-- LOGIC_INPUT_UNDER and LOGIC_INPUT_OVER answer a next state in which the input is in the under or over state with the
measured voltage, the other input is as before, over disconnects the input, and event 0x0903 is reported when the input was in
range and the device is powered. LOGIC_INPUT_IN_RANGE puts the input in range and, with no start-up abandoned, takes PFAIL_N
off the blocks that hold the device; an abandoned start-up is entered again at PROVING. PROTECTION_RECONNECT lets the input
count by its voltage again. After under, over and reconnect, and after in range without an abandoned start-up, each side draws
from its own input while that is in range and otherwise from the other while that is in range, and all the rest of the state
but events and holders is unchanged. -/
def Obligations.LogicInputsAndSources : Prop :=
  ∀ (s : State) (d : Side) (mv : BitVec 16),
    let sources (t : State) : Prop := ∀ e : Side,
      ((t.power.input e).st = .inRange → t.power.draws e = e) ∧
      ((t.power.input e).st ≠ .inRange → (t.power.input e.other).st = .inRange → t.power.draws e = e.other)
    (∃ t, exec (.logicInputUnder d mv) s = .next t ∧
      (t.power.input d).st = .under ∧ (t.power.input d).mv = mv ∧ t.power.input d.other = s.power.input d.other ∧ sources t ∧
      ((s.power.input d).st = .inRange → s.dev.st ≠ .dormant → s.reports t 0x0903 (nInput d) 3 mv.toNat) ∧
      t = { s.takeEvents t with power := t.power }) ∧
    (∃ t, exec (.logicInputOver d mv) s = .next t ∧
      (t.power.input d).st = .over ∧ (t.power.input d).mv = mv ∧ (t.power.input d).cut = true ∧
      t.power.input d.other = s.power.input d.other ∧ sources t ∧
      ((s.power.input d).st = .inRange → s.dev.st ≠ .dormant → s.reports t 0x0903 (nInput d) 3 mv.toNat) ∧
      t = { s.takeEvents t with power := t.power }) ∧
    (∃ t, exec (.logicInputInRange d mv) s = .next t ∧
      (t.power.input d).st = .inRange ∧ (t.power.input d).mv = mv ∧ sources t ∧
      (s.dev.abandoned = true → t.dev.st = .proving) ∧
      (s.dev.abandoned = false → nPfail ∉ t.dev.holders ∧ t.power.input d.other = s.power.input d.other ∧
        t = { s with power := t.power, windows := t.windows, dev := { s.dev with holders := t.dev.holders } })) ∧
    (∃ t, exec (.protectionReconnect d mv) s = .next t ∧
      (t.power.input d).cut = false ∧ (t.power.input d).mv = mv ∧ (t.power.input d).st = (s.power.input d).st ∧
      t.power.input d.other = s.power.input d.other ∧ sources t ∧ t = { s with power := t.power })

/-- In every powered state PFAIL_ASSERT answers a next state in which PWR_STAT shows PFAIL_N, every output terminal's gate is
off and its latch is set; from STANDBY or RUNNING the device is in HOLDING with PFAIL_N as the block that holds it and cause
class 0x18; in HOLDING it stays; from PROVING, BOOT or LOADING the start-up is abandoned and the state stays; in SERVICE it
stays in SERVICE. PFAIL_DEASSERT clears PFAIL_N and changes nothing but the supply flags; BANK_LOW sets the write path's
warning; with a healthy bank it stops the MRAM writes, and with an unhealthy one nothing else changes. When the warning
asserts (PFAIL_N without a healthy bank, BANK_LOW with one), of the page words that a side's write path was writing the first
k are written, with every word whose 60 ns have passed among them, and the others read as before; no other word of MRAM
changes. -/
def Obligations.PowerFailHoldsEveryGateOff : Prop :=
  (∀ s : State, s.dev.st ≠ .dormant →
    ∃ t, exec .pfailAssert s = .next t ∧ t.power.pfail = true ∧
      (∀ k ∈ t.outTerms, (t.termOf k).out.gate = false ∧ (t.termOf k).out.latch = true) ∧
      (s.dev.st.serves = true → t.dev.st = .holding ∧ t.dev.holders = [nPfail] ∧ t.dev.holdCause = 0x18) ∧
      (s.dev.st = .holding → t.dev.st = .holding ∧ nPfail ∈ t.dev.holders) ∧
      (s.dev.st ∈ [DevState.proving, .boot, .loading] → t.dev.st = s.dev.st ∧ t.dev.abandoned = true) ∧
      (s.dev.st = .service → t.dev.st = .service) ∧
      (s.power.pfail = false → s.bankHealthy = false → ∀ d, s.tornAt t d)) ∧
  (∀ s : State, ∃ t, exec .pfailDeassert s = .next t ∧ t.power.pfail = false ∧
    t = { s with power := { s.power with pfail := false }, ec := { s.ec with bankLow := t.ec.bankLow } }) ∧
  (∀ s : State, ∃ t, exec .bankLow s = .next t ∧ t.ec.bankLow = true ∧ (s.bankHealthy = true → t.writable = false) ∧
    (s.bankHealthy = true → s.ec.bankLow = false → ∀ d, s.tornAt t d) ∧
    (s.bankHealthy = false → t = { s with ec := { s.ec with bankLow := true } }) ∧
    t = { s with ec := { s.ec with bankLow := true }, mem := t.mem, journal := t.journal, free := t.free })

/-- RAILS_FALL answers a next state in DORMANT with both inputs in the under state, with OTP, the images, the packages, the
MRAM of both sides, the retire maps, BOOT_SEQ, RTC_STATE and the seal entries unchanged, and with everything else but the
plant (supplies, lanes, plugs, modules, cartridge, cable) at its reset value. LOGIC_POWER_GOOD leads from DORMANT to PROVING
with the same kept and with BOOT_SEQ advanced by one, the frame counter, tick and tick count at 0, registered stop words and
links kept (log entry 72), and device time valid exactly when RTC_STATE checks with TVAL = 1; in any other state it changes
nothing. OTP is unchanged by both. -/
def Obligations.PowerLossAndReturn : Prop :=
  (∀ s : State, ∃ t, exec .railsFall s = .next t ∧ t.dev.st = .dormant ∧ t.dev.loaded = false ∧
    t.term = [] ∧ t.fn = [] ∧ t.slot = [] ∧ t.port = ⟨{}, {}⟩ ∧ t.dev.otp = s.dev.otp ∧ t.dev.otp1 = s.dev.otp1 ∧ t.dev.fw = s.dev.fw ∧
    t.dev.cfg = s.dev.cfg ∧ t.mem.a.mram = s.mem.a.mram ∧ t.mem.b.mram = s.mem.b.mram ∧
    t.time.rtc = s.time.rtc ∧ t.time.seals = s.time.seals ∧
    t.time.bootSeq = s.time.bootSeq ∧ (∀ d, t.retireMap d = s.retireMap d) ∧ (∀ d, (t.power.input d).st = .under) ∧
    t.power.pfail = false ∧ t.ec = { present := s.ec.present } ∧
    t = { State.reset with
      power := t.power, ec := t.ec, time := t.time, dev := t.dev, lanes := t.lanes, cage := t.cage, tests := t.tests
      svc := t.svc, mem := t.mem, free := s.free, pending := s.pending }) ∧
  (∀ s : State, s.dev.st = .dormant →
    ∃ t, exec .logicPowerGood s = .next t ∧ t.dev.st = .proving ∧ t.clock.frame = 0 ∧ t.clock.tick = 0 ∧ t.clock.count = 0 ∧
      t.dev.loaded = false ∧ t.term = [] ∧ t.fn = [] ∧ t.dev.otp = s.dev.otp ∧ t.dev.otp1 = s.dev.otp1 ∧ t.dev.fw = s.dev.fw ∧ t.dev.cfg = s.dev.cfg ∧
      t.time.bootSeq = s.time.bootSeq + 1 ∧ t.time.rtc = s.time.rtc ∧ t.time.seals = s.time.seals ∧
      (∀ d, t.retireMap d = s.retireMap d) ∧ (∀ d, (t.halfOf d).door = (s.halfOf d).door ∧ (t.portOf d).link = (s.portOf d).link) ∧
      (t.time.valid = true ↔ rtcOk s.time.rtc = true ∧ bit s.time.rtc 16 = true)) ∧
  (∀ s : State, s.dev.st ≠ .dormant → exec .logicPowerGood s = .next s)

/-- CARTRIDGE_REMOVED shows no cartridge, an unhealthy bank and cautious mode, reports event 0x0904 with DETAIL 0 in a powered
device, and in a dormant one the clock domain loses RTC_STATE and its seal entries. CARTRIDGE_INSERTED shows the cartridge,
not yet healthy, the bank measurement due 60 s later and the cell measurement at once, event 0x0904 with DETAIL 1.
BANK_MEASUREMENT of a present bank when it falls due (after a start at once, log entry 94): healthy exactly from 20 ms,
cautious mode otherwise, HOLD_10US saturated at 8,191, and the next measurement in 24 h. CELL_MEASUREMENT in a powered device
with a cartridge, when it falls due, stores the voltage, is next due an hour later and below 2,800 mV reports 0x0904 with
DETAIL 2. SEAL_EVENT adds an entry of its kind while the store holds fewer than 16; in a full store the last entry becomes
KIND 5. Each leaves everything else but events unchanged. After RTC_OSCILLATOR_PERIOD, RTC_STATE is SUB + 1 of the register
before (mod 32,768), SEC advanced when SUB wraps, the same TVAL, and its CHK checks. RTC_UPDATE in a powered device, a second
after the last one, writes, while device time is valid, SEC and SUB from it with TVAL = 1, and otherwise the same SEC and SUB
with TVAL = 0; CHK checks. CLOCK_DOMAIN_BROWNOUT clears the register to zero, which fails its CHK. Each changes nothing else.
That the counters stand in an update without valid time is the model's choice (log entry 26). -/
def Obligations.CartridgeSealsAndClockDomain : Prop :=
  (∀ s : State,
    (∃ t, exec .cartridgeRemoved s = .next t ∧ t.ec.present = false ∧ t.ec.healthy = false ∧ t.ec.caut = true ∧
      t.bankHealthy = false ∧
      (s.dev.st ≠ .dormant → s.reports t 0x0904 (nModule 0) 1 0 ∧ t = { s.takeEvents t with ec := t.ec }) ∧
      (s.dev.st = .dormant → t = { s with ec := t.ec, time := { s.time with rtc := 0, seals := [] } })) ∧
    (∃ t, exec .cartridgeInserted s = .next t ∧ t.ec.present = true ∧ t.ec.healthy = false ∧ t.ec.caut = s.ec.caut ∧
      t.ec.bankDue = some (s.clock.count + 60000000) ∧ t.ec.cellDue = s.clock.count ∧
      (s.dev.st ≠ .dormant → s.reports t 0x0904 (nModule 0) 1 1) ∧ t = { s.takeEvents t with ec := t.ec }) ∧
    (∀ n : Nat, s.ec.present = true → (∀ due, s.ec.bankDue = some due → due ≤ s.clock.count) →
      ∃ t, exec (.bankMeasurement n) s = .next t ∧ (t.ec.healthy = true ↔ 2000 ≤ n) ∧ (t.ec.caut = true ↔ n < 2000) ∧
        t.ec.hold10us.toNat = (if n ≤ 8191 then n else 8191) ∧ t.ec.bankDue = some (s.clock.count + 86400000000) ∧
        t = { s with ec := t.ec }) ∧
    (∀ mv : BitVec 16, s.ec.present = true → s.ec.cellDue ≤ s.clock.count → s.dev.st ≠ .dormant →
      ∃ t, exec (.cellMeasurement mv) s = .next t ∧
        t.ec = { s.ec with cellMv := mv, cellDue := s.clock.count + 3600000000 } ∧
        (mv.toNat < 2800 → s.reports t 0x0904 (nModule 0) 1 2) ∧ (2800 ≤ mv.toNat → t.log = s.log) ∧
        t = { s.takeEvents t with ec := t.ec }) ∧
    (∀ k : SealKind,
      ∃ t, exec (.sealEvent k) s = .next t ∧ t.time.seals.length = (if s.time.seals.length < 16 then s.time.seals.length + 1 else 16) ∧
        (s.time.seals.length < 16 → t.time.seals = s.time.seals ++ [(sealCode k, s.sealStamp)]) ∧
        (16 ≤ s.time.seals.length → (t.time.seals.getD 15 (0, 0)).1 = 5 ∧ t.time.seals.take 15 = s.time.seals.take 15) ∧
        t = { s with time := { s.time with seals := t.time.seals } })) ∧
  (∀ s : State, ∃ t, exec .rtcOscillatorPeriod s = .next t ∧ rtcOk t.time.rtc = true ∧
    fld t.time.rtc 31 17 = (fld s.time.rtc 31 17 + 1) % 32768 ∧
    fld t.time.rtc 71 32 = (fld s.time.rtc 71 32 + (fld s.time.rtc 31 17 + 1) / 32768) % 2 ^ 40 ∧
    bit t.time.rtc 16 = bit s.time.rtc 16 ∧ t = { s with time := { s.time with rtc := t.time.rtc } }) ∧
  (∀ s : State, s.dev.st ≠ .dormant → s.time.rtcDue ≤ s.clock.count →
    ∃ t, exec .rtcUpdate s = .next t ∧ rtcOk t.time.rtc = true ∧ bit t.time.rtc 16 = s.time.valid ∧
      (s.time.valid = true → fld t.time.rtc 71 32 = s.time.tai / 1000000000 % 2 ^ 40 ∧
        fld t.time.rtc 31 17 = s.time.tai % 1000000000 * 32768 / 1000000000) ∧
      (s.time.valid = false → fld t.time.rtc 71 17 = fld s.time.rtc 71 17) ∧
      t = { s with time := { s.time with rtc := t.time.rtc, rtcDue := s.clock.count + 1000000 } }) ∧
  (∀ s : State, ∃ t, exec .clockDomainBrownout s = .next t ∧ t.time.rtc = 0 ∧ rtcOk t.time.rtc = false ∧
    t = { s with time := { s.time with rtc := 0 } })

/-- PROVING_DONE of a start-up that PFAIL_N has not abandoned answers BOOT, no OTP bit cleared and both OTP copies of
LIFECYCLE, FW_SVN and RETIRE equal; each side's retire map in OTP then holds every bit that either map held, and equals that
in MRAM unless the MRAM warning stands; a coach that failed twice is retired; key check values that differ are a crypto
failure of both sides. BOOT_DONE answers LOADING with an image that side A holds ACTIVE and valid and side B holds with the
same ACT_SEQ and digest, or HOLDING with the boot responder; the seal store is empty (unless the MRAM warning stands, which
keeps the BOOT page from being written), the lifecycle is the later of the two sides', and no OTP bit is cleared. LOADING_DONE
answers SERVICE without a package (the secret zeroised where level S of the debug port is then enabled) unless the device is
OWNED; OWNED answers STANDBY exactly when no device-level retire bit is set, PROVING found no device-level failure and slot 0
is not RETIRED, and HOLDING otherwise; gates are safe. In any other state, and in an abandoned start-up, each of the three
leaves everything but gates as it was. -/
def Obligations.StartUpPhases : Prop :=
  (∀ (s : State) (failed : List (Side × ProvBlock)) (agrees : Bool), s.dev.st = .proving → s.dev.abandoned = false →
    ∃ t, exec (.provingDone failed agrees) s = .next t ∧ t.dev.st = .boot ∧ s.otpKept t ∧
      (∀ d, s.retireMap d &&& t.otpRetire d = s.retireMap d ∧ (s.writable = true → t.mramRetire d = t.otpRetire d) ∧
        ∀ j < 4096, (192 ≤ j ∧ j ≤ 194) ∨ (200 ≤ j ∧ j ≤ 263) ∨ 3520 ≤ j →
          (t.dev.otp.get d).getLsbD j = (t.dev.otp1.get d).getLsbD j) ∧
      (∀ d c, (d, ProvBlock.coach c) ∈ failed → t.isRetired (nCoach (coachIx d c.val)) tcCoach = true) ∧
      (agrees = false → nCrypto .A ∈ t.dev.provFail ∧ nCrypto .B ∈ t.dev.provFail)) ∧
  (∀ s : State, s.dev.st = .boot → s.dev.abandoned = false →
    ∃ t, exec .bootDone s = .next t ∧ t.time.seals = (if s.writable then [] else s.time.seals) ∧ s.otpKept t ∧
      t.dev.lifecycle.toNat = (if s.lifeOn .A ≤ s.lifeOn .B then s.lifeOn .B else s.lifeOn .A) ∧
      ((t.dev.st = .loading ∧ ∃ r : Side,
          ((s.dev.fw.get .A).get t.dev.running).state = 2 ∧ ((s.dev.fw.get .A).get t.dev.running).valid = true ∧
          ((s.dev.fw.get .B).get r).state = 2 ∧ ((s.dev.fw.get .B).get r).valid = true ∧
          ((s.dev.fw.get .B).get r).actSeq = ((s.dev.fw.get .A).get t.dev.running).actSeq ∧
          ((s.dev.fw.get .B).get r).digest = ((s.dev.fw.get .A).get t.dev.running).digest) ∨
        (t.dev.st = .holding ∧ t.dev.responder = true))) ∧
  (∀ (s : State) (silent : List ChipIx), s.dev.st = .loading → s.dev.abandoned = false →
    ∃ t, exec (.loadingDone silent) s = .next t ∧ t.dev.loaded = true ∧ t.gatesSafe ∧
      (s.dev.lifecycle ≠ 2 → t.dev.st = .service ∧ t.dev.pkgActive = false ∧ (t.debugS = true → t.dev.secretOk = false)) ∧
      (s.dev.lifecycle = 2 → t.dev.st = .standby ∨ t.dev.st = .holding) ∧
      (s.dev.lifecycle = 2 →
        (t.dev.st = .standby ↔ (∀ d, s.retiredNodes d = []) ∧ s.dev.provFail = [] ∧ (t.slotOf 0).st ≠ .retired))) ∧
  (∀ (s : State) (failed : List (Side × ProvBlock)) (agrees : Bool) (silent : List ChipIx),
    let same (i : Instr) : Prop := ∃ t, exec i s = .next t ∧ s.outsOnly t ∧ t = { s with term := t.term }
    (s.dev.st ≠ .proving ∨ s.dev.abandoned = true → same (.provingDone failed agrees)) ∧
    (s.dev.st ≠ .boot ∨ s.dev.abandoned = true → same .bootDone) ∧
    (s.dev.st ≠ .loading ∨ s.dev.abandoned = true → same (.loadingDone silent)))

/-- SUPERVISOR_FAULT, a failing SUPERVISOR_SELF_CHECK, THERMAL_LIMIT, SKEW_FAULT once a side has measured more than 40 ns in
100 consecutive ticks, and ALIGNMENT_LOSS once a side has had no alignment word for 8 ticks answer a next state in which, from
STANDBY or RUNNING, DEV_STATE is HOLDING with the block (both side clocks for a skew fault) as those that hold it; from
HOLDING the block joins them; from any other state DEV_STATE stays. The block's targeted test runs unless it is retired; gates
are safe; a supervisor fault asserts its side's lattice signal. HOLDING_NOTICE enters HOLDING for the other side.
START_SUPERVISOR_TIMEOUT in PROVING, BOOT or LOADING is a supervisor fault once twice the state's limit has passed since its
entry. Before those times the rows change nothing but gates. A failing CRYPTO_KNOWN_ANSWER_TEST mutes the side's telegrams and
tests the engine, without HOLDING. A passing check changes nothing but gates. That a skew fault holds both side clocks is the
model's choice (log entry 29). -/
def Obligations.SupervisionEntersHolding : Prop :=
  let holdsFor (s t : State) (n : Node) : Prop :=
    (s.dev.st.serves = true → t.dev.st = .holding ∧ n ∈ t.dev.holders) ∧
    (s.dev.st = .holding → t.dev.st = .holding ∧ n ∈ t.dev.holders) ∧
    (s.dev.st.serves = false → t.dev.st = s.dev.st) ∧
    (s.isRetired n 0 = false → (t.tests.find n 0).isSome = true) ∧ t.gatesSafe
  (∀ (s : State) (d : Side),
    (∀ k : SupvKind, ∃ t, exec (.supervisorFault d k) s = .next t ∧ (t.halfOf d).supv = true ∧ holdsFor s t (supvNode d k) ∧
      (s.dev.st.serves = true → t.dev.holders = [supvNode d k] ∧ t.dev.holdCause = (supvNode d k).cls)) ∧
    (∃ t, exec (.supervisorSelfCheck d false) s = .next t ∧ (t.halfOf d).supv = true ∧ holdsFor s t (nSupv d)) ∧
    (∃ t, exec (.supervisorSelfCheck d true) s = .next t ∧ s.outsOnly t ∧ t.gatesSafe ∧ t = { s with term := t.term }) ∧
    (∃ t, exec (.thermalLimit d) s = .next t ∧ (t.halfOf d).supv = true ∧ holdsFor s t (nSupv d)) ∧
    (∀ n, (s.dev.st, n) ∈ [(DevState.proving, 1500000), (.boot, 1200000), (.loading, 1300000)] →
      s.dev.enteredAt + 2 * n ≤ s.clock.count →
      ∃ t, exec (.startSupervisorTimeout d) s = .next t ∧ (t.halfOf d).supv = true ∧ t.dev.st = s.dev.st ∧
        (s.isRetired (nSupv d) 0 = false → (t.tests.find (nSupv d) 0).isSome = true)) ∧
    (∃ t, exec (.holdingNotice d) s = .next t ∧ t.gatesSafe ∧
      (s.dev.st.serves = true → t.dev.st = .holding ∧ t.dev.holders = [⟨0x01, d.other.ix⟩]) ∧
      (s.dev.st.serves = false → t.dev = s.dev)) ∧
    (∃ t, exec (.cryptoKnownAnswerTest d false) s = .next t ∧ (t.netOf d).muted = true ∧ t.dev.st = s.dev.st ∧
      (s.isRetired (nCrypto d) 0 = false → (t.tests.find (nCrypto d) 0).isSome = true)) ∧
    (∃ t, exec (.cryptoKnownAnswerTest d true) s = .next t ∧ s.outsOnly t ∧ t = { s with term := t.term })) ∧
  (∀ s : State,
    let same (i : Instr) : Prop := ∃ t, exec i s = .next t ∧ s.outsOnly t ∧ t = { s with term := t.term }
    ((∃ d, 100 ≤ (s.fstOf d).over40) →
      ∃ t, exec .skewFault s = .next t ∧ holdsFor s t (nClock .A) ∧ holdsFor s t (nClock .B)) ∧
    ((∀ d, (s.fstOf d).over40 < 100) → same .skewFault) ∧
    ((∃ d, (s.fstOf d).lastAlign + 8 ≤ s.clock.count) → ∃ t, exec .alignmentLoss s = .next t ∧ holdsFor s t nLink) ∧
    ((∀ d, s.clock.count < (s.fstOf d).lastAlign + 8) → same .alignmentLoss))

/-- TICK_ALIGNMENT answers a next state in which FRAME_STAT of the side holds the skew (saturated at 255 ns), ALIGN_WARN stays
or becomes set above 20 ns, with event 0x0905 reported exactly then, the run of ticks above 40 ns grows or ends, the word's
arrival is noted, and the next tick is one coach cycle shorter than 2,000 when the edge came late, one longer when it came
early: late against the other side, or, for the side that follows PTP, against the nearest whole microsecond of PTP time; the
other side's FRAME_STAT and all else but events and gates are unchanged. SIDE_LINK_CRC_ERROR on a lane that is not retired,
with no other lane out, starts the lane's test, which takes the lane out of service while no lane is retired; a retired lane's
error changes nothing but gates. -/
def Obligations.TickAlignmentAndSideLink : Prop :=
  (∀ (s : State) (d : Side) (skew : Int),
    ∃ t, exec (.tickAlignment d skew) s = .next t ∧
      (t.fstOf d).skew.toNat = (if skew.natAbs ≤ 255 then skew.natAbs else 255) ∧
      (t.fstOf d).alignWarn = ((s.fstOf d).alignWarn || decide (20 < skew.natAbs)) ∧
      (t.fstOf d).over40 = (if 40 < skew.natAbs then (s.fstOf d).over40 + 1 else 0) ∧
      (∀ late : Int, late = (if s.steering = some d then s.edgeLate d else skew) →
        (0 < late → (t.fstOf d).nextTick = 1999) ∧ (late < 0 → (t.fstOf d).nextTick = 2001) ∧
        (late = 0 → (t.fstOf d).nextTick = 2000)) ∧
      (t.fstOf d).lastAlign = s.clock.count ∧ t.fstOf d.other = s.fstOf d.other ∧
      (20 < skew.natAbs → skew.natAbs < 2 ^ 28 → s.reports t 0x0905 (nClock d) 1 skew.natAbs) ∧
      (skew.natAbs ≤ 20 → t.log = s.log) ∧
      s.outsOnly t ∧ t = { s.takeEvents t with frameSt := t.frameSt, term := t.term }) ∧
  (∀ (s : State) (l : Fin 4),
    (s.isRetired (nLane l.val) tcLane = false → s.tests.lanesOut = 0 →
      ∃ t, exec (.sideLinkCrcError l) s = .next t ∧ (t.tests.find (nLane l.val) tcLane).isSome = true ∧ t.dev = s.dev ∧
        (s.lanesRetired = [] → bit t.tests.lanesOut l.val = true)) ∧
    (s.isRetired (nLane l.val) tcLane = true →
      ∃ t, exec (.sideLinkCrcError l) s = .next t ∧ s.outsOnly t ∧ t = { s with term := t.term }))

/-- For BANK (its March run on), BARRIER (64 echoes run), LANE, FRONT_END, CONVERTER, UNIT_SCAN and DEVICE_BLOCK verdict rows
whose block is under test (no other running test shares its key in the verdict table): a fail (for a barrier link 4 or more
bad echoes) answers a next state in which the block is retired in the map, no test of it runs, its last verdict is FAIL and
event 0x0A03 is reported. A pass of a targeted test with no further error and fewer than the limit of transients answers one
in which no test of it runs (for a lane: no lane waits), the block's retirement is as before, one transient is added (with
valid time and a writable MRAM its second stamp stands first in the block's words, with invalid time it is counted beside
them, log entry 82), the last verdict is PASS and 0x0A02 with the new count is reported. A pass after a further error keeps
the block under test for its one further test. -/
def Obligations.TestVerdicts : Prop :=
  ∀ (s : State) (d : Side) (b : BankIx) (w : WagonIx) (l : Fin 4) (k : TermIx) (u : ScanUnit) (x : DevBlock) (pass : Bool),
    (s.tests.find (nChip (tChip k.val)) tcConv).isNone = true →
    ∀ row ∈ ([(.bankTestVerdict d b pass, nBank d b.val, tcBank, (s.bankAt d b.val).testing),
        (.barrierTestVerdict w d, nBarrier (2 * w.val + d.ix), tcBarrier,
          decide (64 ≤ (s.viewOf (2 * w.val + d.ix)).echoRun ∧ (pass = true ↔ (s.viewOf (2 * w.val + d.ix)).echoBad < 4))),
        (.laneTestVerdict l pass, nLane l.val, tcLane, true), (.frontEndTestVerdict k pass, nFront k.val, tcFront, true),
        (.converterTestVerdict k pass, nFront k.val, tcConv, true), (.unitScanVerdict u pass, (scanNode u).1, (scanNode u).2, true),
        (.deviceBlockTestVerdict d x pass, (devNode d x).1, (devNode d x).2, true)] : List (Instr × Node × Nat × Bool)),
    ∀ n cls, n = row.2.1 → cls = row.2.2.1 → row.2.2.2 = true →
    ∀ q, s.tests.find n cls = some q →
      (∀ p ∈ s.tests.running, testKey p.node p.cls = testKey n cls → p.node = n ∧ p.cls = cls) →
      (pass = false →
        ∃ t, exec row.1 s = .next t ∧ t.isRetired n cls = true ∧ t.tests.find n cls = none ∧
          (Tab.get {} t.tests.last (testKey n cls)).verdict = 1 ∧
          s.reports t 0x0A03 n 5 (((retireAt n cls).map Prod.snd).headD 0)) ∧
      (pass = true → q.requested = false → q.again = false → s.transCount n cls + 1 < (transLimit n cls).1 →
        s.tests.lanesBad = 0 →
        ∃ t, exec row.1 s = .next t ∧ t.isRetired n cls = s.isRetired n cls ∧
          t.tests.find n cls = none ∧ (Tab.get {} t.tests.last (testKey n cls)).verdict = 0 ∧
          (s.time.valid = true → s.writable = true → ∀ e ∈ stampAt n cls,
            t.stampsAt ((transLimit n cls).1 - 1) e = (s.secStamp :: s.stampsAt ((transLimit n cls).1 - 1) e).take
              ((transLimit n cls).1 - 1 - Tab.get 0 s.tests.trans0 (testKey n cls))) ∧
          (s.time.valid = false → Tab.get 0 t.tests.trans0 (testKey n cls) =
            Nat.min ((transLimit n cls).1 - 1) (Tab.get 0 s.tests.trans0 (testKey n cls) + 1)) ∧
          s.reports t 0x0A02 n 2 (s.transCount n cls + 1)) ∧
      (pass = true → q.requested = false → q.again = true → q.further = false →
        s.transCount n cls + 1 < (transLimit n cls).1 →
        ∃ t, exec row.1 s = .next t ∧ t.tests.find n cls = some { q with again := false, further := true })

/-- BANK_COPY_DONE of a bank that is being copied, 262 ticks after its test began, ends the copy, sets the redirection for the
next commit, and its words with an uncorrectable error are poisoned. UNIT_PARITY_ERROR starts the scan of the engine or timer
unit unless it is retired, and marks its port as NONE or its value as stale. SELF_TEST_FINAL with ABORTED takes the requested
test off, records ABORTED as the last verdict, and the port that asked (its link up) gets a final reply of ST_RUN with status
OK, verdict 2, coverage, duration and elapsed time; with FAIL for a front-end it retires the front-end as after an error. -/
def Obligations.BlockTestsBeginAndEnd : Prop :=
  (∀ (s : State) (d : Side) (b : BankIx), (s.bankAt d b.val).copying = true →
    ∀ q, s.tests.find (nBank d b.val) tcBank = some q → q.started + 262 ≤ s.clock.count →
    ∃ t, exec (.bankCopyDone d b) s = .next t ∧ (t.bankAt d b.val).copying = false ∧ (t.bankAt d b.val).redirect = true ∧
      (∀ pa ∈ s.tests.ecc.get d, bankOf pa = b.val → pa ∈ t.tests.poison.get d ∧ pa ∉ t.tests.ecc.get d) ∧
      t = { s with tests := t.tests }) ∧
  (∀ (s : State) (u : ScanUnit),
    ∃ t, exec (.unitParityError u) s = .next t ∧
      (s.isRetired (scanNode u).1 (scanNode u).2 = false → (t.tests.find (scanNode u).1 (scanNode u).2).isSome = true) ∧
      (match u with
       | .engine d n => (t.engOf (8 * d.ix + n.val)).testing = true
       | .timer d n => (t.timerOf (64 * d.ix + n.val)).stale = true)) ∧
  (∀ (s : State) (q : Test) (d : Side) (tag : BitVec 32) (queue : Nat),
    s.tests.running.find? (·.requested) = some q → q.reply = some (some d, tag, queue) → (s.portOf d).link = true →
    (∃ t, exec (.selfTestFinal 2) s = .next t ∧ t.tests.find q.node q.cls = none ∧
      (Tab.get {} t.tests.last (testKey q.node q.cls)).verdict = 2 ∧
      ∃ r ∈ (t.portOf d).replies, r.opcode = 0x70 ∧ r.tag = tag ∧ r.queue = queue ∧ r.status = stOK ∧
        r.slots = toSlots (testSlots q.node q.cls 2 (s.clock.count - q.started))) ∧
    (∀ k : TermIx, q.node = nFront k.val → q.cls = tcFront → s.tests.find q.node q.cls = some q →
      ∃ t, exec (.selfTestFinal 1) s = .next t ∧ t.isRetired q.node q.cls = true ∧ t.tests.find q.node q.cls = none ∧
        ∃ r ∈ (t.portOf d).replies, r.opcode = 0x70 ∧ r.tag = tag ∧ r.status = stOK ∧
          r.slots = toSlots (testSlots q.node q.cls 1 (s.clock.count - q.started))))

/-- CAPTURE answers a next state at tick 0 whose image holds, for every terminal with a configured mode of a field chip that
is not lost, the terminal's state as its side sees it, its FSAFE and its edge stamp; for one of a lost field chip that does
not return, its demand value with an invalid sample and count 0. Both stop-line images equal the qualified stop lines, every
timer's image equals its value, no token request waits, what waited at each port as fetched is in its image, and DEV_STATE,
OTP and the package are unchanged. Gates are safe. -/
def Obligations.CaptureFreezesTheImage : Prop :=
  ∀ s : State, s.clock.tick < s.clock.fl →
    ∃ t, exec .capture s = .next t ∧ t.clock.tick = 0 ∧ t.clock.captured = true ∧
      (∀ k < 384, fld (s.ccfg (tChan k)) 71 68 ≠ 0 → (s.viewOf (tChip k)).lost = false →
        (t.termOf k).img.qual = s.qualOf k ∧ (t.termOf k).img.fsafe = s.fsafe k ∧
        (t.termOf k).img.stamp = (s.termOf k).dig.stamp) ∧
      (∀ k < 384, fld (s.ccfg (tChan k)) 71 68 ≠ 0 → (s.viewOf (tChip k)).lost = true → (s.viewOf (tChip k)).returnAt = none →
        (t.termOf k).img.qual = s.demVal k ∧ (t.termOf k).ana.sample = 0x20000 ∧ (t.termOf k).ana.cnt = 0) ∧
      (∀ d, (t.halfOf d).slImg = (s.halfOf d).sl) ∧ (∀ i, (t.timerOf i).img = (t.timerOf i).value) ∧
      t.token.reqs = [] ∧ (∀ d, (t.portOf d).fetched = []) ∧
      t.dev.st = s.dev.st ∧ t.dev.otp = s.dev.otp ∧ t.pkg = s.pkg ∧ t.gatesSafe

/-- At the tick-3 edge IMAGE_EXCHANGE_COMPLETE answers a next state in which no transfer waits for the side link. With none
waiting before, a complete image starts both copies of every slot that runs frame work (LOCKED with functions, slot 0, or
SHADOW) at its entry address, not stopped, with S at SEED and no word in its working buffers, the trail holding 160 cycles,
provided that no other slot with work maps the same coach. A late image sets IMG_LATE on both sides and reports event 0x0205,
and the frame is marked late; with no transfer waiting, slots, functions, coaches and coach states are unchanged. Gates are
safe in both. -/
def Obligations.ImageExchangeStartsFrameWork : Prop :=
  ∀ s : State, s.clock.tick ≤ 3 → 3 < s.clock.fl →
    (∃ t, exec (.imageExchangeComplete true) s = .next t ∧ t.clock.tick = 3 ∧ t.gatesSafe ∧ t.linkWait = [] ∧
      (s.linkWait = [] → ∀ p ∈ s.workSlots,
        (∀ d, ∀ q ∈ s.workSlots, ∀ e, s.slotCoach e q = s.slotCoach d p → q = p ∧ e = d) →
        (t.slotOf p).work = ⟨[], []⟩ ∧ (t.cstOf (s.slotCoach .B p)).hold = 160 ∧
        ∀ d, (t.coachOf (s.slotCoach d p)).pc = s.slotEntry p ∧ (t.coachOf (s.slotCoach d p)).sig = seed ∧
          (t.cstOf (s.slotCoach d p)).stopped = false)) ∧
    (∃ t, exec (.imageExchangeComplete false) s = .next t ∧ t.clock.tick = 3 ∧ t.gatesSafe ∧ t.linkWait = [] ∧
      t.clock.late = true ∧ t.clock.halt0 = true ∧
      (∀ d, (t.fstOf d).imgLate = true) ∧ (s.toTick 3).reports t 0x0205 nLink 3 0 ∧
      (s.linkWait = [] → t.slot = s.slot ∧ t.fn = s.fn ∧ t.coach = s.coach ∧ t.coachSt = s.coachSt))

/-- At the tick-C edge COMMIT_DEADLINE answers a next state. With no transfer waiting for the side link, a LOCKED slot with
work that both sides have not verified has its run of overruns one higher, its two copies stopped, no working buffer left for
its functions or its copies, and event 0x0302 with the run as DETAIL reported; when the run reaches K, every function of the
slot in LOCKED, ARMED or RUN, mode functions apart, is TRIPPED with cause 0x08. A verified LOCKED slot keeps its run and its
functions' working buffers. Gates are safe. -/
def Obligations.DeadlineCountsOverruns : Prop :=
  ∀ s : State, s.clock.tick ≤ s.clock.cdl → s.clock.cdl < s.clock.fl →
    ∃ t, exec .commitDeadline s = .next t ∧ t.clock.tick = s.clock.cdl ∧ t.gatesSafe ∧ t.linkWait = [] ∧
      (s.linkWait = [] → ∀ p < 48, (s.slotOf p).st = .locked → s.hosts p = true → (s.slotOf p).verified = false →
        (t.slotOf p).ovr = (s.slotOf p).ovr + 1 ∧ (t.slotOf p).work = ⟨[], []⟩ ∧
        (∀ d, (t.cstOf (s.slotCoach d p)).stopped = true) ∧ (∀ f ∈ s.fnsOfSlot p, (t.fnOf f).next = none) ∧
        (s.toTick s.clock.cdl).reports t 0x0302 (nSlot p) 3 ((s.slotOf p).ovr + 1) ∧
        (s.clock.k ≤ (s.slotOf p).ovr + 1 → ∀ f ∈ s.fnsOfSlot p, isMode (s.tid f) = false →
          (s.fnOf f).st ∈ [FnState.locked, .armed, .run] → (t.fnOf f).st = .tripped ∧ (t.fnOf f).cause = 0x08)) ∧
      (s.linkWait = [] → ∀ p < 48, (s.slotOf p).st = .locked → (s.slotOf p).verified = true →
        (t.slotOf p).ovr = (s.slotOf p).ovr ∧ ∀ f ∈ s.fnsOfSlot p, (t.fnOf f).next = (s.fnOf f).next)

/-- COMMIT answers a next state at tick 0 with FRAME_NO of both sides the frame just ended, no process-data write waiting, and
every slot's marks cleared; gates are safe. Of the field chips with a configured channel and a valid copy of the output image,
a lost one commits no ON bit, and another commits none of a terminal without an output; its ON bits are the copy's, and for a
terminal of a pair that has not verified the frame those of the previous committed image; outside RUNNING it commits none, and
its output terminals' ON bits and gates are off. With no package to apply: a request for SERVICE answers SERVICE, the secret
zeroised where level S of the debug port is then enabled; otherwise HOLDING that no block holds (and no boot responder) is
left for RUNNING with a package and STANDBY without, with event 0x0A06 posted or folded; HOLDING that a block holds stays;
STANDBY with a package becomes RUNNING. -/
def Obligations.CommitAppliesTheFrame : Prop :=
  ∀ s : State, s.clock.tick < s.clock.fl →
    ∃ t, exec .commit s = .next t ∧ t.clock.tick = 0 ∧ t.clock.committed = true ∧ t.gatesSafe ∧ t.pdNext = [] ∧
      (∀ d, (t.fstOf d).frameNo = BitVec.ofNat 32 (s.toCommit.clock.frame.toNat - 1)) ∧
      (s.dev.applyPkg = false → ∀ p < 48, (t.slotOf p).verified = false ∧ (t.slotOf p).mismatched = false) ∧
      (s.dev.applyPkg = false → ∀ i ∈ s.confChips, ∀ on ao, s.toCommit.copyNow i = some (on, ao) →
        (∀ c < 16, bit (t.chipOf i).on c = true →
          (s.viewOf i).lost = false ∧ hasOutput (s.mode (tChan (chipTerm i c))) = true ∧
          (if s.heldOut (chipTerm i c) then bit (s.chipOf i).on c else bit on c) = true) ∧
        (s.dev.st ≠ .running → (t.chipOf i).on = 0 ∧ ∀ k ∈ s.chipOuts i, (t.termOf k).out.on = false)) ∧
      (s.dev.applyPkg = false → s.dev.toService = true → t.dev.st = .service ∧ (t.debugS = true → t.dev.secretOk = false)) ∧
      (s.dev.applyPkg = false → s.dev.toService = false →
        (s.dev.st = .holding → s.dev.holders = [] → s.dev.responder = false →
          t.dev.st = if s.dev.pkgActive then .running else .standby) ∧
        (s.dev.st = .holding → s.dev.holders ≠ [] → t.dev.st = .holding) ∧
        (s.dev.st = .standby → t.dev.st = if s.dev.pkgActive then .running else .standby))

/-- A valid frame answers a next state in which the field chip has taken its SEQ and is not silent, and: KEEPALIVE changes the
chip in nothing else, and nothing else but gates; OUTPUT is the copy for the next commit exactly when its FRAME_NO is that of
the running frame; DIAG_REQ with PART 0 snapshots the diagnosis buffer under its ID, with 0xFF drops the acknowledged
snapshot, and else has its part of the snapshot as the reply to send; a CONFIG word is answered, written to its bank when
accepted and to none otherwise; BANK_SWITCH goes out only when the shadow bank's CRC has come back as that of the words sent,
and then, with zero upper bits, arranges the switch for its frame, or is refused when the bank has not been loaded anew since
a switch; with another CRC the words are to be sent anew; ECHO keeps the pattern for the next IDLE frame. -/
def Obligations.LogicToFieldDataFrames : Prop :=
  ∀ (s : State) (i : ChipIx) (h : L2FHdr),
    let taken (t : State) : Prop := (t.chipOf i.val).seq = some h.seq ∧ (t.chipOf i.val).silent = false ∧
      (t.chipOf i.val).prevBad = false ∧ t.gatesSafe
    (∀ payload : BitVec 256, s.l2fOk i.val 1 h payload.toNat true = true →
      ∃ t, exec (.keepalive i h payload) s = .next t ∧ taken t ∧ t.chipOf i.val = (s.chipOf i.val).accept h.seq ∧
        s.outsOnly t ∧ t = { s with chip := t.chip, term := t.term }) ∧
    (∀ (on : BitVec 16) (ao : BitVec 224), s.l2fOk i.val 2 h (outputPayload on ao 0) true = true →
      ∃ t, exec (.output i h on ao 0) s = .next t ∧ taken t ∧
        (t.chipOf i.val).copy = (if h.frameNo.toNat = s.clock.frame.toNat % 2 ^ 16 then some (h.frameNo, on, ao) else (s.chipOf i.val).copy) ∧
        s.outsOnly t ∧ t = { s with chip := t.chip, term := t.term }) ∧
    (∀ (id : BitVec 16) (part : Byte), s.l2fOk i.val 3 h (diagReqPayload id part 0) true = true →
      part.toNat ≤ 10 ∨ part = 0xFF →
      ∃ t, exec (.diagReq i h id part 0) s = .next t ∧ taken t ∧ (t.viewOf i.val).diagId = id ∧
        (part = 0 → (t.chipOf i.val).snap = some (id, (s.chipOf i.val).diag)) ∧
        (∀ recs, part = 0xFF → (s.chipOf i.val).snap = some (id, recs) → (t.chipOf i.val).snap = none) ∧
        (part ≠ 0xFF → (t.chipOf i.val).reply = some ((t.chipOf i.val).diagPayload part.toNat)) ∧
        s.outsOnly t ∧ t = { s with chip := t.chip, view := t.view, term := t.term }) ∧
    (∀ p : CfgPayload, 1 ≤ p.obj.toNat → p.obj.toNat ≤ 0x0B → p.rsvLo = 0 → p.rsvHi = 0 →
      s.l2fOk i.val 4 h (cfgNum p) true = true →
      ∃ t, exec (.config i h p) s = .next t ∧ taken t ∧ (t.chipOf i.val).ack = s.cfgAnswer i.val p ∧
        (s.cfgAnswer i.val p = 1 → bankWord (if p.bank then (t.chipOf i.val).shadow else (t.chipOf i.val).active)
          p.obj.toNat p.index.toNat (b2n p.word) = p.value) ∧
        (s.cfgAnswer i.val p ≠ 1 ∨ p.bank = false → (t.chipOf i.val).shadow = (s.chipOf i.val).shadow) ∧
        (s.cfgAnswer i.val p ≠ 1 ∨ p.bank = true → (t.chipOf i.val).active = (s.chipOf i.val).active) ∧
        (t.viewOf i.val).awaiting = true) ∧
    (∀ p : CfgPayload, p.rsvLo = 0 → p.rsvHi = 0 → p.index = 0 → p.word = false → fld p.value 71 16 = 0 →
      s.l2fOk i.val 4 h (cfgNum { p with obj := 0x0C }) true = true →
      (s.viewOf i.val).shadowCrc = some (bankCrc32 (s.viewOf i.val).sentBank) →
      ∃ t, exec (.bankSwitch i h p) s = .next t ∧ taken t ∧
        (t.chipOf i.val).ack = (if (s.chipOf i.val).mayswitch then 1 else 2) ∧
        (t.chipOf i.val).switchAt = (if (s.chipOf i.val).mayswitch then some (p.value.setWidth 16) else (s.chipOf i.val).switchAt)) ∧
    (∀ p : CfgPayload, (s.viewOf i.val).shadowCrc ≠ some (bankCrc32 (s.viewOf i.val).sentBank) →
      ∃ t, exec (.bankSwitch i h p) s = .next t ∧ t.chip = s.chip ∧
        ((s.viewOf i.val).shadowCrc ≠ none → (t.viewOf i.val).sentBank = [] ∧ (t.viewOf i.val).shadowCrc = none) ∧
        s.outsOnly t ∧ t = { s with view := t.view, term := t.term }) ∧
    (∀ pattern : BitVec 248, s.l2fOk i.val 5 h (echoPayload pattern) true = true →
      ∃ t, exec (.barrierEcho i h pattern) s = .next t ∧ taken t ∧ (t.chipOf i.val).echo = some pattern ∧ (t.chipOf i.val).ack = 1)

/-- A valid COMMAND frame for local channel c whose ARG and state allow it is answered 1 and: SENT_ARM stores the direction
for the commit of its FRAME_NO; CAL_START arranges the calibration of the terminal for that commit; CAL_ABORT leaves no
calibration to start at the terminal and one that runs ending; INJECT marks the channel's injection test; REF_CHECK runs the
reference check, exchanged or not; LAT_TEST has every target tested; REST_TEST of a line or up lane at rest, which no real
stop meets, counts from now when it passes, and when it fails records cause 0x83 and marks the line bad at the other chip, or
starts the barrier's test for a lane; one that a stop meets leaves the last test as it was; BANK_CRC puts the CRC of the bank
into the next IDLE; FORCE_REL lets the release begin; OVS_REL releases the sentinel at its commit. One whose ARG or state does
not allow it is answered 2, or 3 while a calibration, a test or an injection of it runs, and, where no answer was outstanding,
changes nothing but what its side and the chip hold of the frame, and gates. -/
def Obligations.FieldCommands : Prop :=
  ∀ (s : State) (i : ChipIx) (h : L2FHdr) (p : CmdPayload) (c : LocalIx),
    let k := chipTerm i.val c.val
    let ok (cmd : Nat) : Prop := p.rsv = 0 ∧ s.l2fOk i.val 5 h (cmdNum p cmd) true = true
    (∀ dir : Nat, dir ≤ 2 → p.arg.toNat = 16 * dir + c.val → s.kmode k = 4 →
      dir = 0 ∨ fld (s.kcfg k) 65 64 / dir % 2 = 1 → ok 2 →
      ∃ t, exec (.sentArm i h p) s = .next t ∧ (t.chipOf i.val).ack = 1 ∧
        (t.termOf k).ctr.armPend = some (p.frameNo, BitVec.ofNat 2 dir) ∧ t.gatesSafe) ∧
    (p.arg.toNat = c.val → s.termBusy k = false → ok 3 →
      ∃ t, exec (.calStart i h p) s = .next t ∧ (t.chipOf i.val).ack = 1 ∧ (t.termOf k).ana.cal = some p.frameNo) ∧
    (p.arg.toNat = c.val → ok 4 →
      ∃ t, exec (.calAbort i h p) s = .next t ∧ (t.chipOf i.val).ack = 1 ∧ (t.termOf k).ana.cal = none ∧
        ((t.termOf k).ana.calRun = true → (t.termOf k).ana.calDone = true)) ∧
    (p.arg.toNat = c.val → bit (s.chipOf i.val).injTest c.val = false → (s.termOf k).ana.calRun = false → ok 5 →
      ∃ t, exec (.inject i h p) s = .next t ∧ (t.chipOf i.val).ack = 1 ∧ bit (t.chipOf i.val).injTest c.val = true) ∧
    (p.arg.toNat ≤ 1 → (∀ k' ∈ chipTerms i.val, (s.termOf k').ana.calRun = false) → ok 6 →
      ∃ t, exec (.refCheck i h p) s = .next t ∧ (t.chipOf i.val).ack = 1 ∧ (t.chipOf i.val).refTest = 1 + p.arg.toNat) ∧
    (p.arg = 0 → ok 7 →
      ∃ t, exec (.latTest i h p) s = .next t ∧ (t.chipOf i.val).ack = 1 ∧ (t.chipOf i.val).latTest = true) ∧
    (∀ item : Nat, item < 18 → p.arg.toNat = item → s.atRest i.val item = true → ok 8 →
      (∀ r, r = .notRun ∨ s.laneStopped i.val item = true → ∃ t, exec (.restTest i h p r) s = .next t ∧
        (t.chipOf i.val).ack = 1 ∧ t.lanes = s.lanes ∧ t.gatesSafe) ∧
      (s.laneStopped i.val item = false →
        (∃ t, exec (.restTest i h p .pass) s = .next t ∧ (t.chipOf i.val).ack = 1 ∧
          Tab.get 0 (t.lanesOf i.val).restAt item = s.clock.count) ∧
        (item < 16 → ∃ t, exec (.restTest i h p .fail) s = .next t ∧
          (∃ r ∈ (t.chipOf i.val).diag, r.cause = 0x83 ∨ r.cause = 0x85) ∧
          bit (t.lanesOf (chipOther i.val)).pairBad item = true ∧ t.gatesSafe) ∧
        (16 ≤ item → ∃ t, exec (.restTest i h p .fail) s = .next t ∧ (t.chipOf i.val).ack = 1 ∧ t.lanes = s.lanes ∧
          (s.isRetired (nBarrier i.val) tcBarrier = false → (t.tests.find (nBarrier i.val) tcBarrier).isSome = true)))) ∧
    (p.arg.toNat ≤ 1 → ok 9 →
      ∃ t, exec (.bankCrc i h p) s = .next t ∧ (t.chipOf i.val).ack = 1 ∧ (t.chipOf i.val).crcReply =
        some (bankCrc32 (if p.arg.toNat = 1 then (s.chipOf i.val).shadow else (s.chipOf i.val).active))) ∧
    (p.arg.toNat = c.val → ok 10 →
      ∃ t, exec (.forceRel i h p) s = .next t ∧ (t.chipOf i.val).ack = 1 ∧ (t.termOf k).dig.relAt = some s.clock.count ∧
        ((s.termOf k).tstat.causes.getLsbD 0x10 = true → (t.termOf k).tstat.causes.getLsbD 0x10 = false ∧ (t.termOf k).ctr.value = 0)) ∧
    (p.arg.toNat = c.val → ok 11 →
      ∃ t, exec (.ovsRel i h p) s = .next t ∧ (t.chipOf i.val).ack = 1 ∧ (t.termOf k).ctr.ovsPend = some p.frameNo) ∧
    (∀ r : RestResult,
      let u := chipTerm i.val (cmdLocal p)
      let dir := fld p.arg 5 4
      ∀ row ∈ ([(.sentArm i h p, 2, dir ≠ 3 && (fld p.arg 7 6 ≠ 0 || s.kmode u ≠ 4 || (dir ≠ 0 && fld (s.kcfg u) 65 64 / dir % 2 ≠ 1)), 2),
          (.calStart i h p, 3, decide (fld p.arg 7 4 ≠ 0), 2), (.calStart i h p, 3, fld p.arg 7 4 = 0 && s.termBusy u, 3),
          (.calAbort i h p, 4, decide (fld p.arg 7 4 ≠ 0), 2), (.inject i h p, 5, decide (fld p.arg 7 4 ≠ 0), 2),
          (.inject i h p, 5, fld p.arg 7 4 = 0 && (bit (s.chipOf i.val).injTest (cmdLocal p) || (s.termOf u).ana.calRun), 3),
          (.refCheck i h p, 6, decide (fld p.arg 7 1 ≠ 0), 2),
          (.refCheck i h p, 6, fld p.arg 7 1 = 0 && (chipTerms i.val).any (fun x => (s.termOf x).ana.calRun), 3),
          (.latTest i h p, 7, decide (p.arg ≠ 0), 2),
          (.restTest i h p r, 8, fld p.arg 4 0 < 18 && (fld p.arg 7 5 ≠ 0 || !s.atRest i.val (fld p.arg 4 0)), 2),
          (.bankCrc i h p, 9, decide (fld p.arg 7 1 ≠ 0), 2), (.forceRel i h p, 10, decide (fld p.arg 7 4 ≠ 0), 2),
          (.ovsRel i h p, 11, decide (fld p.arg 7 4 ≠ 0), 2)] : List (Instr × Nat × Bool × Nat)),
        row.2.2.1 = true → ok row.2.1 →
        ∃ t, exec row.1 s = .next t ∧ (t.chipOf i.val).ack.toNat = row.2.2.2 ∧ t.gatesSafe ∧
          ((s.viewOf i.val).awaiting = false → s.outsOnly t ∧ t = { s with chip := t.chip, view := t.view, term := t.term } ∧
            t.chipOf i.val = { (s.chipOf i.val).accept h.seq with ack := (t.chipOf i.val).ack }))

/-- An invalid logic-to-field frame answers a next state in which the field chip's count of invalid frames is one higher, its
bank words, copy, pending arming and snapshot are as before, and any SEQ is correct next; the barrier test runs unless the
barrier is retired. An invalid field-to-logic frame leaves the count of the side one higher and the diagnosis part that is due
as it was, a lost chip has its return to earn anew, and an invalid capture frame is a missed one. Stated over every frame row;
which frames are invalid is the CRC, the type for its tick, SEQ, the reserved fields and the undefined codes. -/
def Obligations.InvalidBarrierFrames : Prop :=
  ∀ (s : State) (i : ChipIx),
    (∀ (h : L2FHdr) (payload : BitVec 256) (on : BitVec 16) (ao : BitVec 224) (rsv : BitVec 16) (p : CfgPayload) (q : CmdPayload)
      (id : BitVec 16) (part : Byte) (rsv2 : BitVec 232) (pattern : BitVec 248) (r : RestResult),
      let cmd (c : Instr) (n : Nat) (formOk : Bool) : Instr × Nat × Nat × Bool := (c, 5, cmdNum q n, formOk && q.rsv = 0)
      ∀ row ∈ ([(.keepalive i h payload, 1, payload.toNat, true), (.output i h on ao rsv, 2, outputPayload on ao rsv, decide (rsv = 0)),
          (.diagReq i h id part rsv2, 3, diagReqPayload id part rsv2, rsv2 = 0 && (part.toNat ≤ 10 || part = 0xFF)),
          (.config i h p, 4, cfgNum p, 1 ≤ p.obj.toNat && p.obj.toNat ≤ 0x0C && p.rsvLo = 0 && p.rsvHi = 0),
          (.barrierEcho i h pattern, 5, echoPayload pattern, true), cmd (.sentArm i h q) 2 (fld q.arg 5 4 ≠ 3),
          cmd (.calStart i h q) 3 true, cmd (.calAbort i h q) 4 true, cmd (.inject i h q) 5 true, cmd (.refCheck i h q) 6 true,
          cmd (.latTest i h q) 7 true, cmd (.restTest i h q r) 8 (fld q.arg 4 0 < 18), cmd (.bankCrc i h q) 9 true,
          cmd (.forceRel i h q) 10 true, cmd (.ovsRel i h q) 11 true] : List (Instr × Nat × Nat × Bool)),
        s.l2fOk i.val row.2.1 h row.2.2.1 row.2.2.2 = false →
        ∃ t, exec row.1 s = .next t ∧ (t.chipOf i.val).badIn = (s.chipOf i.val).badIn + 1 ∧ (t.chipOf i.val).prevBad = true ∧
          (∀ seq, (t.chipOf i.val).seqOk seq = true) ∧ (t.chipOf i.val).seq = (s.chipOf i.val).seq ∧
          (t.chipOf i.val).copy = (s.chipOf i.val).copy ∧ (t.chipOf i.val).active = (s.chipOf i.val).active ∧
          (t.chipOf i.val).shadow = (s.chipOf i.val).shadow ∧ (t.chipOf i.val).snap = (s.chipOf i.val).snap ∧
          (∀ k, (t.termOf k).ctr = (s.termOf k).ctr) ∧
          (s.isRetired (nBarrier i.val) tcBarrier = false → (t.tests.find (nBarrier i.val) tcBarrier).isSome = true)) ∧
    (∀ (h : F2LHdr) (payload : BitVec 248),
      ∀ row ∈ ([(.diag i h payload, 3, true), (.stream i h payload, 4, decide (fld payload 6 5 ≠ 0)), (.idle i h payload, 5, true),
          (.captureLo i h payload, 1, true), (.captureHi i h payload, 2, true)] : List (Instr × Nat × Bool)),
        s.f2lOk row.2.1 h payload.toNat row.2.2 = false →
        ∃ t, exec row.1 s = .next t ∧ (t.viewOf i.val).badIn = (s.viewOf i.val).badIn + 1 ∧
          (t.viewOf i.val).nextPart = (s.viewOf i.val).nextPart ∧ (t.viewOf i.val).qual = (s.viewOf i.val).qual ∧
          (t.viewOf i.val).records = (s.viewOf i.val).records ∧ (t.viewOf i.val).returnAt = none ∧
          (row.2.1 = 1 → (t.viewOf i.val).loBad = true) ∧ (row.2.1 = 2 → (t.viewOf i.val).hiBad = true) ∧
          (s.isRetired (nBarrier i.val) tcBarrier = false → (t.tests.find (nBarrier i.val) tcBarrier).isSome = true))

/-- A valid CAPTURE_LO or CAPTURE_HI answers a next state; for a chip that is not lost the image of all its 16 terminals takes
FSAFE of the header and QUAL of it, but for a half missed in two frames in a row, which keeps its value, and the eight of its
half take SAMPLE of the payload, saturated, or the invalid marker where the terminal has none, and CNT, stale only where the
unit's counts are; a lost chip's terminals take nothing. A valid DIAG frame of the part asked for appends its records and asks
for the next part or, after the last, for the acknowledgement; another appends none. A valid STREAM frame of n words (1-3)
appends them to the stream of its terminal, unless they are words that already stand there and wait at the chip, which wait no
more. A valid IDLE frame clears the pattern, counts the echo, and one that differs, while the barrier is tested and no answer
is outstanding, and brings a bank's CRC. Every valid frame with SILENT leaves the chip declared lost. -/
def Obligations.FieldToLogicFrames : Prop :=
  ∀ (s : State) (i : ChipIx) (h : F2LHdr) (payload : BitVec 248),
    (∀ row ∈ ([(.captureLo i h payload, 1, 0), (.captureHi i h payload, 2, 8)] : List (Instr × Nat × Nat)),
      s.f2lOk row.2.1 h payload.toNat true = true →
      ∃ t, exec row.1 s = .next t ∧ t.gatesSafe ∧ (t.viewOf i.val).qual = h.qual ∧
        ((s.viewOf i.val).lost = true → ∀ k, (t.termOf k).img = (s.termOf k).img ∧ (t.termOf k).ana = (s.termOf k).ana) ∧
        ((s.viewOf i.val).lost = false → ∀ c < 16, (t.termOf (chipTerm i.val c)).img.fsafe = bit h.fsafe c ∧ (t.termOf (chipTerm i.val c)).img.stale = false ∧
          (t.termOf (chipTerm i.val c)).img.qual = (if missedTwice (s.viewOf i.val) c then (s.termOf (chipTerm i.val c)).img.qual
            else bit h.qual c)) ∧
        ((s.viewOf i.val).lost = false → ∀ k < 8,
          let u := chipTerm i.val (row.2.2 + k)
          (t.termOf u).ana.sample = s.imageSample u (capSample payload k) ∧
          (t.termOf u).ana.cnt = capCnt payload k ∧ (t.termOf u).ana.stale = (s.termOf u).ctr.stale) ∧
        (h.silent = true → (t.viewOf i.val).lost = true)) ∧
    (s.f2lOk 3 h payload.toNat true = true → fld payload 15 0 = (s.viewOf i.val).diagId.toNat →
      (s.viewOf i.val).nextPart = some (BitVec.ofNat 8 (fld payload 23 16)) →
      ∃ t, exec (.diag i h payload) s = .next t ∧ (t.viewOf i.val).records = (s.viewOf i.val).records ++ diagRecords payload ∧
        (t.viewOf i.val).nextPart = (if fld payload 31 24 ≤ fld payload 23 16 + 1 then some 0xFF
          else some (BitVec.ofNat 8 (fld payload 23 16 + 1))) ∧ (t.chipOf i.val).reply = none ∧
        (h.silent = true → (t.viewOf i.val).lost = true)) ∧
    (s.f2lOk 3 h payload.toNat true = true → fld payload 15 0 ≠ (s.viewOf i.val).diagId.toNat →
      ∃ t, exec (.diag i h payload) s = .next t ∧ (t.viewOf i.val).records = (s.viewOf i.val).records ∧
        (t.chipOf i.val).reply = none ∧ (h.silent = true → (t.viewOf i.val).lost = true)) ∧
    (s.f2lOk 4 h payload.toNat true = true → fld payload 6 5 ≠ 0 →
      let c := fld payload 3 0
      let words := (List.range (fld payload 6 5)).map fun k => BitVec.ofNat 72 (fld payload (72 * k + 103) (72 * k + 32))
      ((s.chipOf i.val).waiting = [] →
        ∃ t, exec (.stream i h payload) s = .next t ∧ (h.silent = true → (t.viewOf i.val).lost = true) ∧
          (t.queueOf (streamQueue (chipTerm i.val c) 1)).words = (s.queueOf (streamQueue (chipTerm i.val c) 1)).words ++ words) ∧
      (((s.chipOf i.val).waiting.take words.length).map (fun e => (e.1, e.2.1)) = words.map (fun w => (c, w)) →
        ∃ t, exec (.stream i h payload) s = .next t ∧ (h.silent = true → (t.viewOf i.val).lost = true) ∧
          (t.chipOf i.val).waiting = (s.chipOf i.val).waiting.drop words.length ∧
          (t.queueOf (streamQueue (chipTerm i.val c) 1)).words = (s.queueOf (streamQueue (chipTerm i.val c) 1)).words)) ∧
    (s.f2lOk 5 h payload.toNat true = true →
      ∃ t, exec (.idle i h payload) s = .next t ∧ (t.chipOf i.val).echo = none ∧ (t.chipOf i.val).crcReply = none ∧
        ((s.viewOf i.val).awaiting = false → ∀ p, (s.chipOf i.val).echo = some p →
          let counts := (s.tests.find (nBarrier i.val) tcBarrier).isSome
          (t.viewOf i.val).echoRun = (s.viewOf i.val).echoRun + b2n counts ∧
          (t.viewOf i.val).echoBad = (s.viewOf i.val).echoBad + b2n (counts && payload ≠ p)) ∧
        (∀ v, (s.chipOf i.val).crcReply = some v → (t.viewOf i.val).bankCrc = some (payload.setWidth 32) ∧
          ((s.viewOf i.val).crcShadow = true → (t.viewOf i.val).shadowCrc = some (payload.setWidth 32))) ∧
        (h.silent = true → (t.viewOf i.val).lost = true))

/-- FIELD_SILENCE_TIMEOUT answers a state with the chip silent and the gate of every output terminal of the chip off and
latched. SIDE_SILENCE_TIMEOUT declares the chip lost with event 0x0202 (once), and the outputs of the other chip of the wagon
are off and latched. FIELD_CHIP_RETURN notes the tick edge from which the next later capture takes a lost chip back when it is
neither retired nor silent, no test of its barrier runs and its active bank matches the configuration, and else leaves the
chip as it was. TRIP_LANE_CHANGE takes a lane's carrier away, which starts the test of the barrier, or gives it back, or is an
at-rest test of a down lane, which when it passes counts from now; HOLD_LANE_TRIP and HOLD_LANE_RELEASE set the lane, which at
rest is a passed test; a hold lane that trips takes every output of the chip off; the lanes of the other chips are unchanged.
PAIR_LANE_TRIP of a low line takes the terminal that it feeds off, with cause 0x12 when the line is at fault and the terminal
not OFF; PAIR_LINE_RECOVERY clears the line and, once its at-rest test has passed since the fault, ends that cause. Gates are
safe after each. -/
def Obligations.SilenceLossAndLanes : Prop :=
  ∀ (s : State) (i : ChipIx) (c : LocalIx),
    let off (t : State) (j : Nat) : Prop :=
      ∀ k ∈ t.outTerms, tChip k = j → (t.termOf k).out.gate = false ∧ (t.termOf k).out.latch = true
    (∃ t, exec (.fieldSilenceTimeout i) s = .next t ∧ (t.chipOf i.val).silent = true ∧ off t i.val ∧ t.gatesSafe) ∧
    (∃ t, exec (.sideSilenceTimeout i) s = .next t ∧ (t.viewOf i.val).lost = true ∧ t.gatesSafe ∧
      ((s.viewOf i.val).lost = false → off t (chipOther i.val) ∧
        s.reports t 0x0202 (nChip i.val) 3 (fld (s.cw cWCFG (i.val / 2) 0) 71 62))) ∧
    ((s.viewOf i.val).lost = true → s.isRetired (nChip i.val) 0 = false → (s.chipOf i.val).silent = false →
      (s.tests.find (nBarrier i.val) tcBarrier).isSome = false → s.bankMatches i.val = true →
      ∃ t, exec (.fieldChipReturn i) s = .next t ∧ (t.viewOf i.val).returnAt = some s.clock.count ∧
        (t.viewOf i.val).lost = true ∧ s.outsOnly t ∧ t = { s with view := t.view, term := t.term }) ∧
    ((s.viewOf i.val).lost = false ∨ s.isRetired (nChip i.val) 0 = true ∨ (s.chipOf i.val).silent = true ∨
      (s.tests.find (nBarrier i.val) tcBarrier).isSome = true ∨ s.bankMatches i.val = false →
      ∃ t, exec (.fieldChipReturn i) s = .next t ∧ s.outsOnly t ∧ t = { s with term := t.term }) ∧
    (∀ l : TripLane,
      (∃ t, exec (.tripLaneChange i l .lost) s = .next t ∧ t.gatesSafe ∧ t.lanesOf i.val = (s.lanesOf i.val).cut l true ∧
        (∀ j, j ≠ i.val → t.lanesOf j = s.lanesOf j) ∧
        (s.isRetired (nBarrier i.val) tcBarrier = false → (t.tests.find (nBarrier i.val) tcBarrier).isSome = true)) ∧
      (∃ t, exec (.tripLaneChange i l .back) s = .next t ∧ t.gatesSafe ∧ t.lanesOf i.val = (s.lanesOf i.val).cut l false ∧
        (∀ j, j ≠ i.val → t.lanesOf j = s.lanesOf j) ∧ s.outsOnly t ∧ t = { s with lanes := t.lanes, term := t.term }) ∧
      (∀ r, l = .up0 ∨ l = .up1 ∨ s.atRest i.val (laneItem l) = false ∨ s.laneStopped i.val (laneItem l) = true ∨ r = .notRun →
        ∃ t, exec (.tripLaneChange i l (.restTest r)) s = .next t ∧ t.gatesSafe ∧ s.outsOnly t ∧ t = { s with term := t.term }) ∧
      (l = .down0 ∨ l = .down1 → s.atRest i.val (laneItem l) = true → s.laneStopped i.val (laneItem l) = false →
        (∃ t, exec (.tripLaneChange i l (.restTest .pass)) s = .next t ∧ t.gatesSafe ∧
          Tab.get 0 (t.lanesOf i.val).restAt (laneItem l) = s.clock.count ∧
          s.outsOnly t ∧ t = { s with lanes := t.lanes, term := t.term }) ∧
        (∃ t, exec (.tripLaneChange i l (.restTest .fail)) s = .next t ∧ t.gatesSafe ∧ t.lanes = s.lanes ∧
          (s.isRetired (nBarrier i.val) tcBarrier = false → (t.tests.find (nBarrier i.val) tcBarrier).isSome = true)))) ∧
    (∃ t, exec (.holdLaneTrip i) s = .next t ∧ t.lanesOf i.val = { s.lanesOf i.val with hold := true } ∧ off t i.val ∧
      s.outsOnly t ∧ t = { s with lanes := t.lanes, term := t.term }) ∧
    (∃ t, exec (.holdLaneRelease i) s = .next t ∧ t.lanesOf i.val = { s.lanesOf i.val with
        hold := false
        restAt := if (s.lanesOf i.val).hold = true ∧ s.atRest i.val 20 = true then Tab.set 0 (s.lanesOf i.val).restAt 20 s.clock.count
          else (s.lanesOf i.val).restAt } ∧ t.gatesSafe ∧
      s.outsOnly t ∧ t = { s with lanes := t.lanes, term := t.term }) ∧
    (∀ fault : Bool, ∃ t, exec (.pairLaneTrip i c true fault) s = .next t ∧ bit (t.lanesOf i.val).pairCut c.val = true ∧
      t.gatesSafe ∧
      (chipTerm i.val c.val ∈ t.outTerms → (t.termOf (chipTerm i.val c.val)).out.gate = false) ∧
      (fault = true → s.mode (tChan (chipTerm i.val c.val)) ≠ mOFF →
        (t.termOf (chipTerm i.val c.val)).tstat.causes.getLsbD 0x12 = true)) ∧
    (∃ t, exec (.pairLaneTrip i c false false) s = .next t ∧ bit (t.lanesOf i.val).pairCut c.val = false ∧ t.gatesSafe ∧
      s.outsOnly t ∧ t = { s with lanes := t.lanes, term := t.term }) ∧
    (∃ t, exec (.pairLineRecovery i c) s = .next t ∧ bit (t.lanesOf i.val).pairCut c.val = false ∧ t.gatesSafe ∧
      (s.lineTested i.val c.val = true →
        bit (t.lanesOf i.val).pairBad c.val = false ∧ (t.termOf (chipTerm i.val c.val)).tstat.causes.getLsbD 0x12 = false) ∧
      (s.lineTested i.val c.val = false → s.outsOnly t ∧ t = { s with lanes := t.lanes, term := t.term }))

/-- DI_RAW_EDGE sets RAW, counts the edge and, in a DI channel in RUNNING outside the dark pulses of its test source, the
chatter window's edges; above CHAT_LIM the terminal is forced to demand with cause 0x01. FILTER_QUALIFY in a mode with filters
sets the qualified state with its stamp; a DI terminal writes one signature record of four words, KIND 1 or 2, with its
terminal, and they wait for STREAM frames; the discrepancy clock runs exactly while the terminals disagree. STOP_LINE_QUALIFY
sets the line of its side alone. CHATTER_WINDOW_END in RUNNING starts a window, forces at an excess, and releases after a
quiet window that began at or after FORCE_REL. DEMAND_AGE at demand reports 0x01A0 and changes nothing else. DISCREPANCY_FAULT
of disagreeing terminals puts cause 0x08 on both and, when new, its fault to the channel's functions. FILTER_QUALIFY in a mode
without filters, CHATTER_WINDOW_END of a terminal that is no DI or outside RUNNING, DEMAND_AGE without an age or off demand
and DISCREPANCY_FAULT of terminals that agree change nothing but gates. Gates are safe. That chatter windows count in RUNNING
alone is the model's choice (log entry 84). -/
def Obligations.DigitalInputRows : Prop :=
  (∀ (s : State) (i : ChipIx) (c : LocalIx) (level : Bool) (stamp : Nat),
    let k := chipTerm i.val c.val
    let counted := s.mode (tChan k) = mDI ∧ s.dev.st = .running ∧ s.inSourceDark k stamp = false
    ∃ t, exec (.diRawEdge i c level stamp) s = .next t ∧ t.gatesSafe ∧
      (t.termOf k).tstat.raw = level ∧ (t.termOf k).tstat.edges = (s.termOf k).tstat.edges + 1 ∧
      (t.termOf k).tstat.qual = (s.termOf k).tstat.qual ∧ (t.termOf k).dig.lastRaw = stamp ∧
      (counted → (t.termOf k).dig.chatEdges = (s.termOf k).dig.chatEdges + 1) ∧
      (¬ counted → (t.termOf k).dig.chatEdges = (s.termOf k).dig.chatEdges) ∧
      (counted → (s.termOf k).dig.chatForce = false → fld (s.tin k) 55 40 < (s.termOf k).dig.chatEdges + 1 →
        (t.termOf k).dig.chatForce = true ∧ (t.termOf k).tstat.causes.getLsbD 1 = true ∧ t.atDemand k = true) ∧
      (∀ j, j ≠ k → (t.termOf j).dig = (s.termOf j).dig ∧ (j ≠ tOther k → (t.termOf j).tstat = (s.termOf j).tstat))) ∧
  (∀ (s : State) (k : TermIx) (level : Bool) (stamp : Nat), hasFilter (s.mode (tChan k.val)) = true →
    ∃ t, exec (.filterQualify k level stamp) s = .next t ∧ t.gatesSafe ∧
      (t.termOf k.val).tstat.qual = level ∧ (t.termOf k.val).dig.stamp = stamp ∧ (t.termOf k.val).dig.fresh = false ∧
      (t.termOf k.val).tstat.lastQual = BitVec.ofNat 32 s.clock.count ∧ (t.termOf k.val).dig.bounceN = 0 ∧
      (s.mode (tChan k.val) = mDI →
        (∃ w0 w1 w2 w3 : Word, (t.queueOf (streamQueue k.val 1)).words = (s.queueOf (streamQueue k.val 1)).words ++ [w0, w1, w2, w3] ∧
          fld w1 67 64 = (if level then 1 else 2) ∧ fld w1 63 55 = k.val ∧
          (t.chipOf (tChip k.val)).waiting = (s.chipOf (tChip k.val)).waiting ++ [(tLocal k.val, w0, true), (tLocal k.val, w1, false),
            (tLocal k.val, w2, false), (tLocal k.val, w3, false)]) ∧
        (t.disagrees (tChan k.val) = false → (t.chanOf (tChan k.val)).discAt = none) ∧
        (t.disagrees (tChan k.val) = true → (t.chanOf (tChan k.val)).discAt.isSome = true))) ∧
  (∀ (s : State) (line : Fin 2) (d : Side) (off : Bool),
    ∃ t, exec (.stopLineQualify line d off) s = .next t ∧ t.gatesSafe ∧
      t.halfOf d = { s.halfOf d with sl := setBit (s.halfOf d).sl line.val off } ∧ bit (t.halfOf d).sl line.val = off ∧
      t.halfOf d.other = s.halfOf d.other ∧ s.outsOnly t ∧ t = { s with half := t.half, term := t.term }) ∧
  (∀ (s : State) (k : TermIx), s.mode (tChan k.val) = mDI → s.dev.st = .running →
    ∃ t, exec (.chatterWindowEnd k) s = .next t ∧ t.gatesSafe ∧ (t.termOf k.val).dig.chatEdges = 0 ∧
      (t.termOf k.val).dig.chatStart = s.clock.count ∧
      (fld (s.tin k.val) 55 40 < (s.termOf k.val).dig.chatEdges → (t.termOf k.val).dig.chatForce = true) ∧
      ((s.termOf k.val).dig.chatEdges ≤ fld (s.tin k.val) 55 40 →
        (∀ r, (s.termOf k.val).dig.relAt = some r → r ≤ (s.termOf k.val).dig.chatStart → (s.termOf k.val).dig.chatForce = true →
          (t.termOf k.val).dig.chatForce = false ∧ (t.termOf k.val).tstat.causes.getLsbD 1 = false) ∧
        ((s.termOf k.val).dig.relAt = none → (t.termOf k.val).dig.chatForce = (s.termOf k.val).dig.chatForce))) ∧
  (∀ (s : State) (k : TermIx), fld (s.ccfg (tChan k.val)) 47 32 ≠ 0 → s.atDemand k.val = true →
    ∃ t, exec (.demandAge k) s = .next t ∧ t = s.takeEvents t ∧
      ∃ n, fld (s.ccfg (tChan k.val)) 47 32 ≤ n ∧ s.reports t 0x01A0 (nTerm k.val) 1 n) ∧
  (∀ (s : State) (ch : ChanIx), s.mode ch.val = mDI → fld (s.ccfg ch.val) 63 48 ≠ 0 → s.disagrees ch.val = true →
    ∃ t, exec (.discrepancyFault ch) s = .next t ∧ t.gatesSafe ∧
      (t.termOf (2 * ch.val)).tstat.causes.getLsbD 8 = true ∧
      ((s.termOf (2 * ch.val)).tstat.causes.getLsbD 8 = false → (t.termOf (2 * ch.val + 1)).tstat.causes.getLsbD 8 = true ∧
        ∀ f ∈ s.fnsOfChan ch.val, (0x10, 0x08, (s.chanOf ch.val).discT) ∈ (t.fnOf f).raised)) ∧
  (∀ (s : State) (k : TermIx) (ch : ChanIx) (level : Bool) (stamp : Nat),
    ∀ row ∈ ([(.filterQualify k level stamp, !hasFilter (s.mode (tChan k.val))),
        (.chatterWindowEnd k, s.mode (tChan k.val) ≠ mDI || s.dev.st ≠ .running),
        (.demandAge k, fld (s.ccfg (tChan k.val)) 47 32 = 0 || !s.atDemand k.val),
        (.discrepancyFault ch, s.mode ch.val ≠ mDI || fld (s.ccfg ch.val) 63 48 = 0 || !s.disagrees ch.val)] : List (Instr × Bool)),
      row.2 = true → ∃ t, exec row.1 s = .next t ∧ s.outsOnly t ∧ t = { s with term := t.term })

/-- TS_PULSE_START of a TS terminal starts the pulse with its gate off in a slot that its code selects, while no other
terminal of its chip is dark, and else nothing. TS_PULSE_CHECK ends it: a high line forces source and inputs; an overload
gives the source cause 0x05 and forces source and inputs; inputs that stay on get cause 0x02 and are forced to demand; a pass
leaves causes 0x05 and 0x02 of inputs that were not forced. CROSS_SHORT_IDENTIFIED gives a TS terminal cause 0x03 or 0x04 and
changes another terminal's chip in nothing but gates. OUTPUT_CURRENT_LIMIT of a gate that is on and an OUTPUT_VOLTAGE_CHECK
that is due and fails give cause 0x07, test the front-end and take the gate off, latched. DARK_PULSE_START of a DO terminal at
or after its drawn tick takes the gate off for the pulse when it is on and the pulse would overlap no other of its chip, else
the pulse waits and nothing but gates changes; a path not seen records cause 0x84 and holds the terminal; of one that is off
it draws the next pulse within DICE_MIN_MS and DICE_MAX_MS. DARK_PULSE_VERDICT outside its voltage gives cause 0x06, or 0x03
with one step, and switches the other terminal off; within it neither. DARK_PULSE_END ends the pulse and draws the next.
Outside the modes and moments named the rows change nothing but gates. -/
def Obligations.OutputChecks : Prop :=
  ∀ (s : State) (k : TermIx),
    let has (t : State) (j c : Nat) : Prop := (t.termOf j).tstat.causes.getLsbD c = true
    let offLatched (t : State) : Prop := k.val ∈ t.outTerms → (t.termOf k.val).out.gate = false ∧ (t.termOf k.val).out.latch = true
    let lo := fld (s.tout k.val) 20 11 * 1000
    let hi := fld (s.tout k.val) 10 1 * 1000
    (s.mode (tChan k.val) = mTS →
      (s.tsDue k.val = true → s.chipDark k.val = false → ∃ t, exec (.tsPulseStart k) s = .next t ∧ (t.termOf k.val).out.dark = true ∧ t.gatesSafe ∧
        (t.termOf k.val).out.pulseAt = s.clock.count ∧ (k.val ∈ t.outTerms → (t.termOf k.val).out.gate = false)) ∧
      (∃ t, exec (.tsPulseCheck k true false [] []) s = .next t ∧ t.gatesSafe ∧ (t.termOf k.val).out.dark = false ∧
        (∀ u ∈ k.val :: s.fedBy k.val, (t.termOf u).dig.tsFail = some s.clock.count) ∧ ∀ u ∈ s.fedBy k.val, t.atDemand u = true) ∧
      (∃ t, exec (.tsPulseCheck k false true [] []) s = .next t ∧ has t k.val 5 ∧ t.gatesSafe ∧
        (t.termOf k.val).out.dark = false ∧
        (∀ u ∈ s.fedBy k.val, (t.termOf u).dig.tsFail = some s.clock.count ∧ t.atDemand u = true)) ∧
      (∀ u : TermIx, u.val ∈ s.fedBy k.val →
        ∃ t, exec (.tsPulseCheck k false false [u] []) s = .next t ∧ has t u.val 2 ∧ t.gatesSafe ∧
          (t.termOf u.val).dig.tsFail = some s.clock.count ∧ t.atDemand u.val = true) ∧
      (∃ t, exec (.tsPulseCheck k false false [] []) s = .next t ∧ (t.termOf k.val).out.dark = false ∧
        (∀ u ∈ s.fedBy k.val, u ≠ k.val → (s.termOf u).dig.tsFail = none → (t.termOf u).tstat = (s.termOf u).tstat))) ∧
    (s.mode (tChan k.val) = mTS →
      (∀ u : TermIx, ∃ t, exec (.crossShortIdentified k (some u)) s = .next t ∧ has t k.val 3 ∧
        (t.termOf k.val).dig.tsFail = some s.clock.count) ∧
      (∃ t, exec (.crossShortIdentified k none) s = .next t ∧ has t k.val 4 ∧ (t.termOf k.val).dig.tsFail = some s.clock.count)) ∧
    (∀ (m : Option TermIx) (hi ov : Bool) (on : List TermIx) (rl : List (TermIx × Nat)) (mv : Nat) (pass : Bool) (test : DarkTest),
      ∀ row ∈ ([(.crossShortIdentified k m, s.mode (tChan k.val) ≠ mTS),
          (.tsPulseStart k, s.mode (tChan k.val) ≠ mTS || !s.tsDue k.val || s.chipDark k.val),
          (.tsPulseCheck k hi ov on rl, s.mode (tChan k.val) ≠ mTS), (.outputCurrentLimit k, !(s.termOf k.val).out.gate),
          (.outputVoltageCheck k pass, pass || !s.checkDue k.val),
          (.darkPulseStart k test, !isDO (s.mode (tChan k.val)) || s.clock.count < (s.termOf k.val).out.nextAt ||
            ((s.termOf k.val).out.gate && s.wouldOverlap k.val)),
          (.darkPulseVerdict k mv on, !isDO (s.mode (tChan k.val)) || !(s.termOf k.val).out.dark),
          (.darkPulseEnd k, !isDO (s.mode (tChan k.val)) || !(s.termOf k.val).out.dark)] : List (Instr × Bool)),
        row.2 = true → ∃ t, exec row.1 s = .next t ∧ s.outsOnly t ∧ t.gatesSafe ∧ t = { s with term := t.term }) ∧
    (s.mode (tChan k.val) ≠ mOFF →
      (∀ row ∈ ([(.outputCurrentLimit k, (s.termOf k.val).out.gate), (.outputVoltageCheck k false, s.checkDue k.val)] : List (Instr × Bool)),
          row.2 = true → ∃ t, exec row.1 s = .next t ∧ has t k.val 7 ∧ offLatched t ∧ t.gatesSafe ∧
            (s.isRetired (nFront k.val) tcFront = false → (t.tests.find (nFront k.val) tcFront).isSome = true))) ∧
    (isDO (s.mode (tChan k.val)) = true →
      (s.clock.count ≥ (s.termOf k.val).out.nextAt → (s.termOf k.val).out.gate = true → s.wouldOverlap k.val = false → ∀ notRun : Bool,
        (∃ t, exec (.darkPulseStart k ⟨true, notRun⟩) s = .next t ∧ (t.termOf k.val).out.dark = true ∧ t.gatesSafe ∧
          (∃ r ∈ (t.chipOf (tChip k.val)).diag, r.cause = 0x84 ∨ r.cause = 0x85) ∧
          bit (t.lanesOf (tChip k.val)).latHold (tLocal k.val) = true ∧
          (s.isRetired (nChip (tChip k.val)) tcHalf = false → (s.tests.find (nChip (tChip k.val)) tcHalf).isSome = false →
            (t.tests.find (nChip (tChip k.val)) tcHalf).isSome = true)) ∧
        ∃ t, exec (.darkPulseStart k ⟨false, notRun⟩) s = .next t ∧ (t.termOf k.val).out.dark = true ∧
          (t.termOf k.val).out.pulseAt = s.clock.count ∧ (t.termOf k.val).out.partialP = notRun ∧ t.gatesSafe ∧
          (k.val ∈ t.outTerms → (t.termOf k.val).out.gate = false)) ∧
      (s.clock.count ≥ (s.termOf k.val).out.nextAt → (s.termOf k.val).out.gate = false → ∀ test, lo ≤ hi →
        ∃ t, exec (.darkPulseStart k test) s = .next t ∧ (t.termOf k.val).out.dark = (s.termOf k.val).out.dark ∧
          s.clock.count + lo ≤ (t.termOf k.val).out.nextAt ∧ (t.termOf k.val).out.nextAt ≤ s.clock.count + hi ∧
          t = { s with term := t.term, free := s.free + 1 }) ∧
      ((s.termOf k.val).out.dark = true →
        (∀ mv : Nat, (if s.lowSide k.val then 11000 ≤ mv else mv ≤ 5000) → ∀ steps,
          ∃ t, exec (.darkPulseVerdict k mv steps) s = .next t ∧ (t.termOf k.val).tstat.causes = (s.termOf k.val).tstat.causes ∧
            (t.termOf (tOther k.val)).out.off = (s.termOf (tOther k.val)).out.off) ∧
        (∀ mv : Nat, ¬ (if s.lowSide k.val then 11000 ≤ mv else mv ≤ 5000) →
          (∃ t, exec (.darkPulseVerdict k mv []) s = .next t ∧ has t k.val 6 ∧ (t.termOf (tOther k.val)).out.off = true ∧ offLatched t) ∧
          (∀ u : TermIx, ∃ t, exec (.darkPulseVerdict k mv [u]) s = .next t ∧ has t k.val 3 ∧
            (t.termOf (tOther k.val)).out.off = true)) ∧
        (lo ≤ hi → ∃ t, exec (.darkPulseEnd k) s = .next t ∧ (t.termOf k.val).out.dark = false ∧ t.gatesSafe ∧
          (t.termOf k.val).out.incomplete = (if (s.termOf k.val).out.partialP then (s.termOf k.val).out.incomplete + 1 else 0) ∧
          (s.termOf k.val).out.pulseAt + lo ≤ (t.termOf k.val).out.nextAt ∧
          (t.termOf k.val).out.nextAt ≤ (s.termOf k.val).out.pulseAt + hi)))

/-- PLUG_REMOVED answers a state in which every terminal of the field chip that is not OFF has cause 0x09 and reads demand,
PLUG is 0, the gate of every output terminal of the chip is off and latched, event 0x0203 is reported and a ledger entry
waits. PLUG_INSERTED ends cause 0x09 on all 16, sets PLUG, restarts the filters at demand, and a ledger entry waits.
FIELD_SUPPLY_OUT_OF_RANGE asserts FSUP, gives cause 0x11 to every terminal that is not OFF, takes the outputs of the chip off
and reports 0x0901 with the voltage; FIELD_SUPPLY_RESTORED releases FSUP, ends cause 0x11 and reports 0x0902; no latch is
released by the return. Gates are safe after each. -/
def Obligations.ConnectorAndFieldSupply : Prop :=
  ∀ (s : State) (i : ChipIx) (mv : BitVec 16),
    let off (t : State) : Prop := ∀ k ∈ t.outTerms, tChip k = i.val → (t.termOf k).out.gate = false ∧ (t.termOf k).out.latch = true
    let all (t : State) (c : Nat) (b : Bool) : Prop := ∀ k ∈ chipTerms i.val, (t.termOf k).tstat.causes.getLsbD c = b
    let live (t : State) (c : Nat) : Prop :=
      ∀ k ∈ chipTerms i.val, s.mode (tChan k) ≠ mOFF → (t.termOf k).tstat.causes.getLsbD c = true
    (∃ t, exec (.plugRemoved i) s = .next t ∧ (t.lanesOf i.val).plugOpen = true ∧ live t 9 ∧ off t ∧ t.gatesSafe ∧
      (∀ k ∈ chipTerms i.val, (t.termOf k).tstat.plug = false ∧ t.atDemand k = true) ∧
      s.reports t 0x0203 (nChip i.val) 3 0 ∧ t.ledger.waiting.length = s.ledger.waiting.length + 1) ∧
    (∃ t, exec (.plugInserted i) s = .next t ∧ (t.lanesOf i.val).plugOpen = false ∧ all t 9 false ∧ t.gatesSafe ∧
      (∀ k ∈ chipTerms i.val, (t.termOf k).tstat.plug = true ∧
        (hasFilter (s.mode (tChan k)) = true → (t.termOf k).tstat.qual = s.demVal k ∧ (t.termOf k).dig.fresh = true) ∧
        ((s.termOf k).out.latch = true → (t.termOf k).out.latch = true)) ∧
      t.ledger.waiting.length = s.ledger.waiting.length + 1) ∧
    (∃ t, exec (.fieldSupplyOutOfRange i mv) s = .next t ∧ (t.lanesOf i.val).fsup = true ∧ live t 0x11 ∧ off t ∧
      t.gatesSafe ∧ s.reports t 0x0901 (nSupply i.val) 3 mv.toNat) ∧
    (∃ t, exec (.fieldSupplyRestored i mv) s = .next t ∧ (t.lanesOf i.val).fsup = false ∧ all t 0x11 false ∧ t.gatesSafe ∧
      (∀ k ∈ chipTerms i.val, (s.termOf k).out.latch = true → (t.termOf k).out.latch = true) ∧
      s.reports t 0x0902 (nSupply i.val) 0 mv.toNat)

/-- INTERNAL_CHECK of failing converters, in the frames of its four channels in turn: one to three at the reference have cause
0x0A, and more give the chip FSAFE as a whole; at the supply every terminal has cause 0x11; at the temperature the chip
records cause 0x82; at the last each has cause 0x0A. OPEN_LOOP_FLAG in an analog mode gives cause 0x0D and OPEN_LOOP_CLEAR
ends it; AO_COMPLIANCE gives cause 0x0E to terminal A of an AO channel while its regulator drives a current, and none while it
drives 0 mA or of another terminal; COMPLIANCE_RECOVERED ends it; AO_MISMATCH gives 0x0F to terminal B while it is commanded
on and its pair-lane line is not low; NE43_FAULT gives 0x0B or 0x0C; AI_DISAGREEMENT gives 0x08 to both terminals and tests
both converters. CALIBRATION_COMPLETE of valid zero and reference codes keeps both records, whose CHK check, for the next
commit; invalid ones leave no new record and report 0x01A3; the terminal returns to service at the next commit.
START_TOKEN_REFILL adds a token at a tick count that is a multiple of REFILL_US and never exceeds the bucket's capacity when
it was within it. DICE_ENTROPY_FAULT records cause 0x87. The rows of a mode change nothing but gates in another, and so does
CALIBRATION_COMPLETE without a calibration that runs. Gates are safe. -/
def Obligations.AnalogTerminals : Prop :=
  ∀ (s : State) (i : ChipIx) (k : TermIx) (ch : ChanIx),
    let has (t : State) (j c : Nat) : Prop := (t.termOf j).tstat.causes.getLsbD c = true
    (∀ failing : BitVec 16, s.clock.frame.toNat % 4 = 0 →
      let bad := (chipTerms i.val).filter fun u => bit failing (tLocal u) && !(s.termOf u).ana.calRun
      ∃ t, exec (.internalCheck i failing) s = .next t ∧ t.gatesSafe ∧
        (bad ≠ [] → bad.length ≤ 3 → ∀ u ∈ bad, s.mode (tChan u) ≠ mOFF → has t u 0x0A) ∧
        (3 < bad.length → (t.lanesOf i.val).fsafeAll = true ∧ ∀ u ∈ chipTerms i.val, s.mode (tChan u) ≠ mOFF → t.fsafe u = true) ∧
        (bad = [] → t = { s with term := t.term } ∧ s.outsOnly t)) ∧
    (∀ failing : BitVec 16,
      let bad := (chipTerms i.val).filter fun u => bit failing (tLocal u) && !(s.termOf u).ana.calRun
      bad ≠ [] →
      (s.clock.frame.toNat % 4 = 1 → ∃ t, exec (.internalCheck i failing) s = .next t ∧ t.gatesSafe ∧
        ∀ u ∈ chipTerms i.val, s.mode (tChan u) ≠ mOFF → has t u 0x11) ∧
      (s.clock.frame.toNat % 4 = 2 → ∃ t, exec (.internalCheck i failing) s = .next t ∧ t.gatesSafe ∧
        ∃ r ∈ (t.chipOf i.val).diag, r.cause = 0x82 ∨ r.cause = 0x85) ∧
      (s.clock.frame.toNat % 4 = 3 → ∃ t, exec (.internalCheck i failing) s = .next t ∧ t.gatesSafe ∧
        ∀ u ∈ bad, s.mode (tChan u) ≠ mOFF → has t u 0x0A)) ∧
    (s.isAnalog k.val = true →
      ∃ t, exec (.openLoopFlag k) s = .next t ∧ has t k.val 0x0D ∧ (t.termOf k.val).ana.open_ = true ∧ t.gatesSafe) ∧
    (∃ t, exec (.openLoopClear k) s = .next t ∧ ¬ has t k.val 0x0D ∧ (t.termOf k.val).ana.open_ = false ∧ t.fn = s.fn) ∧
    (s.mode (tChan k.val) = mAO →
      (k.val % 2 = 0 → s.aoCurrent k.val ≠ 0 → ∃ t, exec (.aoCompliance k) s = .next t ∧ has t k.val 0x0E ∧ t.gatesSafe) ∧
      (k.val % 2 = 1 → (s.termOf k.val).out.on = true → s.pairLow (tChip k.val) (tLocal k.val) = false → ∃ t, exec (.aoMismatch k) s = .next t ∧ has t k.val 0x0F ∧ t.gatesSafe)) ∧
    (∀ (high : Bool) (zi ri zv rv : Int),
      ∀ row ∈ ([(.openLoopFlag k, !s.isAnalog k.val),
          (.aoCompliance k, s.mode (tChan k.val) ≠ mAO || k.val % 2 = 1 || s.aoCurrent k.val = 0),
          (.aoMismatch k, s.mode (tChan k.val) ≠ mAO || k.val % 2 = 0 || !(s.termOf k.val).out.on || s.pairLow (tChip k.val) (tLocal k.val)),
          (.ne43Fault k high, s.mode (tChan k.val) ≠ mAI), (.aiDisagreement ch, s.mode ch.val ≠ mAI),
          (.calibrationComplete k zi ri zv rv, !(s.termOf k.val).ana.calRun || (s.termOf k.val).ana.calDone)] : List (Instr × Bool)),
        row.2 = true → ∃ t, exec row.1 s = .next t ∧ s.outsOnly t ∧ t.gatesSafe ∧ t = { s with term := t.term }) ∧
    (∃ t, exec (.complianceRecovered k) s = .next t ∧ ¬ has t k.val 0x0E ∧ t.fn = s.fn) ∧
    (s.mode (tChan k.val) = mAI → ∀ high : Bool,
      ∃ t, exec (.ne43Fault k high) s = .next t ∧ has t k.val (if high then 0x0C else 0x0B) ∧ t.gatesSafe) ∧
    (s.mode ch.val = mAI → (s.termOf (2 * ch.val)).tstat.causes.getLsbD 8 = false →
      ∃ t, exec (.aiDisagreement ch) s = .next t ∧ has t (2 * ch.val) 8 ∧ has t (2 * ch.val + 1) 8 ∧
        (s.isRetired (nFront (2 * ch.val)) tcConv = false → (t.tests.find (nFront (2 * ch.val)) tcConv).isSome = true)) ∧
    ((s.termOf k.val).ana.calRun = true → (s.termOf k.val).ana.calDone = false → ∀ zi ri zv rv : Int,
      (∀ gi oi gv ov, calResult zi ri = some (gi, oi) → calResult zv rv = some (gv, ov) →
        ∃ t wi wv, exec (.calibrationComplete k zi ri zv rv) s = .next t ∧ (t.termOf k.val).ana.calNew = some (wi, wv) ∧
          calOk wi = true ∧ calOk wv = true ∧ fld wi 71 52 = gi.toNat ∧ sfld wi 51 34 = oi ∧ (t.termOf k.val).ana.calDone = true) ∧
      (calResult zi ri = none ∨ calResult zv rv = none →
        ∃ t, exec (.calibrationComplete k zi ri zv rv) s = .next t ∧ (t.termOf k.val).ana.calNew = (s.termOf k.val).ana.calNew ∧
          (t.termOf k.val).ana.cal = none ∧ (t.termOf k.val).ana.calDone = true ∧ s.reports t 0x01A3 (nTerm k.val) 1 0)) ∧
    ((s.lanesOf i.val).tokens ≤ s.tokenCap i.val →
      ∃ t, exec (.startTokenRefill i) s = .next t ∧ (t.lanesOf i.val).tokens ≤ s.tokenCap i.val ∧ t.gatesSafe ∧
        ((∀ c < 16, (s.termOf (chipTerm i.val c)).out.waiting = false) →
          (t.lanesOf i.val).tokens = (if s.clock.count % fld (s.scfg i.val) 67 54 = 0 ∧ (s.lanesOf i.val).tokens < s.tokenCap i.val
            then (s.lanesOf i.val).tokens + 1 else (s.lanesOf i.val).tokens))) ∧
    (∃ t, exec (.diceEntropyFault i) s = .next t ∧ (t.chipOf i.val).entropyBad = true ∧
      (∃ r ∈ (t.chipOf i.val).diag, r.cause = 0x87 ∨ r.cause = 0x85) ∧ t.gatesSafe)

/-- PULLIN_END of a PWM unit whose pull-in time has run since the switch-on starts it at 0 and changes nothing else; at any
other moment it changes nothing. OVERSPEED_SENTINEL_TRIP from entry to RUNNING on, with a limit that the net count of 1,000
ticks exceeds, asserts the sentinel's signal and reports 0x01A4 unless it is asserted; otherwise it changes nothing.
TIMER_MATCH and TIMER_OVERFLOW are the count that brings a running unit there: an event counter that is not chained, which
alone counts in the clock, stands at its match value, or at 0 after the wrap, or at 0 by a reset, stops by action 2, and
resets, stops or starts the linked unit by 4, 5, 6; a timer unit that counts ticks or a port, the only one that runs, does the
same, after a tick or a step of the port, and a match posts its number to its side's mailbox when that is enabled. A unit that
does not run is unchanged by both, and units of other field chips always are. That the two rows stand for the count itself is
the model's choice (log entry 88). -/
def Obligations.CounterAndTimerUnits : Prop :=
  (∀ (s : State) (k : TermIx),
    let o := (s.termOf k.val).out
    let due := s.kmode k.val = 5 ∧ o.pwm = 1 ∧ (o.gate = true ∨ o.dark = true) ∧ o.onAt + 1000 * fld (s.kcfg k.val) 17 2 ≤ s.clock.count
    (due → ∃ t, exec (.pullinEnd k) s = .next t ∧ (t.termOf k.val).out = { o with pwm := 2, pwmAt := s.t10 } ∧
      t.pwmCount k.val s.t10 = 0 ∧ (∀ j, j ≠ k.val → t.termOf j = s.termOf j) ∧ t = { s with term := t.term }) ∧
    (¬ due → exec (.pullinEnd k) s = .next s)) ∧
  (∀ (s : State) (k : TermIx),
    let lim := fld (s.kcfg k.val) 17 2
    let exceeds := s.dev.st ∈ [DevState.running, .holding] ∧ s.kmode k.val ∈ [1, 4] ∧ lim ≠ 0 ∧
      lim < histNet (s.termOf k.val).ctr.hist s.clock.count
    (exceeds → (s.termOf k.val).ctr.ovsTrip = false →
      ∃ t, exec (.overspeedSentinelTrip (.field k)) s = .next t ∧ (t.termOf k.val).ctr.ovsTrip = true ∧ t.gatesSafe ∧
        s.reports t 0x01A4 (nChip (tChip k.val)) 4 2) ∧
    (¬ exceeds ∨ (s.termOf k.val).ctr.ovsTrip = true → exec (.overspeedSentinelTrip (.field k)) s = .next s)) ∧
  (∀ (s : State) (d : Side) (n : EncIx),
    let e := 8 * d.ix + n.val
    let lim := fld (s.cw cECFG e 0) 67 52
    let exceeds := s.dev.st ∈ [DevState.running, .holding] ∧ lim ≠ 0 ∧ lim < histNet (s.encOf e).hist s.clock.count
    (exceeds → (s.encOf e).ovsTrip = false →
      ∃ t, exec (.overspeedSentinelTrip (.port d n)) s = .next t ∧ (t.encOf e).ovsTrip = true ∧ t.gatesSafe ∧
        s.reports t 0x01A4 (nEnc e) 4 4) ∧
    (¬ exceeds ∨ (s.encOf e).ovsTrip = true → exec (.overspeedSentinelTrip (.port d n)) s = .next s)) ∧
  (∀ (s : State) (k : TermIx), ∀ i ∈ [Instr.timerMatch (.field k), .timerOverflow (.field k)],
    ∃ t, exec i s = .next t ∧ t.gatesSafe ∧ (∀ j, tChip j ≠ tChip k.val → (t.termOf j).ctr = (s.termOf j).ctr) ∧
      (∀ j, (t.termOf j).tstat = (s.termOf j).tstat ∧ (t.termOf j).dig = (s.termOf j).dig ∧ (t.termOf j).ana = (s.termOf j).ana ∧
        (t.termOf j).img = (s.termOf j).img) ∧
      ((s.termOf k.val).ctr.run = false → t = { s with term := t.term } ∧ s.outsOnly t)) ∧
  (∀ (s : State) (k : TermIx), (s.termOf k.val).ctr.run = true → s.kmode k.val = 1 → s.chained k.val = false →
    (s.chipOf (tChip k.val)).clkCnt = [] →
    let link := chipTerm (tChip k.val) (fld (s.kcfg k.val) 21 18)
    let value := (s.termOf k.val).ctr.value.toNat
    let atMatch : Nat := fld (s.kcfg k.val) 63 28
    link ≠ k.val →
    ∀ row ∈ ([(.timerMatch (.field k), atMatch, value + 1 = atMatch), (.timerOverflow (.field k), 0, value + 1 = 2 ^ 36)] :
        List (Instr × Nat × Prop)), row.2.2 →
      let hit (c : Nat) : Bool := (row.2.1 = atMatch && fld (s.kcfg k.val) 27 25 = c) || (value + 1 = 2 ^ 36 && fld (s.kcfg k.val) 24 22 = c)
      ∃ t, exec row.1 s = .next t ∧
        (t.termOf k.val).ctr.value.toNat = (if hit 1 then 0 else row.2.1) ∧ (t.termOf k.val).ctr.run = !hit 2 ∧
        (t.termOf link).ctr.value = (if hit 4 then 0 else (s.termOf link).ctr.value) ∧
        (t.termOf link).ctr.run = (if hit 5 then false else if hit 6 then true else (s.termOf link).ctr.run)) ∧
  (∀ (s : State) (d : Side) (n : TimerIx), ∀ i ∈ [Instr.timerMatch (.timer d n), .timerOverflow (.timer d n)],
    ∃ t, exec i s = .next t ∧ t.gatesSafe ∧
      ((s.timerOf (64 * d.ix + n.val)).run = false → t = { s with term := t.term } ∧ s.outsOnly t)) ∧
  (∀ (s : State) (d : Side) (n : TimerIx),
    let u := 64 * d.ix + n.val
    let ctl := s.cw cTMR u 0
    let atMatch : Word := s.cw cTMR u 1
    let link := 64 * d.ix + fld ctl 55 50
    let value := (s.timerOf u).value
    let hit (c : Nat) : Bool := (value + 1 = atMatch && fld ctl 61 59 = c) || (value = BitVec.intMax 72 && fld ctl 58 56 = c)
    (s.timerOf u).run = true → (∀ j, (s.timerOf j).run = true → j = u) → (s.timer.map Prod.fst).Nodup → link ≠ u →
    ∀ row ∈ ([(.timerMatch (.timer d n), atMatch), (.timerOverflow (.timer d n), BitVec.intMin 72)] : List (Instr × Word)),
      value + 1 = row.2 → (fld ctl 71 68 = 2 ∨ (fld ctl 71 68 = 3 ∧ s.pmode (8 * d.ix + fld ctl 67 62) = 1)) →
      ∃ t, exec row.1 s = .next t ∧
        (t.timerOf u).value = (if hit 1 then 0 else value + 1) ∧ (t.timerOf u).run = !hit 2 ∧
        (t.timerOf link).value = (if hit 4 then 0 else (s.timerOf link).value) ∧
        (t.timerOf link).run = (hit 6 && !hit 5) ∧
        t.mailbox.get d = (if value + 1 = atMatch ∧ bit ctl 48 = true then s.mailbox.get d ++ [n.val] else s.mailbox.get d) ∧
        (fld ctl 71 68 = 2 → t.clock.count = s.clock.count + 1) ∧
        (fld ctl 71 68 = 3 → t.clock = s.clock ∧
          (t.encOf (8 * d.ix + fld ctl 67 62)).pos = (s.encOf (8 * d.ix + fld ctl 67 62)).pos + 1))

/-- ENCODER_EDGE at a port in incremental mode takes both lines; a transition of one line only moves the position by +1 along
the sequence 00, 10, 11, 01 and by -1 against it; both lines at once, or within 20 ns, keep the position, put SEQ_ERR (the
more severe wins) in the status and report 0x0504 with DETAIL 5, and trip an armed sentinel. A step against an armed sentinel
trips it, with 0x01A4 when it was not tripped, and the step counts in the port's net count. At a port of another mode the row
takes the lines alone, and a line fault of a disabled port changes nothing. ENCODER_LINE_FAULT puts LINE_ERR in the status of
a configured port and reports 0x0504 with DETAIL 4. Other ports are unchanged and gates are safe. -/
def Obligations.EncoderPorts : Prop :=
  ∀ (s : State) (d : Side) (n : EncIx) (a b : Bool),
    let i := 8 * d.ix + n.val
    let e := s.encOf i
    (s.pmode i = 1 →
      (∀ w : Bool, w = true ∨ (a ≠ e.lineA ∧ b ≠ e.lineB) →
        ∃ t, exec (.encoderEdge d n a b w) s = .next t ∧ (t.encOf i).pos = e.pos ∧ (t.encOf i).lineA = a ∧ (t.encOf i).lineB = b ∧
          (t.encOf i).stat = statMax e.stat 5 ∧ s.reports t 0x0504 (nEnc i) 3 5 ∧ (e.arm ≠ 0 → (t.encOf i).revTrip = true) ∧
          (∀ j, j ≠ i → t.encOf j = s.encOf j) ∧ t.gatesSafe) ∧
      (¬ (a ≠ e.lineA ∧ b ≠ e.lineB) →
        ∃ t, exec (.encoderEdge d n a b false) s = .next t ∧ (t.encOf i).lineA = a ∧ (t.encOf i).lineB = b ∧
          (t.encOf i).pos = e.pos + BitVec.ofInt 72 (quadStep e.lineA e.lineB a b) ∧ (t.encOf i).stat = e.stat ∧
          ((e.lineA, e.lineB, a, b) ∈ [(false, false, true, false), (true, false, true, true), (true, true, false, true),
              (false, true, false, false)] → (t.encOf i).pos = e.pos + 1 ∧ (e.arm = 2 → (t.encOf i).revTrip = true)) ∧
          ((a, b, e.lineA, e.lineB) ∈ [(false, false, true, false), (true, false, true, true), (true, true, false, true),
              (false, true, false, false)] → (t.encOf i).pos = e.pos - 1 ∧
              (e.arm = 1 → (t.encOf i).revTrip = true ∧ (e.revTrip = false → s.reports t 0x01A4 (nEnc i) 4 3))) ∧
          (t.encOf i).hist = histAdd e.hist s.clock.count (quadStep e.lineA e.lineB a b) ∧
          (∀ j, j ≠ i → t.encOf j = s.encOf j) ∧ t.gatesSafe)) ∧
    (∀ w : Bool, s.pmode i ≠ 1 → ∃ t, exec (.encoderEdge d n a b w) s = .next t ∧ t.encOf i = { e with lineA := a, lineB := b } ∧
      (∀ j, j ≠ i → t.encOf j = s.encOf j) ∧ t = { s with enc := t.enc }) ∧
    (s.pmode i = 0 → exec (.encoderLineFault d n) s = .next s) ∧
    (s.pmode i ≠ 0 →
      ∃ t, exec (.encoderLineFault d n) s = .next t ∧ (t.encOf i).stat = statMax e.stat 4 ∧ (t.encOf i).pos = e.pos ∧
        s.reports t 0x0504 (nEnc i) 3 4 ∧ (∀ j, j ≠ i → t.encOf j = s.encOf j))

/-- The engine of an SSI port that runs and stands at the instruction executes it: CLK and WAIT_CLK shift their samples in,
first sample first, and count at most 72 bits; SKIP, WAIT_NS and WAIT_TICK keep register and count; GRAY converts the low bits
and keeps the rest; each goes on at the next slot, slot 63 at 0. EXPECT of an equal line goes on; of a different one it clears
register and count, continues at slot 0 and puts FRAME_ERR in the port's status. DELIVER gives register and count to the port
as VALID and clears them. JUMP goes to its slot; HALT stops. Other engines and, but for EXPECT and DELIVER, all else are
unchanged. An engine that does not stand at the instruction, or of another port, does nothing. SHIFT_LOAD_APPLY starts the
accepted programs of the port on both sides at slot 0 at the next tick-0 edge; before that edge's capture the port keeps the
old engine's words for it, and an engine that ran with bits in its register, or with a clock instruction in progress, then has
ABORTED as its outcome. -/
def Obligations.ShiftEngineInstructions : Prop :=
  ∀ (s : State) (d : Side) (n : EncIx),
    let i := 8 * d.ix + n.val
    let g := s.engOf i
    let next := (g.slot + 1) % 64
    let stands (op arg : Nat) : Prop := s.pmode i = 2 ∧ g.at_ op arg = true
    let engineOnly (t : State) : Prop := (∀ j, j ≠ i → t.engOf j = s.engOf j) ∧ t = { s with engine := t.engine }
    (∀ bits : List Bool,
      (stands 1 bits.length → ∃ t, exec (.clk d n bits) s = .next t ∧ engineOnly t ∧ (t.engOf i).slot = next ∧
        (t.engOf i).reg = (g.shiftIn bits).reg ∧
        (g.nbits ≤ 72 → (t.engOf i).nbits = if g.nbits + bits.length ≤ 72 then g.nbits + bits.length else 72)) ∧
      (stands 6 bits.length → ∃ t, exec (.waitClk d n bits) s = .next t ∧ engineOnly t ∧ (t.engOf i).slot = next ∧
        (t.engOf i).reg = (g.shiftIn bits).reg ∧ (t.engOf i).wait = .clk)) ∧
    (∀ count : Nat,
      (stands 2 count → ∃ t, exec (.skip d n count) s = .next t ∧ engineOnly t ∧ t.engOf i = { g with slot := next, wait := .none }) ∧
      (stands 7 count → ∃ t, exec (.gray d n count) s = .next t ∧ engineOnly t ∧ (t.engOf i).slot = next ∧
        (t.engOf i).nbits = g.nbits ∧ (count ≤ 72 →
          (t.engOf i).reg.toNat = g.reg.toNat / 2 ^ count * 2 ^ count + grayToBin count g.reg.toNat 0))) ∧
    (∀ arg : BitVec 20, stands 4 arg.toNat →
      ∃ t, exec (.waitNs d n arg) s = .next t ∧ engineOnly t ∧ t.engOf i = { g with slot := next, wait := .ns }) ∧
    (stands 5 0 → ∃ t, exec (.waitTick d n) s = .next t ∧ engineOnly t ∧ t.engOf i = { g with slot := next, wait := .tick }) ∧
    (∀ arg : Bool, stands 3 (b2n arg) →
      (∃ t, exec (.expect d n arg arg) s = .next t ∧ engineOnly t ∧ t.engOf i = { g with slot := next, wait := .none }) ∧
      (∃ t, exec (.expect d n arg (!arg)) s = .next t ∧ (t.engOf i).slot = 0 ∧ (t.engOf i).reg = 0 ∧ (t.engOf i).nbits = 0 ∧
        (t.engOf i).run = true ∧ (t.encOf i).stat = statMax (s.encOf i).stat 3 ∧ (t.encOf i).delTick = BitVec.ofNat 32 s.clock.count ∧
        (t.encOf i).pos = (s.encOf i).pos)) ∧
    (stands 8 0 →
      ∃ t, exec (.deliver d n) s = .next t ∧ (t.engOf i).slot = next ∧ (t.engOf i).reg = 0 ∧ (t.engOf i).nbits = 0 ∧
        (t.encOf i).pos = g.reg ∧ (t.encOf i).nbits = g.nbits ∧ (t.encOf i).stat = statMax (s.encOf i).stat 1 ∧
        (t.encOf i).delTick = BitVec.ofNat 32 s.clock.count ∧ t.gatesSafe) ∧
    (∀ slot : Fin 64, stands 9 slot.val →
      ∃ t, exec (.jump d n slot) s = .next t ∧ engineOnly t ∧ t.engOf i = { g with slot := slot.val, wait := .none }) ∧
    (stands 10 0 → ∃ t, exec (.halt d n) s = .next t ∧ engineOnly t ∧ (t.engOf i).run = false ∧ (t.engOf i).reg = g.reg) ∧
    (∀ (bits : List Bool) (count : Nat) (arg : BitVec 20) (e line : Bool) (slot : Fin 64),
      ∀ row ∈ ([(.clk d n bits, 1, bits.length), (.skip d n count, 2, count), (.expect d n e line, 3, b2n e), (.waitNs d n arg, 4, arg.toNat),
          (.waitTick d n, 5, 0), (.waitClk d n bits, 6, bits.length), (.gray d n count, 7, count), (.deliver d n, 8, 0),
          (.jump d n slot, 9, slot.val), (.halt d n, 10, 0)] : List (Instr × Nat × Nat)),
        s.pmode i ≠ 2 ∨ g.at_ row.2.1 row.2.2 = false → exec row.1 s = .next s) ∧
    (∀ inProgress : Bool, g.load = none → exec (.shiftLoadApply d n inProgress) s = .next s) ∧
    (∀ (l : List (BitVec 24)) (inProgress : Bool), g.load = some l → s.clock.tick < s.clock.fl →
      let i' := 8 * d.other.ix + n.val
      let before : Bool := s.clock.tick ≠ 0 || !s.clock.captured
      let aborts : Bool := s.pmode i = 2 && g.run && (1 ≤ g.nbits || inProgress)
      let was := if before then 0 else (s.encOf i).stat
      ∃ t, exec (.shiftLoadApply d n inProgress) s = .next t ∧ t.clock.tick = 0 ∧
        (t.engOf i).run = decide (s.pmode i = 2) ∧ (t.engOf i).slot = 0 ∧ (t.engOf i).nbits = 0 ∧ (t.engOf i).reg = 0 ∧
        (∀ k < 64, Tab.get 0xA00000 (t.engOf i).prog k = l.getD k 0xA00000) ∧ (t.engOf i).load = none ∧
        (t.encOf i).stat = (if aborts then statMax was 2 else was) ∧ (before = true → (t.encOf i).keep.isSome = true) ∧
        (∀ l', (s.engOf i').load = some l' → (t.engOf i').load = none ∧ (t.engOf i').slot = 0 ∧
          ∀ k < 64, Tab.get 0xA00000 (t.engOf i').prog k = l'.getD k 0xA00000) ∧
        ((s.engOf i').load = none → t.engOf i' = s.engOf i') ∧
        (∀ j, j ≠ i → j ≠ i' → t.engOf j = s.engOf j ∧ t.encOf j = s.encOf j))

/-- LATTICE_SCRUB without an error changes nothing but gates; a corrected error reports 0x0404; an uncorrectable term word of
a field chip makes its target true and holds the terminal that it feeds with FSAFE, and one of an export makes it trip; either
records cause 0x84 and tests the chip's half unless it is retired; an uncorrectable word of a side makes the group true and
tests a plane. PLANE_TEST in ticks 2 to C notes the groups that a real event asserts, and with a failing one among the others
tests P0 in an even frame and P1 in an odd one; outside those ticks it changes nothing but gates. AT_REST_OVERDUE of an item
untested for AT_REST_H hours reports 0x01A2 at the chip with the line, or at the barrier with the lane, and else nothing; it
changes nothing else but gates. That an export trips so is the model's choice (log entry 89). Gates are safe after each. -/
def Obligations.LatticeMaintenance : Prop :=
  ∀ s : State,
    let quiet (t : State) : Prop := s.outsOnly t ∧ t.gatesSafe ∧ t = { s.takeEvents t with term := t.term }
    (∃ t, exec (.latticeScrub .none) s = .next t ∧ quiet t ∧ t.log = s.log) ∧
    (∀ (i : ChipIx) (w : Nat), ∃ t, exec (.latticeScrub (.corrected i w)) s = .next t ∧ quiet t ∧
      s.reports t 0x0404 (nChip i.val) 0 w) ∧
    (∀ (d : Side) (w : Nat), ∃ t, exec (.latticeScrub (.correctedSide d w)) s = .next t ∧ quiet t ∧
      s.reports t 0x0404 (nPlane d 0) 0 w) ∧
    (∀ (i : ChipIx) (tg : Fin 32), ∃ t, exec (.latticeScrub (.uncorrectable i tg)) s = .next t ∧ t.gatesSafe ∧
      t.target i.val tg.val = true ∧
      (tg.val < 16 → bit (t.lanesOf i.val).latHold tg.val = true) ∧
      (16 ≤ tg.val → bit (t.lanesOf (chipOther i.val)).pairHold (tg.val - 16) = true) ∧
      (∃ r ∈ (t.chipOf i.val).diag, r.cause = 0x84 ∨ r.cause = 0x85) ∧
      (s.isRetired (nChip i.val) tcHalf = false → (t.tests.find (nChip i.val) tcHalf).isSome = true)) ∧
    (∀ (i : ChipIx) (k : Fin 2), ∃ t, exec (.latticeScrub (.uncorrectableExp i k)) s = .next t ∧ t.gatesSafe ∧
      t.tripUp i.val k.val = true ∧ (∃ r ∈ (t.chipOf i.val).diag, r.cause = 0x84 ∨ r.cause = 0x85) ∧
      (s.isRetired (nChip i.val) tcHalf = false → (t.tests.find (nChip i.val) tcHalf).isSome = true)) ∧
    (∀ (d : Side) (g : Fin 24), ∃ t, exec (.latticeScrub (.uncorrectableSide d g)) s = .next t ∧ t.gatesSafe ∧
      t.group d g.val = true ∧
      (s.isRetired (nPlane d (s.clock.frame.toNat % 2)) tcPlane = false →
        (t.tests.find (nPlane d (s.clock.frame.toNat % 2)) tcPlane).isSome = true)) ∧
    (∀ (d : Side) (failing : List (Fin 24)),
      let inTime := 2 ≤ s.clock.tick ∧ s.clock.tick ≤ s.clock.cdl
      let bad := ∃ g ∈ failing, s.group d g.val = false
      (¬ inTime → ∃ t, exec (.planeTest d failing) s = .next t ∧ quiet t ∧ t.log = s.log) ∧
      (inTime → ¬ bad → ∃ t, exec (.planeTest d failing) s = .next t ∧ t.gatesSafe ∧ s.outsOnly t ∧
        t = { s with half := t.half, term := t.term } ∧ t.halfOf d = { s.halfOf d with planeAgain := (t.halfOf d).planeAgain } ∧
        (∀ g < 24, bit (t.halfOf d).planeAgain g = s.group d g) ∧ t.halfOf d.other = s.halfOf d.other) ∧
      (inTime → bad → ∃ t, exec (.planeTest d failing) s = .next t ∧ t.gatesSafe ∧
        bit (t.halfOf d).planeTest (s.clock.frame.toNat % 2) = true ∧
        (s.isRetired (nPlane d (s.clock.frame.toNat % 2)) tcPlane = false →
          (t.tests.find (nPlane d (s.clock.frame.toNat % 2)) tcPlane).isSome = true))) ∧
    (∀ (i : ChipIx) (x : RestItem),
      let overdue := Tab.get 0 (s.lanesOf i.val).restAt (restItem x) + 3600000000 * fld (s.cw cLTST 0 0) 71 64 ≤ s.clock.count
      ∃ t, exec (.atRestOverdue i x) s = .next t ∧ quiet t ∧
        (overdue → s.reports t 0x01A2 (if restItem x < 16 then nChip i.val else nBarrier i.val) 1 (restItem x)) ∧
        (¬ overdue → t.log = s.log))

/-- On a coach that executes, with legal register fields, each of these retires at the next instruction: d takes the sum,
difference or negation modulo 2^72, N and Z are those of the result, C is the carry out of bit 71 or the borrow (for NEG: a is
not 0), V says that the exact signed result leaves the 72-bit range and sets V_SEEN, DZ is kept; CMP and CMPI write no
register. ADDC, SUBC and NEGC do the same without overflow and take the arithmetic trap, TVAL 1, with it. Only that coach's
core and gates change. -/
def Obligations.AluArithmetic : Prop :=
  ∀ (s : State) (c : CoachRef) (d a b : RegField) (imm : BitVec 16),
    let k := s.coachOf c.ix
    let x := k.read a
    let y := k.read b
    let z : Word := imm.signExtend 72
    let cin : Nat := b2n (bit k.flags 2)
    s.executes c → k.legal d → k.legal a → k.legal b →
    s.retires (.add c d a b) c ((k.write d (x + y)).nzcv (x + y) (2 ^ 72 ≤ x.toNat + y.toNat) (!signed72 (x.toInt + y.toInt))) ∧
    s.retires (.addx c d a b) c ((k.write d (x + y + BitVec.ofNat 72 cin)).nzcv (x + y + BitVec.ofNat 72 cin)
      (2 ^ 72 ≤ x.toNat + y.toNat + cin) (!signed72 (x.toInt + y.toInt + cin))) ∧
    s.retires (.sub c d a b) c ((k.write d (x - y)).nzcv (x - y) (x.toNat < y.toNat) (!signed72 (x.toInt - y.toInt))) ∧
    s.retires (.subx c d a b) c ((k.write d (x - y - BitVec.ofNat 72 cin)).nzcv (x - y - BitVec.ofNat 72 cin)
      (x.toNat < y.toNat + cin) (!signed72 (x.toInt - y.toInt - cin))) ∧
    s.retires (.neg c d a) c ((k.write d (-x)).nzcv (-x) (x ≠ 0) (x = 1 <<< 71)) ∧
    s.retires (.cmp c a b) c (k.nzcv (x - y) (x.toNat < y.toNat) (!signed72 (x.toInt - y.toInt))) ∧
    s.retires (.addi c d a imm) c ((k.write d (x + z)).nzcv (x + z) (2 ^ 72 ≤ x.toNat + z.toNat) (!signed72 (x.toInt + z.toInt))) ∧
    s.retires (.cmpi c a imm) c (k.nzcv (x - z) (x.toNat < z.toNat) (!signed72 (x.toInt - z.toInt))) ∧
    (signed72 (x.toInt + y.toInt) = true →
      s.retires (.addc c d a b) c ((k.write d (x + y)).nzcv (x + y) (2 ^ 72 ≤ x.toNat + y.toNat) false)) ∧
    (signed72 (x.toInt + y.toInt) = false → s.traps (.addc c d a b) c 0x02 1 0 (insnRR 0x01 0x001 d a b)) ∧
    (signed72 (x.toInt - y.toInt) = true →
      s.retires (.subc c d a b) c ((k.write d (x - y)).nzcv (x - y) (x.toNat < y.toNat) false)) ∧
    (signed72 (x.toInt - y.toInt) = false → s.traps (.subc c d a b) c 0x02 1 0 (insnRR 0x01 0x004 d a b)) ∧
    (x ≠ 1 <<< 71 → s.retires (.negc c d a) c ((k.write d (-x)).nzcv (-x) (x ≠ 0) false)) ∧
    (x = 1 <<< 71 → s.traps (.negc c d a) c 0x02 1 0 (insnRR 0x01 0x007 d a 0))

/-- On a coach that executes, with legal fields, each retires at the next instruction. The logic forms write d bit by bit,
with N and Z of the result, C = 0 and V = 0; TST writes flags alone; the immediates are zero-extended. MIN and MAX give the
operand that is smaller or larger as a signed number, MINU and MAXU as an unsigned number, and LDU gives the sign-extended
immediate times 2^16: these write d and no flag. Only that coach's core and gates change. -/
def Obligations.AluLogicAndExtremes : Prop :=
  ∀ (s : State) (c : CoachRef) (d a b : RegField) (imm : BitVec 16) (im : BitVec 22),
    let k := s.coachOf c.ix
    let x := k.read a
    let y := k.read b
    let z : Word := imm.setWidth 72
    s.executes c → k.legal d → k.legal a → k.legal b →
    (∀ r : Word, (∀ i < 72, bit r i = (bit x i && bit y i)) →
      s.retires (.and c d a b) c ((k.write d r).nzcv r false false) ∧ s.retires (.tst c a b) c (k.nzcv r false false)) ∧
    (∀ r : Word, (∀ i < 72, bit r i = (bit x i || bit y i)) → s.retires (.or c d a b) c ((k.write d r).nzcv r false false)) ∧
    (∀ r : Word, (∀ i < 72, bit r i = Bool.xor (bit x i) (bit y i)) → s.retires (.xor c d a b) c ((k.write d r).nzcv r false false)) ∧
    (∀ r : Word, (∀ i < 72, bit r i = (bit x i && !bit y i)) → s.retires (.andn c d a b) c ((k.write d r).nzcv r false false)) ∧
    s.retires (.andi c d a imm) c ((k.write d (x &&& z)).nzcv (x &&& z) false false) ∧
    s.retires (.ori c d a imm) c ((k.write d (x ||| z)).nzcv (x ||| z) false false) ∧
    s.retires (.xori c d a imm) c ((k.write d (x ^^^ z)).nzcv (x ^^^ z) false false) ∧
    (∀ r : Word, r = x ∨ r = y → r.toInt ≤ x.toInt → r.toInt ≤ y.toInt → s.retires (.min c d a b) c (k.write d r)) ∧
    (∀ r : Word, r = x ∨ r = y → x.toInt ≤ r.toInt → y.toInt ≤ r.toInt → s.retires (.max c d a b) c (k.write d r)) ∧
    (∀ r : Word, r = x ∨ r = y → r.toNat ≤ x.toNat → r.toNat ≤ y.toNat → s.retires (.minu c d a b) c (k.write d r)) ∧
    (∀ r : Word, r = x ∨ r = y → x.toNat ≤ r.toNat → y.toNat ≤ r.toNat → s.retires (.maxu c d a b) c (k.write d r)) ∧
    (∀ r : Word, r.toInt = im.toInt * 2 ^ 16 → s.retires (.ldu c d im) c (k.write d r))

/-- On a coach that executes, with legal fields: MUL and MULI write the low 72 bits with V when the signed product leaves the
range; MULH and MULHU the high half of the signed or unsigned product. With a divisor other than 0 DIV and REM write the
truncating signed quotient and remainder, V exactly for -2^71 by -1; DIVU and REMU the unsigned ones, V = 0; DZ = 0. With
divisor 0 the quotient is 0 and the remainder the dividend, DZ = 1, V = 0. C is 0. MULC, DIVC, REMC, DIVUC and REMUC retire
the same way when neither V nor DZ would be set, and take the arithmetic trap otherwise, with TVAL 1 for V and 2 for DZ. Only
that coach's core and gates change. -/
def Obligations.MultiplyAndDivide : Prop :=
  ∀ (s : State) (c : CoachRef) (d a b : RegField) (imm : BitVec 16),
    let k := s.coachOf c.ix
    let x := k.read a
    let y := k.read b
    let z : Word := imm.signExtend 72
    let corner : Bool := decide (x.toInt = -(2 ^ 71) ∧ y.toInt = -1)
    s.executes c → k.legal d → k.legal a → k.legal b →
    s.retires (.mul c d a b) c ((k.write d (x * y)).nzcv (x * y) false (!signed72 (x.toInt * y.toInt))) ∧
    s.retires (.muli c d a imm) c ((k.write d (x * z)).nzcv (x * z) false (!signed72 (x.toInt * z.toInt))) ∧
    (∀ r : Word, r.toInt * 2 ^ 72 + (x * y).toNat = x.toInt * y.toInt → s.retires (.mulh c d a b) c ((k.write d r).nzcv r false false)) ∧
    (∀ r : Word, r.toNat * 2 ^ 72 + (x * y).toNat = x.toNat * y.toNat → s.retires (.mulhu c d a b) c ((k.write d r).nzcv r false false)) ∧
    (signed72 (x.toInt * y.toInt) = true → s.retires (.mulc c d a b) c ((k.write d (x * y)).nzcv (x * y) false false)) ∧
    (signed72 (x.toInt * y.toInt) = false → s.traps (.mulc c d a b) c 0x02 1 0 (insnRR 0x02 0x001 d a b)) ∧
    (y ≠ 0 →
      (∀ q : Word, q = BitVec.ofInt 72 (x.toInt.tdiv y.toInt) →
        s.retires (.div c d a b) c ((k.write d q).nzvd q corner false) ∧
        (corner = false → s.retires (.divc c d a b) c ((k.write d q).nzvd q false false))) ∧
      (∀ m : Word, m.toInt = x.toInt.tmod y.toInt →
        s.retires (.rem c d a b) c ((k.write d m).nzvd m corner false) ∧
        (corner = false → s.retires (.remc c d a b) c ((k.write d m).nzvd m false false))) ∧
      (corner = true → s.traps (.divc c d a b) c 0x02 1 0 (insnRR 0x02 0x005 d a b) ∧
        s.traps (.remc c d a b) c 0x02 1 0 (insnRR 0x02 0x007 d a b)) ∧
      (∀ q : Word, q.toNat = x.toNat / y.toNat → s.retires (.divu c d a b) c ((k.write d q).nzvd q false false) ∧
        s.retires (.divuc c d a b) c ((k.write d q).nzvd q false false)) ∧
      (∀ m : Word, m.toNat = x.toNat % y.toNat → s.retires (.remu c d a b) c ((k.write d m).nzvd m false false) ∧
        s.retires (.remuc c d a b) c ((k.write d m).nzvd m false false))) ∧
    (y = 0 →
      (∀ i ∈ [Instr.div c d a b, .divu c d a b], s.retires i c ((k.write d 0).nzvd 0 false true)) ∧
      (∀ i ∈ [Instr.rem c d a b, .remu c d a b], s.retires i c ((k.write d x).nzvd x false true)) ∧
      s.traps (.divc c d a b) c 0x02 2 0 (insnRR 0x02 0x005 d a b) ∧ s.traps (.remc c d a b) c 0x02 2 0 (insnRR 0x02 0x007 d a b) ∧
      s.traps (.divuc c d a b) c 0x02 2 0 (insnRR 0x02 0x00A d a b) ∧ s.traps (.remuc c d a b) c 0x02 2 0 (insnRR 0x02 0x00B d a b))

/-- On a coach that executes, with legal fields, the shifts retire with each bit moved by the full unsigned amount, zeros in
(SAR: copies of bit 71), C the OR of the bits that leave the word and V = 0; the amount is the whole of b or the immediate.
ADDS, SUBS and MULS write the exact result clamped to -2^71 and 2^71-1, V exactly when clamped, C = 0. N and Z are those of
the result. With an index of 0-8 BXT and BXTI write the byte zero-extended, BXTS sign-extended, BINS and BINSI replace the
byte of d by the low byte of a; V = 0 and the other flags are kept. With a register index of 9 or more BXT and BXTS write 0
and BINS writes no register and folds nothing; V = 1 with V_SEEN. BXTI and BINSI with an immediate of 9 or more take the
illegal-instruction trap. Only that coach's core and gates change. -/
def Obligations.ShiftsSaturationAndBytes : Prop :=
  (∀ (s : State) (c : CoachRef) (d a b : RegField) (imm : BitVec 16),
     let k := s.coachOf c.ix
     let x := k.read a
     let y := k.read b
     let clamp (v : Int) : Int := if v < -(2 ^ 71) then -(2 ^ 71) else if 2 ^ 71 ≤ v then 2 ^ 71 - 1 else v
     s.executes c → k.legal d → k.legal a → k.legal b →
     (∀ (n : Nat) (r : Word), (∀ i < 72, bit r i = (decide (n ≤ i) && bit x (i - n))) →
       let cy := (List.range 72).any fun i => decide (72 ≤ i + n) && bit x i
       (n = y.toNat → s.retires (.shl c d a b) c ((k.write d r).nzcv r cy false)) ∧
       (n = imm.toNat → s.retires (.shli c d a imm) c ((k.write d r).nzcv r cy false))) ∧
     (∀ (n : Nat) (r : Word), (∀ i < 72, bit r i = bit x (i + n)) →
       let cy := (List.range 72).any fun i => decide (i < n) && bit x i
       (n = y.toNat → s.retires (.shr c d a b) c ((k.write d r).nzcv r cy false)) ∧
       (n = imm.toNat → s.retires (.shri c d a imm) c ((k.write d r).nzcv r cy false))) ∧
     (∀ (n : Nat) (r : Word), (∀ i < 72, bit r i = if i + n < 72 then bit x (i + n) else bit x 71) →
       let cy := (List.range 72).any fun i => decide (i < n) && bit x i
       (n = y.toNat → s.retires (.sar c d a b) c ((k.write d r).nzcv r cy false)) ∧
       (n = imm.toNat → s.retires (.sari c d a imm) c ((k.write d r).nzcv r cy false))) ∧
     (∀ r : Word, r.toInt = clamp (x.toInt + y.toInt) →
       s.retires (.adds c d a b) c ((k.write d r).nzcv r false (!signed72 (x.toInt + y.toInt)))) ∧
     (∀ r : Word, r.toInt = clamp (x.toInt - y.toInt) →
       s.retires (.subs c d a b) c ((k.write d r).nzcv r false (!signed72 (x.toInt - y.toInt)))) ∧
     (∀ r : Word, r.toInt = clamp (x.toInt * y.toInt) →
       s.retires (.muls c d a b) c ((k.write d r).nzcv r false (!signed72 (x.toInt * y.toInt))))) ∧
  (∀ (s : State) (c : CoachRef) (d a b : RegField) (imm : BitVec 16),
     let k := s.coachOf c.ix
     let x := k.read a
     let n := (k.read b).toNat
     let byteOf (w : Word) (j : Nat) : BitVec 8 := BitVec.ofNat 8 (w.toNat / 2 ^ (8 * j))
     s.executes c → k.legal d → k.legal a → k.legal b →
     (n < 9 → s.retires (.bxt c d a b) c ((k.write d ((byteOf x n).setWidth 72)).vOnly false) ∧
       s.retires (.bxts c d a b) c ((k.write d ((byteOf x n).signExtend 72)).vOnly false) ∧
       ∀ r : Word, (∀ j < 9, byteOf r j = if j = n then byteOf x 0 else byteOf (k.read d) j) →
         s.retires (.bins c d a b) c ((k.write d r).vOnly false)) ∧
     (9 ≤ n → s.retires (.bxt c d a b) c ((k.write d 0).vOnly true) ∧ s.retires (.bxts c d a b) c ((k.write d 0).vOnly true) ∧
       s.retires (.bins c d a b) c (k.vOnly true)) ∧
     (imm.toNat < 9 → s.retires (.bxti c d a imm) c ((k.write d ((byteOf x imm.toNat).setWidth 72)).vOnly false) ∧
       ∀ r : Word, (∀ j < 9, byteOf r j = if j = imm.toNat then byteOf x 0 else byteOf (k.read d) j) →
         s.retires (.binsi c d a imm) c ((k.write d r).vOnly false)) ∧
     (9 ≤ imm.toNat → s.traps (.bxti c d a imm) c 0x01 0 0 (insnI 0x1A d a imm) ∧ s.traps (.binsi c d a imm) c 0x01 0 0 (insnI 0x1B d a imm)))

/-- On a coach that executes, each conditional branch retires: where its row's condition on N, Z, C and V holds, execution
continues at the branch's own address plus the signed displacement; else at the next instruction. Nothing else of the core but
the retired counts changes, and nothing outside it but gates. -/
def Obligations.ConditionalBranches : Prop :=
  ∀ (s : State) (c : CoachRef) (disp : BitVec 28),
    let k := s.coachOf c.ix
    let n := bit k.flags 4
    let z := bit k.flags 3
    let cy := bit k.flags 2
    let v := bit k.flags 1
    let branch (i : Instr) (taken : Prop) : Prop :=
      (taken → s.runsTo i c (k.goes (BitVec.ofInt 41 (k.pc.toNat + disp.toInt)))) ∧ (¬ taken → s.retires i c k)
    s.executes c →
    branch (.beq c disp) (z = true) ∧ branch (.bne c disp) (z = false) ∧
    branch (.blt c disp) (n ≠ v) ∧ branch (.bge c disp) (n = v) ∧
    branch (.ble c disp) (z = true ∨ n ≠ v) ∧ branch (.bgt c disp) (z = false ∧ n = v) ∧
    branch (.blo c disp) (cy = true) ∧ branch (.bhs c disp) (cy = false) ∧
    branch (.bls c disp) (cy = true ∨ z = true) ∧ branch (.bhi c disp) (cy = false ∧ z = false) ∧
    branch (.bvs c disp) (v = true) ∧ branch (.bvc c disp) (v = false) ∧
    branch (.bmi c disp) (n = true) ∧ branch (.bpl c disp) (n = false)

/-- On a coach that executes: NOP and FENCE retire; BR and CALL go to the own address plus displacement, CALL with g15 = own
address + 1. In normal mode JMPR and CALLR go to the address in a, CALLR reading a before it writes g15, and take the
address-range trap when bits [71:41] of a are not zero. SAVE below DEPTH 7 opens the next window with k0-k6 and p0-p7 zero and
k7 = g15, at DEPTH 7 it takes window overflow; RESTORE and RET step back to the caller at DEPTH 3 and more, or 2 with none
spilled, RET to the k7 of the window left; else they take window underflow. In trap mode these five derail the coach as
illegal instructions. Only that coach's core and gates change. -/
def Obligations.JumpsCallsAndWindows : Prop :=
  ∀ (s : State) (c : CoachRef) (a : RegField) (disp : BitVec 28),
    let k := s.coachOf c.ix
    let x := k.read a
    let link (k : Coach) : Coach := k.setPhys 15 (BitVec.ofNat 72 ((k.pc.toNat + 1) % 2 ^ 41))
    let there := BitVec.ofInt 41 (k.pc.toNat + disp.toInt)
    let may : Prop := 3 ≤ k.depth ∨ (k.depth = 2 ∧ k.spilled = 0)
    let back : Coach := { k with cur := (k.cur + 6) % 7, depth := k.depth - 1 }
    s.executes c →
    s.retires (.nop c) c k ∧ s.retires (.fence c) c k ∧ s.runsTo (.br c disp) c (k.goes there) ∧
    s.runsTo (.call c disp) c ((link k).goes there) ∧
    (k.trapMode = false →
      (k.legal a → fld x 71 41 = 0 → s.runsTo (.jmpr c a) c (k.goes (BitVec.ofNat 41 x.toNat)) ∧
        s.runsTo (.callr c a) c ((link k).goes (BitVec.ofNat 41 x.toNat))) ∧
      (k.legal a → fld x 71 41 ≠ 0 → s.traps (.jmpr c a) c 0x08 x 0 (insnRR 0x07 0x004 0 a 0) ∧
        s.traps (.callr c a) c 0x08 x 0 (insnRR 0x07 0x005 0 a 0)) ∧
      (k.depth ≠ 7 → ∃ t, exec (.save c) s = .next t ∧ s.coreTo t c (t.coachOf c.ix) ∧
        let u := t.coachOf c.ix
        let w := (k.cur + 1) % 7
        u.cur = w ∧ u.depth = k.depth + 1 ∧ u.spilled = k.spilled ∧ u.pc = k.pc + 1 ∧ u.retcnt = k.retcnt + 1 ∧
        u.flags = k.flags ∧ u.ef = k.ef ∧ u.trapMode = k.trapMode ∧ u.getPhys (16 + 16 * w + 7) = k.getPhys 15 ∧
        (∀ j < 16, j ≠ 7 → u.getPhys (16 + 16 * w + j) = 0) ∧
        (∀ r, r < 16 + 16 * w ∨ 32 + 16 * w ≤ r → u.getPhys r = k.getPhys r) ∧
        u.sig = sigFold k.sig (BitVec.ofNat 72 (2 ^ 71 + (16 + 16 * w + 7))) (k.getPhys 15)) ∧
      (k.depth = 7 → s.traps (.save c) c 0x03 0 0 (insnRR 0x07 0x001 0 0 0)) ∧
      (may → s.retires (.restore c) c back ∧
        s.runsTo (.ret c) c (back.goes (BitVec.ofNat 41 (k.getPhys (16 + 16 * k.cur + 7)).toNat))) ∧
      (¬ may → s.traps (.restore c) c 0x04 0 0 (insnRR 0x07 0x002 0 0 0) ∧ s.traps (.ret c) c 0x04 0 0 (insnRR 0x07 0x003 0 0 0))) ∧
    (k.trapMode = true → ∀ i ∈ [Instr.save c, .restore c, .ret c, .jmpr c a, .callr c a],
      ∃ t, exec i s = .next t ∧ t.coachOf c.ix = k ∧ (t.cstOf c.ix).derailed = true ∧ (t.cstOf c.ix).stopped = true ∧ t.gatesSafe)

/-- On a coach that executes in normal mode with a readable vector word, ILLEGAL_INSTRUCTION of a word that is no legal
instruction, and so of every word with a reserved opcode, takes trap 0x01 with TINSN the word (of a legal one it changes no
more than gates), and TRAP 0-255 retires and takes trap 0x0D with TVAL the immediate and TPC the next instruction: the eight
trap-state registers are written and folded, trap mode is entered, execution goes on at the vector word's address; an
immediate from 256 is illegal. An illegal register field of ADD, ADDI or LD takes trap 0x01. With the vector's partition
closed the coach derails. In trap mode every one of these derails the coach: it stops, TRAP retired and else its core
unchanged, the copy of a locked slot registering a mismatch. -/
def Obligations.TrapEntry : Prop :=
  ∀ (s : State) (c : CoachRef) (insn : BitVec 36) (imm : BitVec 16) (d a b : RegField),
    let k := s.coachOf c.ix
    let derails (i : Instr) : Prop := ∃ t, exec i s = .next t ∧ (t.cstOf c.ix).derailed = true ∧ (t.cstOf c.ix).stopped = true ∧ t.gatesSafe
    let op := fld insn 35 28
    s.executes c →
    ((s.cpu c).legal c insn = false → s.traps (.illegalInstruction c insn) c 0x01 0 0 (insn.setWidth 72)) ∧
    (op = 0 ∨ op = 6 ∨ (8 ≤ op ∧ op ≤ 0xF) ∨ (0x1C ≤ op ∧ op ≤ 0x1F) ∨ (0x24 ≤ op ∧ op ≤ 0x2F) ∨ 0x45 ≤ op →
      s.traps (.illegalInstruction c insn) c 0x01 0 0 (insn.setWidth 72)) ∧
    ((s.cpu c).legal c insn = true → s.runsTo (.illegalInstruction c insn) c k) ∧
    (256 ≤ imm.toNat → s.traps (.trap c imm) c 0x01 0 0 (insnI 0x40 0 0 imm)) ∧
    (¬ k.legal d ∨ ¬ k.legal a ∨ ¬ k.legal b → s.traps (.add c d a b) c 0x01 0 0 (insnRR 0x01 0x000 d a b)) ∧
    (¬ k.legal d ∨ ¬ k.legal a →
      s.traps (.addi c d a imm) c 0x01 0 0 (insnI 0x10 d a imm) ∧ s.traps (.ld c d a imm) c 0x01 0 0 (insnI 0x20 d a imm)) ∧
    (k.trapMode = false → imm.toNat < 256 → ∀ w, s.vector c 0x0D w →
      s.runsTo (.trap c imm) c (({ k with retcnt := k.retcnt + 1, cplcnt := k.cplcnt + 1 } : Coach).trapped (k.pc + 1) 0x0D
        (BitVec.ofNat 72 imm.toNat) 0 (insnI 0x40 0 0 imm) w)) ∧
    (k.trapMode = false → bit (Tab.get (0 : Word) k.ptbr 0) 71 = false →
      ((s.cpu c).legal c insn = false → derails (.illegalInstruction c insn)) ∧ derails (.trap c imm)) ∧
    (k.trapMode = true →
      let stops (i : Instr) (k' : Coach) : Prop := ∃ t, exec i s = .next t ∧ t.coachOf c.ix = k' ∧ (t.cstOf c.ix).derailed = true ∧
        (t.cstOf c.ix).stopped = true ∧ t.gatesSafe ∧
        ∀ p, s.slotOfCoach c.side c.coach.val = some p → (s.slotOf p).st = .locked →
          (t.slotOf p).st = .testing ∧ (t.slotOf p).cause = 6 ∧ (t.slotOf p).mismatched = true ∧ bit (t.halfOf c.side).mismatch p = true
      ((s.cpu c).legal c insn = false → stops (.illegalInstruction c insn) k) ∧
      (256 ≤ imm.toNat → stops (.trap c imm) k) ∧ (imm.toNat < 256 → stops (.trap c imm) (k.goes (k.pc + 1))))

/-- On a coach that executes in trap mode TRET restores FLAGS from bits [4:0] of TFLAGS and PART from bits [3:0] of TPART,
whatever their other bits hold, leaves trap mode and continues at TPC; after a handler has put TPC + 1 into TPC it continues
one instruction further. It retires like another instruction; nothing else of the core changes, and nothing outside it but
gates. -/
def Obligations.TrapReturn : Prop :=
  (∀ (s : State) (c : CoachRef), s.executes c → (s.coachOf c.ix).trapMode = true →
    let k := s.coachOf c.ix
    let flags := BitVec.ofNat 5 (fld (k.getPhys 140) 4 0)
    let part := BitVec.ofNat 4 (fld (k.getPhys 141) 3 0)
    s.runsTo (.tret c) c (({ k with flags := flags, part := part, trapMode := false } : Coach).goes
      (BitVec.ofNat 41 (k.getPhys 136).toNat))) ∧
  (∀ (s : State) (c : CoachRef) (a : RegField), s.executes c → (s.coachOf c.ix).trapMode = true → (s.coachOf c.ix).legal a →
    (s.coachOf c.ix).cplcnt + 1 ≠ 4095 → (s.coachOf c.ix).read a = (s.coachOf c.ix).getPhys 136 + 1 →
    ∃ t u, exec (.wrsr c a 0x08) s = .next t ∧ exec (.tret c) t = .next u ∧
      (u.coachOf c.ix).pc = BitVec.ofNat 41 ((s.coachOf c.ix).getPhys 136).toNat + 1)

/-- On a coach that executes in trap mode: TLBF and ISYNC retire. SPILL at DEPTH 3 or more, its 16 words mapped for stores to
distinct words of frame memory outside the tables walked, stores the oldest resident window there, k first, lowers DEPTH,
raises SPILLED and clears Z; every other word is unchanged. FILL with a window spilled and DEPTH below 7, its words mapped for
loads, loads the window below the oldest resident one, raises DEPTH, lowers SPILLED and clears Z. SPILL at DEPTH 2 or less,
and FILL with nothing spilled or at DEPTH 7, only set Z. With the first word's address out of range the coach derails with its
window status kept. In normal mode all four take the illegal-instruction trap. -/
def Obligations.SpillFillAndTrapModeInstructions : Prop :=
  ∀ (s : State) (c : CoachRef) (a : RegField),
    let k := s.coachOf c.ix
    let x := k.read a
    let zFlag (z : Bool) : BitVec 5 := flagBits (bit k.flags 4) z (bit k.flags 2) (bit k.flags 1) (bit k.flags 0)
    s.executes c → k.legal a →
    (k.trapMode = true →
      s.retires (.tlbf c) c k ∧ s.retires (.isync c) c k ∧
      (k.depth ≤ 2 → s.retires (.spill c a) c { k with flags := zFlag true }) ∧
      (k.spilled = 0 ∨ 7 ≤ k.depth → s.retires (.fill c a) c { k with flags := zFlag true }) ∧
      (∀ pa : Nat → Nat, 3 ≤ k.depth → k.depth ≤ 7 → x.toNat + 16 ≤ 2 ^ 40 →
        (∀ j < 16, s.maps c 0 true (x.toNat + j) kStore (pa j) ∧ pa j < 0x800000) →
        (∀ i < 16, ∀ j < 16, pa i = pa j → i = j) →
        (∀ j < 16, ∀ l < 16, pa l ≠ s.entry1 c 0 (x.toNat + j) ∧ pa l ≠ s.entry2 c 0 (x.toNat + j)) →
        ∃ t, exec (.spill c a) s = .next t ∧
          let w := (k.cur + 8 - k.depth) % 7
          let u := t.coachOf c.ix
          u.depth = k.depth - 1 ∧ u.spilled = k.spilled + 1 ∧ u.cur = k.cur ∧ u.flags = zFlag false ∧ u.pc = k.pc + 1 ∧ u.regs = k.regs ∧
          ∀ f : Nat → Option Word, (∀ j < 16, f (pa j) = some (k.getPhys (16 + 16 * w + j))) →
            (∀ q, (∀ j < 16, pa j ≠ q) → f q = none) → s.stored t c f) ∧
      (∀ pa : Nat → Nat, 0 < k.spilled → k.depth < 7 → x.toNat + 16 ≤ 2 ^ 40 →
        (∀ j < 16, s.maps c 0 true (x.toNat + j) kLoad (pa j) ∧ pa j < 0x800000 ∧ pa j ∉ s.errWords c.side) →
        ∃ t, exec (.fill c a) s = .next t ∧ s.coreTo t c (t.coachOf c.ix) ∧
          let w := (k.cur + 7 - k.depth) % 7
          let u := t.coachOf c.ix
          u.depth = k.depth + 1 ∧ u.spilled = k.spilled - 1 ∧ u.cur = k.cur ∧ u.flags = zFlag false ∧ u.pc = k.pc + 1 ∧
          (∀ j < 16, u.getPhys (16 + 16 * w + j) = s.sees c (pa j)) ∧
          (∀ r, r < 16 + 16 * w ∨ 32 + 16 * w ≤ r → u.getPhys r = k.getPhys r)) ∧
      (fld x 71 40 ≠ 0 → ∀ i : Instr, (i = .spill c a ∧ 3 ≤ k.depth) ∨ (i = .fill c a ∧ 0 < k.spilled ∧ k.depth < 7) →
        ∃ t, exec i s = .next t ∧ t.coachOf c.ix = k ∧ (t.cstOf c.ix).derailed = true ∧ t.gatesSafe)) ∧
    s.traps (.spill c a) c 0x01 0 0 (insnRR 0x07 0x007 0 a 0) ∧ s.traps (.fill c a) c 0x01 0 0 (insnRR 0x07 0x008 0 a 0) ∧
    s.traps (.tlbf c) c 0x01 0 0 (insnRR 0x07 0x009 0 0 0) ∧ s.traps (.isync c) c 0x01 0 0 (insnRR 0x07 0x00A 0 0 0)

/-- On a coach that executes, with legal fields: where a + imm maps for the access, LD writes d with the word of frame memory
as the coach sees it, of scratch, or on a coach that is not locked of the device region where its value is known; ST writes
the word of frame memory with d, in a locked copy's own buffer, folds it and leaves every other word of both sides unchanged,
and outside a locked slot a device word, which a depot queue of the slot takes; XCHG gives d the word and the word the old d,
the register folded first. Bits [71:40] of the address not zero take trap 0x08 with TVAL the address; a partition without a
table takes 0x06 for LD and 0x07 for ST and XCHG with TVAL the virtual address and KIND in TDETAIL; a device address mapped on
a locked slot takes 0x06 at LD. A word with an uncorrectable error takes trap 0x0C at LD. -/
def Obligations.LoadsAndStores : Prop :=
  ∀ (s : State) (c : CoachRef) (d a : RegField) (imm : BitVec 16),
    let k := s.coachOf c.ix
    let addr : Word := k.read a + imm.signExtend 72
    let va := addr.toNat
    let part := if k.trapMode then 0 else k.part.toNat
    let one (pa : Nat) (w : Word) (q : Nat) : Option Word := if q = pa then some w else none
    s.executes c → k.legal d → k.legal a →
    (fld addr 71 40 = 0 →
      (∀ pa, s.maps c part k.trapMode va kLoad pa → pa ∉ s.errWords c.side →
        (pa < 0x800000 → s.retires (.ld c d a imm) c (k.write d (s.sees c pa))) ∧
        (0x100000000 ≤ pa → pa ≤ 0x1000071C6 → s.retires (.ld c d a imm) c (k.write d (Tab.get 0 k.scratch (pa - 0x100000000)))) ∧
        (0x200000000 ≤ pa → pa ≤ 0x200FFFFFF → s.lockedCoach c = false →
          ∃ t, exec (.ld c d a imm) s = .next t ∧ (t.coachOf c.ix).pc = k.pc + 1 ∧ t.mem = s.mem ∧
            ∀ w, Tab.get none (s.liveDevice c) (pa - 0x200000000) = some w → t.coachOf c.ix = (k.write d w).goes (k.pc + 1))) ∧
      (∀ pa, s.maps c part k.trapMode va kLoad pa → pa ∈ s.errWords c.side → pa < 0x800000 → k.trapMode = false →
        ∀ w, s.vector c 0x0C w → ∃ t, exec (.ld c d a imm) s = .next t ∧ t.coachOf c.ix =
          k.trapped k.pc 0x0C addr 1 (insnI 0x20 d a imm) w) ∧
      (∀ pa, s.maps c part k.trapMode va kLoad pa → 0x200000000 ≤ pa → s.lockedCoach c = true →
        s.traps (.ld c d a imm) c 0x06 addr 1 (insnI 0x20 d a imm)) ∧
      (∀ pa, s.maps c part k.trapMode va kStore pa → pa < 0x800000 →
        ∃ t, exec (.st c d a imm) s = .next t ∧ s.stored t c (one pa (k.read d)) ∧
          t.coachOf c.ix = ({ k with sig := sigFold k.sig (BitVec.ofNat 72 (2 ^ 70 + va)) (k.read d) } : Coach).goes (k.pc + 1)) ∧
      (∀ pa, s.maps c part k.trapMode va kStore pa → 0x200000000 ≤ pa → pa ≤ 0x200FFFFFF → s.lockedCoach c = false →
        ∃ t, exec (.st c d a imm) s = .next t ∧ t.coachOf c.ix = k.goes (k.pc + 1) ∧
          (∀ q, Tab.get (0 : Word) (t.mem.get c.side).frame q = Tab.get 0 (s.mem.get c.side).frame q) ∧
          (∀ q, Tab.get (0 : Word) (t.mem.get c.side).device q =
            if q = pa - 0x200000000 then k.read d else Tab.get 0 (s.mem.get c.side).device q) ∧
          t.mem.get c.side.other = s.mem.get c.side.other ∧
          ∀ p r, s.slotOfCoach c.side c.coach.val = some p → Config.queueWord (pa - 0x200000000) = some r → r ∈ Config.splitQueues p →
            (s.queueOf r).live = true → (t.queueOf r).words = (s.queueOf r).words ++ [k.read d]) ∧
      (∀ pa, s.maps c part k.trapMode va kStore pa → 0x100000000 ≤ pa → pa ≤ 0x1000071C6 →
        ∃ t, exec (.st c d a imm) s = .next t ∧ t.mem = s.mem ∧ t.slot = s.slot ∧ Tab.get 0 (t.coachOf c.ix).scratch (pa - 0x100000000) = k.read d ∧
          (∀ q, q ≠ pa - 0x100000000 → Tab.get (0 : Word) (t.coachOf c.ix).scratch q = Tab.get 0 k.scratch q)) ∧
      (∀ pa, s.maps c part k.trapMode va kXchg pa → pa ∉ s.errWords c.side → pa < 0x800000 →
        ∃ t, exec (.xchg c d a imm) s = .next t ∧
          let u := k.write d (s.sees c pa)
          t.coachOf c.ix = ({ u with sig := sigFold u.sig (BitVec.ofNat 72 (2 ^ 70 + va)) (k.read d) } : Coach).goes (k.pc + 1) ∧
          s.stored t c (one pa (k.read d))) ∧
      (bit (Tab.get (0 : Word) k.ptbr part) 71 = false → s.traps (.ld c d a imm) c 0x06 addr 1 (insnI 0x20 d a imm) ∧
        s.traps (.st c d a imm) c 0x07 addr 2 (insnI 0x21 d a imm) ∧ s.traps (.xchg c d a imm) c 0x07 addr 3 (insnI 0x22 d a imm))) ∧
    (fld addr 71 40 ≠ 0 → s.traps (.ld c d a imm) c 0x08 addr 0 (insnI 0x20 d a imm) ∧
      s.traps (.st c d a imm) c 0x08 addr 0 (insnI 0x21 d a imm) ∧ s.traps (.xchg c d a imm) c 0x08 addr 0 (insnI 0x22 d a imm))

/-- On a coach that executes, with legal fields: RDSR gives FLAGS, EF, RETCNT, WSTAT, PART, SLOT and VBASE in both modes, and
the trap-state registers and table bases in trap mode; it writes no flag. WRSR writes FLAGS and EF whole; in trap mode VBASE
with bits [3:0] and [71:40] zero, a trap-state register with its fold, a table base with V and BASE alone. A write to RETCNT,
WSTAT, PART or SLOT, a write to VBASE or any access to 0x08-0x1F in normal mode, and either on a reserved number takes the
illegal-instruction trap. Only that coach's core and gates change. -/
def Obligations.SpecialRegisters : Prop :=
  ∀ (s : State) (c : CoachRef) (d a : RegField) (imm : BitVec 16),
    let k := s.coachOf c.ix
    let x := k.read a
    let n := imm.toNat
    s.executes c → k.legal d → k.legal a →
    s.retires (.rdsr c d 0x00) c (k.write d (BitVec.ofNat 72 k.flags.toNat)) ∧
    s.retires (.rdsr c d 0x01) c (k.write d (BitVec.ofNat 72 k.ef.toNat)) ∧
    s.retires (.rdsr c d 0x02) c (k.write d (BitVec.ofNat 72 k.retcnt)) ∧
    (k.cur < 7 → k.depth < 8 → k.spilled < 2 ^ 16 → ∀ r : Word, fld r 4 0 = k.cur → fld r 7 5 = k.depth → fld r 71 8 = k.spilled →
      s.retires (.rdsr c d 0x03) c (k.write d r)) ∧
    s.retires (.rdsr c d 0x04) c (k.write d (BitVec.ofNat 72 k.part.toNat)) ∧
    s.retires (.rdsr c d 0x05) c (k.write d (BitVec.ofNat 72 k.slotNo.toNat)) ∧
    s.retires (.rdsr c d 0x06) c (k.write d k.vbase) ∧
    s.retires (.wrsr c a 0x00) c { k with flags := BitVec.ofNat 5 (fld x 4 0) } ∧
    s.retires (.wrsr c a 0x01) c { k with ef := BitVec.ofNat 2 (fld x 1 0) } ∧
    (k.trapMode = true →
      (∀ v : Word, fld v 71 40 = 0 → fld v 3 0 = 0 → fld v 39 4 = fld x 39 4 → s.retires (.wrsr c a 0x06) c { k with vbase := v }) ∧
      (0x08 ≤ n → n ≤ 0x0F → s.retires (.rdsr c d imm) c (k.write d (k.getPhys (128 + n))) ∧
        s.retires (.wrsr c a imm) c (k.setPhys (128 + n) x)) ∧
      (0x10 ≤ n → n ≤ 0x1F → s.retires (.rdsr c d imm) c (k.write d (Tab.get 0 k.ptbr (n - 0x10))) ∧
        ∀ v : Word, bit v 71 = bit x 71 → fld v 35 14 = fld x 35 14 → fld v 70 36 = 0 → fld v 13 0 = 0 →
          s.retires (.wrsr c a imm) c { k with ptbr := Tab.set 0 k.ptbr (n - 0x10) v })) ∧
    (n = 0x07 ∨ (0x08 ≤ n ∧ n ≤ 0x1F) ∨ 0x20 ≤ n → s.traps (.rdsr c d imm) c 0x01 0 0 (insnI 0x43 d 0 imm)) ∧
    (0x02 ≤ n → s.traps (.wrsr c a imm) c 0x01 0 0 (insnI 0x44 0 a imm))

/-- CPL, FEND and the 4,096th instruction since the last coupling are couplings: the count restarts, and a locked copy sends
signature, retired count and, at FEND, the output signature to both units, behind those that wait there; FEND makes it wait,
and a split copy that waits goes on with SPLIT_FEND_RESUME. COUPLING_SIGNATURE, DERAIL_NOTICE and BANK_NOTICE wait in ticks
0-2 and then arrive behind those that have waited. A side compares the oldest values of both copies of a LOCKED or SHADOW
slot: equal ones with a lag of 0-512, not evaluated after a resume, verify, with LAST_CPL, the regulated hold of its own copy
and, for a final coupling in time, its buffer as verified state; when both sides have it the overruns are 0. Unequal ones
register SIG, COUNT, OUTPUT or LAG, in that order. COUPLING_TIMEOUT with its own values and not the other's, DERAIL_NOTICE of
a derailed copy and BANK_NOTICE of a bank stop register causes 4, 6 and 9. Registering asserts the side's lattice signal,
stops its copy and discards its buffer; the first side makes the slot TESTING with the cause, puts its functions in FAULT,
reports 0x0301 and, but for BANK, tests both coaches; the second registers for itself alone. Without both values nothing
changes. -/
def Obligations.CouplingsAndMismatches : Prop :=
  (∀ (s : State) (c : CoachRef), s.ready c → (s.coachOf c.ix).trapMode = false →
    let k := s.coachOf c.ix
    let after : Coach := { k with pc := k.pc + 1, retcnt := k.retcnt + 1, cplcnt := 0 }
    let sends (i : Instr) (fin : Bool) : Prop :=
      ∃ t, exec i s = .next t ∧ t.coachOf c.ix = after ∧ (t.cstOf c.ix).waitFend = fin ∧ t.gatesSafe ∧
        (∀ p, s.slotOfCoach c.side c.coach.val = some p → (s.slotOf p).st ≠ .split →
          let v : CplVals := ⟨k.sig, k.retcnt + 1, fin, if fin then s.outSig c.side p else 0⟩
          (t.slotOf p).cplA.get c.side = (s.slotOf p).cplA.get c.side ++ [v] ∧ (t.slotOf p).cplB.get c.side = (s.slotOf p).cplB.get c.side ++ [v] ∧
          (t.slotOf p).cplA.get c.side.other = (s.slotOf p).cplA.get c.side.other) ∧
        (∀ p, s.slotOfCoach c.side c.coach.val = some p → (s.slotOf p).st = .split → t.slot = s.slot)
    sends (.cpl c) false ∧ sends (.fend c) true ∧ (k.cplcnt = 4095 → sends (.nop c) false)) ∧
  (∀ (s : State) (c : CoachRef), s.lockedCoach c = false → (s.cstOf c.ix).waitFend = true →
    ∃ t, exec (.splitFendResume c) s = .next t ∧ t.cstOf c.ix = { s.cstOf c.ix with waitFend := false } ∧
      (∀ j, j ≠ c.ix → t.cstOf j = s.cstOf j) ∧ t = { s with coachSt := t.coachSt, term := t.term } ∧ s.outsOnly t) ∧
  (∀ (s : State) (c : CoachRef), s.lockedCoach c = true ∨ (s.cstOf c.ix).waitFend = false → s.ends (.splitFendResume c) s) ∧
  (∀ (s : State) (i : Instr), (∃ d p lag, i = .couplingSignature d p lag ∨ i = .derailNotice d p ∨ i = .bankNotice d p) →
    (s.clock.tick < 3 → exec i s = .next { s with linkWait := linkInsert i s.linkWait }) ∧
    (3 ≤ s.clock.tick → exec i s = .next ((s.linkWait.foldl State.linkRun { s with linkWait := [] }).linkRun i))) ∧
  (∀ (s : State) (d : Side) (p : SlotIx) (lag : Int) (a b : CplVals) (ra rb : List CplVals), 3 ≤ s.clock.tick → s.linkWait = [] →
    let x := s.slotOf p.val
    let own := s.slotCoach d p.val
    let held := match d with | .A => x.cplA | .B => x.cplB
    let first := x.st = .locked ∨ x.st = .shadow
    let second := x.st = .testing ∧ x.reg.get d.other = true ∧ x.reg.get d = false
    let asserts (t : State) : Prop :=
      bit (t.halfOf d).mismatch p.val = true ∧ (∀ k < 48, k ≠ p.val → bit (t.halfOf d).mismatch k = bit (s.halfOf d).mismatch k) ∧
      t.halfOf d.other = s.halfOf d.other ∧ (t.cstOf own).stopped = true ∧ (t.slotOf p.val).reg.get d = true ∧
      (t.slotOf p.val).work.get d = [] ∧ t.mem = s.mem ∧ t.gatesSafe
    let registers (i : Instr) (cause : Nat) : Prop :=
      ∃ t, exec i s = .next t ∧
        (first → asserts t ∧ (t.slotOf p.val).reg.get d.other = false ∧ (t.slotOf p.val).st = .testing ∧ (t.slotOf p.val).cause = cause ∧
          (∀ f ∈ s.fnsOfSlot p.val, (t.fnOf f).st = .fault ∧ (t.fnOf f).next = none) ∧
          (∀ f, f ∉ s.fnsOfSlot p.val → t.fnOf f = s.fnOf f) ∧
          (x.hand = none → s.sourceOf p.val = none → s.reports t 0x0301 (nSlot p.val) 3 cause) ∧
          (cause ≠ 9 → ∀ e : Side, s.isRetired (nCoach (s.slotCoach e p.val)) tcCoach = false →
            (t.tests.find (nCoach (s.slotCoach e p.val)) tcCoach).isSome = true)) ∧
        (second → asserts t ∧ t = { s with half := t.half, coachSt := t.coachSt, slot := t.slot, term := t.term } ∧
          (∀ j, j ≠ own → t.cstOf j = s.cstOf j) ∧ (∀ q, q ≠ p.val → t.slotOf q = s.slotOf q) ∧
          (t.slotOf p.val).st = .testing ∧ (t.slotOf p.val).cause = x.cause ∧ (t.slotOf p.val).bankWait = (x.bankWait || decide (cause = 9)))
    ((held.get d ≠ [] → held.get d.other = [] → registers (.couplingTimeout d p) 4) ∧
     (held.get d = [] ∨ held.get d.other ≠ [] → s.ends (.couplingTimeout d p) s)) ∧
    (((s.cstOf (s.slotCoach d.other p.val)).derailed = true → registers (.derailNotice d p) 6) ∧
     ((s.cstOf (s.slotCoach d.other p.val)).derailed = false → exec (.derailNotice d p) s = .next s)) ∧
    ((x.reg.get d.other = true → x.cause = 9 → registers (.bankNotice d p) 9) ∧
     (x.reg.get d.other = false ∨ x.cause ≠ 9 → exec (.bankNotice d p) s = .next s)) ∧
    (held.a = a :: ra → held.b = b :: rb → first ∨ second →
      (a.sig ≠ b.sig → registers (.couplingSignature d p lag) 1) ∧
      (a.sig = b.sig → a.count ≠ b.count ∨ a.fin ≠ b.fin → registers (.couplingSignature d p lag) 2) ∧
      (a.sig = b.sig → a.count = b.count → a.fin = true → b.fin = true → a.outp ≠ b.outp →
        registers (.couplingSignature d p lag) 3) ∧
      (a = b → x.resumed.get d = false → lag < 0 ∨ 512 < lag → registers (.couplingSignature d p lag) 5) ∧
      (a = b → x.resumed.get d = true ∨ (0 ≤ lag ∧ lag ≤ 512) →
        ∃ t, exec (.couplingSignature d p lag) s = .next t ∧ (t.slotOf p.val).lastCpl = BitVec.ofNat 36 a.count ∧
          (t.slotOf p.val).resumed.get d = false ∧ (t.slotOf p.val).resumed.get d.other = x.resumed.get d.other ∧
          (d = .A → (t.slotOf p.val).cplA = ⟨ra, rb⟩ ∧ (t.slotOf p.val).cplB = x.cplB) ∧
          (d = .B → (t.slotOf p.val).cplB = ⟨ra, rb⟩ ∧ (t.slotOf p.val).cplA = x.cplA) ∧
          (x.resumed.get d = false → d = .A → (t.cstOf own).hold = if lag ≤ 192 then 0 else (lag - 160).toNat) ∧
          (x.resumed.get d = false → d = .B → (t.cstOf own).hold = if lag < 128 then (160 - lag).toNat else 0) ∧
          (x.resumed.get d = true → d = .B → (t.cstOf own).hold = 160) ∧
          (∀ j, j ≠ own → t.cstOf j = s.cstOf j) ∧ t.coach = s.coach ∧ t.half = s.half ∧ t.gatesSafe ∧
          (a.fin = false ∨ s.clock.cdl < s.clock.tick ∨ x.st = .testing →
            (t.slotOf p.val).st = x.st ∧ (t.slotOf p.val).ver = x.ver ∧ (t.slotOf p.val).work = x.work ∧ t.mem = s.mem ∧ t.log = s.log) ∧
          (a.fin = true → s.clock.tick ≤ s.clock.cdl → x.st ≠ .testing →
            (t.slotOf p.val).ver = x.ver.set true d ∧ (t.slotOf p.val).work = x.work.set [] d ∧
            t.mem.get d.other = s.mem.get d.other ∧
            (x.st = .locked → Tab.wf none (x.work.get d) = true → ∀ q, Tab.get (0 : Word) (t.mem.get d).frame q =
              (Tab.get none (x.work.get d) q).getD (Tab.get 0 (s.mem.get d).frame q)) ∧
            (x.ver.get d.other = true → (t.slotOf p.val).ovr = 0 ∧ (t.slotOf p.val).outNow = some a.outp)))) ∧
    (held.a = [] ∨ held.b = [] ∨ (¬ first ∧ (x.st = .testing → x.reg.get d = true)) →
      exec (.couplingSignature d p lag) s = .next s))

/-- A passing targeted test of both coaches of a slot that is not SPLIT ends both tests with one more transient each (0x0A02),
the slot unchanged and their scratch cleared; a failing lead is retired with 0x0A03 and its map bit, and the slot waits for a
reserve of side A, or becomes RETIRED with 0x0304 when there is none (not slot 0); a split coach is judged alone.
RESERVE_ACCEPTANCE of the next reserve, powered, for the lowest slot that waits enters it in the map with 0x0303, or retires
it. The daily test of a powered reserve, when due, clears a passing one's scratch and gates its power, and retires a failing
one. COACH_POWER_UP_DONE gives power to the coach whose turn it is, once 50 us allow. When no verdict, reserve or bank is
awaited REBUILD_COMPARE, which waits in ticks 0-2, clears both coaches' scratch and lets the slot rejoin; where a side's fold
of its verified state differs from what arrives of the other's, its functions restart in FAULT with cause 0x11. SLOT_REJOIN at
a later tick-3 edge makes it LOCKED with both cores at their frame-start state, not derailed, the trail held 160 cycles.
JOIN_LBIST_DONE of a joining slot lets a passing pair rejoin and retires a failing coach. Otherwise each changes nothing but
gates. -/
def Obligations.CoachVerdictsAndReserves : Prop :=
  (∀ (s : State) (p : SlotIx) (qa qb : Test),
    let x := s.slotOf p.val
    let a := s.slotCoach .A p.val
    let b := s.slotCoach .B p.val
    x.st ≠ .split → x.mapA < 52 → x.mapB < 52 → x.mapped = true →
    s.tests.find (nCoach a) tcCoach = some qa → qa.requested = false → qa.again = false → s.transCount (nCoach a) tcCoach < 2 →
    s.tests.find (nCoach b) tcCoach = some qb → qb.requested = false → qb.again = false → s.transCount (nCoach b) tcCoach < 2 →
    (∃ t, exec (.coachTestVerdict p true true) s = .next t ∧ t.tests.find (nCoach a) tcCoach = none ∧
      t.tests.find (nCoach b) tcCoach = none ∧ s.reports t 0x0A02 (nCoach a) 2 (s.transCount (nCoach a) tcCoach + 1) ∧
      s.reports t 0x0A02 (nCoach b) 2 (s.transCount (nCoach b) tcCoach + 1) ∧
      (t.coachOf a).scratch = [] ∧ (t.coachOf b).scratch = [] ∧
      t.slot = s.slot ∧ t.coachSt = s.coachSt ∧ (∀ d, t.retireMap d = s.retireMap d) ∧ t.gatesSafe) ∧
    ((∀ q < 48, (s.slotOf q).st = .locked → q ≠ p.val → s.slotCoach .B q ≠ b) →
      ∃ t, exec (.coachTestVerdict p false true) s = .next t ∧ (t.cstOf a).retired = true ∧ (t.cstOf a).stopped = true ∧
      t.cstOf b = s.cstOf b ∧ t.isRetired (nCoach a) tcCoach = true ∧ s.reports t 0x0A03 (nCoach a) 5 a ∧ t.gatesSafe ∧
      (∀ c, s.nextReserve .A = some c → (t.slotOf p.val).waitA = true ∧ (t.slotOf p.val).st = x.st) ∧
      (s.nextReserve .A = none → p.val ≠ 0 → (t.slotOf p.val).st = .retired ∧ s.reports t 0x0304 (nSlot p.val) 5 0))) ∧
  (∀ (s : State) (p : SlotIx) (l r : Bool) (qa : Test),
    let a := s.slotCoach .A p.val
    let b := s.slotCoach .B p.val
    (s.tests.find (nCoach a) tcCoach = none → s.tests.find (nCoach b) tcCoach = none →
      ∃ t, exec (.coachTestVerdict p l r) s = .next t ∧ t.gatesSafe ∧ t.slot = s.slot ∧ t.coach = s.coach ∧ t.coachSt = s.coachSt ∧ t.tests = s.tests) ∧
    ((s.slotOf p.val).st = .split → (s.slotOf p.val).mapA < 52 → (s.slotOf p.val).mapB < 52 →
      s.tests.find (nCoach a) tcCoach = some qa → qa.requested = false → qa.again = false → s.transCount (nCoach a) tcCoach < 2 →
      s.tests.find (nCoach b) tcCoach = none →
      (∃ t, exec (.coachTestVerdict p true r) s = .next t ∧ t.gatesSafe ∧ (t.coachOf a).pc = s.splitEntry .A p.val ∧
        (t.coachOf a).regs = [] ∧ (t.coachOf a).scratch = [] ∧ (t.cstOf a).stopped = false ∧ (t.cstOf a).derailed = false ∧
        t.coachOf b = s.coachOf b ∧ t.cstOf b = s.cstOf b) ∧
      (∃ t, exec (.coachTestVerdict p false r) s = .next t ∧ t.gatesSafe ∧ (t.cstOf a).retired = true ∧ (t.cstOf a).stopped = true ∧
        t.isRetired (nCoach a) tcCoach = true ∧ t.coachOf b = s.coachOf b ∧ t.cstOf b = s.cstOf b))) ∧
  (∀ (s : State) (d : Side) (c : CoachIx) (p : SlotIx),
    let i := coachIx d c.val
    let waits (x : Slot) : Bool := match d with | .A => x.waitA | .B => x.waitB
    let lowest := waits (s.slotOf p.val) = true ∧ ∀ q < p.val, waits (s.slotOf q) = false
    let next := s.isReserve d c.val = true ∧ ∀ k < c.val, s.isReserve d k = false
    (¬ lowest ∨ ¬ next ∨ (s.cstOf i).powered = false → ∀ b, s.ends (.reserveAcceptance d c p b) s) ∧
    (lowest → next → (s.cstOf i).powered = true →
      (∃ t, exec (.reserveAcceptance d c p true) s = .next t ∧ (t.slotOf p.val).coachOn d = c.val ∧
        (t.slotOf p.val).coachOn d.other = (s.slotOf p.val).coachOn d.other ∧ waits (t.slotOf p.val) = false ∧
        ((s.slotOf p.val).st ≠ .locked → (t.slotOf p.val).mapped = true) ∧ s.reports t 0x0303 (nCoach i) 0 p.val ∧
        (s.writable = true → t.recRead d (10 + p.val) = BitVec.ofNat 72 c.val) ∧
        ((∀ q < 48, q ≠ p.val → waits (s.slotOf q) = false) → (∀ q, q ≠ p.val → t.slotOf q = s.slotOf q) ∧ t.coachSt = s.coachSt) ∧
        t.gatesSafe) ∧
      (∃ t, exec (.reserveAcceptance d c p false) s = .next t ∧ (t.cstOf i).retired = true ∧
        t.isRetired (nCoach i) tcCoach = true ∧ (p.val ≠ 0 → (t.slotOf p.val).coachOn d = (s.slotOf p.val).coachOn d))) ∧
    (s.dailyDue d c.val = false ∨ (s.cstOf i).powered = false → ∀ b, exec (.reserveDailyTest d c b) s = .next s) ∧
    (s.dailyDue d c.val = true → (s.cstOf i).powered = true →
    (∃ t, exec (.reserveDailyTest d c true) s = .next t ∧ (t.cstOf i).powering = false ∧ Tab.get 0 t.tests.dailyAt i = s.clock.count ∧ (t.cstOf i).powered = false ∧ (t.cstOf i).retired = (s.cstOf i).retired ∧
      t.coachOf i = { s.coachOf i with scratch := [] } ∧ (∀ k, k ≠ i → t.coachOf k = s.coachOf k) ∧
      t = { s with coach := t.coach, coachSt := t.coachSt, tests := { s.tests with dailyAt := t.tests.dailyAt } }) ∧
    (∃ t, exec (.reserveDailyTest d c false) s = .next t ∧ (t.cstOf i).retired = true ∧ t.isRetired (nCoach i) tcCoach = true ∧
      s.reports t 0x0A03 (nCoach i) 5 c.val))) ∧
  (∀ (s : State) (d : Side) (c : CoachIx), let i := coachIx d c.val
    let due := s.nextPowerUp d = some c.val ∧ s.tests.rise.get d ≤ s.clock.count
    (due → ∃ t, exec (.coachPowerUpDone d c) s = .next t ∧ t.cstOf i = { s.cstOf i with powered := true, powering := false } ∧
      (∀ j, j ≠ i → t.cstOf j = s.cstOf j) ∧ s.tests.rise.get d + 50 ≤ t.tests.rise.get d ∧ s.clock.count + 20 ≤ t.tests.rise.get d ∧
      t = { s with coachSt := t.coachSt, tests := { s.tests with rise := t.tests.rise } }) ∧
    (¬ due → exec (.coachPowerUpDone d c) s = .next s)) ∧
  (∀ (s : State) (p : SlotIx) (a b : Word), let x := s.slotOf p.val
    (s.clock.tick < 3 → exec (.rebuildCompare p a b) s = .next { s with linkWait := linkInsert (.rebuildCompare p a b) s.linkWait }) ∧
    (3 ≤ s.clock.tick → s.linkWait = [] → s.canRebuild p.val = false → exec (.rebuildCompare p a b) s = .next s) ∧
    (3 ≤ s.clock.tick → s.linkWait = [] → s.canRebuild p.val = true →
      ∃ t, exec (.rebuildCompare p a b) s = .next t ∧ t.slotOf p.val = { x with rebuilt := true, rebuiltAt := s.clock.count } ∧
        (∀ d, (t.coachOf (s.slotCoach d p.val)).scratch = []) ∧
        (s.stateFold .A p.val = b ∧ s.stateFold .B p.val = a → t.fn = s.fn) ∧
        (¬ (s.stateFold .A p.val = b ∧ s.stateFold .B p.val = a) → t.gatesSafe ∧
          ∀ f ∈ s.fnsOfSlot p.val, (t.fnOf f).st = .fault ∧ (t.fnOf f).cause = 0x11 ∧ (t.fnOf f).vars = [] ∧ (t.fnOf f).next = none)) ∧
    (s.canRejoin p.val = false → s.ends (.slotRejoin p) s) ∧
    (s.canRejoin p.val = true → x.mapA < 52 → x.mapB < 52 →
      ∃ t, exec (.slotRejoin p) s = .next t ∧ (t.slotOf p.val).st = .locked ∧ (t.slotOf p.val).mismatched = false ∧
        (t.slotOf p.val).awaitRel = true ∧ (t.slotOf p.val).reg = ⟨false, false⟩ ∧ t.gatesSafe ∧
        (s.clock.late = true → t.coach = s.coach ∧ t.coachSt = s.coachSt) ∧
        (s.clock.late = false → (t.cstOf (s.slotCoach .B p.val)).hold = 160 ∧
        ∀ d : Side, let k := t.coachOf (s.slotCoach d p.val)
          k.regs = [] ∧ k.pc = s.slotEntry p.val ∧ k.flags = 0 ∧ k.ef = 0 ∧ k.cur = 0 ∧ k.depth = 1 ∧ k.spilled = 0 ∧
          k.retcnt = 0 ∧ k.trapMode = false ∧ k.sig = 0xA55A5A5A5A5A5A5A5A#72 ∧ (x.shadowOf = none → k.slotNo = BitVec.ofNat 6 p.val) ∧
          (t.cstOf (s.slotCoach d p.val)).stopped = false ∧ (t.cstOf (s.slotCoach d p.val)).derailed = false)) ∧
    (x.st ≠ .testing ∨ x.joining = false ∨ s.dev.st = .holding → ∀ l r, s.ends (.joinLbistDone p l r) s) ∧
    (x.st = .testing → x.joining = true → s.dev.st ≠ .holding → x.mapA < 52 → x.mapB < 52 →
      (∃ t, exec (.joinLbistDone p true true) s = .next t ∧ t.slotOf p.val = { x with rebuilt := true, rebuiltAt := s.clock.count } ∧
        t = { s with slot := t.slot, term := t.term } ∧ t.gatesSafe) ∧
      (∃ t, exec (.joinLbistDone p false true) s = .next t ∧ (t.cstOf (s.slotCoach .A p.val)).retired = true ∧
        t.isRetired (nCoach (s.slotCoach .A p.val)) tcCoach = true ∧ (t.slotOf p.val).joining = false ∧ t.gatesSafe) ∧
      (∃ t, exec (.joinLbistDone p true false) s = .next t ∧ (t.cstOf (s.slotCoach .B p.val)).retired = true ∧
        t.isRetired (nCoach (s.slotCoach .B p.val)) tcCoach = true ∧ (t.slotOf p.val).joining = false ∧ t.gatesSafe)))

/-- HANDOVER_COPY, which waits in ticks 0-2, of a source that has verified copies its state and output area into the target's
buffers and marks the target's source. HANDOVER_EXCHANGE at the tick-0 edge after N agreeing frames makes those buffers the
state, swaps the map entries of source and target on both sides, locks changed functions, reports 0x0305, ends the shadow and
answers OK. SPLIT_APPLY at the tick-0 edge makes the slot SPLIT with each coach at its configured entry and answers OK. With
debugging enabled on a slot other than 0 whose functions are all in commissioning, a halt stops the lead, and the trail at the
same count; a breakpoint is added, a halted lead is released for one instruction and a coach so released, or one that reaches
its breakpoint, halts again; a write changes the lead alone, memory in its working buffer, and is logged with its count, never
folded; the trail applies the oldest logged write when its count has come, in ticks 3 on; resume releases both with the trail
held and the lag of the next coupling not evaluated on either side. Otherwise each changes nothing but gates. -/
def Obligations.HandoversSplitsAndDebugging : Prop :=
  (∀ (s : State) (p : SlotIx) (h : Handover), (s.slotOf p.val).hand = some h → h.target ≠ p.val →
    let x := s.slotOf p.val
    let y := s.slotOf h.target
    (s.clock.tick < 3 → exec (.handoverCopy p) s = .next { s with linkWait := linkInsert (.handoverCopy p) s.linkWait }) ∧
    (3 ≤ s.clock.tick → s.linkWait = [] →
      (h.copied = true ∨ x.verified = false → exec (.handoverCopy p) s = .next s) ∧
      (h.copied = false → x.verified = true →
        ∃ t, exec (.handoverCopy p) s = .next t ∧ (t.slotOf p.val).hand = some { h with copied := true } ∧
          t.slotOf h.target = { y with shadowOf := some p.val, buf := (t.slotOf h.target).buf } ∧
          (∀ d q, Tab.get none ((t.slotOf h.target).buf.get d) q =
            if q ∈ Config.stateArea p.val ∨ q ∈ Config.outputArea p.val then some (s.heldWord d p.val q) else none) ∧
          (∀ q, q ≠ p.val → q ≠ h.target → t.slotOf q = s.slotOf q) ∧ t = { s with slot := t.slot })) ∧
    (h.copied = false ∨ h.agreed < h.n ∨ s.clock.tick ≠ 0 → s.ends (.handoverExchange p) s) ∧
    (h.copied = true → h.n ≤ h.agreed → s.clock.tick = 0 → ∃ t, exec (.handoverExchange p) s = .next t ∧ t.gatesSafe ∧
      (t.slotOf p.val).mapA = y.mapA ∧ (t.slotOf p.val).mapB = y.mapB ∧ (t.slotOf h.target).mapA = x.mapA ∧
      (t.slotOf h.target).mapB = x.mapB ∧ (t.slotOf p.val).st = x.st ∧ (t.slotOf h.target).st = .locked ∧
      (t.slotOf h.target).testPend = s.tests.running.any (s.testsCoachOf p.val) ∧ (t.slotOf h.target).buf = ⟨[], []⟩ ∧
      (∀ d q w, Tab.wf none (y.buf.get d) = true → Tab.get none (y.buf.get d) q = some w → Tab.get (0 : Word) (t.mem.get d).frame q = w) ∧
      (∀ f ∈ s.fnsOfSlot p.val, f ∉ s.sameFns p.val → (t.fnOf f).st = .locked) ∧
      (s.sameFns p.val = s.fnsOfSlot p.val → s.reports t 0x0305 (nSlot p.val) 0 h.target) ∧
      (t.slotOf h.target).shadowOf = none ∧ (t.slotOf h.target).splitPend = h.thenSplit ∧
      (∀ d tag q op, h.thenSplit = false → h.reply = some (some d, tag, q, op) → (s.portOf d).link = true → t.replied d op tag q 0))) ∧
  (∀ (s : State) (p : SlotIx), (s.slotOf p.val).hand = none → s.ends (.handoverExchange p) s ∧
    (3 ≤ s.clock.tick → s.linkWait = [] → exec (.handoverCopy p) s = .next s)) ∧
  (∀ (s : State) (p : SlotIx), (s.slotOf p.val).splitPend = false ∨ (s.slotOf p.val).st ≠ .locked ∨ s.clock.tick ≠ 0 →
    s.ends (.splitApply p) s) ∧
  (∀ (s : State) (p : SlotIx), let x := s.slotOf p.val
    x.splitPend = true → x.st = .locked → s.clock.tick = 0 → x.mapA < 52 → x.mapB < 52 →
    ∃ t, exec (.splitApply p) s = .next t ∧ (t.slotOf p.val).st = .split ∧ (t.slotOf p.val).splitPend = false ∧ t.gatesSafe ∧
      (∀ d : Side, (t.coachOf (s.slotCoach d p.val)).pc = s.splitEntry d p.val ∧ (t.coachOf (s.slotCoach d p.val)).regs = [] ∧
        (t.cstOf (s.slotCoach d p.val)).stopped = false) ∧
      (∀ d tag q op, x.reply = some (some d, tag, q, op) → (s.portOf d).link = true → t.replied d op tag q 0)) ∧
  (∀ (s : State) (p : SlotIx) (addr : BitVec 41) (tgt : DebugTarget) (v : Word), (s.slotOf p.val).mapA < 52 → (s.slotOf p.val).mapB < 52 →
    let a := s.slotCoach .A p.val
    let b := s.slotCoach .B p.val
    let cstOnly (t : State) (i : Nat) : Prop := (∀ j, j ≠ i → t.cstOf j = s.cstOf j) ∧ t = { s with coachSt := t.coachSt }
    (s.debugStop p.val = true →
      (∃ t, exec (.debugHalt p) s = .next t ∧ t.cstOf a = { s.cstOf a with halted := true } ∧ cstOnly t a) ∧
      (∃ t, exec (.debugBreakpoint p addr) s = .next t ∧ cstOnly t a ∧ addr ∈ (t.cstOf a).breaks ∧
        (∀ z ∈ (s.cstOf a).breaks, z ∈ (t.cstOf a).breaks)) ∧
      ((s.cstOf a).halted = true → ∃ t, exec (.debugSingleStep p) s = .next t ∧ cstOnly t a ∧
        t.cstOf a = { s.cstOf a with halted := false, stepping := true }) ∧
      ((s.cstOf a).halted = false → ∃ t, exec (.debugSingleStep p) s = .next t ∧ cstOnly t a ∧ t.cstOf a = s.cstOf a)) ∧
    (∀ c : CoachRef, c.side = .B → s.slotOfCoach .B c.coach.val = some p.val → (s.slotOf p.val).st ≠ .split →
      (s.cstOf a).halted = true ∨ (s.cstOf a).stepping = true → (s.coachOf a).retcnt ≤ (s.coachOf b).retcnt → s.ends (.nop c) s) ∧
    (s.debugStop p.val = false → ∀ i ∈ [Instr.debugHalt p, .debugBreakpoint p addr, .debugSingleStep p], exec i s = .next s) ∧
    (s.debugC = true → p.val ≠ 0 →
      (∃ t, exec (.debugResume p) s = .next t ∧ t.cstOf a = { s.cstOf a with halted := false, stepping := false } ∧
        t.cstOf b = { s.cstOf b with hold := 160 } ∧ t.slotOf p.val = { s.slotOf p.val with resumed := ⟨true, true⟩ } ∧
        t = { s with coachSt := t.coachSt, slot := t.slot }) ∧
      (∃ t, exec (.debugWrite p tgt v) s = .next t ∧ t.coachOf b = s.coachOf b ∧ (t.coachOf a).sig = (s.coachOf a).sig ∧
        (t.slotOf p.val).log = (s.slotOf p.val).log ++ [((s.coachOf a).retcnt, tgt, v)] ∧
        (∀ q, q ≠ p.val → t.slotOf q = s.slotOf q) ∧ (∀ j, j ≠ a → t.coachOf j = s.coachOf j) ∧ t.coachSt = s.coachSt ∧
        (∀ va c pa, tgt = .mem va → c.side = .A → c.coach.val = (s.slotOf p.val).mapA → s.slotOfCoach .A c.coach.val = some p.val →
          (s.slotOf p.val).st ≠ .split → pa < 0x800000 →
          s.maps c (if (s.coachOf a).trapMode then 0 else (s.coachOf a).part.toNat) (s.coachOf a).trapMode va.toNat kStore pa →
          t.coachOf a = s.coachOf a ∧ t.mem = s.mem ∧ ∀ q, t.sees c q = if q = pa then v else s.sees c q) ∧
        (tgt = .pc → t.coachOf a = { s.coachOf a with pc := BitVec.ofNat 41 v.toNat }) ∧
        (∀ r, tgt = .reg r → r.val ≠ 0 → (t.coachOf a).getPhys r.val = v ∧ ∀ q, q ≠ r.val → (t.coachOf a).getPhys q = (s.coachOf a).getPhys q))) ∧
    (s.debugC = false ∨ p.val = 0 → exec (.debugResume p) s = .next s ∧ exec (.debugWrite p tgt v) s = .next s) ∧
    ((s.slotOf p.val).log = [] → 3 ≤ s.clock.tick → s.linkWait = [] → exec (.debugReplay p) s = .next s) ∧
    (s.clock.tick < 3 → exec (.debugReplay p) s = .next { s with linkWait := linkInsert (.debugReplay p) s.linkWait }) ∧
    (∀ (n : Nat) (rest : List (Nat × DebugTarget × Word)), (s.slotOf p.val).log = (n, tgt, v) :: rest → 3 ≤ s.clock.tick → s.linkWait = [] →
      (n ≤ (s.coachOf b).retcnt → ∃ t, exec (.debugReplay p) s = .next t ∧ (t.slotOf p.val).log = rest ∧ t.coachOf a = s.coachOf a ∧
        (tgt = .pc → t.coachOf b = { s.coachOf b with pc := BitVec.ofNat 41 v.toNat })) ∧
      ((s.coachOf b).retcnt < n → exec (.debugReplay p) s = .next s))) ∧
  (∀ (s : State) (c : CoachRef), let k := s.cstOf c.ix
    k.stopped = false → k.derailed = false → k.waitFend = false → k.halted = false → k.eccBad = false → s.waits c = false →
    (s.coachOf c.ix).cplcnt ≠ 4095 →
    (k.stepping = true ∨ (s.coachOf c.ix).pc + 1 ∈ k.breaks) →
    ∃ t, exec (.nop c) s = .next t ∧ (t.coachOf c.ix).pc = (s.coachOf c.ix).pc + 1 ∧ t.cstOf c.ix = { k with halted := true, stepping := false })

/-- ARMED_TIMEOUT of an instance in ARMED for ARM_S seconds of its frames' edges puts into its working buffer, unless it is a
RESET or MODESEL instance, the change to FAULT with the lowest fault code when a fault cause is present or raised; else to
TRIPPED with the lowest demand code when a demand is; else to LOCKED with no cause; nothing but that buffer changes, and
nothing at all before that time. At a COMMIT without a package to apply, an instance whose slot verified on both sides takes
the change of its buffer, with its cause, detail and terminal, and without one keeps its state; an instance whose slot did not
verify keeps its state and cause, and its buffer is discarded. -/
def Obligations.FunctionEvaluationAndCommit : Prop :=
  (∀ (s : State) (f : FnIx), let n := fld (s.fcfg f.val) 19 10
    (s.fnOf f.val).st ≠ .armed ∨ n = 0 ∨ s.clock.count - s.clock.tick < (s.fnOf f.val).armedAt + n * 1000000 →
      exec (.armedTimeout f) s = .next s) ∧
  (∀ (s : State) (f : FnIx), let n := fld (s.fcfg f.val) 19 10
    (s.fnOf f.val).st = .armed → n ≠ 0 → (s.fnOf f.val).armedAt + n * 1000000 ≤ s.clock.count - s.clock.tick →
    let x := s.fnOf f.val
    let faults := s.presentFaults f.val ++ (x.cur.filter fun c => isFaultCause c.1) ++ s.edmFails f.val ++
      (if s.tid f.val = 0x12 then [] else s.lastedCause f.val)
    let demands := s.inputDemands f.val ++ s.groupDemands f.val ++ s.templateDemands f.val ++ x.cur.filter fun c => !isFaultCause c.1
    let decided (w : FnWork) (st : FnState) (l : List FnCause) : Prop :=
      ∃ c ∈ l, (∀ e ∈ l, c.1.toNat ≤ e.1.toNat) ∧ w.chg = some (st, c)
    ∃ t w, exec (.armedTimeout f) s = .next t ∧ t.fnOf f.val = { x with next := some w } ∧
      (∀ g, g ≠ f.val → t.fnOf g = s.fnOf g) ∧ t = { s with fn := t.fn } ∧
      (isMode (s.tid f.val) = false →
        (faults ≠ [] → decided w .fault faults) ∧ (faults = [] → demands ≠ [] → decided w .tripped demands) ∧
        (faults = [] → demands = [] → w.chg = some (.locked, 0, 0, 0x1FF)))) ∧
  (∀ s : State, s.clock.tick < s.clock.fl → s.dev.applyPkg = false →
    ∃ t, exec .commit s = .next t ∧ ∀ f ∈ s.fns,
      let x := s.fnOf f
      let y := t.fnOf f
      ((s.slotOf (s.fSlot f)).verified = true → ∀ w, x.next = some w →
        y.next = none ∧ y.latched = w.latched ∧ y.dem = w.dem ∧ y.pres = w.pres ∧ y.cond = w.cond ∧
        (w.chg = none → y.st = x.st ∧ y.cause = x.cause) ∧
        (∀ st c d k, w.chg = some (st, c, d, k) → y.st = st ∧ y.cause = c ∧ y.detail = d ∧ y.term = k)) ∧
      ((s.slotOf (s.fSlot f)).verified = false → y.st = x.st ∧ y.cause = x.cause ∧ y.next = none))

/-- HANDRAIL_DEVIATION raises cause 0x07 detail 1 at ES_HANDRAIL when the deviation has lasted DEV_S, DOORCHAIN_BRIDGED 0x17
with 1 at LF_DOORCHAIN after BR_MS, VOTE_DISAGREEMENT 0x17 with 2 at VOTE after more than DISAG_MS, BRAKE_FEEDBACK_TIMEOUT
0x14 with 3 applying and 2 releasing at ES_BRKFB and 4 applying at ES_AUXBRK, APP_MS or REL_MS after the output's switching:
at the end of the instance's raised causes, nothing else changing. EDM_CHECK_START, FB_MS after a switching commit that is to
be judged, starts the check of an EDM instance; TIMER_DELAY_EXPIRY marks a TIMER's delay as run out. RESET_HELD_LONG at a
RESET instance whose button has been on for more than 60 s reports 0x0805 with the seconds; RESET_INSTANCE_RECOVERY of one in
FAULT without a cause, its terminals off for 1 s, plans RUN. REMOTE_RESET_EXPIRY, 2 s after the arming, ends it. At any other
moment, and at an instance of another template, none of these changes anything. -/
def Obligations.TemplateMonitors : Prop :=
  ∀ (s : State) (f : FnIx) (ap : Bool) (secs : Nat),
    let x := s.fnOf f.val
    let tid := s.tid f.val
    let sets (i : Instr) (y : Fn) : Prop := ∃ t, exec i s = .next t ∧ t.fnOf f.val = y ∧ (∀ g, g ≠ f.val → t.fnOf g = s.fnOf g) ∧
      t = { s with fn := t.fn }
    let raises (i : Instr) (c d : Byte) : Prop := sets i { x with raised := x.raised ++ [(c, d, 0x1FF)] }
    let var (k : Nat) : Nat := Tab.get 0 x.vars k
    let now := s.clock.count
    let onlyWhen (i : Instr) (due : Prop) (c d : Byte) : Prop := (due → raises i c d) ∧ (¬ due → exec i s = .next s)
    let lasted (ticks : Nat) : Prop := var 8 ≠ 0 ∧ var 8 + ticks ≤ now + 1
    let switched (ms : Nat) : Prop := var 3 ≠ 0 ∧ var 3 + 1000 * ms ≤ now + 1
    let brake := tid = 0x15 ∧ var 0 = b2n !ap ∧ switched (s.fpar f.val (if ap then 8 else 7))
    let auxiliary := tid = 0x18 ∧ ap = true ∧ var 0 = 0 ∧ switched (s.fpar f.val 3)
    let edm := tid = 0x04 ∧ var 2 ≠ 0 ∧ switched (s.fpar f.val 10)
    let delay := tid = 0x41 ∧ var 1 + s.fpar f.val 2 * 1000 ≤ now
    let held := tid = 0x05 ∧ ∃ k < 2, var k ≠ 0 ∧ var k - 1 + 6000000000 < s.t10
    let recovers := tid = 0x05 ∧ x.st = .fault ∧ s.presentFaults f.val = [] ∧ x.cur = [] ∧ s.offOneSecond f.val = true
    onlyWhen (.handrailDeviation f) (tid = 0x12 ∧ lasted (1000000 * s.fpar f.val 4)) 0x07 1 ∧
    onlyWhen (.doorchainBridged f) (tid = 0x20 ∧ lasted (1000 * s.fpar f.val 18)) 0x17 1 ∧
    onlyWhen (.voteDisagreement f) (tid = 0x42 ∧ lasted (1000 * s.fpar f.val 10 + 1)) 0x17 2 ∧
    (brake → raises (.brakeFeedbackTimeout f ap) 0x14 (if ap then 3 else 2)) ∧
    (auxiliary → raises (.brakeFeedbackTimeout f ap) 0x14 4) ∧
    (¬ brake → ¬ auxiliary → exec (.brakeFeedbackTimeout f ap) s = .next s) ∧
    (edm → sets (.edmCheckStart f) { x with vars := Tab.set 0 x.vars 1 1 }) ∧ (¬ edm → exec (.edmCheckStart f) s = .next s) ∧
    (delay → sets (.timerDelayExpiry f) { x with vars := Tab.set 0 x.vars 4 1 }) ∧ (¬ delay → exec (.timerDelayExpiry f) s = .next s) ∧
    (held → ∃ t, exec (.resetHeldLong f secs) s = .next t ∧ t = s.takeEvents t ∧
      (secs < 2 ^ 28 → s.reports t 0x0805 (nFn f.val) 1 secs)) ∧
    (¬ held → exec (.resetHeldLong f secs) s = .next s) ∧
    (recovers → ∃ w : FnWork, w.chg = some (.run, 0, 0, 0x1FF) ∧ sets (.resetInstanceRecovery f) { x with next := some w }) ∧
    (¬ recovers → exec (.resetInstanceRecovery f) s = .next s) ∧
    (∀ a, s.armed = some a → a.at_ + 2000000 ≤ now → exec .remoteResetExpiry s = .next { s with armed := none }) ∧
    (∀ a, s.armed = some a → now < a.at_ + 2000000 → exec .remoteResetExpiry s = .next s) ∧
    (s.armed = none → exec .remoteResetExpiry s = .next s)

/-- With an entry waiting, fewer than 8 pages of its key in the running second and the write path open, LEDGER_PAGE_WRITE
writes in both MRAMs at the ring's next page 160 words whose first 136 are the page's fields and curves and whose commit word
is valid for the sequence; no other MRAM byte offset and no other memory changes; the entry leaves the list, the place and the
sequence advance, SKIPPED restarts, and LOST counts an overwritten unexported page. With 8 pages written the entry is counted
in SKIPPED and memory is unchanged; under the write path's warning nothing changes, nor without an entry. CURVE_TRANSFER
stores a terminal's 256 samples as sent, and nothing else. -/
def Obligations.LedgerPages : Prop :=
  (∀ (s : State) (e : LedgerEntry) (r : List LedgerEntry), s.ledger.waiting = e :: r →
    let l := s.ledger
    let sec := s.clock.count / 1000000
    let full : Prop := e.key ≠ noFn ∧ l.second = sec ∧ 8 ≤ Tab.get 0 l.written e.key
    (¬ full → s.writable = true → l.seq ≠ 0 → l.lost ≤ 4095 →
      ∃ t, exec .ledgerPageWrite s = .next t ∧ t = { s.takeEvents t with mem := t.mem, ledger := t.ledger } ∧
        t.ledger.waiting = r ∧ t.ledger.next = (l.next + 1) % 5825 ∧ t.ledger.seq = nextPseq l.seq ∧ t.ledger.skipped = 0 ∧
        t.ledger.mark = l.mark ∧
        t.ledger.lost = (if 5825 ≤ l.seq.toNat - 1 - l.mark.toNat then Nat.min (l.lost + 1) 4095 else l.lost) ∧
        ∀ d : Side, let m := (t.mem.get d).mram
          (t.mem.get d).frame = (s.mem.get d).frame ∧ (t.mem.get d).device = (s.mem.get d).device ∧
          (∀ a, (∀ k < 160, a ≠ ledgAddr l.next k) → Tab.get (0 : Word) m a = Tab.get 0 (s.mem.get d).mram a) ∧
          (∀ k < 136, Tab.get (0 : Word) m (ledgAddr l.next k) = (s.ledgerWords e l.seq l.skipped t.ledger.lost).getD k 0) ∧
          pageValid (pageWords m (ledgAddr l.next) 160) 160 true = true ∧
          fld (Tab.get (0 : Word) m (ledgAddr l.next 159)) 71 32 = l.seq.toNat) ∧
    (full → ∃ t, exec .ledgerPageWrite s = .next t ∧ t = { s with ledger := t.ledger } ∧ t.ledger.waiting = r ∧
      t.ledger.skipped = Nat.min (l.skipped + 1) 4095 ∧ t.ledger.seq = l.seq ∧ t.ledger.next = l.next) ∧
    (¬ full → s.writable = false → exec .ledgerPageWrite s = .next s)) ∧
  (∀ s : State, s.ledger.waiting = [] → exec .ledgerPageWrite s = .next s) ∧
  (∀ (s : State) (k : TermIx) (c : List (BitVec 18)), c.length = 256 →
    ∃ t, exec (.curveTransfer k c) s = .next t ∧ (t.termOf k.val).dig.curve = c ∧ (t.termOf k.val).dig.curveSent = true ∧
      t = { s with term := t.term } ∧ (∀ j, j ≠ k.val → t.termOf j = s.termOf j) ∧
      t.termOf k.val = { s.termOf k.val with dig := (t.termOf k.val).dig })

/-- MONITOR_DISAGREEMENT of a used monitor without a fault, after DISC_FR consecutive disagreeing captures, sets fault code 1,
ends validity and STILL, makes every PENDING event IDLE and leaves every other event as it is; 0x0501 and, for each withdrawn
event, 0x0503 are reported at once outside a frame's evaluation, and with the commit otherwise. Otherwise it changes nothing.
MONITOR_FAULT_CLEAR after 64 consecutive agreeing captures ends a fault, with the speed invalid until its window is full anew,
and otherwise changes nothing. EVENT_PULSE_END makes a PULSING event whose PULSE_FR commits have passed DONE and changes
nothing else; any other event stays. At a capture no event starts to pulse with the position short of PFIRE, and a pulse under
way ends only when those commits have passed. At a COMMIT in RUNNING without a package to apply, a monitor whose slot has not
verified stands at the position, the counts and the speeds of its last verified state, and one whose slot has verified at
those of the frame. At a COMMIT in HOLDING without a package to apply every used monitor that is not NONE is STOPPED. -/
def Obligations.MotionMonitors : Prop :=
  (∀ (s : State) (m : MonIx),
    let x := s.monOf m.val
    let ev (s : State) (k : Nat) : PosEvent := Tab.get {} (s.monxOf m.val).events k
    let due := s.msrc m.val ≠ 0 ∧ x.mflt = 0 ∧ (s.monxOf m.val).disagree ≠ 0 ∧ fld (s.mbind m.val) 11 4 ≤ (s.monxOf m.val).disagree
    (due →
      ∃ t, exec (.monitorDisagreement m) s = .next t ∧ t.monOf m.val = { x with mflt := 1, valid := false, still := false } ∧
        (t.monxOf m.val).agree = 0 ∧ (∀ k < 8, (ev s k).st = 2 → (ev t k).st = 1) ∧ (∀ k, (ev s k).st ≠ 2 → ev t k = ev s k) ∧
        (s.monOld = none → s.reports t 0x0501 (nMon m.val) 3 1 ∧
          ∀ k < 8, (ev s k).st = 2 → s.reports t 0x0503 (nMon m.val) 0 (k * 2 ^ 25 + 2 ^ 23)) ∧
        (s.monOld ≠ none → (0x0501, 3, 1, true) ∈ (t.monxOf m.val).posts ∧ s.takeEvents t = s ∧
          ∀ k < 8, (ev s k).st = 2 → (0x0503, 0, k * 2 ^ 25 + 2 ^ 23, false) ∈ (t.monxOf m.val).posts) ∧
        t = { s.takeEvents t with mon := t.mon, monx := t.monx } ∧ (∀ j, j ≠ m.val → t.monOf j = s.monOf j ∧ t.monxOf j = s.monxOf j)) ∧
    (¬ due → exec (.monitorDisagreement m) s = .next s) ∧
    (x.mflt ≠ 0 → 64 ≤ (s.monxOf m.val).agree → ∃ t, exec (.monitorFaultClear m) s = .next t ∧
      t.monOf m.val = { x with mflt := 0, valid := false, still := false, hist := x.hist.take 1, histT := x.histT.take 1 } ∧
      (t.monxOf m.val).agree = 0 ∧ (t.monxOf m.val).disagree = 0 ∧ t = { s with mon := t.mon, monx := t.monx, windows := t.windows } ∧
      (s.monOld = none → ∀ w ∈ t.windows, w.node = nMon m.val → 0x0501 ∉ w.conds) ∧
      (s.monOld ≠ none → (t.monxOf m.val).cleared = true ∧ t.windows = s.windows)) ∧
    (x.mflt = 0 ∨ (s.monxOf m.val).agree < 64 → exec (.monitorFaultClear m) s = .next s) ∧
    (∀ k : Fin 8,
      ((ev s k.val).st = 3 → (ev s k.val).left = 0 → ∃ t, exec (.eventPulseEnd m k) s = .next t ∧ ev t k.val = { st := 4, left := 0 } ∧
        (∀ j, j ≠ k.val → ev t j = ev s j) ∧ t = { s with monx := t.monx } ∧ (∀ j, j ≠ m.val → t.monxOf j = s.monxOf j) ∧
        t.monxOf m.val = { s.monxOf m.val with events := (t.monxOf m.val).events }) ∧
      ((ev s k.val).st ≠ 3 ∨ (ev s k.val).left ≠ 0 → ∃ t, exec (.eventPulseEnd m k) s = .next t ∧ t = { s with monx := t.monx } ∧
        (∀ j, ev t j = ev s j) ∧ (∀ j, j ≠ m.val → t.monxOf j = s.monxOf j) ∧
        t.monxOf m.val = { s.monxOf m.val with events := (t.monxOf m.val).events }))) ∧
  (∀ (e : PosEvent) (p0 fire p q : Int) (rearm : Bool) (pulse : Nat),
    let r := evtStep e p0 fire p q rearm pulse
    (q < fire → r.1.st = 3 → e.st = 3) ∧ (e.st = 3 → e.left ≠ 0 → r = (e, none)) ∧ (e.st = 3 → e.left = 0 → r = ({ st := 4 }, none)) ∧ (e.st = 1 → q < p0 → p0 ≤ fire → r = (e, none)) ∧
    (e.st = 2 → q < p0 → p0 ≤ fire → r = ({ st := 1 }, some 1)) ∧ (e.st = 0 → p0 ≤ q → r = (e, none)) ∧
    (e.st = 4 → rearm = false → r = (e, none))) ∧
  (∀ s : State, s.clock.tick < s.clock.fl → s.dev.applyPkg = false →
    ∃ t, exec .commit s = .next t ∧
      (s.dev.st = .running → s.dev.toService = false → ∀ m < 64,
        let x := if s.monVerified m then s.monOf m else s.monNow m
        (t.monOf m).pos = x.pos ∧ (t.monOf m).cntA = x.cntA ∧ (t.monOf m).cntB = x.cntB ∧ (t.monOf m).va = x.va ∧
          (t.monOf m).vb = x.vb) ∧
      (s.dev.st = .holding → ∀ m < 64, s.msrc m ≠ 0 → (s.monOf m).sstate ≠ 0 → (s.monNow m).sstate ≠ 0 → (t.monOf m).sstate = 3))

/-- A DATA, OPEN or OPEN_ACK telegram at a side whose crypto engine works is discarded under the number of the first failing
check: frame check and EtherType; version, direction, LEN, epoch not 0 and zero tail; connection and TYPE; CRC; MAC; EPOCH;
SEQ; TIME. A discard counts that cause at the connection and the network and changes nothing else but gates. A passing
telegram's receipt waits on the side for the capture, unless one that differs in ARR alone already does; DATA moves the side's
verified SEQ, and DATA with STOP = 1 on a connection with NSG_EN asserts NSTOP of its group on that side; the other side's
receipts, the other connections and the networks stay as they are. Gates are safe. With the engine failed nothing but gates
changes. -/
def Obligations.TelegramReception : Prop :=
  ∀ (s : State) (d : Side) (g : Telegram) (arr : Nat),
    let c := g.cid.toNat
    let k := s.connOf c
    let ver := match d with | .A => k.verA | .B => k.verB
    let count (k : Conn) (n : Nat) : Nat := Tab.get 0 (match d with | .A => k.discA | .B => k.discB) n
    ∀ it ∈ [(Instr.netData d g arr, 1), (Instr.netOpen d g arr, 2), (Instr.netOpenAck d g arr, 3)],
      let typ : Nat := it.2
      let len : Nat := if typ = 1 then s.connRxLen c else 0
      let age : Int := (s.taiOf arr : Int) - g.time.toNat
      let bad : List Prop := [
        g.fcsOk = false ∨ g.etype.toNat ≠ fld (s.ncfg d) 71 56,
        g.ver ≠ 1 ∨ 64 < g.len.toNat ∨ g.dir = false ∨ g.epoch = 0 ∨ g.len.toNat ≠ len ∨ 2 ^ (8 * g.len.toNat) ≤ g.data.toNat,
        s.connEn c = false ∨ (typ = 2 ∧ s.connOpener c = false) ∨ (typ = 3 ∧ s.connOpener c = true),
        g.crc ≠ crc32c (pduBytes typ g),
        s.macOk d typ g = false,
        (typ = 2 ∧ g.epoch = k.epoch) ∨ (typ ≠ 2 ∧ g.epoch ≠ k.epoch),
        (typ = 1 ∧ g.seq ≤ ver) ∨ (typ ≠ 1 ∧ g.seq ≠ 0),
        bit g.time 71 = false ∧ s.time.valid = true ∧ (age < -50000 ∨ 1000 * (s.connWd c : Int) < age)]
      ((s.netOf d).muted = true → ∃ t, exec it.1 s = .next t ∧ t = { s with term := t.term } ∧ s.outsOnly t ∧ t.gatesSafe) ∧
      ((s.netOf d).muted = false →
        (∀ n < 8, bad.getD n False → (∀ j < n, ¬ bad.getD j False) →
          ∃ t, exec it.1 s = .next t ∧ count (t.connOf c) (n + 1) = count k (n + 1) + 1 ∧
            (t.netOf d).discard = (s.netOf d).discard + 1 ∧ t.netOf d.other = s.netOf d.other ∧ (t.connOf c).rxA = k.rxA ∧
            (t.connOf c).rxB = k.rxB ∧ (t.connOf c).verA = k.verA ∧ (t.connOf c).verB = k.verB ∧
            (∀ j, j ≠ c → t.connOf j = s.connOf j) ∧ t = { s with conn := t.conn, net := t.net, term := t.term } ∧
            s.outsOnly t ∧ t.gatesSafe) ∧
        ((∀ j < 8, ¬ bad.getD j False) →
          ∃ t, exec it.1 s = .next t ∧
            (t.connOf c).rx d = (if (k.rx d).any (fun q => q = { mkReceipt typ g arr with arr := q.arr }) then k.rx d
              else k.rx d ++ [mkReceipt typ g arr]) ∧ (t.connOf c).rx d.other = k.rx d.other ∧
            (match d with | .A => (t.connOf c).verA | .B => (t.connOf c).verB) = (if typ = 1 then g.seq else ver) ∧
            (∀ j, j ≠ c → t.connOf j = s.connOf j) ∧ (t.connOf c).st = k.st ∧ (t.connOf c).data = k.data ∧
            (typ = 1 ∧ g.stop = true ∧ bit (s.lcfg1 c) 37 = true → bit (t.halfOf d).nstop (fld (s.lcfg1 c) 36 31) = true) ∧
            (¬ (typ = 1 ∧ g.stop = true ∧ bit (s.lcfg1 c) 37 = true) → t.half = s.half) ∧ t.halfOf d.other = s.halfOf d.other ∧
            t = { s with conn := t.conn, half := t.half, term := t.term } ∧ s.outsOnly t ∧ t.gatesSafe))

/-- TELEGRAM_RECEIPT gives the other side the receipt, unless one that differs in ARR alone is there; one from before the
running capture's edge, in its ticks 0-2, counts as in flight. TELEGRAM_SEND at a tick of its phase, once, of an enabled
connection in RUNNING or HOLDING, without a slot or with a LOCKED one (any in HOLDING), sends OPEN or OPEN_ACK in OPENING,
DATA with the next SEQ in DUAL or SINGLE, with STOP = 1 in HOLDING or, with a slot, with a function of its group down,
all-zero DATA in HOLDING; otherwise nothing. The watchdog, single-network and handshake expiries note the loss for the next
capture where their states apply and their times have passed, else change nothing. At a CAPTURE a DUAL or SINGLE connection
with a noted loss and no receipts is LOST with DATA 0 and STOPRX 0, and with NSG_EN asserts NSTOP of its group on both sides;
OPENING with its handshake expired is LOST; a CLOSED initiator in RUNNING is OPENING in the epoch that follows. -/
def Obligations.ConnectionsAndSending : Prop :=
  (∀ (s : State) (d : Side) (r : Receipt), let c := r.cid.toNat
    let k := s.connOf c
    let old := (k.rx d.other).any fun q => q = { r with arr := q.arr }
    let flies : Bool := !old && s.clock.captured && decide (s.clock.tick < 3) &&
      !arrLe (BitVec.ofNat 40 (100 * (s.clock.count - s.clock.tick))) r.arr
    ∃ t, exec (.telegramReceipt d r) s = .next t ∧ (t.connOf c).rx d.other = (if old then k.rx d.other else k.rx d.other ++ [r]) ∧
      t.connOf c = { k with rxA := (t.connOf c).rxA, rxB := (t.connOf c).rxB, inFlight := k.inFlight || flies } ∧
      (t.connOf c).rx d = k.rx d ∧
      (∀ j, j ≠ c → t.connOf j = s.connOf j) ∧ t = { s with conn := t.conn }) ∧
  (∀ (s : State) (c : ConnIx),
    let k := s.connOf c.val
    let only (i : Instr) (y : Conn) : Prop := ∃ t, exec i s = .next t ∧ t.connOf c.val = y ∧ (∀ j, j ≠ c.val → t.connOf j = s.connOf j) ∧
      t = { s with conn := t.conn }
    let slot := fld (s.lcfg1 c.val) 30 25
    let period := fld (s.lcfg0 c.val) 53 30
    let may := (s.dev.st = .running ∧ (slot = 0 ∨ (s.slotOf slot).st = .locked) ∨ s.dev.st = .holding) ∧ s.connEn c.val = true ∧
      s.clock.count % period = 61 * c.val % period ∧ k.sentAt ≠ some s.clock.count
    let overdue (a : Option Nat) (us : Nat) : Prop := ∀ x, a = some x → 100 * us < arrDiff (BitVec.ofNat 40 x) (BitVec.ofNat 40 s.t10)
    let singles := k.st = .singleA ∨ k.st = .singleB
    (may →
      (k.st = .opening → only (.telegramSend c) { k with sentAt := some s.clock.count, sent := s.sendPdu c.val (if s.connOpener c.val then 3 else 2) 0 }) ∧
      (k.st.up = true → only (.telegramSend c) { k with sentAt := some s.clock.count, txSeq := k.txSeq + 1, sent := s.sendPdu c.val 1 (k.txSeq + 1) }) ∧
      (k.st = .off ∨ k.st = .closed ∨ k.st = .lost → exec (.telegramSend c) s = .next s)) ∧
    (¬ may → exec (.telegramSend c) s = .next s) ∧
    (s.dev.st = .holding → s.txStop c.val = true ∧ ∀ n, (s.txTelegram c.val 1 n).data = 0 ∧ (s.txTelegram c.val 1 n).stop = true) ∧
    (slot ≠ 0 → bit (s.lcfg1 c.val) 37 = true → (∃ f ∈ s.nsgFns (fld (s.lcfg1 c.val) 36 31), (s.fnOf f).st = .tripped ∨ (s.fnOf f).st = .fault) →
      s.txStop c.val = true) ∧
    (k.st.up = true → overdue k.lastArr (s.connWd c.val) → only (.connectionWatchdogExpiry c) { k with lossReq := true }) ∧
    (k.st.up = false ∨ ¬ overdue k.lastArr (s.connWd c.val) → exec (.connectionWatchdogExpiry c) s = .next s) ∧
    (singles → 100000 * s.connSnt c.val + k.leftDual < s.t10 → only (.singleNetworkTimeout c) { k with lossReq := true }) ∧
    (¬ singles ∨ s.t10 ≤ 100000 * s.connSnt c.val + k.leftDual → exec (.singleNetworkTimeout c) s = .next s) ∧
    (k.st = .opening → 100 * s.connWd c.val + k.openAt < s.t10 → only (.handshakeTimeout c) { k with handReq := true }) ∧
    (k.st ≠ .opening ∨ s.t10 ≤ 100 * s.connWd c.val + k.openAt → exec (.handshakeTimeout c) s = .next s)) ∧
  (∀ (s : State) (c : ConnIx), s.clock.tick < s.clock.fl → Tab.wf {} s.conn = true → (s.connOf c.val).rxA = [] → (s.connOf c.val).rxB = [] →
    let k := s.connOf c.val
    let g := fld (s.lcfg1 c.val) 36 31
    ∃ t, exec .capture s = .next t ∧
      (k.st.up = true → k.lossReq = true → (t.connOf c.val).st = .lost ∧ (t.connOf c.val).data = 0 ∧ (t.connOf c.val).stopRx = false ∧
        (bit (s.lcfg1 c.val) 37 = true → bit (t.halfOf .A).nstop g = true ∧ bit (t.halfOf .B).nstop g = true)) ∧
      (k.st = .opening → k.handReq = true → (t.connOf c.val).st = .lost) ∧
      (k.st = .closed → s.connOpener c.val = false → s.dev.st = .running →
        (t.connOf c.val).st = .opening ∧ (t.connOf c.val).epoch = (if k.epoch = 0xFFFF then 1 else k.epoch + 1)))

/-- A module inserted is present, accepted when power, type, EEPROM and speed fit, reported with 0x0605 (0x0606 too when not
accepted) and in the ledger; a removed one leaves the cage empty with 0x0604 and a ledger entry. Alarm flags of a present
module are kept, and reported with 0x0606 when set. A cage down reports 0x0603 with its cause; in active/standby mode the
other cage is active when the active one goes down or out, and a cage that comes up is active when it is the first of its
network or the active one is down. With PTP off a received PTP message is discarded and counted and nothing else happens. The
eighth Sync in a row within 100 ns locks the network and sets device time with its TSRC; the third in a row beyond 1 us
unlocks it, device time staying valid; else counts alone move. An announce timeout unlocks and makes the device master unless
SLAVE_ONLY. -/
def Obligations.CagesAndPtp : Prop :=
  (∀ (s : State) (c : CageIx) (m : ModuleInfo) (flags : Byte) (cause : CageCause),
    let d := cageNet c.val
    let standby : Prop := fld (s.ncfg d) 55 54 = 1
    let cageOnly (t : State) : Prop := ∀ j, j ≠ c.val → t.cageOf j = s.cageOf j
    let fits : Bool := m.powerOk && m.typeKnown && m.eepromOk && (m.speed10g == decide (fld (s.ncfg d) 53 52 = 0))
    (∃ t, exec (.moduleInserted c m) s = .next t ∧ t.cageOf c.val = { s.cageOf c.val with present := true, accepted := fits, ident := some m } ∧
      cageOnly t ∧ s.reports t 0x0605 (nCage c.val) 0 0 ∧ (fits = false → s.reports t 0x0606 (nCage c.val) 1 0) ∧
      (∃ e : LedgerEntry, e.kind = 6 ∧ t.ledger.waiting = s.ledger.waiting ++ [e]) ∧
      t = { s.takeEvents t with cage := t.cage, ledger := t.ledger }) ∧
    (∃ t, exec (.moduleRemoved c) s = .next t ∧ t.cageOf c.val = {} ∧ cageOnly t ∧ s.reports t 0x0604 (nCage c.val) 1 0 ∧
      (∃ e : LedgerEntry, e.kind = 6 ∧ t.ledger.waiting = s.ledger.waiting ++ [e]) ∧
      (standby → (s.netOf d).active = c.val % 2 → (t.netOf d).active = 1 - c.val % 2) ∧ t.netOf d.other = s.netOf d.other) ∧
    ((s.cageOf c.val).present = true →
      ∃ t, exec (.moduleAlarmPoll c flags) s = .next t ∧ t.cageOf c.val = { s.cageOf c.val with alarms := flags } ∧ cageOnly t ∧
        (flags ≠ 0 → s.reports t 0x0606 (nCage c.val) 1 flags.toNat) ∧ (flags = 0 → t.log = s.log)) ∧
    ((s.cageOf c.val).present = false → exec (.moduleAlarmPoll c flags) s = .next s) ∧
    (∃ t, exec (.cageDown c cause) s = .next t ∧ t.cageOf c.val = { s.cageOf c.val with up := false } ∧ cageOnly t ∧
      s.reports t 0x0603 (nCage c.val) 3 (cageCause cause) ∧
      (t.netOf d).active = (if fld (s.ncfg d) 55 54 = 1 ∧ (s.netOf d).active = c.val % 2 then 1 - c.val % 2 else (s.netOf d).active) ∧
      t.netOf d.other = s.netOf d.other) ∧
    (∃ t, exec (.cageUp c) s = .next t ∧ t.cageOf c.val = { s.cageOf c.val with up := true } ∧ cageOnly t ∧ t.log = s.log ∧
      let takes := c.val % 2 = 0 ∨ (s.cageOf (2 * d.ix + (s.netOf d).active)).up = false
      (standby → takes → (t.netOf d).active = c.val % 2) ∧ (¬ standby ∨ ¬ takes → t.netOf d = s.netOf d) ∧ t.netOf d.other = s.netOf d.other)) ∧
  (∀ (s : State) (d : Side) (off delay : Int) (tai : Nat) (better : Bool) (gm : BitVec 64),
    let n := s.netOf d
    (fld (s.ncfg d) 51 50 = 0 →
      (∀ i ∈ [Instr.ptpAnnounceTimeout d, .ptpMessageInterval d], exec i s = .next s) ∧
      ∀ i ∈ [Instr.ptpSync d off tai, .ptpAnnounce d better gm, .ptpDelayResponse d delay],
        ∃ t, exec i s = .next t ∧ t = { s with net := t.net } ∧ t.netOf d = { n with discard := n.discard + 1 } ∧ t.netOf d.other = s.netOf d.other) ∧
    (fld (s.ncfg d) 51 50 ≠ 0 →
      (∃ t, exec (.ptpSync d off tai) s = .next t ∧ (t.netOf d).offset = off ∧ t.netOf d.other = s.netOf d.other ∧
        (n.locked = false → n.good = 7 → off.natAbs ≤ 100 → (t.netOf d).locked = true ∧ t.time.valid = true ∧ t.time.tai = tai ∧
          t.time.tsrc = BitVec.ofNat 4 (2 + d.ix) ∧ s.reports t 0x0607 (nNet d) 0 1) ∧
        (n.locked = true → n.bad = 2 → 1000 < off.natAbs → (t.netOf d).locked = false ∧ (t.netOf d).good = 0 ∧
          t.time.valid = s.time.valid ∧ t.time.tai = s.time.tai ∧ s.reports t 0x0607 (nNet d) 0 0 ∧
          (s.time.valid = true → (s.netOf d.other).locked = false → t.time.tsrc = 5)) ∧
        (n.good < 7 → n.bad < 2 → (t.netOf d).locked = n.locked ∧ t.time = s.time ∧
          (t.netOf d).good = (if off.natAbs ≤ 100 then n.good + 1 else 0) ∧ (t.netOf d).bad = (if 1000 < off.natAbs then n.bad + 1 else 0))) ∧
      (∃ t, exec (.ptpAnnounceTimeout d) s = .next t ∧ (t.netOf d).locked = false ∧ (t.netOf d).master = !bit (s.ncfg d) 49 ∧
        (n.locked = true → s.reports t 0x0607 (nNet d) 0 0) ∧ t.time.valid = s.time.valid ∧ t.time.tai = s.time.tai) ∧
      (∃ t, exec (.ptpAnnounce d better gm) s = .next t ∧ t = { s with net := t.net } ∧ t.netOf d.other = s.netOf d.other ∧
        (better = true ∨ bit (s.ncfg d) 49 = true → t.netOf d = { n with master := false, gm := gm }) ∧
        (better = false → bit (s.ncfg d) 49 = false → t.netOf d = { n with master := true })) ∧
      (∃ t, exec (.ptpDelayResponse d delay) s = .next t ∧ t = { s with net := t.net } ∧ t.netOf d = { n with delay := delay } ∧
        t.netOf d.other = s.netOf d.other) ∧
      (∃ t, exec (.ptpMessageInterval d) s = .next t ∧ t = { s with net := t.net } ∧ t.netOf d = { n with sentMsgs := n.sentMsgs + 1 } ∧
        t.netOf d.other = s.netOf d.other)))

/-- A link that comes up has its rate and width, with 0x0701; one that goes down drops and counts the waiting replies, ends
the session, discards the port's unfetched commands and releases at the next capture, with 0x0701. A well-formed STOP.WORD in
a powered device asserts the DOOR of its used group, or all 32, on the port's side, with 0x0702 unless DORMANT; a malformed
one is counted alone. Other TLPs on VC1 are counted. In the states in which registers answer: SEM.REQ and SEM.REL collect
bits; ADM_CTL starts both admin rings at index and sequence 0 when both sizes are 4-16, is ignored and counted when it changes
a field under EN = 1, and stops the rings at EN = 0; PROD and CONS take an index under R339's conditions, else the write is
counted; CONS lets a ring that is half free take the held entries of its one bound stream; a read of FRAME_STAT or CNT gives
the register's word and clears OVR_COUNT or the register, a write to FRAME_STAT clears what its access says; a write by offset
is the register's own, and any other is ignored and counted. In the other states no register write changes anything. -/
def Obligations.HostPortRegisters : Prop :=
  ∀ (s : State) (p : Side) (w : BitVec 64),
    let x := s.portOf p
    let upPort (i : Instr) (y : Port) : Prop := ∃ t, exec i s = .next t ∧ t.portOf p = y ∧ t.portOf p.other = s.portOf p.other ∧
      t = { s with port := t.port }
    let counted : Port := { x with cnt := satInc x.cnt }
    let mine (q : Nat) : Prop := poolOf q = some p ∧ (s.queueOf q).live = true ∧ (s.queueOf q).type = 0
    (∀ gen width, ∃ t, exec (.portLinkUp p gen width) s = .next t ∧ t.portOf p = { x with link := true, gen := gen, width := width } ∧
      t.portOf p.other = s.portOf p.other ∧ s.reports t 0x0701 (nPort p) 0 0 ∧ t = { s.takeEvents t with port := t.port }) ∧
    (∃ t, exec (.portLinkDown p) s = .next t ∧ s.reports t 0x0701 (nPort p) 1 0 ∧
      (∀ y, x.session = some y → s.reports t 0x0705 (nPort p) 0 (y.id.toNat % 2 ^ 28)) ∧
      t.portOf p = { x with link := false, resetPend := true, dropped := x.dropped + x.replies.length, replies := [], session := none } ∧
      t.portOf p.other = s.portOf p.other ∧
      (∀ q, (mine q → (t.queueOf q).cons = (s.queueOf q).prod) ∧ (¬ mine q → (t.queueOf q).cons = (s.queueOf q).cons) ∧
        t.queueOf q = { s.queueOf q with cons := (t.queueOf q).cons, words := (t.queueOf q).words }) ∧
      t = { s.takeEvents t with port := t.port }) ∧
    (∀ (size : Nat) (vc0 : Bool),
      let good : Prop := size = 8 ∧ fld w 63 48 = 0x5A0F ∧ fld w 31 0 = 2 ^ 32 - 1 - fld w 63 32
      let g := fld w 47 32
      let rings (d : Nat) : Prop := ((∃ f ∈ s.fns, s.fGroup f = g) ∧ d = fld (s.gmap g) 71 67) ∨ ((∀ f ∈ s.fns, s.fGroup f ≠ g) ∧ d < 32)
      (s.powered = false → s.ends (.stopWord p w size vc0) s) ∧
      (s.powered = true → good → ∃ t, exec (.stopWord p w size vc0) s = .next t ∧
        t.portOf p = { x with taken := satInc x.taken, vc0 := if vc0 then satInc x.vc0 else x.vc0 } ∧
        t.portOf p.other = s.portOf p.other ∧
        (∀ d, (rings d → bit (t.halfOf p).door d = true ∧ Tab.get 0 (t.halfOf p).doorAt d = s.clock.nextCapture) ∧
          (¬ rings d → bit (t.halfOf p).door d = bit (s.halfOf p).door d)) ∧ t.halfOf p.other = s.halfOf p.other ∧
        (s.dev.st ≠ .dormant → s.reports t 0x0702 (nPort p) 4 g) ∧ s.outsOnly t ∧ t.gatesSafe ∧
        t = { s.takeEvents t with port := t.port, half := t.half, term := t.term }) ∧
      (s.powered = true → ¬ good → s.ends (.stopWord p w size vc0) (s.updPort p fun y => { y with
        bad := satInc y.bad, badFrame := y.badFrame + 1 }))) ∧
    (∀ np, upPort (.vc1TlpDiscard p np) { counted with urCount := if np then x.urCount + 1 else x.urCount }) ∧
    (s.dev.st.answers = false → ∀ (q : QueueIx), ∀ i ∈ [Instr.semReq p w, .semRel p w, .admCtlWrite p w, .queueProdWrite p q w,
      .queueConsWrite p q w, .frameStatRead p, .frameStatClear p w, .cntRead p], exec i s = .next s) ∧
    (s.dev.st.answers = true →
      let rsv (hi lo : Nat) : Port := if fld w hi lo = 0 then x else counted
      upPort (.semReq p w) { rsv 63 16 with semReq := x.semReq ||| w.setWidth 16 } ∧
      upPort (.semRel p w) { rsv 63 16 with semRel := x.semRel ||| w.setWidth 16 } ∧
      upPort (.cntRead p) { x with rdata := x.cnt, cnt := 0 } ∧
      (∃ t, exec (.frameStatRead p) s = .next t ∧ t.fstOf p = { s.fstOf p with ovr := 0 } ∧ t.fstOf p.other = s.fstOf p.other ∧
        (let v := (t.portOf p).rdata; let f := s.fstOf p
          fld v 63 32 = f.frameNo.toNat ∧ fld v 31 16 = f.ovr.toNat ∧ fld v 15 8 = f.skew.toNat ∧ fld v 7 2 = 0 ∧
          bit v 1 = f.imgLate ∧ bit v 0 = f.alignWarn ∧ t.portOf p = { x with rdata := v }) ∧ t.portOf p.other = s.portOf p.other ∧
        t = { s with frameSt := t.frameSt, port := t.port }) ∧
      (∃ t, exec (.frameStatClear p w) s = .next t ∧ t.portOf p = rsv 7 2 ∧ t.portOf p.other = s.portOf p.other ∧
        t.fstOf p.other = s.fstOf p.other ∧ t.fstOf p = { s.fstOf p with
          imgLate := (s.fstOf p).imgLate && !bit w 1, alignWarn := (s.fstOf p).alignWarn && !bit w 0 } ∧
        t = { s with frameSt := t.frameSt, port := t.port }) ∧
      (fld w 62 48 = 0 → fld w 33 11 = 0 →
        let base := 4096 * p.ix
        let sized : Prop := 4 ≤ fld w 47 43 ∧ fld w 47 43 ≤ 16 ∧ 4 ≤ fld w 40 36 ∧ fld w 40 36 ≤ 16
        (bit x.admCtl 63 = false → bit w 63 = false → upPort (.admCtlWrite p w) { x with admCtl := w }) ∧
        (bit x.admCtl 63 = false → bit w 63 = true → ¬ sized → upPort (.admCtlWrite p w) { counted with admCtl := setBit w 63 false }) ∧
        (bit x.admCtl 63 = false → bit w 63 = true → sized → ∃ t, exec (.admCtlWrite p w) s = .next t ∧
          t.portOf p = { x with admCtl := w } ∧ t.portOf p.other = s.portOf p.other ∧
          (∀ q, q ≠ base → q ≠ base + 1 → t.queueOf q = s.queueOf q) ∧ (t.queueOf base).type = 0 ∧ (t.queueOf (base + 1)).type = 1 ∧
          (t.queueOf base).size = 2 ^ fld w 47 43 ∧ (t.queueOf (base + 1)).size = 2 ^ fld w 40 36 ∧
          (t.queueOf base).esize = 64 * 4 ^ fld w 42 41 ∧ (t.queueOf (base + 1)).esize = 64 * 4 ^ fld w 35 34 ∧
          (t.queueOf base).cq = base + 1 ∧
          (∀ q ∈ [base, base + 1], (t.queueOf q).live = true ∧ (t.queueOf q).prod = 0 ∧ (t.queueOf q).cons = 0 ∧ (t.queueOf q).seq = 0) ∧
          t = { s with port := t.port, queue := t.queue }) ∧
        (bit x.admCtl 63 = true → setBit w 63 false ≠ setBit x.admCtl 63 false → upPort (.admCtlWrite p w) counted) ∧
        (bit x.admCtl 63 = true → setBit w 63 false = setBit x.admCtl 63 false → bit w 63 = true → exec (.admCtlWrite p w) s = .next s) ∧
        (bit x.admCtl 63 = true → setBit w 63 false = setBit x.admCtl 63 false → bit w 63 = false →
          ∃ t, exec (.admCtlWrite p w) s = .next t ∧ t.portOf p = { x with admCtl := w } ∧ t.portOf p.other = s.portOf p.other ∧
            t.queueOf base = {} ∧ t.queueOf (base + 1) = {} ∧ (∀ q, q ≠ base → q ≠ base + 1 → t.queueOf q = s.queueOf q) ∧
            t = { s with port := t.port, queue := t.queue })) ∧
      (∀ q : QueueIx, fld w 63 32 = 0 →
        let k := s.queueOf q.val
        let v : BitVec 32 := w.setWidth 32
        let onlyQueue (i : Instr) (y : Queue) : Prop := ∃ t, exec i s = .next t ∧ t.queueOf q.val = y ∧
          (∀ j, j ≠ q.val → t.queueOf j = s.queueOf j) ∧ t = { s with queue := t.queue }
        let own : Prop := poolOf q.val = some p ∧ k.live = true
        let okProd : Prop := own ∧ k.type = 0 ∧ k.used ≤ (v - k.cons).toNat ∧ (v - k.cons).toNat ≤ k.size
        let okCons : Prop := own ∧ (k.type = 1 ∨ k.type = 2) ∧ (v - k.cons).toNat ≤ k.used
        let bound := (s.queue.filter fun (e : Nat × Queue) => e.2.bind = some q.val).map Prod.fst
        (okProd → onlyQueue (.queueProdWrite p q w) { k with prod := v }) ∧ (¬ okProd → upPort (.queueProdWrite p q w) counted) ∧
        (¬ okCons → upPort (.queueConsWrite p q w) counted) ∧
        (okCons → bound = [] → onlyQueue (.queueConsWrite p q w) { k with cons := v }) ∧
        (∀ b, okCons → bound = [b] → b ≠ q.val →
          let n := (s.queueOf b).backlog.length + (s.queueOf b).counts.length
          let left := ({ k with cons := v } : Queue)
          n ≠ 0 → left.size ≤ left.free * 2 → n ≤ left.free → ∃ t, exec (.queueConsWrite p q w) s = .next t ∧
            (t.queueOf q.val).cons = v ∧ (t.queueOf q.val).prod = k.prod + BitVec.ofNat 32 n ∧
            t.queueOf b = { s.queueOf b with backlog := [], counts := [] } ∧
            (∀ j, j ≠ q.val → j ≠ b → t.queueOf j = s.queueOf j) ∧ t = { s with queue := t.queue }))) ∧
    (∀ y : BarWrite,
      let o := y.offset.toNat
      let by_ (i : Instr) : Prop := ∃ u, exec i s = .next u ∧ s.ends (.registerWrite p y) u
      (o = 0x020000 → exec (.registerWrite p y) s = exec (.stopWord p y.value y.size true) s) ∧
      (o ≠ 0x020000 → s.dev.st.answers = false → s.ends (.registerWrite p y) s) ∧
      (0x400000 ≤ o → o < 0x800000 → s.ends (.registerWrite p y) s) ∧
      (s.dev.st.answers = true → o ≠ 0x020000 → o < 0x400000 ∨ 0x800000 ≤ o → y.size ≠ 8 ∨ o % 8 ≠ 0 ∨ 0x800000 ≤ o →
        s.ends (.registerWrite p y) (s.ignored p)) ∧
      (s.dev.st.answers = true → y.size = 8 →
        (∀ k ∈ [(0x000110, Instr.admCtlWrite p y.value), (0x000200, .frameStatClear p y.value), (0x010010, .semReq p y.value),
          (0x010018, .semRel p y.value)], o = k.1 → by_ k.2) ∧
        (∀ q : QueueIx, (o = 0x100000 + 64 * q.val → by_ (.queueProdWrite p q y.value)) ∧
          (o = 0x100008 + 64 * q.val → by_ (.queueConsWrite p q y.value))) ∧
        (fld y.value 11 0 = 0 → bit x.admCtl 63 = false →
          (o = 0x000100 → s.ends (.registerWrite p y) (s.updPort p fun z => { z with cmdBase := y.value })) ∧
          (o = 0x000108 → s.ends (.registerWrite p y) (s.updPort p fun z => { z with cplBase := y.value })))))

/-- For every opcode of R354 but CFG_READ and Q_CREATE: a packet at a port that does not answer, in a frame that pair 0 does
not complete or out of its turn changes nothing (where only packets of undefined opcodes stand before it they are answered
first). Otherwise the packet leaves the image (or, where no such packet is in it, the entries already fetched), and the first
failing check gives its only effect, a reply with the check's status and offset: version, reserved flags and zero bytes (the
first offending byte), then the sequence, which then stays; past it the sequence advances, and the session, the number of
slots, a slot's encoding (its first offending byte), the target, the token, a slot's range and, in the boot responder, the
opcode decide in this order. Slots and their ranges are those of R354's table; opcodes with a variable number of slots are
covered up to the session here. A reply goes to the packet's own port with opcode, tag, status, offset, frame and queue, is
counted by status when it refuses, and on a link that is down is dropped and counted; nothing else changes by it. In three
commands gates may follow their signals meanwhile. -/
def Obligations.PacketChecks : Prop :=
  (∀ (s : State) (h : Hdr) (op st o : Nat) (slots : List Nat),
    let t := s.answer h op st o slots
    let r : Reply := ⟨h.port, h.queue.val, op, h.tag, st, o, BitVec.ofNat 32 s.clock.frame.toNat, slots.map (BitVec.ofNat 128)⟩
    let u := s.taken h op
    (∀ d, h.port = some d → t.portOf d.other = s.portOf d.other ∧ t = { s with port := t.port } ∧
      (t.portOf d).replies = (if (s.portOf d).link then (s.portOf d).replies ++ [r] else (s.portOf d).replies) ∧
      (t.portOf d).dropped = (if (s.portOf d).link then (s.portOf d).dropped else (s.portOf d).dropped + 1) ∧
      (∀ k, Tab.get 0 (t.portOf d).rejected k = Tab.get 0 (s.portOf d).rejected k + (if k = st ∧ 0x0100 ≤ st then 1 else 0)) ∧
      t.portOf d = { s.portOf d with
        replies := (t.portOf d).replies, dropped := (t.portOf d).dropped, rejected := (t.portOf d).rejected } ∧
      ((∃ k ∈ (s.portOf d).image, k.is h op = true) →
        u.portOf d = { s.portOf d with image := (s.portOf d).image.eraseP fun k => k.is h op }) ∧
      ((∀ k ∈ (s.portOf d).image, k.is h op = false) →
        u.portOf d = { s.portOf d with fetched := (s.portOf d).fetched.eraseP fun k => k.is h op }) ∧
      u.queueOf h.queue.val = { s.queueOf h.queue.val with seq := (s.queueOf h.queue.val).seq + 1 } ∧
      (∀ q, q ≠ h.queue.val → u.queueOf q = s.queueOf q) ∧ u.portOf d.other = s.portOf d.other ∧
      u = { s with port := u.port, queue := u.queue }) ∧
    (h.port = none → t = { s with svc := if s.svc.cable then { s.svc with replies := s.svc.replies ++ [r] }
        else { s.svc with dropped := s.svc.dropped + 1 } } ∧
      ((∃ k ∈ s.svc.image, k.is h op = true) →
        u = { s with svc := { s.svc with image := s.svc.image.eraseP fun k => k.is h op } }) ∧
      ((∀ k ∈ s.svc.image, k.is h op = false) →
        u = { s with svc := { s.svc with fetched := s.svc.fetched.eraseP fun k => k.is h op } }))) ∧
  (let checks (o : HostOp) : Prop := ∀ (s : State) (h : Hdr) (ps : List Slot16),
    let x := s.unqueue h o.op
    let y := s.taken h o.op
    let fails (z : State) (status offset : Nat) : Prop := s.ends (o.cmd h ps) (z.answer h o.op status offset [])
    (s.portAnswers h.port = false → s.ends (o.cmd h ps) s) ∧ (s.clock.halt0 = true → s.ends (o.cmd h ps) s) ∧
    (s.serves h = false → s.unknownPackets.serves h = false → s.ends (o.cmd h ps) s) ∧
    (s.portAnswers h.port = true → h.ver ≠ 1 → fails x 0x0101 1) ∧
    (s.portAnswers h.port = true → h.ver = 1 → fld h.rsv 5 0 ≠ 0 → fails x 0x0101 10) ∧
    (s.portAnswers h.port = true → h.ver = 1 → fld h.rsv 5 0 = 0 → h.rsv ≠ 0 → fails x 0x0101 11) ∧
    (s.portAnswers h.port = true → h.ver = 1 → h.rsv = 0 → ∀ k < 12, fld h.zeros (8 * k + 7) (8 * k) ≠ 0 →
      (∀ j < k, fld h.zeros (8 * j + 7) (8 * j) = 0) → fails x 0x0101 (16 + k)) ∧
    (s.portAnswers h.port = true → h.ver = 1 → h.rsv = 0 → h.zeros = 0 → h.port ≠ none → h.seq ≠ (s.queueOf h.queue.val).seq →
      fails x 0x0109 12) ∧
    (s.hears h → ¬ s.authorised h o.op → fails y 0x0108 0) ∧
    (s.hears h → s.authorised h o.op → ∀ l, o.slots = some l →
      let width (i : Nat) : Nat := (l.getD i (0, 0, 0)).1
      let within (i : Nat) : Prop := (l.getD i (0, 0, 0)).2.1 ≤ pv ps i ∧ pv ps i ≤ (l.getD i (0, 0, 0)).2.2
      let top (i k : Nat) : Nat := pv ps i / 2 ^ width i * 2 ^ width i / 2 ^ (8 * k) % 256
      (ps.length ≠ l.length → fails y 0x0102 2) ∧
      (ps.length = l.length →
        (∀ i < l.length, (∀ j < i, pv ps j < 2 ^ width j) → ∀ k < 16, top i k ≠ 0 → (∀ j < k, top i j = 0) →
          fails y 0x0101 (32 + 16 * i + k)) ∧
        ((∀ i < l.length, pv ps i < 2 ^ width i) →
          (o.target s h ps = false → fails y 0x0103 8) ∧
          (o.target s h ps = true → ¬ s.tokenFits h o.op o.token →
            fails y (if h.token = true ∧ h.port ≠ none ∧ s.token.holder ≠ none then 0x0105 else 0x0104) 10) ∧
          (o.target s h ps = true → s.tokenFits h o.op o.token → ∀ i < l.length, (∀ j < i, within j) → ¬ within i →
            fails y 0x0103 (32 + 16 * i))))) ∧
    (s.dev.responder = true → responds o.op = false → o.slots = some [] → ps = [] → s.hears h → s.authorised h o.op →
      s.tokenFits h o.op o.token → o.target s h ps = true → fails y 0x0107 0xFFFF)
  eachDeviceOp checks ∧ eachChannelOp checks ∧ eachSystemOp checks) ∧
  (∀ (s : State) (h : Hdr) (ps : List Slot16), s.serves h = false → s.clock.halt0 = false → s.unknownPackets.serves h = true →
    exec (.devStatus h ps) s = exec (.devStatus h ps) s.unknownPackets)

/-- A packet of the ring whose turn it is, its completion ring having room, is fetched within the frame's budget: BAD_LENGTH
at offset 2 or CHECK_FAILED at 28 answer it at once with frame 0, else it waits for the capture; one beyond the budget stops
the port's fetching for the frame. The oldest reply goes into its completion ring with the ring's sequence once its frame's
outputs are committed, waits while the ring is full, and is dropped when the ring is gone. A measurement record that waits in
its queue is written, with the count of lost records in its word 1, or counted as lost; an event stream with nothing to write
first takes a record while an eighth of its ring is free, then roots alone, then a backlog of 64, the rest counted by code. A
refresh gives a side the image formed at the last COMMIT whose frame counts for it, which reads at every cell what R335 lists.
At a capture the token is freed, renewed and granted as R350 says, with its reply and its tie rule, and each semaphore goes to
its requester when free or released. Lease expiry of a lease that has run out frees the token at the frame's edge with R353's
effects; session expiry ends a session of 3,600 s with 0x0705. -/
def Obligations.DepotTokenAndStreams : Prop :=
  (∀ (s : State) (p : Side) (q : QueueIx) (bytes : List Byte),
    let x := s.portOf p
    let k := s.queueOf q.val
    let c := s.queueOf k.cq
    let n := pktFld bytes 2 2
    let turn : Prop := s.dev.st.answers = true ∧ x.link = true ∧ x.stopped = false ∧ s.nextRing p = some q.val
    let may : Prop := turn ∧ x.fetchB + n ≤ s.budget.1 ∧ s.fetchedN p + x.carried + 1 ≤ s.budget.2
    let sized : Prop := 32 ≤ n ∧ n ≤ 4096 ∧ n % 16 = 0 ∧ n ≤ k.esize ∧ n ≤ bytes.length
    let fetches (y : Port) : Prop := ∃ t, exec (.packetFetch p q bytes) s = .next t ∧ t.portOf p = y ∧ t.portOf p.other = s.portOf p.other ∧
      t.queueOf q.val = { k with cons := k.cons + 1 } ∧ (∀ j, j ≠ q.val → t.queueOf j = s.queueOf j) ∧
      t = { s with port := t.port, queue := t.queue }
    let own (status offset : Nat) : Port := { x with
      fetchB := x.fetchB + n, served := some q.val, rejected := Tab.upd 0 x.rejected status (· + 1)
      replies := x.replies ++ [⟨some p, q.val, pktFld bytes 0 1, BitVec.ofNat 32 (pktFld bytes 4 4), status, offset, 0, []⟩] }
    (s.nextRing p = some q.val → poolOf q.val = some p ∧ k.live = true ∧ k.type = 0 ∧ k.used ≠ 0 ∧ c.live = true ∧ x.replies.length < c.free) ∧
    (¬ turn → exec (.packetFetch p q bytes) s = .next s) ∧
    (turn → ¬ may → ∃ t, exec (.packetFetch p q bytes) s = .next t ∧ t.portOf p = { x with stopped := true } ∧
      t.portOf p.other = s.portOf p.other ∧ t = { s with port := t.port }) ∧
    (may → ¬ sized → fetches (own 0x0102 2)) ∧
    (may → sized → crcOk bytes = false → fetches (own 0x0109 28)) ∧
    (may → sized → crcOk bytes = true → fetches { x with
      fetchB := x.fetchB + n, served := some q.val, fetched := x.fetched ++ [{ port := some p, queue := q.val, bytes := bytes.take n }] })) ∧
  (∀ (s : State) (p : Side),
    let x := s.portOf p
    (x.replies = [] → exec (.replyWrite p) s = .next s) ∧
    (∀ r rest, x.replies = r :: rest →
      let c := (s.queueOf r.queue).cq
      let k := s.queueOf c
      (x.link = true → k.live = true → k.type = 1 → k.free ≠ 0 → s.replyDue r = true → ∃ t, exec (.replyWrite p) s = .next t ∧
        t.portOf p = { x with replies := rest } ∧ t.portOf p.other = s.portOf p.other ∧ t.queueOf c = { k with
          prod := k.prod + 1, written := k.written + 1, seq := k.seq + 1, last := r.words k.seq k.phase } ∧
        (∀ j, j ≠ c → t.queueOf j = s.queueOf j) ∧ t = { s with port := t.port, queue := t.queue }) ∧
      (x.link = true → k.live = true → k.type = 1 → k.free = 0 ∨ s.replyDue r = false → exec (.replyWrite p) s = .next s) ∧
      (x.link = true → k.live = false ∨ k.type ≠ 1 → ∃ t, exec (.replyWrite p) s = .next t ∧
        t.portOf p = { x with replies := rest, dropped := x.dropped + 1 } ∧ t.portOf p.other = s.portOf p.other ∧ t = { s with port := t.port }) ∧
      (x.link = false → exec (.replyWrite p) s = .next s))) ∧
  (∀ (s : State) (q : QueueIx) (ws : List Word),
    let x := s.queueOf q.val
    let waits : Prop := (8192 ≤ q.val ∧ q.val < 20480 ∧ q.val % 32 = 2) ∨ (ws ≠ [] ∧ x.words.take ws.length = ws)
    (x.bind = none ∨ ¬ waits → exec (.streamRecordWrite q ws) s = .next s) ∧
    (∀ r, waits → x.bind = some r → r ≠ q.val →
      let k := s.queueOf r
      let only (y z : Queue) : Prop := ∃ t, exec (.streamRecordWrite q ws) s = .next t ∧ t.queueOf q.val = { y with words := x.words.drop ws.length } ∧
        t.queueOf r = z ∧ (∀ j, j ≠ q.val → j ≠ r → t.queueOf j = s.queueOf j) ∧ t = { s with queue := t.queue }
      let put (w : List Word) : Queue := { k with prod := k.prod + 1, written := k.written + 1, last := w }
      let events : Prop := 8192 ≤ q.val ∧ q.val < 20480 ∧ q.val % 32 = 0
      let quiet : Prop := (x.backlog = [] ∧ x.counts = []) ∨ k.free * 2 < k.size
      let e := eventOf ws
      (k.live = false → exec (.streamRecordWrite q ws) s = .next s) ∧
      (k.live = true → ¬ events → k.free = 0 → only { x with lost := x.lost + 1 } k) ∧
      (k.live = true → ¬ events → k.free ≠ 0 → x.lost = 0 → only x (put ws)) ∧
      (k.live = true → ¬ events → k.free ≠ 0 → x.lost ≠ 0 →
        only { x with lost := 0 } (put (ws.set 1 (putFld (ws.getD 1 0) 71 64 (Nat.min x.lost 255))))) ∧
      (k.live = true → events → quiet →
        ((k.size ≤ k.free * 8 ∧ x.backlog = [] ∧ x.counts = []) ∨ (e.isRoot = true ∧ k.free ≠ 0) → only x (put ws)) ∧
        (k.free * 8 < k.size ∨ x.backlog ≠ [] ∨ x.counts ≠ [] → e.isRoot = false → only { x with counts := countHeld e.code x.counts } k) ∧
        (k.size ≠ 0 → k.free = 0 → e.isRoot = true → x.backlog.length < 64 → only { x with backlog := x.backlog ++ [e] } k) ∧
        (k.size ≠ 0 → k.free = 0 → e.isRoot = true → 64 ≤ x.backlog.length →
          only { x with counts := countDrop 0x0B01 x.counts } k)))) ∧
  (∀ (s : State) (p : Side),
    ∃ t, exec (.processImageRefresh p) s = .next t ∧ t.pimg.get p = s.pimgNew ∧ t.pimg.get p.other = s.pimg.get p.other ∧ t = { s with pimg := t.pimg }) ∧
  (∀ s : State, s.clock.tick < s.clock.fl → ∃ t, exec .commit s = .next t ∧
    (t.clock.frame.toNat % ((39 + t.clock.fl) / t.clock.fl) ≠ 0 → t.clock.fl ≠ 0 → t.pimgNew = s.pimgNew) ∧
    (t.clock.frame.toNat % ((39 + t.clock.fl) / t.clock.fl) = 0 → t.clock.fl ≠ 0 → (∀ e ∈ t.conn, e.1 < 8192) →
      let cell (k : Nat) : Word := Tab.get 0 t.pimgNew k
      cell 0x40000 = BitVec.ofNat 72 (t.clock.frame.toNat - 1) ∧ cell 0x7FFFF = cell 0x40000 ∧
      fld (cell 0x40001) 63 60 = t.dev.st.code ∧ (∀ f < 4096, cell (0x40100 + f) = t.fstat f) ∧
      (∀ k < 384, cell (0x41100 + k) = t.tstatWord k ∧ fld (cell (0x41300 + k)) 17 0 = (t.termOf k).ana.sample.toNat ∧
        fld (cell (0x41300 + k)) 30 18 = (t.termOf k).ana.cnt.toNat) ∧
      (∀ m < 64, ∀ j < 3, cell (0x41500 + 3 * m + j) = (t.mstat m).getD j 0) ∧ (∀ k < 48, cell (0x41600 + k) = t.pairStat k) ∧
      (∀ j < 64, cell (0x41700 + j) = (Tab.get (0 : BitVec 64) t.pd j).setWidth 72) ∧
      (∀ c < 8192, cell (0x42000 + c) = t.lstat c ∧ ((t.connOf c).st.up = false → ∀ j < 8, cell (0x44000 + 8 * c + j) = 0) ∧
        ((t.connOf c).st.up = true → ∀ j < 7, (cell (0x44000 + 8 * c + j)).toNat = fld (t.connOf c).data (72 * j + 71) (72 * j))))) ∧
  (∀ s : State, s.clock.tick = 0 → s.clock.captured = false →
    let h := s.token.holder
    let holds : Prop := ∀ d, h = some d → s.token.left ≠ 0 ∧ (s.portOf d).resetPend = false
    ∃ t, exec .capture s = .next t ∧ t.token.reqs = [] ∧
      (s.token.reqs = [] → (holds → t.token.holder = h ∧ t.token.left = s.token.left) ∧ (¬ holds → t.token.holder = none ∧ t.token.left = 0)) ∧
      (∀ p tag q, (s.portOf p).link = true → holds →
        let ends (hold : Option Side) (left op status : Nat) : Prop := t.token.holder = hold ∧ t.token.left = left ∧ t.replied p op tag q status
        (∀ ms, s.token.reqs = [⟨.acquire ms, p, tag, q⟩] →
          (h = none ∨ h = some p → ends (some p) (1000 * ms) 0x08 0x0000 ∧ t.token.last = some p) ∧
          (h = some p.other → ends h s.token.left 0x08 0x0105)) ∧
        (∀ ms, s.token.reqs = [⟨.renew ms, p, tag, q⟩] →
          (h = some p → ends h (1000 * ms) 0x09 0x0000) ∧ (h = none → ends none s.token.left 0x09 0x0104) ∧
          (h = some p.other → ends h s.token.left 0x09 0x0105)) ∧
        (s.token.reqs = [⟨.release, p, tag, q⟩] →
          (h = some p → ends none 0 0x0A 0x0000) ∧ (h = none → ends none s.token.left 0x0A 0x0104) ∧
          (h = some p.other → ends h s.token.left 0x0A 0x0105)) ∧
        (∀ ms ms' tag' q', h = none → s.token.reqs = [⟨.acquire ms, p, tag, q⟩, ⟨.acquire ms', p.other, tag', q'⟩] →
          t.token.holder = (match s.token.last with | none => some .A | some d => some d.other))) ∧
      (∀ k < 16,
        let code := fld s.token.semStat (2 * k + 1) (2 * k)
        let a := bit s.port.a.semReq k
        let b := bit s.port.b.semReq k
        let now := fld t.token.semStat (2 * k + 1) (2 * k)
        let free : Prop := code = 0 ∨ (code = 1 ∧ (bit s.port.a.semRel k = true ∨ s.port.a.resetPend = true)) ∨
          (code = 2 ∧ (bit s.port.b.semRel k = true ∨ s.port.b.resetPend = true))
        (¬ free → now = code) ∧
        (free → (a = true → b = false → now = 1) ∧ (a = false → b = true → now = 2) ∧ (a = false → b = false → now = 0) ∧
          (a = true → b = true → now = if fld s.token.semLast (2 * k + 1) (2 * k) = 1 then 2 else 1))) ∧
      (∀ d, (t.portOf d).semReq = 0 ∧ (t.portOf d).semRel = 0 ∧ (t.portOf d).resetPend = false)) ∧
  (∀ s : State,
    let u := s.toTick 0
    (s.token.holder = none ∨ s.token.left ≠ 0 → exec .tokenLeaseExpiry s = .next s) ∧
    (∀ d, s.token.holder = some d → s.token.left = 0 → ∃ t, exec .tokenLeaseExpiry s = .next t ∧
      t.token.holder = none ∧ t.token.left = 0 ∧ t.token.last = s.token.last ∧ t.armed = none ∧ u.reports t 0x0704 (nPort d) 0 (d.ix + 1) ∧
      (∀ g, t.dev.cfgStage = some g ↔ s.dev.cfgStage = some g ∧ g.ended = true) ∧
      (∀ g, t.dev.fwStage = some g ↔ s.dev.fwStage = some g ∧ g.ended = true) ∧
      (∀ f, (u.fnOf f).comm = false → t.fnOf f = u.fnOf f) ∧
      (∀ f ∈ u.fns, (t.fnOf f).comm = false ∧ ((u.fnOf f).comm = true → (u.fnOf f).st = .armed ∨ (u.fnOf f).st = .run → (t.fnOf f).st = .locked)) ∧
      t = { u.takeEvents t with
        token := t.token, armed := none, fn := t.fn, ledger := t.ledger
        dev := { u.dev with cfgStage := t.dev.cfgStage, fwStage := t.dev.fwStage } }) ∧
    (∀ port, s.sessionOf port = none → exec (.sessionExpiry port) s = .next s) ∧
    (∀ port x, s.sessionOf port = some x → s.clock.count < x.opened + 3600000000 → exec (.sessionExpiry port) s = .next s) ∧
    (∀ port x, s.sessionOf port = some x → x.opened + 3600000000 ≤ s.clock.count → ∃ t, exec (.sessionExpiry port) s = .next t ∧ t.sessionOf port = none ∧
      s.reports t 0x0705 (nPort (port.getD .A)) 0 (x.id.toNat % 2 ^ 28) ∧ (∀ o, o ≠ port → t.sessionOf o = s.sessionOf o) ∧
      t = { s.takeEvents t with port := t.port, svc := { s.svc with session := t.svc.session } }))

/-- IDENTIFY, ECHO, DEV_STATUS, PORT_STATUS, TOKEN_STATUS, CFG_READ, CFG_STATUS, CH_READ_CFG, CH_STATUS, CH_READ_CAL,
WAGON_STATUS, PD_READ, SF_STATUS, SF_STATUS_BULK, SF_DEMANDS, SF_GROUP_STATUS, MON_READ_CFG, MON_STATUS, ENC_STATUS,
JRNL_INFO, JRNL_READ, LEDGER_INFO, LEDGER_READ, LEDGER_KEY, ST_RESULT, RETIRE_READ, PAIR_STATUS, COACH_STATUS, Q_STATUS,
NET_STATUS, CONN_STATUS, CAGE_STATUS, FW_STATUS, TIME_GET and PTP_STATUS that pass the checks answer OK with the table's
words, or BAD_LENGTH where they do not fit, and change nothing else. CFG_READ and the counted reads refuse a class, word or
count past the last object. JRNL_READ of a sequence outside the ring's span is OUT_OF_RANGE, of an invalid page CHECK_FAILED;
LEDGER_READ of a page that both sides do not hold alike is CHECK_FAILED with an event; LEDGER_KEY without a valid secret,
after a zeroise or during the crypto engine's test, and ST_RESULT without a verdict answer a refusing status that is free (log
entry 5). The packing of some replies is the model's (log entry 63). -/
def Obligations.ReadCommands : Prop :=
  ∀ (s : State) (h : Hdr),
    let t := h.target.toNat
    let d := h.port.getD .A
    let refuses (i : Instr) (op status offset : Nat) : Prop :=
      s.admits h op false → exec i s = .next ((s.taken h op).answer h op status offset [])
    let open_ (i : Instr) (op : Nat) : Prop := s.admits h op false →
      s.gives i h op (0x0100 + Config.freeNat s.free % 13) [] { s.taken h op with free := s.free + 1 }
    let devState := s.dev.st.code * 2 ^ 60
    let token := holderCode s.token.holder * 2 ^ 62 + holderCode s.token.last * 2 ^ 60 + s.token.left % 2 ^ 32
    let vers := [s.dev.fw.a.a.version.toNat, s.dev.fw.a.b.version.toNat, s.dev.fw.b.a.version.toNat, s.dev.fw.b.b.version.toNat]
    let word (cls idx w : Nat) : Nat := (s.cw cls idx w).toNat;
    (h.target = 0xFFFF →
      s.reads (.identify h []) h 0x00 ([0x0192 * 2 ^ 48 + s.otpFld d 71 64 * 2 ^ 40 + (d.ix + 1) * 2 ^ 32, s.serialOn d] ++ vers ++
        [fld s.pkg.digest 71 0, s.dev.lifecycle.toNat]) ∧
      (∀ ps, ps.length ≤ 254 → s.reads (.echo h ps) h 0x01 (ps.map BitVec.toNat)) ∧
      (∀ ps, 254 < ps.length → refuses (.echo h ps) 0x01 0x0102 2) ∧
      s.reads (.devStatus h []) h 0x02 [devState, s.clock.frame.toNat, token, if s.dev.st = .holding then s.dev.holdCause else 0] ∧
      (let x := s.portOf d;
        s.reads (.portStatus h []) h 0x03 ([x.gen, x.width, x.cnt.toNat, x.taken.toNat, x.bad.toNat, x.vc0.toNat] ++
          (List.range 13).map fun k => Tab.get 0 x.rejected (0x0100 + k))) ∧
      s.reads (.tokenStatus h []) h 0x0B [token] ∧
      s.reads (.cfgStatus h []) h 0x16 (digestSlots s.pkg.digest ++
        digestSlots (match s.cfgStaged with | some p => p.digest | none => 0) ++ [stageCode s.dev.cfgStage]) ∧
      s.reads (.fwStatus h []) h 0xB4 (vers ++ [s.dev.running.ix, stageCode s.dev.fwStage]) ∧
      s.reads (.sfDemands h []) h 0x42 ([s.half.a.door.toNat, s.half.b.door.toNat, s.half.a.nstop.toNat, s.half.b.nstop.toNat] ++
        (List.range 37).map s.doorMap) ∧
      s.reads (.ledgerInfo h []) h 0x62 [seqOf (ringOldest (s.ledgValid .A ++ s.ledgValid .B)),
        seqOf (ringHead (s.ledgValid .A ++ s.ledgValid .B)), s.ledger.seq.toNat - 1 - s.ledger.mark.toNat, s.ledger.lost] ∧
      (∀ n : BitVec 40, let ps : List Slot16 := [n.setWidth 128];
        (∀ ws, s.ledgCopy .A n.toNat = some ws → s.ledgCopy .B n.toNat = some ws →
          s.reads (.ledgerRead h ps) h 0x63 (ws.map BitVec.toNat)) ∧
        (s.ledgCopy .A n.toNat = none ∨ s.ledgCopy .A n.toNat ≠ s.ledgCopy .B n.toNat → s.admits h 0x63 false →
          s.gives (.ledgerRead h ps) h 0x63 0x0109 [] ((s.taken h 0x63).postFree nDevice))) ∧
      (s.keysHeld d = true → s.reads (.ledgerKey h []) h 0x65
        (((Config.keyRecord (s.secret d) (BitVec.ofNat 64 (s.serialOn d))).take 33).map BitVec.toNat)) ∧
      (s.keysHeld d = false → open_ (.ledgerKey h []) 0x65) ∧
      s.reads (.timeGet h []) h 0xC0 [s.timeWord.toNat, s.time.tsrc.toNat]) ∧
    (t < 192 →
      s.reads (.chReadCfg h []) h 0x20 [word cCCFG t 0, word cTIN (2 * t) 0, word cTIN (2 * t + 1) 0, word cTOUT (2 * t) 0,
        word cTOUT (2 * t + 1) 0, word cACFG t 0, word cKCFG (2 * t) 0, word cKCFG (2 * t + 1) 0] ∧
      s.reads (.chStatus h []) h 0x21 [(s.tstatWord (2 * t)).toNat, (s.tstatWord (2 * t + 1)).toNat, (s.capWord (2 * t)).toNat,
        (s.capWord (2 * t + 1)).toNat]) ∧
    (t < 384 → s.reads (.chReadCal h []) h 0x22 [(s.tcal t false).toNat, (s.tcal t true).toNat]) ∧
    (t < 12 → s.reads (.wagonStatus h []) h 0x24 (word cWCFG t 0 :: (s.wagonSide (2 * t) ++ s.wagonSide (2 * t + 1)))) ∧
    (∀ c w : Byte, let ps : List Slot16 := [c.setWidth 128, w.setWidth 128]
      let classes : List (Nat × Nat × Nat) := [(1, 12, 1), (2, 6144, 2), (3, 48, 1), (4, 48, 24), (5, 1, 1), (6, 4096, 1 + fparCount (s.tid t)),
        (7, 128, 2), (8, 16, 1), (9, 2, 1), (10, 8192, 4), (11, 1, 1), (12, 512, 1), (13, 12, 1), (14, 1, 1), (15, 1, 1)]
      (∀ k ∈ classes, c.toNat = k.1 →
        (t < k.2.1 → w.toNat < k.2.2 → s.reads (.cfgRead h ps) h 0x15 [word c.toNat t w.toNat]) ∧
        (t < k.2.1 → k.2.2 ≤ w.toNat → refuses (.cfgRead h ps) 0x15 0x0103 48) ∧
        (k.2.1 ≤ t → s.hears h → s.authorised h 0x15 → exec (.cfgRead h ps) s = .next ((s.taken h 0x15).answer h 0x15 0x0103 8 []))) ∧
      (c = 0 ∨ 0x10 ≤ c.toNat → refuses (.cfgRead h ps) 0x15 0x0103 32)) ∧
    (∀ n : Byte, let ps : List Slot16 := [n.setWidth 128];
      (1 ≤ n.toNat → n.toNat ≤ 64 → t < 64 →
        (t + n.toNat ≤ 64 → s.reads (.pdRead h ps) h 0x31 ((List.range n.toNat).map fun i => (Tab.get (0 : BitVec 64) s.pd (t + i)).toNat)) ∧
        (64 < t + n.toNat → refuses (.pdRead h ps) 0x31 0x0103 32)) ∧
      (1 ≤ n.toNat → n.toNat ≤ 240 → t < 4096 →
        (t + n.toNat ≤ 4096 → s.reads (.sfStatusBulk h ps) h 0x41 ((List.range n.toNat).map fun i => (s.fstat (t + i)).toNat)) ∧
        (4096 < t + n.toNat → refuses (.sfStatusBulk h ps) 0x41 0x0103 32))) ∧
    (t < 4096 → s.reads (.sfStatus h []) h 0x40 [word cFCFG t 0, (s.fstat t).toNat]) ∧
    (t < 512 → s.reads (.sfGroupStatus h []) h 0x46 ((List.range 6).map fun k =>
      (s.fns.filter fun f => s.fGroup f = t ∧ (s.fnOf f).st.code = k).length)) ∧
    (t < 64 → s.reads (.monReadCfg h []) h 0x50 ((List.range 14).map (word cMON t)) ∧
      s.reads (.monStatus h []) h 0x51 ((s.mstat t).map BitVec.toNat)) ∧
    (t < 8 → s.reads (.encStatus h []) h 0x54 [word cECFG t 0, word cECFG (8 + t) 0, (s.encOf t).img0.toNat, (s.encOf t).img1.toNat,
      (s.encOf (8 + t)).img0.toNat, (s.encOf (8 + t)).img1.toNat]) ∧
    (t < 2 → let e := Side.ofIx t;
      s.reads (.jrnlInfo h []) h 0x60 [seqOf (ringOldest (s.jrnlValid e)), seqOf (ringHead (s.jrnlValid e))] ∧
      (∀ n : BitVec 40, let ps : List Slot16 := [n.setWidth 128]
        let inside : Prop := ∃ a b, ringOldest (s.jrnlValid e) = some a ∧ ringHead (s.jrnlValid e) = some b ∧
          serialGt a.2 n.toNat = false ∧ serialGt n.toNat b.2 = false
        (¬ inside → refuses (.jrnlRead h ps) 0x61 0x0103 0xFFFF) ∧
        (inside → (s.jrnlValid e).find? (fun p => p.2 = n.toNat) = none → refuses (.jrnlRead h ps) 0x61 0x0109 0xFFFF) ∧
        (∀ p, inside → (s.jrnlValid e).find? (fun p => p.2 = n.toNat) = some p → s.reads (.jrnlRead h ps) h 0x61
          ((List.range 64).map fun k => (Tab.get (0 : Word) (s.mem.get e).mram (jrnlAddr p.1 k)).toNat))) ∧
      s.reads (.retireRead h []) h 0x72 ((List.range 8).map fun k => fld (s.retireMap e) (72 * k + 71) (72 * k)) ∧
      s.reads (.netStatus h []) h 0xA0 [word cNCFG t 0, (s.cageOf (2 * t)).code, (s.cageOf (2 * t + 1)).code, b2n (s.netOf e).locked,
        encInt 128 (s.netOf e).offset] ∧
      s.reads (.ptpStatus h []) h 0xC2 [b2n (s.netOf e).locked + 2 * b2n (s.netOf e).master, encInt 128 (s.netOf e).offset, (s.netOf e).gm.toNat]) ∧
    (∀ c : Byte, let ps : List Slot16 := [c.setWidth 128]
      1 ≤ c.toNat → c.toNat ≤ 11 → testTarget c.toNat t = true →
        let n := testNode c.toNat t
        let v := Tab.get ({} : Verdict) s.tests.last (testKey n c.toNat);
        (v.known = true → s.reads (.stResult h ps) h 0x71 (testSlots n c.toNat v.verdict v.elapsed ++ [v.at_, b2n v.requested])) ∧
        (v.known = false → open_ (.stResult h ps) 0x71)) ∧
    (t < 48 → s.reads (.pairStatus h []) h 0x80 [(s.pairStat t).toNat]) ∧
    (t < 128 → t % 64 < 52 → s.reads (.coachStatus h []) h 0x81 [s.coachCode t]) ∧
    (t < 32768 → (h.port ≠ none → let q := s.queueOf t;
        s.reads (.qStatus h []) h 0x93 [q.d0.toNat, q.d1.toNat, q.prod.toNat, q.cons.toNat, q.lost]) ∧
      (h.port = none → refuses (.qStatus h []) 0x93 0x0107 0xFFFF)) ∧
    (t < 8192 → let k := s.connOf t;
      s.reads (.connStatus h []) h 0xA1 ([(s.lstat t).toNat, (s.lcfg0 t).toNat, (s.lcfg1 t).toNat] ++
        (List.range 8).map (fun i => Tab.get 0 k.discA (i + 1)) ++ (List.range 8).map fun i => Tab.get 0 k.discB (i + 1))) ∧
    (t < 4 → let c := s.cageOf t;
      s.reads (.cageStatus h []) h 0xA3 [c.code, (match c.ident with | some m => ModuleInfo.code m | none => 0), c.alarms.toNat])

/-- TOKEN_ACQUIRE, TOKEN_RENEW and TOKEN_RELEASE wait for the next capture's decision. CFG_ and FW_STAGE_BEGIN empty the
region that is not active and begin a staging, BUSY while one runs; STAGE_DATA puts its bytes at its offset in this port's
staging; STAGE_END is accepted, and STAGE_VERIFY_DONE brings the final reply: the staged copies, or no staging. CFG_ACTIVATE
in RUNNING takes a spare slot and hands over the slots with changed functions, in STANDBY and HOLDING it applies at the next
commit with target 0xFFFF, as R417 says it decommissions or takes ownership, else STATE_CONFLICT; FW_ACTIVATE hands over every
slot with work, and in the boot responder restarts at PROVING. ACTIVATION_DONE, at a commit edge, makes the staged copy ACTIVE
with the next sequence, with the final reply; functions that a package keeps keep their state, changed ones are LOCKED; FW_SVN
rises to the image's security version. CFG_ABORT discards the staging. CH_CALIBRATE and CH_REHOME follow their refusals in
order, and REHOME_APPLY takes effect at a commit edge, with its final reply. PD_WRITE's cells wait for the commit. -/
def Obligations.ConfigurationCommands : Prop :=
  (∀ (s : State) (h : Hdr), let t := h.target.toNat; let d := h.port.getD .A
    (∀ (p : Side) (ms : BitVec 16), h.port = some p → h.target = 0xFFFF →
      let asks (i : Instr) (op : Nat) (k : TokKind) : Prop := s.admits h op false → exec i s = .next { s.taken h op with
        token := { s.token with reqs := s.token.reqs ++ [⟨k, p, h.tag, h.queue.val⟩] } }
      (100 ≤ ms.toNat → ms.toNat ≤ 60000 → asks (.tokenAcquire h [ms.setWidth 128]) 0x08 (.acquire ms.toNat) ∧
        asks (.tokenRenew h [ms.setWidth 128]) 0x09 (.renew ms.toNat)) ∧
      asks (.tokenRelease h []) 0x0A .release) ∧
    (h.target = 0xFFFF → ∀ fw : Bool,
      let op := if fw then 0xB0 else 0x10
      let most := if fw then 33554430 else 8388603
      let copies (x : State) (e r : Side) : BitVec 4 × Bool :=
        if fw then ((((x.dev.fw.get e).get r).state, ((x.dev.fw.get e).get r).valid)) else (((x.dev.cfg.get e).get r).state, ((x.dev.cfg.get e).get r).valid)
      let spare := if fw then s.dev.running.other else s.cfgSpare
      (∀ n ≤ most, s.admits h op true → let i := if fw then Instr.fwStageBegin h [BitVec.ofNat 128 n] else .cfgStageBegin h [BitVec.ofNat 128 n]
        ((∃ g, s.stageOf fw = some g ∧ g.verified = false) → s.refuses i h op 0x0106) ∧
        ((∀ g, s.stageOf fw = some g → g.verified = true) → ∃ x, s.gives i h op 0 [] x ∧
          x.stageOf fw = some { port := d, length := n } ∧ x.stageOf (!fw) = s.stageOf (!fw) ∧
          (∀ e, copies x e spare = (0, false) ∧ copies x e spare.other = copies s e spare.other) ∧
          x = { s.taken h op with dev := if fw then { s.dev with fw := x.dev.fw, fwStage := x.dev.fwStage }
                                        else { s.dev with cfg := x.dev.cfg, cfgStage := x.dev.cfgStage } })) ∧
      (∀ (off : Nat) (data : List Slot16), off ≤ most → s.admits h (op + 1) true →
        let i := if fw then Instr.fwStageData h (BitVec.ofNat 128 off :: data) else .cfgStageData h (BitVec.ofNat 128 off :: data)
        (∀ g, s.stageOf fw = some g → off % 16 = 0 → off + 16 * data.length ≤ (g.length + 15) / 16 * 16 → some g.port = h.port → g.ended = false →
          ∃ g', s.gives i h (op + 1) 0 [] ((s.taken h (op + 1)).withStage fw (some g')) ∧ g' = { g with bytes := g'.bytes } ∧
            ∀ a, Tab.get (0 : Byte) g'.bytes a = if off ≤ a ∧ a < off + 16 * data.length ∧ a < g.length
              then BitVec.ofNat 8 ((data.getD ((a - off) / 16) 0).toNat / 256 ^ ((a - off) % 16)) else Tab.get 0 g.bytes a) ∧
        (∀ g, s.stageOf fw = some g → off % 16 ≠ 0 ∨ (g.length + 15) / 16 * 16 < off + 16 * data.length →
          exec i s = .next ((s.taken h (op + 1)).answer h (op + 1) 0x0103 32 [])) ∧
        (∀ g, s.stageOf fw = some g → off % 16 = 0 → off + 16 * data.length ≤ (g.length + 15) / 16 * 16 →
          some g.port ≠ h.port ∨ g.ended = true → s.refuses i h (op + 1) 0x0107) ∧
        (s.stageOf fw = none → off % 16 = 0 → off + 16 * data.length ≤ most → s.refuses i h (op + 1) 0x0107)) ∧
      (s.admits h (op + 2) true → let i := if fw then Instr.fwStageEnd h [] else .cfgStageEnd h []
        (s.stageOf fw = none → s.refuses i h (op + 2) 0x0107) ∧
        (∀ g, s.stageOf fw = some g →
          let ready : Prop := some g.port = h.port ∧ g.verified = false ∧ (fw = true ∨ s.time.valid = true)
          (¬ ready → s.refuses i h (op + 2) 0x0107) ∧ (ready → g.ended = true → s.refuses i h (op + 2) 0x0106) ∧
          (ready → g.ended = false → s.accepts i h (op + 2) 0 ((s.taken h (op + 2)).withStage fw
            (some { g with ended := true, tag := h.tag, queue := h.queue.val })))))) ∧
    (∀ n : Nat, 1 ≤ n → n ≤ 1024 → s.admits h 0x13 true → t < 48 ∨ h.target = 0xFFFF →
      let i := Instr.cfgActivate h [BitVec.ofNat 128 n]
      (s.activating = true → s.refuses i h 0x13 0x0106) ∧
      (s.activating = false → s.cfgStaged = none → s.refuses i h 0x13 0x0107) ∧
      (∀ p, s.activating = false → s.cfgStaged = some p → tidsOk p = false ∨ modesOk p = false → s.refuses i h 0x13 0x0109) ∧
      (∀ p, s.activating = false → s.cfgStaged = some p → tidsOk p = true → modesOk p = true →
        let takes (slots : List Nat) (next : Bool) : Prop := ∃ x a, s.accepts i h 0x13 0 x ∧ x.dev.cfgAct = some a ∧
          a = ⟨d, h.tag, h.queue.val, t, n, slots.dropWhile fun q => (s.slotOf q).st ≠ .locked, p.changed, []⟩ ∧ x.dev.applyPkg = next ∧
          (∀ q, x.slotOf q = if a.slots.head? = some q then { s.slotOf q with hand := some { target := t, n := n } } else s.slotOf q) ∧
          x = { s.taken h 0x13 with slot := x.slot, dev := { s.dev with cfgAct := x.dev.cfgAct, applyPkg := next } }
        let own := bit p.flags 0 = true
        let dec := bit p.flags 1 = true
        let leaves : Prop := h.target = 0xFFFF ∧ s.portRole h.port 3 = true ∧ s.unexported = 0 ∧ s.dev.lifecycle = 2
        let owns : Prop := h.target = 0xFFFF ∧ s.dev.lifecycle = 1 ∧ s.portRole h.port 4 = true ∧ s.completable .A p.ownerRoot = true ∧
          s.completable .B p.ownerRoot = true
        (s.dev.st = .running → (s.isSpare t = true ∧ ¬ own ∧ ¬ dec → takes (s.changedSlots p) false) ∧
          (s.isSpare t = false ∨ own ∨ dec → s.refuses i h 0x13 0x0107)) ∧
        (s.dev.st = .standby ∨ s.dev.st = .holding → (h.target = 0xFFFF → ¬ own → ¬ dec → takes [] true) ∧ (dec → leaves → takes [] false) ∧
          ((dec ∧ ¬ leaves) ∨ (¬ dec ∧ (h.target ≠ 0xFFFF ∨ own)) → s.refuses i h 0x13 0x0107)) ∧
        (s.dev.st = .service → (dec → leaves → takes [] false) ∧ (¬ dec → own → owns → takes [] false) ∧
          ((dec ∧ ¬ leaves) ∨ (¬ dec ∧ ¬ (own ∧ owns)) → s.refuses i h 0x13 0x0107)))) ∧
    (∀ n : Nat, 1 ≤ n → n ≤ 1024 → s.admits h 0xB3 true →
      let i := Instr.fwActivate h [BitVec.ofNat 128 n]
      (s.dev.responder = false → t < 48 ∨ h.target = 0xFFFF →
        (s.dev.st = .holding ∨ s.isSpare t = false → s.refuses i h 0xB3 0x0107) ∧
        (s.dev.st ≠ .holding → s.isSpare t = true → s.activating = true → s.refuses i h 0xB3 0x0106) ∧
        (s.dev.st ≠ .holding → s.isSpare t = true → s.activating = false → s.fwStaged = none → s.refuses i h 0xB3 0x0107) ∧
        (∀ g, s.dev.st ≠ .holding → s.isSpare t = true → s.activating = false → s.fwStaged = some g →
          let slots := ((List.range 48).filter fun q => s.hosts q ∧ (s.slotOf q).st ≠ .retired).dropWhile fun q => (s.slotOf q).st ≠ .locked
          ∃ x, s.accepts i h 0xB3 0 x ∧ x.dev.fwAct = some ⟨d, h.tag, h.queue.val, t, n, slots, [], []⟩ ∧
            (∀ q, x.slotOf q = if slots.head? = some q then { s.slotOf q with hand := some { target := t, n := n } } else s.slotOf q) ∧
            x = { s.taken h 0xB3 with slot := x.slot, dev := { s.dev with fwAct := x.dev.fwAct } })) ∧
      (s.dev.responder = true → (t < 48 ∨ (h.target = 0xFFFF ∧ s.fwStaged = none) → s.refuses i h 0xB3 0x0107) ∧
        (∀ g, h.target = 0xFFFF → s.fwStaged = some g → ∃ x, exec i s = .next x ∧ x.dev.st = .proving ∧
          ∀ e, ((x.dev.fw.get e).get s.dev.running.other).state = 2 ∧ ((x.dev.fw.get e).get s.dev.running.other).actSeq =
            ((s.dev.fw.get .A).get s.dev.running).actSeq + 1))) ∧
    (h.target = 0xFFFF → s.admits h 0x14 true → (s.activating = true → s.refuses (.cfgAbort h []) h 0x14 0x0106) ∧
      (s.activating = false → ∃ x, s.gives (.cfgAbort h []) h 0x14 0 [] x ∧ x.dev.cfgStage = none ∧ x.cfgStaged = none ∧
        (∀ e, (x.dev.cfg.get e).get s.cfgSpare.other = (s.dev.cfg.get e).get s.cfgSpare.other ∧
          ((x.dev.cfg.get e).get s.cfgSpare).pkg = ((s.dev.cfg.get e).get s.cfgSpare).pkg ∧
          (((s.dev.cfg.get e).get s.cfgSpare).state ≠ 1 → (x.dev.cfg.get e).get s.cfgSpare = (s.dev.cfg.get e).get s.cfgSpare)) ∧
        x = { s.taken h 0x14 with dev := { s.dev with cfg := x.dev.cfg, cfgStage := none } })) ∧
    (t < 384 → s.admits h 0x23 true →
      let c := tChan t
      let live : Prop := ∃ f ∈ s.fnsOfChan c, (s.fnOf f).st = .armed ∨ (s.fnOf f).st = .run
      let short : Prop := fld (s.acfg c) 27 12 * 1000 < s.calFrames * s.clock.fl
      let i := Instr.chCalibrate h []
      (s.dev.st = .holding → s.refuses i h 0x23 0x0107) ∧
      (s.dev.st ≠ .holding → s.calibrating t = true → s.refuses i h 0x23 0x0106) ∧
      (s.dev.st ≠ .holding → s.calibrating t = false →
        let bad : Prop := if s.mode c = mAI then short ∨ s.otherUnfit t = true else live
        (bad → s.refuses i h 0x23 0x010C) ∧
        (¬ bad → s.accepts i h 0x23 0 ((s.taken h 0x23).updTerm t fun y => { y with ana := { y.ana with
          calTag := some (d, h.tag, h.queue.val) } })))) ∧
    (∀ b < 192, t < 192 → s.admits h 0x25 true →
      let i := Instr.chRehome h [BitVec.ofNat 128 b]
      let mine (p : Pkg) : Prop := ∃ g, s.dev.cfgStage = some g ∧ g.verified = true ∧ some g.port = h.port ∧ g.pkg = p
      let bads : List (Prop × Nat) := [(t = b ∨ t / 16 ≠ b / 16, 0x0103), (¬ ∃ p, mine p, 0x0107), (s.spareOk b = false, 0x0107),
        (s.pairedUnit t = true, 0x0107), (s.chanBusy t = true ∨ s.chanBusy b = true, 0x0106),
        (∃ f ∈ s.fnsOfChan t, (s.fnOf f).st = .armed ∨ (s.fnOf f).st = .run, 0x010C), (∃ p, mine p ∧ onlyMove s.pkg p t b = false, 0x0109),
        (s.activating = true, 0x0106)]
      (∀ k < bads.length, (bads.getD k (False, 0)).1 → (∀ j < k, ¬ (bads.getD j (False, 0)).1) → s.refuses i h 0x25 (bads.getD k (False, 0)).2) ∧
      ((∀ k ∈ bads, ¬ k.1) → s.accepts i h 0x25 0 { s.taken h 0x25 with rehome := some ⟨t, b, h.port, h.tag, h.queue.val⟩ })) ∧
    (∀ vals : List (BitVec 64), 1 ≤ vals.length → vals.length ≤ 64 → t < 64 →
      let i := Instr.pdWrite h (BitVec.ofNat 128 vals.length :: vals.map fun v => v.setWidth 128)
      (s.admits h 0x30 false → t + vals.length ≤ 64 → s.gives i h 0x30 0 [] { s.taken h 0x30 with
        pdNext := s.pdNext ++ (List.range vals.length).map fun k => (t + k, vals.getD k 0) }) ∧
      (s.admits h 0x30 false → 64 < t + vals.length → exec i s = .next ((s.taken h 0x30).answer h 0x30 0x0103 32 [])))) ∧
  (∀ (s : State) (fw : Bool),
    let op := if fw then 0xB2 else 0x12
    let spare := if fw then s.dev.running.other else s.cfgSpare
    ((∀ g, s.stageOf fw = some g → g.ended = false ∨ g.verified = true) → exec (.stageVerifyDone fw) s = .next s) ∧
    (∀ g, s.stageOf fw = some g → g.ended = true → g.verified = false → (s.portOf g.port).link = true →
      let st := if fw then (s.verifyFw g.all).1 else (s.verifyCfg g.all).1
      ∃ t, exec (.stageVerifyDone fw) s = .next t ∧ t.replied g.port op g.tag g.queue st ∧ t.stageOf (!fw) = s.stageOf (!fw) ∧
        (st ≠ 0 → t.stageOf fw = none ∧ t = { s with port := t.port, dev := t.dev } ∧ t.dev.cfg = s.dev.cfg ∧ t.dev.fw = s.dev.fw) ∧
        (∀ p, fw = false → s.verifyCfg g.all = (0, some p) → t.stageOf false = some { g with verified := true, pkg := p } ∧
          ∀ e, (t.dev.cfg.get e).get spare = { (s.dev.cfg.get e).get spare with state := 1, valid := true, pkg := p }) ∧
        (∀ im, fw = true → s.verifyFw g.all = (0, some im) → t.stageOf true = some { g with verified := true, image := im } ∧
          ∀ e, (t.dev.fw.get e).get spare = { im with actSeq := ((s.dev.fw.get e).get spare).actSeq }) ∧
        t.portOf g.port.other = s.portOf g.port.other ∧ t = { s with port := t.port, dev := t.dev }) ∧
    (∀ bs, (s.cfgSigned bs = false → (s.verifyCfg bs).1 = 0x0108) ∧
      (s.cfgSigned bs = true → (s.verifyCfg bs).1 = 0 ∨ (s.verifyCfg bs).1 = 0x0109) ∧
      (s.cfgSigned bs = true → digestAt bs 4 ≠ Config.sha384 (bs.drop 576) → (s.verifyCfg bs).1 = 0x0109) ∧
      (fld (wordAt bs 0) 31 24 < s.svnMin .A → (s.verifyFw bs).1 ≠ 0)) ∧
    let edge : Prop := s.clock.tick = 0 ∧ s.clock.committed = true
    (¬ edge ∨ s.cfgStaged = none ∨ (∀ a, s.dev.cfgAct = some a → a.slots ≠ []) ∨ s.dev.applyPkg = true → s.ends (.activationDone false) s) ∧
    (¬ edge ∨ s.fwStaged = none ∨ (∀ a, s.dev.fwAct = some a → a.slots ≠ []) → s.ends (.activationDone true) s) ∧
    (∀ a p, edge → s.dev.cfgAct = some a → s.cfgStaged = some p → a.slots = [] → s.dev.applyPkg = false → (s.portOf a.port).link = true →
      ∃ t, exec (.activationDone false) s = .next t ∧ t.replied a.port 0x13 a.tag a.queue 0 ∧ t.dev.cfgAct = none ∧ t.dev.cfgStage = none ∧
        (∀ e, ((t.dev.cfg.get e).get s.cfgSpare).state = 2 ∧ ((t.dev.cfg.get e).get s.cfgSpare).actSeq = s.cfgSeq + 1) ∧ t.gatesSafe ∧
        (∃ e : LedgerEntry, e.kind = 9 ∧ e ∈ t.ledger.waiting) ∧
        (bit p.flags 1 = true → t.pkg = s.pkg ∧ t.fn = s.fn ∧ ∀ e, t.otpFld e 1671 1416 = 2 ^ 256 - 1 ∧ t.otpFld e 194 194 = 1) ∧
        (bit p.flags 1 = false → bit p.flags 0 = true → t.pkg = s.pkg ∧ t.fn = s.fn ∧ ∀ e, t.otpFld e 193 193 = 1) ∧
        (bit p.flags 0 = false → bit p.flags 1 = false → t.pkg = p ∧
          ∀ f, (f ∈ s.fns → f ∈ t.fns → f ∉ p.changed → (t.fnOf f).st = (s.fnOf f).st) ∧
            (f ∈ t.fns → f ∈ p.changed ∨ f ∉ s.fns → isMode (t.tid f) = false → (t.fnOf f).st = .locked) ∧
            (f ∈ s.fns → f ∉ t.fns → (t.fnOf f).st = .none))) ∧
    (∀ a g, edge → s.dev.fwAct = some a → s.fwStaged = some g → a.slots = [] → (s.portOf a.port).link = true →
      let r := s.dev.running.other
      ∃ t, exec (.activationDone true) s = .next t ∧ t.replied a.port 0xB3 a.tag a.queue 0 ∧ t.dev.fwAct = none ∧ t.dev.running = r ∧
        (∀ e, ((t.dev.fw.get e).get r).state = 2 ∧ ((t.dev.fw.get e).get r).actSeq = ((s.dev.fw.get .A).get r.other).actSeq + 1 ∧
          (t.dev.fw.get e).get r.other = (s.dev.fw.get e).get r.other ∧ g.svn.toNat.min 64 ≤ t.svnMin e) ∧ s.otpKept t ∧ t.pkg = s.pkg ∧ t.fn = s.fn) ∧
    (¬ edge ∨ s.rehome = none ∨ s.cfgStaged = none → s.ends .rehomeApply s) ∧
    (∀ m p e, edge → s.rehome = some m → s.cfgStaged = some p → m.port = some e → (s.portOf e).link = true →
      ∃ t, exec .rehomeApply s = .next t ∧ t.rehome = none ∧ t.replied e 0x25 m.tag m.queue 0 ∧ t.pkg = { p with changed := [] } ∧ t.gatesSafe ∧
        (∀ f, f ∈ s.fns → f ∈ t.fns → (t.fnOf f).st = (s.fnOf f).st) ∧ ∃ e : LedgerEntry, e.kind = 9 ∧ e ∈ t.ledger.waiting))

/-- SF_RESET_ARM of a REMOTE instance arms it for its port with CHAL = frame xor tag, else REFUSED_SAFETY. SF_RESET_CONFIRM
from that port for that instance within 2,000,000 ticks with CHAL xor 0xFFFF consumes the arm and answers OK exactly when R254
accepts the reset, whose change then waits for the commit; a wrong CHAL voids the arm with CHECK_FAILED; anything else is
STATE_CONFLICT. SF_COMMISSION with COMM_OK enters the mode from LOCKED, TRIPPED or FAULT and leaves it, ARMED and RUN
returning to LOCKED; without COMM_OK it is REFUSED_SAFETY. MON_STOP asks for a stop at the running capture, or the next one
where no frame runs; without HOST_EN it is NOT_IN_MODE. SHIFT_LOAD gives the named engines a program for the next commit; a
reserved OP is CHECK_FAILED, a running engine without force BUSY_SHIFT. LEDGER_ACK raises the export mark in both record
areas. ST_RUN is refused with 0x0A04 posted, or accepted with the test entered and its class's start. PAIR_SPLIT, PAIR_JOIN
and PAIR_HANDOVER are accepted under R199's, R203's and R204's conditions, else STATE_CONFLICT; a split of slot 0 is
REFUSED_SAFETY. -/
def Obligations.FunctionTestAndSlotCommands : Prop :=
  ∀ (s : State) (h : Hdr), let t := h.target.toNat; let d := h.port.getD .A
    let ends (i : Instr) (op status : Nat) (x : State) : Prop := s.ends i (x.answer h op status 0xFFFF [])
    (t ∈ s.fns → s.admits h 0x43 true → let i := Instr.sfResetArm h []
      let chal := BitVec.ofNat 16 s.clock.frame.toNat ^^^ BitVec.ofNat 16 h.tag.toNat
      (bit (s.fcfg t) 35 = false → s.refuses i h 0x43 0x010C) ∧
      (bit (s.fcfg t) 35 = true → s.gives i h 0x43 0 [chal.toNat] { s.taken h 0x43 with armed := some ⟨t, d, chal, s.edgeCount⟩ })) ∧
    (∀ v : BitVec 16, t ∈ s.fns → s.admits h 0x44 true → let i := Instr.sfResetConfirm h [v.setWidth 128]
      let y := s.taken h 0x44
      (bit (s.fcfg t) 35 = false → ends i 0x44 0x010C y) ∧
      (bit (s.fcfg t) 35 = true → (s.armed = none → ends i 0x44 0x0107 y) ∧
        (∀ a, s.armed = some a →
          let mine : Prop := a.fn = t ∧ some a.port = h.port ∧ s.edgeCount ≤ a.at_ + 2000000
          let f := s.fnOf t
          let faults := s.presentFaults t ++ (f.cur.filter fun c => isFaultCause c.1) ++ s.edmFails t ++
            (if s.tid t = 0x12 then [] else s.lastedCause t)
          let demands := s.inputDemands t ++ s.groupDemands t ++ s.templateDemands t ++ f.cur.filter fun c => !isFaultCause c.1
          let accepted : Prop := (f.st = .locked ∨ f.st = .tripped ∨ f.st = .fault) ∧ s.dev.st = .running ∧
            (s.slotOf (s.fSlot t)).st = .locked ∧ faults = [] ∧ (f.st = .fault ∨ demands = [])
          let decided (status : Nat) (P : FnWork → Prop) : Prop := ∃ x w, ends i 0x44 status x ∧ P w ∧
            x.fnOf t = { f with reset := true, next := some w } ∧ (∀ g, g ≠ t → x.fnOf g = s.fnOf g) ∧ x = { y with armed := none, fn := x.fn }
          (¬ mine → ends i 0x44 0x0107 y) ∧ (mine → v ≠ a.chal ^^^ 0xFFFF#16 → ends i 0x44 0x0109 { y with armed := none }) ∧
          (mine → v = a.chal ^^^ 0xFFFF#16 → isMode (s.tid t) = false → f.st ≠ .none →
            (accepted → decided 0 fun w => w.latched = [] ∧ (demands = [] → w.chg = some (.armed, 0, 0, 0x1FF)) ∧
              (demands ≠ [] → ∃ c, w.chg = some (.tripped, c))) ∧
            (¬ accepted → decided 0x0107 fun w => ∀ st c, w.chg = some (st, c) → st = .armed → False)) ∧
          (mine → v = a.chal ^^^ 0xFFFF#16 → isMode (s.tid t) = true → f.st ≠ .none → decided 0x0107 fun w => w.latched = []) ∧
          (mine → v = a.chal ^^^ 0xFFFF#16 → f.st = .none → f.next = none →
            ends i 0x44 0x0107 ({ y with armed := none }.updFn t fun z => { z with reset := true }))))) ∧
    (∀ v : BitVec 1, t ∈ s.fns → s.admits h 0x45 true → let i := Instr.sfCommission h [v.setWidth 128]
      let y := s.taken h 0x45
      let f := s.fnOf t
      let changes (c : Bool) (kind : Nat) : Prop := ∃ x, ends i 0x45 0 x ∧ (x.fnOf t).comm = c ∧ (∀ g, g ≠ t → x.fnOf g = s.fnOf g) ∧
        (f.st ≠ .armed → f.st ≠ .run → x.fnOf t = { f with comm := c }) ∧ (f.st = .armed ∨ f.st = .run → (x.fnOf t).st = .locked) ∧
        (∃ e : LedgerEntry, e.kind = BitVec.ofNat 8 kind ∧ e.inst = t ∧ x.ledger.waiting = s.ledger.waiting ++ [e]) ∧
        x = { y.takeEvents x with fn := x.fn, ledger := x.ledger, armed := x.armed }
      (bit (s.fcfg t) 34 = false → ends i 0x45 0x010C y) ∧
      (bit (s.fcfg t) 34 = true →
        (v = 0 → f.comm = true → changes false 8) ∧ (v = 0 → f.comm = false → ends i 0x45 0 y) ∧ (v = 1 → f.comm = true → ends i 0x45 0 y) ∧
        (v = 1 → f.comm = false → (f.st = .locked ∨ f.st = .tripped ∨ f.st = .fault → changes true 7) ∧
          (f.st = .none ∨ f.st = .armed ∨ f.st = .run → ends i 0x45 0x0107 y)))) ∧
    (t < 8 → s.admits h 0x52 false →
      (bit (s.mstop t 1) 6 = false → s.refuses (.monStop h []) h 0x52 0x010A) ∧
      (bit (s.mstop t 1) 6 = true → ∃ x, s.gives (.monStop h []) h 0x52 0 [] x ∧ (x.monxOf t).hostStop = true ∧
        (s.monOld = none ∨ s.msrc t = 0 → x = (s.taken h 0x52).updMonx t fun y => { y with hostStop := true }) ∧
        (s.monOld ≠ none → s.msrc t ≠ 0 → let r := s.monStop t true
          (x.monxOf t).stopReq = true ∧ (x.monxOf t).nextSt = some r.1 ∧ (x.monxOf t).raise = lowerRaise r.2 (s.monLimits t)) ∧
        (∀ j, j ≠ t → x.monxOf j = s.monxOf j ∧ x.monOf j = s.monOf j) ∧ (∀ f, f ∉ s.bound t → x.fnOf f = s.fnOf f) ∧
        x = { (s.taken h 0x52).takeEvents x with mon := x.mon, monx := x.monx, fn := x.fn })) ∧
    (∀ (m : BitVec 2) (force : Bool) (prog : List (BitVec 24)), t < 8 → m ≠ 0 → 1 ≤ prog.length → prog.length ≤ 64 → s.admits h 0x53 true →
      let ins (k : Nat) : Nat := (prog.getD k 0).toNat
      let i := Instr.shiftLoad h ([m.setWidth 128, BitVec.ofNat 128 (b2n force), BitVec.ofNat 128 prog.length] ++
        (List.range ((prog.length + 2) / 3)).map fun k => BitVec.ofNat 128 (ins (3 * k) + ins (3 * k + 1) * 2 ^ 24 + ins (3 * k + 2) * 2 ^ 48))
      let known : Prop := ∀ w ∈ prog, 1 ≤ fld w 23 20 ∧ fld w 23 20 ≤ 0x0A
      let busy : Prop := (bit m 0 = true ∧ bit (s.encOf t).img1 67 = true) ∨ (bit m 1 = true ∧ bit (s.encOf (8 + t)).img1 67 = true)
      (s.dev.st = .holding → s.refuses i h 0x53 0x0107) ∧ (s.dev.st ≠ .holding → ¬ known → s.refuses i h 0x53 0x0109) ∧
      (s.dev.st ≠ .holding → known → force = false → busy → s.refuses i h 0x53 0x010B) ∧
      (s.dev.st ≠ .holding → known → force = true ∨ ¬ busy → ∃ x, s.gives i h 0x53 0 [] x ∧ x = { s.taken h 0x53 with engine := x.engine } ∧
        ∀ j, x.engOf j = if (j = t ∧ bit m 0 = true) ∨ (j = 8 + t ∧ bit m 1 = true) then { s.engOf j with load := some prog } else s.engOf j)) ∧
    (∀ n : BitVec 40, h.target = 0xFFFF → s.admits h 0x64 true → let i := Instr.ledgerAck h [n.setWidth 128]
      (s.ledger.seq.toNat ≤ n.toNat → s.refuses i h 0x64 0x0103) ∧
      (n.toNat < s.ledger.seq.toNat → n.toNat ≤ s.ledger.mark.toNat → s.gives i h 0x64 0 [] (s.taken h 0x64)) ∧
      (n.toNat < s.ledger.seq.toNat → s.ledger.mark.toNat < n.toNat → ∃ x, s.gives i h 0x64 0 [] x ∧ x.ledger = { s.ledger with mark := n } ∧
        (s.writable = true → ∀ e a, Tab.get (0 : Word) (x.mem.get e).mram a = if a = recAddr 1 then n.setWidth 72 else Tab.get 0 (s.mem.get e).mram a) ∧
        (s.writable = false → x.mem = s.mem) ∧
        (∀ e, (x.mem.get e).frame = (s.mem.get e).frame ∧ (x.mem.get e).device = (s.mem.get e).device) ∧
        x = { s.taken h 0x64 with ledger := x.ledger, mem := x.mem })) ∧
    (∀ c : Byte, 1 ≤ c.toNat → c.toNat ≤ 11 → testTarget c.toNat t = true → s.admits h 0x70 true →
      let cls := c.toNat
      let n := testNode cls t
      let i := Instr.stRun h [c.setWidth 128]
      let y := s.taken h 0x70
      let e := testSide cls t
      let fails (st : Nat) : Prop := ends i 0x70 st (y.post 0x0A04 n 0 st)
      let taken : Prop := s.isRetired n cls = true ∨ (cls = 1 ∧ (s.cstOf t).retired = true) ∨ (s.tests.find n cls).isSome = true ∨
        s.tests.running.any (·.requested) = true
      (s.dev.st = .holding → fails 0x0107) ∧ (s.dev.st ≠ .holding → taken → fails 0x0106) ∧
      (s.dev.st ≠ .holding → ¬ taken → (∀ st, s.testRefusal cls t = some st → fails st) ∧
        (cls = 2 → s.tests.freeBank.get e = none → fails 0x0107) ∧ (cls = 7 → bit (s.encOf t).img1 67 = true → fails 0x010B) ∧
        (cls = 9 → s.tests.lanesOut ≠ 0 ∨ s.lanesRetired ≠ [] → fails 0x0107) ∧
        (s.testRefusal cls t = none → 16 ≤ s.openOf h.port → ends i 0x70 0x0106 y) ∧
        (s.testRefusal cls t = none → s.openOf h.port < 16 → s.fits h 5 = true → ∃ x : State,
          s.ends i ((x.answer h 0x70 1 0xFFFF []).openMore h.port) ∧
          (∃ q ∈ x.tests.running, q.node = n ∧ q.cls = cls ∧ q.started = s.clock.count ∧ q.reply = some (h.port, h.tag, h.queue.val)) ∧
          (cls ≠ 2 → x.tests.running = s.tests.running ++
              [{ node := n, cls := cls, requested := true, started := s.clock.count, reply := some (h.port, h.tag, h.queue.val) }] ∧
            x = { y with tests := x.tests, coachSt := x.coachSt, slot := x.slot, chip := x.chip, view := x.view, half := x.half, engine := x.engine
                         timer := x.timer }) ∧
          (cls = 2 → ((x.bankAt e (t % 16)).testing = true ∨ (x.bankAt e (t % 16)).copying = true) ∧
            ∀ p ∈ Config.bankSlots (16 * e.ix + t % 16), p < 48 → (s.slotOf p).st = .locked → (x.slotOf p).st = .testing ∧
              bit (x.halfOf e).mismatch p = true) ∧
          (cls = 5 → ∀ k < 16, bit (x.chipOf t).halfLeft k = (s.termOf (chipTerm t k)).out.gate) ∧
          (cls = 10 → (x.viewOf t).echoRun = 0 ∧ (x.viewOf t).echoBad = 0) ∧
          (cls = 1 → (s.slotOfCoach e (t % 64) = none → (x.cstOf t).powering = true) ∧
            (∀ p, s.slotOfCoach e (t % 64) = some p → s.isSpare p = true → (x.slotOf p).st = .testing ∧ (x.slotOf p).joining = true) ∧
            (∀ p q, s.slotOfCoach e (t % 64) = some p → s.isSpare p = false → s.lowestSpare = some q →
              (x.slotOf p).hand = some { target := q, n := 16 })) ∧
          (cls = 6 → bit (x.halfOf e).planeTest (t % 2) = true) ∧ (cls = 7 → (x.engOf t).testing = true) ∧
          (cls = 8 → (x.timerOf t).stale = true) ∧ (cls = 9 → bit x.tests.lanesOut t = true)))) ∧
    (t < 48 → ∀ v : BitVec 16,
      let slotted (op : Nat) (y : Slot) : State := (s.taken h op).updSlot t fun _ => y
      let answer (op : Nat) : Option (Option Side × BitVec 32 × Nat × Nat) := some (h.port, h.tag, h.queue.val, op)
      let source : Prop := (s.slotOf t).st = .locked ∧ s.hosts t = true ∧ (s.slotOf t).hand = none
      (s.admits h 0x82 true → let i := Instr.pairSplit h [v.setWidth 128]
        let q := v.toNat
        (q < 48 ∨ q = 0xFFFF →
          let alone : Prop := s.isSpare t = true
          let through : Prop := source ∧ s.isSpare q = true
          let free : Prop := s.dev.st ≠ .holding ∧ t ≠ 0
          (t = 0 → s.refuses i h 0x82 0x010C) ∧
          (t ≠ 0 → ¬ free ∨ (¬ alone ∧ ¬ through) → s.refuses i h 0x82 0x0107) ∧
          (free → alone → s.accepts i h 0x82 1 (slotted 0x82 { s.slotOf t with splitPend := true, reply := answer 0x82 })) ∧
          (free → ¬ alone → through → s.accepts i h 0x82 1 (slotted 0x82 { s.slotOf t with
            hand := some { target := q, n := 16, thenSplit := true, reply := answer 0x82 } }))) ∧
        (48 ≤ q → q ≠ 0xFFFF → exec i s = .next ((s.taken h 0x82).answer h 0x82 0x0103 32 []))) ∧
      (s.admits h 0x83 true → let i := Instr.pairJoin h []
        let can : Prop := s.dev.st ≠ .holding ∧ (s.slotOf t).st = .split ∧ (s.slotOf t).joining = false
        (¬ can → s.refuses i h 0x83 0x0107) ∧
        (can → s.accepts i h 0x83 0 (slotted 0x83 { s.slotOf t with joining := true, reply := answer 0x83 }))) ∧
      (s.admits h 0x84 true → ∀ q < 48, ∀ n : Nat,
        let can : Prop := s.dev.st ≠ .holding ∧ source ∧ s.isSpare q = true
        let short := Instr.pairHandover h [BitVec.ofNat 128 q]
        let long := Instr.pairHandover h [BitVec.ofNat 128 q, BitVec.ofNat 128 n]
        let goes (i : Instr) (k : Nat) : Prop := (¬ can → s.refuses i h 0x84 0x0107) ∧
          (can → s.accepts i h 0x84 0 (slotted 0x84 { s.slotOf t with hand := some { target := q, n := k, reply := answer 0x84 } }))
        goes short 16 ∧ (1 ≤ n → n ≤ 1024 → goes long n)))

/-- Q_CREATE makes a live empty ring of its words; a reserved field is RESERVED_FIELD, TYPE 3 or a size outside 4-16
OUT_OF_RANGE, an existing queue, an admin ring or a CQ that is no live completion ring of the port STATE_CONFLICT. Q_DELETE
discards the unfetched entries and unbinds, unless the ring is missing, admin or still named. Q_BIND binds to a live stream
ring or unbinds, unless bound to the other port or owned by a split coach. KEY_EXPORT gives the wrapped key in a session with
KEYX, else AUTH_FAILED; without a transport key the refusing status is free (log entry 5). TIME_SET sets valid time with TSRC
4 unless PTP is locked. SVC_CHALLENGE stores a free nonce. SVC_OPEN consumes the nonce, and opens a session with its event
(where that enables level S of the debug port, the secret is zeroised and scratch cleared) only under a nonce of at most 60 s,
valid time and a matching credential; SVC_CLOSE ends it. On the service port, cable events are recorded (their code is free,
log entry 64), a removal ends the session and drops waiting replies, a packet passes checks 1 and 2 within Port 1's budget,
rings are STATE_CONFLICT. The TAP takes an instruction only at its level; IDCODE reads BUILD, 0x0192 and 1. -/
def Obligations.QueueTimeAndSessionCommands : Prop :=
  (∀ (s : State) (h : Hdr), let t := h.target.toNat; let d := h.port.getD .A
    let open_ (i : Instr) (op : Nat) : Prop := s.gives i h op (0x0100 + Config.freeNat s.free % 13) [] { s.taken h op with free := s.free + 1 }
    (∀ w0 w1 : Word, t < 8192 → s.admits h 0x90 false → let i := Instr.qCreate h [w0.setWidth 128, w1.setWidth 128]
      let typ := fld w0 71 70
      let k := s.queueOf (fld w1 71 57)
      let reserved : Prop := fld w0 10 0 ≠ 0 ∨ fld w1 29 0 ≠ 0 ∨ (typ ≠ 0 ∧ fld w1 71 57 ≠ 0) ∨ (typ = 0 ∧ fld w1 56 46 ≠ 0)
      let sized : Prop := typ ≠ 3 ∧ 4 ≤ fld w0 69 65 ∧ fld w0 69 65 ≤ 16
      let names : Prop := typ ≠ 0 ∨ (poolOf (fld w1 71 57) = h.port ∧ k.live = true ∧ k.type = 1)
      (h.port = none ∨ h.port = poolOf t → reserved → ∃ o, 32 ≤ o ∧ o < 64 ∧ exec i s = .next ((s.taken h 0x90).answer h 0x90 0x0101 o [])) ∧
      (h.port = none ∨ h.port = poolOf t → ¬ reserved → ¬ sized → exec i s = .next ((s.taken h 0x90).answer h 0x90 0x0103 32 [])) ∧
      (h.port ≠ none → h.port ≠ poolOf t → ¬ reserved → exec i s = .next ((s.taken h 0x90).answer h 0x90 0x0103 8 [])) ∧
      (h.port = none → ¬ reserved → sized → s.refuses i h 0x90 0x0107) ∧
      (h.port ≠ none → h.port = poolOf t → ¬ reserved → sized →
        let can : Prop := (s.queueOf t).live = false ∧ 2 ≤ t % 4096 ∧ names
        (¬ can → s.refuses i h 0x90 0x0107) ∧
        (can → s.gives i h 0x90 0 [] ((s.taken h 0x90).updQueue t fun _ => { live := true, d0 := w0, d1 := w1 })))) ∧
    (t < 8192 → s.admits h 0x91 false → let i := Instr.qDelete h []
      (h.port = none → s.refuses i h 0x91 0x0107) ∧
      (h.port ≠ none → h.port = poolOf t →
        let named : Prop := (s.queueOf t).type = 1 ∧ ∃ e ∈ s.queue, e.1 < 8192 ∧ e.2.live = true ∧ e.2.type = 0 ∧ e.2.cq = t
        let can : Prop := (s.queueOf t).live = true ∧ 2 ≤ t % 4096 ∧ ¬ named
        (¬ can → s.refuses i h 0x91 0x0107) ∧
        (can → Tab.wf {} s.queue = true → h.queue.val ≠ t → ∃ x, s.gives i h 0x91 0 [] x ∧ (x.queueOf t).live = false ∧
          (x.queueOf t).cons = (s.queueOf t).prod ∧ (∀ q, (x.queueOf q).bind ≠ some t) ∧
          (∀ q, q ≠ t → q ≠ h.queue.val → x.queueOf q = { s.queueOf q with bind := (x.queueOf q).bind }) ∧
          (∀ q, q ≠ t → (s.queueOf q).bind ≠ some t → (x.queueOf q).bind = (s.queueOf q).bind) ∧ x = { s.taken h 0x91 with queue := x.queue }))) ∧
    (∀ r : BitVec 16, s.admits h 0x92 false → bindable t = true → let i := Instr.qBind h [r.setWidth 128]
      let elsewhere : Prop := ∃ b, (s.queueOf t).bind = some b ∧ poolOf b ≠ h.port
      (h.port = none → s.refuses i h 0x92 0x0107) ∧
      (h.port ≠ none → r ≠ 0xFFFF → poolOf r.toNat ≠ h.port → exec i s = .next ((s.taken h 0x92).answer h 0x92 0x0103 32 [])) ∧
      (h.port ≠ none → r = 0xFFFF ∨ poolOf r.toNat = h.port →
        let can : Prop := ¬ elsewhere ∧ s.splitOwned t = false ∧ (r = 0xFFFF ∨ ((s.queueOf r.toNat).live = true ∧ (s.queueOf r.toNat).type = 2))
        (¬ can → s.refuses i h 0x92 0x0107) ∧
        (can → s.gives i h 0x92 0 [] ((s.taken h 0x92).updQueue t fun y => { y with
          bind := if r = 0xFFFF then none else some r.toNat })))) ∧
    (∀ (g : BitVec 16) (v : BitVec 1), t < 8192 → s.admits h 0xA2 true → let i := Instr.keyExport h [g.setWidth 128, v.setWidth 128]
      let key := Config.transportKey (s.secret d) (s.wrapOf s.pkg)
      (s.portRole h.port 0 = false → s.refuses i h 0xA2 0x0108) ∧
      (s.portRole h.port 0 = true → s.keysHeld d = false ∨ key = none → open_ i 0xA2) ∧
      (∀ k, s.portRole h.port 0 = true → s.keysHeld d = true → key = some k →
        let w := Config.keyWrap k (Config.connKey (s.secret d) s.pkg.nsalt t g.toNat (v = 1))
        s.gives i h 0xA2 0 [fld w 127 0, fld w 191 128] (s.taken h 0xA2))) ∧
    (∀ v : BitVec 71, h.target = 0xFFFF → s.admits h 0xC1 true → let i := Instr.timeSet h [v.setWidth 128]
      ((s.netOf .A).locked = true ∨ (s.netOf .B).locked = true → s.refuses i h 0xC1 0x0107) ∧
      ((s.netOf .A).locked = false → (s.netOf .B).locked = false → ∃ x, s.gives i h 0xC1 0 [] x ∧
        x.time = { s.time with tai := v.toNat, capTai := v.toNat - 1000 * s.clock.tick, valid := true, tsrc := 4 } ∧
        (s.time.valid = true → x = { s.taken h 0xC1 with time := x.time }) ∧
        (s.time.valid = false → (s.folds nDevice = true ∨ ∃ e ∈ x.log, e.code = 0x0906 ∧ e.source = nDevice ∧ e.sev = 0) ∧
          x.tests = { s.tests with trans0 := [] } ∧ (∀ e, (x.mem.get e).frame = (s.mem.get e).frame ∧ (x.mem.get e).device = (s.mem.get e).device) ∧
          (s.writable = false → x.mem = s.mem) ∧
          x = { (s.taken h 0xC1).takeEvents x with time := x.time, tests := x.tests, mem := x.mem }))) ∧
    (h.target = 0xFFFF →
      (s.admits h 0xF0 false → ∃ (n : BitVec 256) (x : State), s.gives (.svcChallenge h []) h 0xF0 0 [fld n 127 0, fld n 255 128] x ∧
        x.nonceOf h.port = some (n, s.clock.count) ∧ (∀ o, o ≠ h.port → x.nonceOf o = s.nonceOf o) ∧
        x = { s.taken h 0xF0 with port := x.port, svc := x.svc, free := s.free + 4 } ∧ (∀ o, x.sessionOf o = s.sessionOf o)) ∧
      (s.admits h 0xF2 false → ∃ x, s.gives (.svcClose h []) h 0xF2 0 [] x ∧ x.sessionOf h.port = none ∧
        (∀ o, o ≠ h.port → x.sessionOf o = s.sessionOf o) ∧
        (∀ y, s.sessionOf h.port = some y → s.reports x 0x0705 (nPort d) 0 (y.id.toNat % 2 ^ 28)) ∧
        x = { (s.taken h 0xF2).takeEvents x with port := x.port, svc := x.svc }) ∧
      (∀ ps : List Slot16, ps.length = 7 → pv ps 0 < 2 ^ 32 → s.admits h 0xF1 false → let i := Instr.svcOpen h ps
        let y := (s.taken h 0xF1).withNonce h.port none
        let old := s.sessionOf h.port
        (∀ c, s.svcCred h ps = some c → ∃ n, s.nonceOf h.port = some n ∧ s.clock.count ≤ n.2 + 60000000 ∧ s.time.valid = true ∧
          c ∈ s.creds ∧ c.id.toNat = pv ps 0 ∧ c.notBefore.toNat ≤ s.taiDay ∧ s.taiDay ≤ c.notAfter.toNat ∧ (h.port = none → bit c.roles 5 = true)) ∧
        (s.svcCred h ps = none → s.gives i h 0xF1 0x0108 [] y) ∧
        (∀ c, s.svcCred h ps = some c → old ≠ none ∨ (bit c.roles 2 = true ∧ s.dev.st = .running) → s.gives i h 0xF1 0x0107 [] y) ∧
        (∀ c, s.svcCred h ps = some c → old = none → bit c.roles 2 = false ∨ s.dev.st ≠ .running → ∃ x,
          let id := BitVec.ofNat 32 (s.time.bootSeq.toNat % 2 ^ 16 * 2 ^ 16 + (s.svc.sessions + 1))
          s.gives i h 0xF1 0 [id.toNat] x ∧ x.sessionOf h.port = some ⟨id, c.id, c.roles, s.clock.count⟩ ∧ x.nonceOf h.port = none ∧
            (∀ o, o ≠ h.port → x.sessionOf o = s.sessionOf o ∧ x.nonceOf o = s.nonceOf o) ∧ x.svc.sessions = s.svc.sessions + 1 ∧
            s.reports x 0x0705 (nPort d) 0 (id.toNat % 2 ^ 28) ∧
            x.dev.toService = (s.dev.toService || (bit c.roles 2 && (decide (s.dev.st = .standby) || decide (s.dev.st = .holding)))) ∧
            (x.debugS = true → x.dev.secretOk = false ∧ ∀ i, (x.coachOf i).scratch = []) ∧
            (x.debugS = false → x.dev.secretOk = s.dev.secretOk ∧ x.coach = s.coach) ∧
            x = { y.takeEvents x with port := x.port, svc := x.svc, coach := x.coach
                                      dev := { s.dev with toService := x.dev.toService, secretOk := x.dev.secretOk } })))) ∧
  (∀ s : State,
    let recorded (t : State) : Prop := (s.dev.st ≠ .dormant → ∃ e : LedgerEntry, e.kind = 6 ∧ t.ledger.waiting = s.ledger.waiting ++ [e]) ∧
      (s.dev.st = .dormant → t.ledger = s.ledger ∧ (s.svc.session = none → t.log = s.log))
    (s.svc.cable = true → exec .serviceCableInserted s = .next s) ∧ (s.svc.cable = false → exec .serviceCableRemoved s = .next s) ∧
    (s.svc.cable = false → ∃ t, exec .serviceCableInserted s = .next t ∧ t.svc = { s.svc with cable := true } ∧ recorded t ∧
      t = { s.takeEvents t with svc := t.svc, ledger := t.ledger, free := t.free }) ∧
    (s.svc.cable = true → ∃ t, exec .serviceCableRemoved s = .next t ∧
      t.svc = { s.svc with cable := false, dropped := s.svc.dropped + s.svc.replies.length, replies := [], nonce := none, session := none } ∧ recorded t ∧
      t = { s.takeEvents t with svc := t.svc, ledger := t.ledger, free := t.free }) ∧
    (∀ bytes : List Byte,
      let x := s.portOf .A
      let n := pktFld bytes 2 2
      let may : Prop := s.portAnswers none = true ∧ x.fetchB + n ≤ s.budget.1 ∧ s.fetchedN .A + 1 ≤ s.budget.2
      let sized : Prop := 32 ≤ n ∧ n ≤ 4096 ∧ n % 16 = 0 ∧ n ≤ bytes.length
      let takes (y : Service) : Prop := exec (.servicePacket bytes) s = .next { s with
        port := s.port.set { x with fetchB := x.fetchB + n } .A, svc := y }
      let own (status offset : Nat) : Service := { s.svc with replies := s.svc.replies ++
        [⟨none, 0, pktFld bytes 0 1, BitVec.ofNat 32 (pktFld bytes 4 4), status, offset, 0, []⟩] }
      (¬ may → exec (.servicePacket bytes) s = .next s) ∧ (may → ¬ sized → takes (own 0x0102 2)) ∧
      (may → sized → crcOk bytes = false → takes (own 0x0109 28)) ∧
      (may → sized → crcOk bytes = true → takes { s.svc with fetched := s.svc.fetched ++
        [{ port := none, queue := 0, bytes := bytes.take n }] })) ∧
    (∀ ins : TapIns,
      let levelS : Prop := s.dev.st = .service ∧ (s.hasRole 2 = true ∨ s.dev.lifecycle = 0 ∨ s.dev.lifecycle = 3)
      let allowed : Prop := ins = .bypass ∨ ins = .idcode ∨ levelS ∨ (ins = .coachDebug ∧ s.debugC = true)
      ∃ t, exec (.tapInstruction ins) s = .next t ∧ t = { s with svc := t.svc } ∧ t.svc = { s.svc with tap := t.svc.tap, tapOut := t.svc.tapOut } ∧
        (allowed → t.svc.tap = ins) ∧ (¬ allowed → t.svc.tap = .bypass) ∧
        (ins = .idcode → fld t.svc.tapOut 31 28 = s.otpFld .A 67 64 ∧ fld t.svc.tapOut 27 12 = 0x0192 ∧ fld t.svc.tapOut 11 0 = 1)))

/-- JOURNAL_PAGE_WRITE writes the oldest waiting page, or else the open page, once 100 ms old (one tick in cautious mode),
with its moment and records, at the ring's next page of its side: every word, CAUT as the bank now stands, then the commit
word with the page's sequence and CRC; the place and the sequence advance (2^40 - 1 is followed by 1), no other word of MRAM
changes, and nothing else but that journal. Records dropped for want of space follow once it has returned. Without such a
page, under the warning or PFAIL_N, or after 11,111 pages in a second, nothing changes. MRAM_WORD_WRITE changes the one
aligned word alone; under the warning, or where no word of a region begins, nothing. COLLAPSE_SUMMARY at a COLLAPSE_FR-th
frame after a window of the node opened posts one SUMMARY record per code counted in it, 0x0B02 for the rest, and clears the
counters; at another frame nothing. COLLAPSE_WINDOW_CLOSE does so and closes the window once its condition has ended
COLLAPSE_FR frames ago; else nothing. -/
def Obligations.JournalMramAndWindows : Prop :=
  (∀ (s : State) (d : Side),
    let j := s.journal.get d
    let ram (x : State) (a : Nat) : Word := Tab.get 0 (x.mem.get d).mram a
    let recent := j.wrote.filter fun t => decide (s.clock.count < t + 1000000)
    let off : Prop := s.writable = false ∨ s.power.pfail = true ∨ 11111 ≤ recent.length
    let due (o : Nat × Nat × Word × Bool) : Prop := o.2.1 + (if s.bankHealthy then 100000000 else 1000) ≤ s.pns
    let commit (ws : List Word) : Word := BitVec.ofNat 72 (at_ j.seq.toNat 32 + (crc32c ((ws.map wordBytes).flatten ++ leBytes 5 j.seq.toNat)).toNat)
    (off ∨ (j.waiting = [] ∧ ∀ o, j.opened = some o → ¬ due o) → exec (.journalPageWrite d) s = .next s) ∧
    (¬ off → ∀ (ws : List Word) (rest : List (List Word)),
      j.waiting = ws :: rest ∨ (j.waiting = [] ∧ rest = [] ∧ ∃ o, j.opened = some o ∧ due o ∧ ws.length = 63 ∧
        fld (ws.getD 0 0) 71 68 = 1 ∧ j.recs.length ≤ 30 ∧ fld (ws.getD 0 0) 67 63 = j.recs.length ∧ fld (ws.getD 0 0) 61 61 = b2n o.2.2.2 ∧
        fld (ws.getD 0 0) 60 56 = 0 ∧ fld (ws.getD 0 0) 55 32 = s.time.bootSeq.toNat ∧ fld (ws.getD 0 0) 31 0 = o.1 % 2 ^ 32 ∧
        ws.getD 1 0 = BitVec.ofNat 72 o.2.1 ∧ ws.getD 62 0 = (if o.2.2.2 then o.2.2.1 else 0) ∧
        ∀ r < 30, ws.getD (2 + 2 * r) 0 = (match j.recs[r]? with | some e => e.time | none => 0) ∧
          ws.getD (3 + 2 * r) 0 = (match j.recs[r]? with | some e => e.word1 | none => 0)) →
      (j.waiting = [] → (ws.getD 0 0).getLsbD 62 = false) →
      ∃ t, exec (.journalPageWrite d) s = .next t ∧
        let place (k : Nat) : Nat := 0x05020000 + 576 * j.next + 9 * k
        let caut : List Word := match ws with | [] => [] | w :: r => setBit w 62 (!s.bankHealthy) :: r
        (∀ k < ws.length, ram t (place k) = caut.getD k 0) ∧ ram t (place ws.length) = commit caut ∧
        (∀ a, (∀ k ≤ ws.length, a ≠ place k) → ram t a = ram s a) ∧
        (t.journal.get d).next = (j.next + 1) % 72590 ∧
        (t.journal.get d).seq = (if j.seq = BitVec.allOnes 40 then 1 else j.seq + 1) ∧
        (j.dropped = [] ∨ 192 ≤ rest.length → (t.journal.get d).waiting = rest ∧ (t.journal.get d).dropped = j.dropped) ∧
        (rest.length < 192 → j.waiting ≠ [] → j.recs.length + j.dropped.length < 30 → (t.journal.get d).dropped = [] ∧
          (t.journal.get d).recs = j.recs ++ j.dropped.map fun c => ⟨s.timeWord, c.1, nDevice, 7, Nat.min c.2 (2 ^ 28 - 1)⟩) ∧
        (t.journal.get d).wrote = recent ++ [s.clock.count] ∧
        (j.flight = none → (t.journal.get d).flight =
          some (s.clock.count, (List.range (ws.length + 1)).map fun k => (place k, ram s (place k)))) ∧
        t.journal.get d.other = s.journal.get d.other ∧ t.mem.get d.other = s.mem.get d.other ∧
        (t.mem.get d).frame = (s.mem.get d).frame ∧ (t.mem.get d).device = (s.mem.get d).device ∧
        t = { s with mem := t.mem, journal := t.journal })) ∧
  (∀ (s : State) (d : Side) (addr : Nat) (v : Word),
    let word (first size : Nat) : Prop := first ≤ addr ∧ (addr - first) % 9 = 0 ∧ addr + 9 ≤ first + size
    let can : Prop := s.writable = true ∧ (word 0 33554430 ∨ word 0x02000000 33554430 ∨ word 0x04000000 8388603 ∨ word 0x04800000 8388603 ∨
      word 0x05000000 131067 ∨ word 0x05020000 41811840 ∨ word 0x07800000 8388000)
    (¬ can → exec (.mramWordWrite d addr v) s = .next s) ∧
    (can → ∃ t, exec (.mramWordWrite d addr v) s = .next t ∧
      (∀ a, Tab.get 0 (t.mem.get d).mram a = if a = addr then v else Tab.get 0 (s.mem.get d).mram a) ∧
      t.mem.get d.other = s.mem.get d.other ∧ (t.mem.get d).frame = (s.mem.get d).frame ∧ (t.mem.get d).device = (s.mem.get d).device ∧
      (t.mem.get d).mramBad = (s.mem.get d).mramBad.filter (fun a => decide (a ≠ addr)) ∧ t = { s with mem := t.mem })) ∧
  (∀ (s : State) (cls idx : Nat),
    let n : Node := ⟨cls, idx⟩
    let summed (t : State) : Prop :=
      (∀ e : Event, (e ∈ t.log ↔ e ∈ s.log ∨ ∃ w ∈ s.windows, w.node = n ∧
        ((∃ c ∈ w.counts, e = ⟨s.timeWord, c.1, n, 7, Nat.min c.2 (2 ^ 28 - 1)⟩) ∨
          (w.extra ≠ 0 ∧ e = ⟨s.timeWord, 0x0B02, n, 7, Nat.min w.extra (2 ^ 28 - 1)⟩)))) ∧
      t.log.take s.log.length = s.log ∧ (∀ q, n.stream ≠ some q → t.queueOf q = s.queueOf q) ∧
      t = { s with log := t.log, journal := t.journal, queue := t.queue, windows := t.windows }
    let fr := fld (s.cw cEVCFG 0 0) 71 64
    let now := s.clock.frame.toNat
    let due (w : Window) : Prop := w.node = n ∧ w.opened < now ∧ (now - w.opened) % fr = 0
    let past (w : Window) : Prop := w.node = n ∧ ∃ e, w.ended = some e ∧ e + fr ≤ now
    ((∃ w ∈ s.windows, due w) → ∃ t, exec (.collapseSummary cls idx) s = .next t ∧ summed t ∧
      t.windows = s.windows.map fun w => if w.node = n then { w with counts := [], extra := 0 } else w) ∧
    ((∀ w ∈ s.windows, ¬ due w) → exec (.collapseSummary cls idx) s = .next s) ∧
    ((∃ w ∈ s.windows, past w) →
      ∃ t, exec (.collapseWindowClose cls idx) s = .next t ∧ summed t ∧ t.windows = s.windows.filter fun w => decide (w.node ≠ n)) ∧
    ((∀ w ∈ s.windows, ¬ past w) → exec (.collapseWindowClose cls idx) s = .next s))

/-- In every state whose memories are in canonical form (addresses strictly rising, no entry equal to the zero that an
unlisted word reads as), if a step answers a next state, the memories of that state are in canonical form. So two states whose
memories read alike at every address hold equal memories, before and after every step. The form is the model's own (log entry
8 says what an unlisted word reads as). -/
def Obligations.StepKeepsMemoryForm : Prop :=
  ∀ s t : State, s.memWf = true → step s = .next t → t.memWf = true

/-- For every state, if a step answers a next state, each side's OTP bits of the state before, in each of the two physical
copies, are still set, among them those of its retire map in OTP (R409: a bit is never cleared). The fields that R410 says are
written in the factory or at wafer test, the never-programmed bits beside LIFECYCLE, the trim and the stored CRCs of regions
that no command writes keep their values: bits 0-191, 195-199, 264-647, 1,032-1,415, 1,672-3,335 and 3,352-3,519. -/
def Obligations.StepNeverClearsOtp : Prop :=
  ∀ s t : State, step s = .next t → s.otpKept t ∧
    ∀ d, ∀ r ∈ [(0, 191), (195, 199), (264, 647), (1032, 1415), (1672, 3335), (3352, 3519)], t.otpFld d r.2 r.1 = s.otpFld d r.2 r.1

/-- At State.reset the device is in PROVING, frame counter and tick 0, FL 250, C 246, K 2; every cfg word reads zero; every
field with a Reset value in its register table holds it: frame status, terminal status, slot and function states, connections,
DEV_STATE, BAR0, token, semaphores, stop counters, power and cartridge status, each coach's FLAGS, EF and WINCTL. No gate is
on, no event is logged, device time is invalid with TSRC 0, no OTP bit is set, no command waits, the memories are in canonical
form, and gates are safe. Values that the spec does not state (a coach's pc and registers, MRAM, OTP) are the model's choice
(log entries 8 and 9). -/
def Obligations.ResetState : Prop :=
  State.reset.dev.st = .proving ∧ State.reset.dev.loaded = false ∧ State.reset.clock.frame = 0 ∧ State.reset.clock.tick = 0 ∧
    State.reset.clock.fl = 250 ∧ State.reset.clock.cdl = 246 ∧ State.reset.clock.k = 2 ∧
    (∀ c i w, State.reset.cw c i w = 0) ∧
    (∀ d, (State.reset.fstOf d).frameNo = 0 ∧ (State.reset.fstOf d).ovr = 0 ∧ (State.reset.fstOf d).skew = 0 ∧
      (State.reset.fstOf d).imgLate = false ∧ (State.reset.fstOf d).alignWarn = false) ∧
    (∀ t, (State.reset.termOf t).tstat = {} ∧ (State.reset.termOf t).out.gate = false ∧ (State.reset.termOf t).out.on = false) ∧
    (∀ p, (State.reset.slotOf p).st.code = 0 ∧ (State.reset.slotOf p).cause = 0 ∧ (State.reset.slotOf p).shadowOk = 0 ∧
      (State.reset.slotOf p).lastCpl = 0) ∧
    (∀ f, (State.reset.fnOf f).st.code = 0 ∧ (State.reset.fnOf f).comm = false ∧ (State.reset.fnOf f).dem = false ∧
      (State.reset.fnOf f).pres = false ∧ (State.reset.fnOf f).cause = 0 ∧ (State.reset.fnOf f).detail = 0 ∧
      (State.reset.fnOf f).term = 0x1FF ∧ (State.reset.fnOf f).chgFrame = 0) ∧
    (∀ c, State.reset.lstat c = 0) ∧ State.reset.devWord = 2 ^ 60 ∧ State.reset.tokenWord = 0 ∧
    State.reset.token.semStat = 0 ∧ State.reset.token.semLast = 0 ∧
    (∀ d, (State.reset.portOf d).cmdBase = 0 ∧ (State.reset.portOf d).cplBase = 0 ∧ (State.reset.portOf d).admCtl = 0 ∧
      (State.reset.portOf d).cnt = 0 ∧ (State.reset.portOf d).taken = 0 ∧ (State.reset.portOf d).bad = 0 ∧ (State.reset.portOf d).vc0 = 0) ∧
    (∀ i, (State.reset.coachOf i).flags = 0 ∧ (State.reset.coachOf i).ef = 0 ∧ (State.reset.coachOf i).cur = 0 ∧
      (State.reset.coachOf i).depth = 1 ∧ (State.reset.coachOf i).spilled = 0) ∧
    State.reset.power.srcA = .A ∧ State.reset.power.srcB = .B ∧ State.reset.power.pfail = false ∧ State.reset.ec = {} ∧
    State.reset.time.valid = false ∧ State.reset.time.tsrc = 0 ∧ State.reset.log = [] ∧ State.reset.windows = [] ∧
    (∀ d, State.reset.dev.otp.get d = 0 ∧ State.reset.dev.otp1.get d = 0) ∧ State.reset.pending = [] ∧ State.reset.memWf = true ∧ State.reset.gatesSafe
end

