-- ==== Sys2Proof/Laws/Tab.lean ====
section
/-! SUPPORT. Laws of the sparse tables: what a read gives after a write, and that every write keeps the canonical form. -/

namespace Sys2Proof.Machine

/-- An empty table reads as its default everywhere. -/
@[simp] theorem Tab.get_nil {α : Type} (d : α) (k : Nat) : Tab.get d [] k = d := rfl

/-- A deleted key reads as the default, every other key as before. -/
theorem Tab.get_del {α : Type} (d : α) (t : Tab α) (k j : Nat) :
    Tab.get d (Tab.del t k) j = if j = k then d else Tab.get d t j := by
  induction t with
  | nil => simp [Tab.del, Tab.get]
  | cons e r ih =>
    obtain ⟨i, x⟩ := e
    by_cases h : k = i
    · subst h
      by_cases hj : j = k
      · subst hj; simp [Tab.del, ih]
      · simp [Tab.del, Tab.get, ih, hj]
    · by_cases hj : j = i
      · subst hj
        simp [Tab.del, Tab.get, h, Ne.symm h]
      · simp [Tab.del, Tab.get, h, hj, ih]

/-- An inserted key reads as its value, every other key as before. -/
theorem Tab.get_ins {α : Type} (d v : α) (t : Tab α) (k j : Nat) :
    Tab.get d (Tab.ins v t k) j = if j = k then v else Tab.get d t j := by
  induction t with
  | nil => simp [Tab.ins, Tab.get]
  | cons e r ih =>
    obtain ⟨i, x⟩ := e
    by_cases h1 : k < i
    · simp [Tab.ins, Tab.get, h1]
    · by_cases h2 : k = i
      · subst h2
        by_cases hj : j = k <;> simp [Tab.ins, Tab.get, hj]
      · by_cases hj : j = i
        · subst hj
          have : j ≠ k := fun e => h2 e.symm
          simp [Tab.ins, Tab.get, h1, h2, this]
        · simp [Tab.ins, Tab.get, h1, h2, hj, ih]

/-- A read after a write. -/
theorem Tab.get_set {α : Type} [DecidableEq α] (d v : α) (t : Tab α) (k j : Nat) :
    Tab.get d (Tab.set d t k v) j = if j = k then v else Tab.get d t j := by
  unfold Tab.set
  split
  · rename_i h; rw [Tab.get_del, h]
  · exact Tab.get_ins d v t k j

/-- A read of the written key. -/
@[simp] theorem Tab.get_set_self {α : Type} [DecidableEq α] (d v : α) (t : Tab α) (k : Nat) :
    Tab.get d (Tab.set d t k v) k = v := by simp [Tab.get_set]

/-- A read of another key. -/
theorem Tab.get_set_other {α : Type} [DecidableEq α] (d v : α) (t : Tab α) {k j : Nat} (h : j ≠ k) :
    Tab.get d (Tab.set d t k v) j = Tab.get d t j := by simp [Tab.get_set, h]

/-- A read after an update. -/
theorem Tab.get_upd {α : Type} [DecidableEq α] (d : α) (t : Tab α) (k j : Nat) (f : α → α) :
    Tab.get d (Tab.upd d t k f) j = if j = k then f (Tab.get d t k) else Tab.get d t j := Tab.get_set d _ t k j

/-- A lower bound of the keys can be lowered. -/
theorem Tab.wfFrom_mono {α : Type} [DecidableEq α] (d : α) (t : Tab α) {lo lo' : Nat} (h : lo' ≤ lo)
    (ht : Tab.wfFrom d lo t = true) : Tab.wfFrom d lo' t = true := by
  cases t with
  | nil => rfl
  | cons e r =>
    obtain ⟨j, x⟩ := e
    simp only [Tab.wfFrom, Bool.and_eq_true, decide_eq_true_eq] at ht ⊢
    exact ⟨⟨Nat.le_trans h ht.1.1, ht.1.2⟩, ht.2⟩

/-- Deleting keeps the canonical form. -/
theorem Tab.wfFrom_del {α : Type} [DecidableEq α] (d : α) (t : Tab α) (k lo : Nat) (ht : Tab.wfFrom d lo t = true) :
    Tab.wfFrom d lo (Tab.del t k) = true := by
  induction t generalizing lo with
  | nil => rfl
  | cons e r ih =>
    obtain ⟨j, x⟩ := e
    simp only [Tab.wfFrom, Bool.and_eq_true, decide_eq_true_eq] at ht
    by_cases h : k = j
    · simp only [Tab.del, h, if_true]
      exact Tab.wfFrom_mono d _ (Nat.le_succ_of_le ht.1.1) (by simpa [h] using ih (j + 1) ht.2)
    · simp only [Tab.del, h, if_false, Tab.wfFrom, Bool.and_eq_true, decide_eq_true_eq]
      exact ⟨ht.1, ih (j + 1) ht.2⟩

/-- Inserting a value other than the default keeps the canonical form. -/
theorem Tab.wfFrom_ins {α : Type} [DecidableEq α] (d v : α) (hv : v ≠ d) (t : Tab α) (k lo : Nat) (hk : lo ≤ k)
    (ht : Tab.wfFrom d lo t = true) : Tab.wfFrom d lo (Tab.ins v t k) = true := by
  induction t generalizing lo with
  | nil => simp [Tab.ins, Tab.wfFrom, hv, hk]
  | cons e r ih =>
    obtain ⟨j, x⟩ := e
    simp only [Tab.wfFrom, Bool.and_eq_true, decide_eq_true_eq] at ht
    by_cases h1 : k < j
    · simp only [Tab.ins, h1, if_true, Tab.wfFrom, Bool.and_eq_true, decide_eq_true_eq]
      exact ⟨⟨hk, hv⟩, ⟨h1, ht.1.2⟩, ht.2⟩
    · by_cases h2 : k = j
      · subst h2
        simp [Tab.ins, Tab.wfFrom, hv, ht.1.1, ht.2]
      · simp only [Tab.ins, h1, h2, if_false, Tab.wfFrom, Bool.and_eq_true, decide_eq_true_eq]
        exact ⟨ht.1, ih (j + 1) (by omega) ht.2⟩

/-- Writing keeps the canonical form. -/
theorem Tab.wf_set {α : Type} [DecidableEq α] (d : α) (t : Tab α) (k : Nat) (v : α) (ht : Tab.wf d t = true) :
    Tab.wf d (Tab.set d t k v) = true := by
  unfold Tab.set
  split
  · exact Tab.wfFrom_del d t k 0 ht
  · rename_i h; exact Tab.wfFrom_ins d v h t k 0 (Nat.zero_le k) ht

/-- Updating keeps the canonical form. -/
theorem Tab.wf_upd {α : Type} [DecidableEq α] (d : α) (t : Tab α) (k : Nat) (f : α → α) (ht : Tab.wf d t = true) :
    Tab.wf d (Tab.upd d t k f) = true := Tab.wf_set d t k _ ht

end Sys2Proof.Machine
end

