-- ==== Sys2Proof/Laws/State.lean ====
section
/-! SUPPORT. One lemma per field per update of the state, each true by rfl, so that no proof unfolds a record update; then
what a numbered element reads as after an update. -/

namespace Sys2Proof.Machine

variable (s : State)

/-! updTerm changes `term` alone. -/
@[simp] theorem State.updTerm_clock (t : Nat) (f : Terminal → Terminal) : (s.updTerm t f).clock = s.clock := rfl
@[simp] theorem State.updTerm_frameSt (t : Nat) (f : Terminal → Terminal) : (s.updTerm t f).frameSt = s.frameSt := rfl
@[simp] theorem State.updTerm_power (t : Nat) (f : Terminal → Terminal) : (s.updTerm t f).power = s.power := rfl
@[simp] theorem State.updTerm_ec (t : Nat) (f : Terminal → Terminal) : (s.updTerm t f).ec = s.ec := rfl
@[simp] theorem State.updTerm_time (t : Nat) (f : Terminal → Terminal) : (s.updTerm t f).time = s.time := rfl
@[simp] theorem State.updTerm_dev (t : Nat) (f : Terminal → Terminal) : (s.updTerm t f).dev = s.dev := rfl
@[simp] theorem State.updTerm_pkg (t : Nat) (f : Terminal → Terminal) : (s.updTerm t f).pkg = s.pkg := rfl
@[simp] theorem State.updTerm_chan (t : Nat) (f : Terminal → Terminal) : (s.updTerm t f).chan = s.chan := rfl
@[simp] theorem State.updTerm_chip (t : Nat) (f : Terminal → Terminal) : (s.updTerm t f).chip = s.chip := rfl
@[simp] theorem State.updTerm_lanes (t : Nat) (f : Terminal → Terminal) : (s.updTerm t f).lanes = s.lanes := rfl
@[simp] theorem State.updTerm_view (t : Nat) (f : Terminal → Terminal) : (s.updTerm t f).view = s.view := rfl
@[simp] theorem State.updTerm_half (t : Nat) (f : Terminal → Terminal) : (s.updTerm t f).half = s.half := rfl
@[simp] theorem State.updTerm_enc (t : Nat) (f : Terminal → Terminal) : (s.updTerm t f).enc = s.enc := rfl
@[simp] theorem State.updTerm_engine (t : Nat) (f : Terminal → Terminal) : (s.updTerm t f).engine = s.engine := rfl
@[simp] theorem State.updTerm_timer (t : Nat) (f : Terminal → Terminal) : (s.updTerm t f).timer = s.timer := rfl
@[simp] theorem State.updTerm_mailbox (t : Nat) (f : Terminal → Terminal) : (s.updTerm t f).mailbox = s.mailbox := rfl
@[simp] theorem State.updTerm_coach (t : Nat) (f : Terminal → Terminal) : (s.updTerm t f).coach = s.coach := rfl
@[simp] theorem State.updTerm_coachSt (t : Nat) (f : Terminal → Terminal) : (s.updTerm t f).coachSt = s.coachSt := rfl
@[simp] theorem State.updTerm_slot (t : Nat) (f : Terminal → Terminal) : (s.updTerm t f).slot = s.slot := rfl
@[simp] theorem State.updTerm_fn (t : Nat) (f : Terminal → Terminal) : (s.updTerm t f).fn = s.fn := rfl
@[simp] theorem State.updTerm_mon (t : Nat) (f : Terminal → Terminal) : (s.updTerm t f).mon = s.mon := rfl
@[simp] theorem State.updTerm_monx (t : Nat) (f : Terminal → Terminal) : (s.updTerm t f).monx = s.monx := rfl
@[simp] theorem State.updTerm_monOld (t : Nat) (f : Terminal → Terminal) : (s.updTerm t f).monOld = s.monOld := rfl
@[simp] theorem State.updTerm_conn (t : Nat) (f : Terminal → Terminal) : (s.updTerm t f).conn = s.conn := rfl
@[simp] theorem State.updTerm_cage (t : Nat) (f : Terminal → Terminal) : (s.updTerm t f).cage = s.cage := rfl
@[simp] theorem State.updTerm_net (t : Nat) (f : Terminal → Terminal) : (s.updTerm t f).net = s.net := rfl
@[simp] theorem State.updTerm_port (t : Nat) (f : Terminal → Terminal) : (s.updTerm t f).port = s.port := rfl
@[simp] theorem State.updTerm_queue (t : Nat) (f : Terminal → Terminal) : (s.updTerm t f).queue = s.queue := rfl
@[simp] theorem State.updTerm_token (t : Nat) (f : Terminal → Terminal) : (s.updTerm t f).token = s.token := rfl
@[simp] theorem State.updTerm_pd (t : Nat) (f : Terminal → Terminal) : (s.updTerm t f).pd = s.pd := rfl
@[simp] theorem State.updTerm_pdNext (t : Nat) (f : Terminal → Terminal) : (s.updTerm t f).pdNext = s.pdNext := rfl
@[simp] theorem State.updTerm_pimg (t : Nat) (f : Terminal → Terminal) : (s.updTerm t f).pimg = s.pimg := rfl
@[simp] theorem State.updTerm_pimgNew (t : Nat) (f : Terminal → Terminal) : (s.updTerm t f).pimgNew = s.pimgNew := rfl
@[simp] theorem State.updTerm_log (t : Nat) (f : Terminal → Terminal) : (s.updTerm t f).log = s.log := rfl
@[simp] theorem State.updTerm_windows (t : Nat) (f : Terminal → Terminal) : (s.updTerm t f).windows = s.windows := rfl
@[simp] theorem State.updTerm_tests (t : Nat) (f : Terminal → Terminal) : (s.updTerm t f).tests = s.tests := rfl
@[simp] theorem State.updTerm_journal (t : Nat) (f : Terminal → Terminal) : (s.updTerm t f).journal = s.journal := rfl
@[simp] theorem State.updTerm_ledger (t : Nat) (f : Terminal → Terminal) : (s.updTerm t f).ledger = s.ledger := rfl
@[simp] theorem State.updTerm_armed (t : Nat) (f : Terminal → Terminal) : (s.updTerm t f).armed = s.armed := rfl
@[simp] theorem State.updTerm_rehome (t : Nat) (f : Terminal → Terminal) : (s.updTerm t f).rehome = s.rehome := rfl
@[simp] theorem State.updTerm_svc (t : Nat) (f : Terminal → Terminal) : (s.updTerm t f).svc = s.svc := rfl
@[simp] theorem State.updTerm_mem (t : Nat) (f : Terminal → Terminal) : (s.updTerm t f).mem = s.mem := rfl
@[simp] theorem State.updTerm_linkWait (t : Nat) (f : Terminal → Terminal) : (s.updTerm t f).linkWait = s.linkWait := rfl
@[simp] theorem State.updTerm_free (t : Nat) (f : Terminal → Terminal) : (s.updTerm t f).free = s.free := rfl
@[simp] theorem State.updTerm_pending (t : Nat) (f : Terminal → Terminal) : (s.updTerm t f).pending = s.pending := rfl

/-! updChan changes `chan` alone. -/
@[simp] theorem State.updChan_clock (c : Nat) (f : Channel → Channel) : (s.updChan c f).clock = s.clock := rfl
@[simp] theorem State.updChan_frameSt (c : Nat) (f : Channel → Channel) : (s.updChan c f).frameSt = s.frameSt := rfl
@[simp] theorem State.updChan_power (c : Nat) (f : Channel → Channel) : (s.updChan c f).power = s.power := rfl
@[simp] theorem State.updChan_ec (c : Nat) (f : Channel → Channel) : (s.updChan c f).ec = s.ec := rfl
@[simp] theorem State.updChan_time (c : Nat) (f : Channel → Channel) : (s.updChan c f).time = s.time := rfl
@[simp] theorem State.updChan_dev (c : Nat) (f : Channel → Channel) : (s.updChan c f).dev = s.dev := rfl
@[simp] theorem State.updChan_pkg (c : Nat) (f : Channel → Channel) : (s.updChan c f).pkg = s.pkg := rfl
@[simp] theorem State.updChan_term (c : Nat) (f : Channel → Channel) : (s.updChan c f).term = s.term := rfl
@[simp] theorem State.updChan_chip (c : Nat) (f : Channel → Channel) : (s.updChan c f).chip = s.chip := rfl
@[simp] theorem State.updChan_lanes (c : Nat) (f : Channel → Channel) : (s.updChan c f).lanes = s.lanes := rfl
@[simp] theorem State.updChan_view (c : Nat) (f : Channel → Channel) : (s.updChan c f).view = s.view := rfl
@[simp] theorem State.updChan_half (c : Nat) (f : Channel → Channel) : (s.updChan c f).half = s.half := rfl
@[simp] theorem State.updChan_enc (c : Nat) (f : Channel → Channel) : (s.updChan c f).enc = s.enc := rfl
@[simp] theorem State.updChan_engine (c : Nat) (f : Channel → Channel) : (s.updChan c f).engine = s.engine := rfl
@[simp] theorem State.updChan_timer (c : Nat) (f : Channel → Channel) : (s.updChan c f).timer = s.timer := rfl
@[simp] theorem State.updChan_mailbox (c : Nat) (f : Channel → Channel) : (s.updChan c f).mailbox = s.mailbox := rfl
@[simp] theorem State.updChan_coach (c : Nat) (f : Channel → Channel) : (s.updChan c f).coach = s.coach := rfl
@[simp] theorem State.updChan_coachSt (c : Nat) (f : Channel → Channel) : (s.updChan c f).coachSt = s.coachSt := rfl
@[simp] theorem State.updChan_slot (c : Nat) (f : Channel → Channel) : (s.updChan c f).slot = s.slot := rfl
@[simp] theorem State.updChan_fn (c : Nat) (f : Channel → Channel) : (s.updChan c f).fn = s.fn := rfl
@[simp] theorem State.updChan_mon (c : Nat) (f : Channel → Channel) : (s.updChan c f).mon = s.mon := rfl
@[simp] theorem State.updChan_monx (c : Nat) (f : Channel → Channel) : (s.updChan c f).monx = s.monx := rfl
@[simp] theorem State.updChan_monOld (c : Nat) (f : Channel → Channel) : (s.updChan c f).monOld = s.monOld := rfl
@[simp] theorem State.updChan_conn (c : Nat) (f : Channel → Channel) : (s.updChan c f).conn = s.conn := rfl
@[simp] theorem State.updChan_cage (c : Nat) (f : Channel → Channel) : (s.updChan c f).cage = s.cage := rfl
@[simp] theorem State.updChan_net (c : Nat) (f : Channel → Channel) : (s.updChan c f).net = s.net := rfl
@[simp] theorem State.updChan_port (c : Nat) (f : Channel → Channel) : (s.updChan c f).port = s.port := rfl
@[simp] theorem State.updChan_queue (c : Nat) (f : Channel → Channel) : (s.updChan c f).queue = s.queue := rfl
@[simp] theorem State.updChan_token (c : Nat) (f : Channel → Channel) : (s.updChan c f).token = s.token := rfl
@[simp] theorem State.updChan_pd (c : Nat) (f : Channel → Channel) : (s.updChan c f).pd = s.pd := rfl
@[simp] theorem State.updChan_pdNext (c : Nat) (f : Channel → Channel) : (s.updChan c f).pdNext = s.pdNext := rfl
@[simp] theorem State.updChan_pimg (c : Nat) (f : Channel → Channel) : (s.updChan c f).pimg = s.pimg := rfl
@[simp] theorem State.updChan_pimgNew (c : Nat) (f : Channel → Channel) : (s.updChan c f).pimgNew = s.pimgNew := rfl
@[simp] theorem State.updChan_log (c : Nat) (f : Channel → Channel) : (s.updChan c f).log = s.log := rfl
@[simp] theorem State.updChan_windows (c : Nat) (f : Channel → Channel) : (s.updChan c f).windows = s.windows := rfl
@[simp] theorem State.updChan_tests (c : Nat) (f : Channel → Channel) : (s.updChan c f).tests = s.tests := rfl
@[simp] theorem State.updChan_journal (c : Nat) (f : Channel → Channel) : (s.updChan c f).journal = s.journal := rfl
@[simp] theorem State.updChan_ledger (c : Nat) (f : Channel → Channel) : (s.updChan c f).ledger = s.ledger := rfl
@[simp] theorem State.updChan_armed (c : Nat) (f : Channel → Channel) : (s.updChan c f).armed = s.armed := rfl
@[simp] theorem State.updChan_rehome (c : Nat) (f : Channel → Channel) : (s.updChan c f).rehome = s.rehome := rfl
@[simp] theorem State.updChan_svc (c : Nat) (f : Channel → Channel) : (s.updChan c f).svc = s.svc := rfl
@[simp] theorem State.updChan_mem (c : Nat) (f : Channel → Channel) : (s.updChan c f).mem = s.mem := rfl
@[simp] theorem State.updChan_linkWait (c : Nat) (f : Channel → Channel) : (s.updChan c f).linkWait = s.linkWait := rfl
@[simp] theorem State.updChan_free (c : Nat) (f : Channel → Channel) : (s.updChan c f).free = s.free := rfl
@[simp] theorem State.updChan_pending (c : Nat) (f : Channel → Channel) : (s.updChan c f).pending = s.pending := rfl

/-! updChip changes `chip` alone. -/
@[simp] theorem State.updChip_clock (i : Nat) (f : Chip → Chip) : (s.updChip i f).clock = s.clock := rfl
@[simp] theorem State.updChip_frameSt (i : Nat) (f : Chip → Chip) : (s.updChip i f).frameSt = s.frameSt := rfl
@[simp] theorem State.updChip_power (i : Nat) (f : Chip → Chip) : (s.updChip i f).power = s.power := rfl
@[simp] theorem State.updChip_ec (i : Nat) (f : Chip → Chip) : (s.updChip i f).ec = s.ec := rfl
@[simp] theorem State.updChip_time (i : Nat) (f : Chip → Chip) : (s.updChip i f).time = s.time := rfl
@[simp] theorem State.updChip_dev (i : Nat) (f : Chip → Chip) : (s.updChip i f).dev = s.dev := rfl
@[simp] theorem State.updChip_pkg (i : Nat) (f : Chip → Chip) : (s.updChip i f).pkg = s.pkg := rfl
@[simp] theorem State.updChip_term (i : Nat) (f : Chip → Chip) : (s.updChip i f).term = s.term := rfl
@[simp] theorem State.updChip_chan (i : Nat) (f : Chip → Chip) : (s.updChip i f).chan = s.chan := rfl
@[simp] theorem State.updChip_lanes (i : Nat) (f : Chip → Chip) : (s.updChip i f).lanes = s.lanes := rfl
@[simp] theorem State.updChip_view (i : Nat) (f : Chip → Chip) : (s.updChip i f).view = s.view := rfl
@[simp] theorem State.updChip_half (i : Nat) (f : Chip → Chip) : (s.updChip i f).half = s.half := rfl
@[simp] theorem State.updChip_enc (i : Nat) (f : Chip → Chip) : (s.updChip i f).enc = s.enc := rfl
@[simp] theorem State.updChip_engine (i : Nat) (f : Chip → Chip) : (s.updChip i f).engine = s.engine := rfl
@[simp] theorem State.updChip_timer (i : Nat) (f : Chip → Chip) : (s.updChip i f).timer = s.timer := rfl
@[simp] theorem State.updChip_mailbox (i : Nat) (f : Chip → Chip) : (s.updChip i f).mailbox = s.mailbox := rfl
@[simp] theorem State.updChip_coach (i : Nat) (f : Chip → Chip) : (s.updChip i f).coach = s.coach := rfl
@[simp] theorem State.updChip_coachSt (i : Nat) (f : Chip → Chip) : (s.updChip i f).coachSt = s.coachSt := rfl
@[simp] theorem State.updChip_slot (i : Nat) (f : Chip → Chip) : (s.updChip i f).slot = s.slot := rfl
@[simp] theorem State.updChip_fn (i : Nat) (f : Chip → Chip) : (s.updChip i f).fn = s.fn := rfl
@[simp] theorem State.updChip_mon (i : Nat) (f : Chip → Chip) : (s.updChip i f).mon = s.mon := rfl
@[simp] theorem State.updChip_monx (i : Nat) (f : Chip → Chip) : (s.updChip i f).monx = s.monx := rfl
@[simp] theorem State.updChip_monOld (i : Nat) (f : Chip → Chip) : (s.updChip i f).monOld = s.monOld := rfl
@[simp] theorem State.updChip_conn (i : Nat) (f : Chip → Chip) : (s.updChip i f).conn = s.conn := rfl
@[simp] theorem State.updChip_cage (i : Nat) (f : Chip → Chip) : (s.updChip i f).cage = s.cage := rfl
@[simp] theorem State.updChip_net (i : Nat) (f : Chip → Chip) : (s.updChip i f).net = s.net := rfl
@[simp] theorem State.updChip_port (i : Nat) (f : Chip → Chip) : (s.updChip i f).port = s.port := rfl
@[simp] theorem State.updChip_queue (i : Nat) (f : Chip → Chip) : (s.updChip i f).queue = s.queue := rfl
@[simp] theorem State.updChip_token (i : Nat) (f : Chip → Chip) : (s.updChip i f).token = s.token := rfl
@[simp] theorem State.updChip_pd (i : Nat) (f : Chip → Chip) : (s.updChip i f).pd = s.pd := rfl
@[simp] theorem State.updChip_pdNext (i : Nat) (f : Chip → Chip) : (s.updChip i f).pdNext = s.pdNext := rfl
@[simp] theorem State.updChip_pimg (i : Nat) (f : Chip → Chip) : (s.updChip i f).pimg = s.pimg := rfl
@[simp] theorem State.updChip_pimgNew (i : Nat) (f : Chip → Chip) : (s.updChip i f).pimgNew = s.pimgNew := rfl
@[simp] theorem State.updChip_log (i : Nat) (f : Chip → Chip) : (s.updChip i f).log = s.log := rfl
@[simp] theorem State.updChip_windows (i : Nat) (f : Chip → Chip) : (s.updChip i f).windows = s.windows := rfl
@[simp] theorem State.updChip_tests (i : Nat) (f : Chip → Chip) : (s.updChip i f).tests = s.tests := rfl
@[simp] theorem State.updChip_journal (i : Nat) (f : Chip → Chip) : (s.updChip i f).journal = s.journal := rfl
@[simp] theorem State.updChip_ledger (i : Nat) (f : Chip → Chip) : (s.updChip i f).ledger = s.ledger := rfl
@[simp] theorem State.updChip_armed (i : Nat) (f : Chip → Chip) : (s.updChip i f).armed = s.armed := rfl
@[simp] theorem State.updChip_rehome (i : Nat) (f : Chip → Chip) : (s.updChip i f).rehome = s.rehome := rfl
@[simp] theorem State.updChip_svc (i : Nat) (f : Chip → Chip) : (s.updChip i f).svc = s.svc := rfl
@[simp] theorem State.updChip_mem (i : Nat) (f : Chip → Chip) : (s.updChip i f).mem = s.mem := rfl
@[simp] theorem State.updChip_linkWait (i : Nat) (f : Chip → Chip) : (s.updChip i f).linkWait = s.linkWait := rfl
@[simp] theorem State.updChip_free (i : Nat) (f : Chip → Chip) : (s.updChip i f).free = s.free := rfl
@[simp] theorem State.updChip_pending (i : Nat) (f : Chip → Chip) : (s.updChip i f).pending = s.pending := rfl

/-! updLanes changes `lanes` alone. -/
@[simp] theorem State.updLanes_clock (i : Nat) (f : Lanes → Lanes) : (s.updLanes i f).clock = s.clock := rfl
@[simp] theorem State.updLanes_frameSt (i : Nat) (f : Lanes → Lanes) : (s.updLanes i f).frameSt = s.frameSt := rfl
@[simp] theorem State.updLanes_power (i : Nat) (f : Lanes → Lanes) : (s.updLanes i f).power = s.power := rfl
@[simp] theorem State.updLanes_ec (i : Nat) (f : Lanes → Lanes) : (s.updLanes i f).ec = s.ec := rfl
@[simp] theorem State.updLanes_time (i : Nat) (f : Lanes → Lanes) : (s.updLanes i f).time = s.time := rfl
@[simp] theorem State.updLanes_dev (i : Nat) (f : Lanes → Lanes) : (s.updLanes i f).dev = s.dev := rfl
@[simp] theorem State.updLanes_pkg (i : Nat) (f : Lanes → Lanes) : (s.updLanes i f).pkg = s.pkg := rfl
@[simp] theorem State.updLanes_term (i : Nat) (f : Lanes → Lanes) : (s.updLanes i f).term = s.term := rfl
@[simp] theorem State.updLanes_chan (i : Nat) (f : Lanes → Lanes) : (s.updLanes i f).chan = s.chan := rfl
@[simp] theorem State.updLanes_chip (i : Nat) (f : Lanes → Lanes) : (s.updLanes i f).chip = s.chip := rfl
@[simp] theorem State.updLanes_view (i : Nat) (f : Lanes → Lanes) : (s.updLanes i f).view = s.view := rfl
@[simp] theorem State.updLanes_half (i : Nat) (f : Lanes → Lanes) : (s.updLanes i f).half = s.half := rfl
@[simp] theorem State.updLanes_enc (i : Nat) (f : Lanes → Lanes) : (s.updLanes i f).enc = s.enc := rfl
@[simp] theorem State.updLanes_engine (i : Nat) (f : Lanes → Lanes) : (s.updLanes i f).engine = s.engine := rfl
@[simp] theorem State.updLanes_timer (i : Nat) (f : Lanes → Lanes) : (s.updLanes i f).timer = s.timer := rfl
@[simp] theorem State.updLanes_mailbox (i : Nat) (f : Lanes → Lanes) : (s.updLanes i f).mailbox = s.mailbox := rfl
@[simp] theorem State.updLanes_coach (i : Nat) (f : Lanes → Lanes) : (s.updLanes i f).coach = s.coach := rfl
@[simp] theorem State.updLanes_coachSt (i : Nat) (f : Lanes → Lanes) : (s.updLanes i f).coachSt = s.coachSt := rfl
@[simp] theorem State.updLanes_slot (i : Nat) (f : Lanes → Lanes) : (s.updLanes i f).slot = s.slot := rfl
@[simp] theorem State.updLanes_fn (i : Nat) (f : Lanes → Lanes) : (s.updLanes i f).fn = s.fn := rfl
@[simp] theorem State.updLanes_mon (i : Nat) (f : Lanes → Lanes) : (s.updLanes i f).mon = s.mon := rfl
@[simp] theorem State.updLanes_monx (i : Nat) (f : Lanes → Lanes) : (s.updLanes i f).monx = s.monx := rfl
@[simp] theorem State.updLanes_monOld (i : Nat) (f : Lanes → Lanes) : (s.updLanes i f).monOld = s.monOld := rfl
@[simp] theorem State.updLanes_conn (i : Nat) (f : Lanes → Lanes) : (s.updLanes i f).conn = s.conn := rfl
@[simp] theorem State.updLanes_cage (i : Nat) (f : Lanes → Lanes) : (s.updLanes i f).cage = s.cage := rfl
@[simp] theorem State.updLanes_net (i : Nat) (f : Lanes → Lanes) : (s.updLanes i f).net = s.net := rfl
@[simp] theorem State.updLanes_port (i : Nat) (f : Lanes → Lanes) : (s.updLanes i f).port = s.port := rfl
@[simp] theorem State.updLanes_queue (i : Nat) (f : Lanes → Lanes) : (s.updLanes i f).queue = s.queue := rfl
@[simp] theorem State.updLanes_token (i : Nat) (f : Lanes → Lanes) : (s.updLanes i f).token = s.token := rfl
@[simp] theorem State.updLanes_pd (i : Nat) (f : Lanes → Lanes) : (s.updLanes i f).pd = s.pd := rfl
@[simp] theorem State.updLanes_pdNext (i : Nat) (f : Lanes → Lanes) : (s.updLanes i f).pdNext = s.pdNext := rfl
@[simp] theorem State.updLanes_pimg (i : Nat) (f : Lanes → Lanes) : (s.updLanes i f).pimg = s.pimg := rfl
@[simp] theorem State.updLanes_pimgNew (i : Nat) (f : Lanes → Lanes) : (s.updLanes i f).pimgNew = s.pimgNew := rfl
@[simp] theorem State.updLanes_log (i : Nat) (f : Lanes → Lanes) : (s.updLanes i f).log = s.log := rfl
@[simp] theorem State.updLanes_windows (i : Nat) (f : Lanes → Lanes) : (s.updLanes i f).windows = s.windows := rfl
@[simp] theorem State.updLanes_tests (i : Nat) (f : Lanes → Lanes) : (s.updLanes i f).tests = s.tests := rfl
@[simp] theorem State.updLanes_journal (i : Nat) (f : Lanes → Lanes) : (s.updLanes i f).journal = s.journal := rfl
@[simp] theorem State.updLanes_ledger (i : Nat) (f : Lanes → Lanes) : (s.updLanes i f).ledger = s.ledger := rfl
@[simp] theorem State.updLanes_armed (i : Nat) (f : Lanes → Lanes) : (s.updLanes i f).armed = s.armed := rfl
@[simp] theorem State.updLanes_rehome (i : Nat) (f : Lanes → Lanes) : (s.updLanes i f).rehome = s.rehome := rfl
@[simp] theorem State.updLanes_svc (i : Nat) (f : Lanes → Lanes) : (s.updLanes i f).svc = s.svc := rfl
@[simp] theorem State.updLanes_mem (i : Nat) (f : Lanes → Lanes) : (s.updLanes i f).mem = s.mem := rfl
@[simp] theorem State.updLanes_linkWait (i : Nat) (f : Lanes → Lanes) : (s.updLanes i f).linkWait = s.linkWait := rfl
@[simp] theorem State.updLanes_free (i : Nat) (f : Lanes → Lanes) : (s.updLanes i f).free = s.free := rfl
@[simp] theorem State.updLanes_pending (i : Nat) (f : Lanes → Lanes) : (s.updLanes i f).pending = s.pending := rfl

/-! updView changes `view` alone. -/
@[simp] theorem State.updView_clock (i : Nat) (f : View → View) : (s.updView i f).clock = s.clock := rfl
@[simp] theorem State.updView_frameSt (i : Nat) (f : View → View) : (s.updView i f).frameSt = s.frameSt := rfl
@[simp] theorem State.updView_power (i : Nat) (f : View → View) : (s.updView i f).power = s.power := rfl
@[simp] theorem State.updView_ec (i : Nat) (f : View → View) : (s.updView i f).ec = s.ec := rfl
@[simp] theorem State.updView_time (i : Nat) (f : View → View) : (s.updView i f).time = s.time := rfl
@[simp] theorem State.updView_dev (i : Nat) (f : View → View) : (s.updView i f).dev = s.dev := rfl
@[simp] theorem State.updView_pkg (i : Nat) (f : View → View) : (s.updView i f).pkg = s.pkg := rfl
@[simp] theorem State.updView_term (i : Nat) (f : View → View) : (s.updView i f).term = s.term := rfl
@[simp] theorem State.updView_chan (i : Nat) (f : View → View) : (s.updView i f).chan = s.chan := rfl
@[simp] theorem State.updView_chip (i : Nat) (f : View → View) : (s.updView i f).chip = s.chip := rfl
@[simp] theorem State.updView_lanes (i : Nat) (f : View → View) : (s.updView i f).lanes = s.lanes := rfl
@[simp] theorem State.updView_half (i : Nat) (f : View → View) : (s.updView i f).half = s.half := rfl
@[simp] theorem State.updView_enc (i : Nat) (f : View → View) : (s.updView i f).enc = s.enc := rfl
@[simp] theorem State.updView_engine (i : Nat) (f : View → View) : (s.updView i f).engine = s.engine := rfl
@[simp] theorem State.updView_timer (i : Nat) (f : View → View) : (s.updView i f).timer = s.timer := rfl
@[simp] theorem State.updView_mailbox (i : Nat) (f : View → View) : (s.updView i f).mailbox = s.mailbox := rfl
@[simp] theorem State.updView_coach (i : Nat) (f : View → View) : (s.updView i f).coach = s.coach := rfl
@[simp] theorem State.updView_coachSt (i : Nat) (f : View → View) : (s.updView i f).coachSt = s.coachSt := rfl
@[simp] theorem State.updView_slot (i : Nat) (f : View → View) : (s.updView i f).slot = s.slot := rfl
@[simp] theorem State.updView_fn (i : Nat) (f : View → View) : (s.updView i f).fn = s.fn := rfl
@[simp] theorem State.updView_mon (i : Nat) (f : View → View) : (s.updView i f).mon = s.mon := rfl
@[simp] theorem State.updView_monx (i : Nat) (f : View → View) : (s.updView i f).monx = s.monx := rfl
@[simp] theorem State.updView_monOld (i : Nat) (f : View → View) : (s.updView i f).monOld = s.monOld := rfl
@[simp] theorem State.updView_conn (i : Nat) (f : View → View) : (s.updView i f).conn = s.conn := rfl
@[simp] theorem State.updView_cage (i : Nat) (f : View → View) : (s.updView i f).cage = s.cage := rfl
@[simp] theorem State.updView_net (i : Nat) (f : View → View) : (s.updView i f).net = s.net := rfl
@[simp] theorem State.updView_port (i : Nat) (f : View → View) : (s.updView i f).port = s.port := rfl
@[simp] theorem State.updView_queue (i : Nat) (f : View → View) : (s.updView i f).queue = s.queue := rfl
@[simp] theorem State.updView_token (i : Nat) (f : View → View) : (s.updView i f).token = s.token := rfl
@[simp] theorem State.updView_pd (i : Nat) (f : View → View) : (s.updView i f).pd = s.pd := rfl
@[simp] theorem State.updView_pdNext (i : Nat) (f : View → View) : (s.updView i f).pdNext = s.pdNext := rfl
@[simp] theorem State.updView_pimg (i : Nat) (f : View → View) : (s.updView i f).pimg = s.pimg := rfl
@[simp] theorem State.updView_pimgNew (i : Nat) (f : View → View) : (s.updView i f).pimgNew = s.pimgNew := rfl
@[simp] theorem State.updView_log (i : Nat) (f : View → View) : (s.updView i f).log = s.log := rfl
@[simp] theorem State.updView_windows (i : Nat) (f : View → View) : (s.updView i f).windows = s.windows := rfl
@[simp] theorem State.updView_tests (i : Nat) (f : View → View) : (s.updView i f).tests = s.tests := rfl
@[simp] theorem State.updView_journal (i : Nat) (f : View → View) : (s.updView i f).journal = s.journal := rfl
@[simp] theorem State.updView_ledger (i : Nat) (f : View → View) : (s.updView i f).ledger = s.ledger := rfl
@[simp] theorem State.updView_armed (i : Nat) (f : View → View) : (s.updView i f).armed = s.armed := rfl
@[simp] theorem State.updView_rehome (i : Nat) (f : View → View) : (s.updView i f).rehome = s.rehome := rfl
@[simp] theorem State.updView_svc (i : Nat) (f : View → View) : (s.updView i f).svc = s.svc := rfl
@[simp] theorem State.updView_mem (i : Nat) (f : View → View) : (s.updView i f).mem = s.mem := rfl
@[simp] theorem State.updView_linkWait (i : Nat) (f : View → View) : (s.updView i f).linkWait = s.linkWait := rfl
@[simp] theorem State.updView_free (i : Nat) (f : View → View) : (s.updView i f).free = s.free := rfl
@[simp] theorem State.updView_pending (i : Nat) (f : View → View) : (s.updView i f).pending = s.pending := rfl

/-! updHalf changes `half` alone. -/
@[simp] theorem State.updHalf_clock (d : Side) (f : Half → Half) : (s.updHalf d f).clock = s.clock := rfl
@[simp] theorem State.updHalf_frameSt (d : Side) (f : Half → Half) : (s.updHalf d f).frameSt = s.frameSt := rfl
@[simp] theorem State.updHalf_power (d : Side) (f : Half → Half) : (s.updHalf d f).power = s.power := rfl
@[simp] theorem State.updHalf_ec (d : Side) (f : Half → Half) : (s.updHalf d f).ec = s.ec := rfl
@[simp] theorem State.updHalf_time (d : Side) (f : Half → Half) : (s.updHalf d f).time = s.time := rfl
@[simp] theorem State.updHalf_dev (d : Side) (f : Half → Half) : (s.updHalf d f).dev = s.dev := rfl
@[simp] theorem State.updHalf_pkg (d : Side) (f : Half → Half) : (s.updHalf d f).pkg = s.pkg := rfl
@[simp] theorem State.updHalf_term (d : Side) (f : Half → Half) : (s.updHalf d f).term = s.term := rfl
@[simp] theorem State.updHalf_chan (d : Side) (f : Half → Half) : (s.updHalf d f).chan = s.chan := rfl
@[simp] theorem State.updHalf_chip (d : Side) (f : Half → Half) : (s.updHalf d f).chip = s.chip := rfl
@[simp] theorem State.updHalf_lanes (d : Side) (f : Half → Half) : (s.updHalf d f).lanes = s.lanes := rfl
@[simp] theorem State.updHalf_view (d : Side) (f : Half → Half) : (s.updHalf d f).view = s.view := rfl
@[simp] theorem State.updHalf_enc (d : Side) (f : Half → Half) : (s.updHalf d f).enc = s.enc := rfl
@[simp] theorem State.updHalf_engine (d : Side) (f : Half → Half) : (s.updHalf d f).engine = s.engine := rfl
@[simp] theorem State.updHalf_timer (d : Side) (f : Half → Half) : (s.updHalf d f).timer = s.timer := rfl
@[simp] theorem State.updHalf_mailbox (d : Side) (f : Half → Half) : (s.updHalf d f).mailbox = s.mailbox := rfl
@[simp] theorem State.updHalf_coach (d : Side) (f : Half → Half) : (s.updHalf d f).coach = s.coach := rfl
@[simp] theorem State.updHalf_coachSt (d : Side) (f : Half → Half) : (s.updHalf d f).coachSt = s.coachSt := rfl
@[simp] theorem State.updHalf_slot (d : Side) (f : Half → Half) : (s.updHalf d f).slot = s.slot := rfl
@[simp] theorem State.updHalf_fn (d : Side) (f : Half → Half) : (s.updHalf d f).fn = s.fn := rfl
@[simp] theorem State.updHalf_mon (d : Side) (f : Half → Half) : (s.updHalf d f).mon = s.mon := rfl
@[simp] theorem State.updHalf_monx (d : Side) (f : Half → Half) : (s.updHalf d f).monx = s.monx := rfl
@[simp] theorem State.updHalf_monOld (d : Side) (f : Half → Half) : (s.updHalf d f).monOld = s.monOld := rfl
@[simp] theorem State.updHalf_conn (d : Side) (f : Half → Half) : (s.updHalf d f).conn = s.conn := rfl
@[simp] theorem State.updHalf_cage (d : Side) (f : Half → Half) : (s.updHalf d f).cage = s.cage := rfl
@[simp] theorem State.updHalf_net (d : Side) (f : Half → Half) : (s.updHalf d f).net = s.net := rfl
@[simp] theorem State.updHalf_port (d : Side) (f : Half → Half) : (s.updHalf d f).port = s.port := rfl
@[simp] theorem State.updHalf_queue (d : Side) (f : Half → Half) : (s.updHalf d f).queue = s.queue := rfl
@[simp] theorem State.updHalf_token (d : Side) (f : Half → Half) : (s.updHalf d f).token = s.token := rfl
@[simp] theorem State.updHalf_pd (d : Side) (f : Half → Half) : (s.updHalf d f).pd = s.pd := rfl
@[simp] theorem State.updHalf_pdNext (d : Side) (f : Half → Half) : (s.updHalf d f).pdNext = s.pdNext := rfl
@[simp] theorem State.updHalf_pimg (d : Side) (f : Half → Half) : (s.updHalf d f).pimg = s.pimg := rfl
@[simp] theorem State.updHalf_pimgNew (d : Side) (f : Half → Half) : (s.updHalf d f).pimgNew = s.pimgNew := rfl
@[simp] theorem State.updHalf_log (d : Side) (f : Half → Half) : (s.updHalf d f).log = s.log := rfl
@[simp] theorem State.updHalf_windows (d : Side) (f : Half → Half) : (s.updHalf d f).windows = s.windows := rfl
@[simp] theorem State.updHalf_tests (d : Side) (f : Half → Half) : (s.updHalf d f).tests = s.tests := rfl
@[simp] theorem State.updHalf_journal (d : Side) (f : Half → Half) : (s.updHalf d f).journal = s.journal := rfl
@[simp] theorem State.updHalf_ledger (d : Side) (f : Half → Half) : (s.updHalf d f).ledger = s.ledger := rfl
@[simp] theorem State.updHalf_armed (d : Side) (f : Half → Half) : (s.updHalf d f).armed = s.armed := rfl
@[simp] theorem State.updHalf_rehome (d : Side) (f : Half → Half) : (s.updHalf d f).rehome = s.rehome := rfl
@[simp] theorem State.updHalf_svc (d : Side) (f : Half → Half) : (s.updHalf d f).svc = s.svc := rfl
@[simp] theorem State.updHalf_mem (d : Side) (f : Half → Half) : (s.updHalf d f).mem = s.mem := rfl
@[simp] theorem State.updHalf_linkWait (d : Side) (f : Half → Half) : (s.updHalf d f).linkWait = s.linkWait := rfl
@[simp] theorem State.updHalf_free (d : Side) (f : Half → Half) : (s.updHalf d f).free = s.free := rfl
@[simp] theorem State.updHalf_pending (d : Side) (f : Half → Half) : (s.updHalf d f).pending = s.pending := rfl

/-! updEnc changes `enc` alone. -/
@[simp] theorem State.updEnc_clock (i : Nat) (f : Enc → Enc) : (s.updEnc i f).clock = s.clock := rfl
@[simp] theorem State.updEnc_frameSt (i : Nat) (f : Enc → Enc) : (s.updEnc i f).frameSt = s.frameSt := rfl
@[simp] theorem State.updEnc_power (i : Nat) (f : Enc → Enc) : (s.updEnc i f).power = s.power := rfl
@[simp] theorem State.updEnc_ec (i : Nat) (f : Enc → Enc) : (s.updEnc i f).ec = s.ec := rfl
@[simp] theorem State.updEnc_time (i : Nat) (f : Enc → Enc) : (s.updEnc i f).time = s.time := rfl
@[simp] theorem State.updEnc_dev (i : Nat) (f : Enc → Enc) : (s.updEnc i f).dev = s.dev := rfl
@[simp] theorem State.updEnc_pkg (i : Nat) (f : Enc → Enc) : (s.updEnc i f).pkg = s.pkg := rfl
@[simp] theorem State.updEnc_term (i : Nat) (f : Enc → Enc) : (s.updEnc i f).term = s.term := rfl
@[simp] theorem State.updEnc_chan (i : Nat) (f : Enc → Enc) : (s.updEnc i f).chan = s.chan := rfl
@[simp] theorem State.updEnc_chip (i : Nat) (f : Enc → Enc) : (s.updEnc i f).chip = s.chip := rfl
@[simp] theorem State.updEnc_lanes (i : Nat) (f : Enc → Enc) : (s.updEnc i f).lanes = s.lanes := rfl
@[simp] theorem State.updEnc_view (i : Nat) (f : Enc → Enc) : (s.updEnc i f).view = s.view := rfl
@[simp] theorem State.updEnc_half (i : Nat) (f : Enc → Enc) : (s.updEnc i f).half = s.half := rfl
@[simp] theorem State.updEnc_engine (i : Nat) (f : Enc → Enc) : (s.updEnc i f).engine = s.engine := rfl
@[simp] theorem State.updEnc_timer (i : Nat) (f : Enc → Enc) : (s.updEnc i f).timer = s.timer := rfl
@[simp] theorem State.updEnc_mailbox (i : Nat) (f : Enc → Enc) : (s.updEnc i f).mailbox = s.mailbox := rfl
@[simp] theorem State.updEnc_coach (i : Nat) (f : Enc → Enc) : (s.updEnc i f).coach = s.coach := rfl
@[simp] theorem State.updEnc_coachSt (i : Nat) (f : Enc → Enc) : (s.updEnc i f).coachSt = s.coachSt := rfl
@[simp] theorem State.updEnc_slot (i : Nat) (f : Enc → Enc) : (s.updEnc i f).slot = s.slot := rfl
@[simp] theorem State.updEnc_fn (i : Nat) (f : Enc → Enc) : (s.updEnc i f).fn = s.fn := rfl
@[simp] theorem State.updEnc_mon (i : Nat) (f : Enc → Enc) : (s.updEnc i f).mon = s.mon := rfl
@[simp] theorem State.updEnc_monx (i : Nat) (f : Enc → Enc) : (s.updEnc i f).monx = s.monx := rfl
@[simp] theorem State.updEnc_monOld (i : Nat) (f : Enc → Enc) : (s.updEnc i f).monOld = s.monOld := rfl
@[simp] theorem State.updEnc_conn (i : Nat) (f : Enc → Enc) : (s.updEnc i f).conn = s.conn := rfl
@[simp] theorem State.updEnc_cage (i : Nat) (f : Enc → Enc) : (s.updEnc i f).cage = s.cage := rfl
@[simp] theorem State.updEnc_net (i : Nat) (f : Enc → Enc) : (s.updEnc i f).net = s.net := rfl
@[simp] theorem State.updEnc_port (i : Nat) (f : Enc → Enc) : (s.updEnc i f).port = s.port := rfl
@[simp] theorem State.updEnc_queue (i : Nat) (f : Enc → Enc) : (s.updEnc i f).queue = s.queue := rfl
@[simp] theorem State.updEnc_token (i : Nat) (f : Enc → Enc) : (s.updEnc i f).token = s.token := rfl
@[simp] theorem State.updEnc_pd (i : Nat) (f : Enc → Enc) : (s.updEnc i f).pd = s.pd := rfl
@[simp] theorem State.updEnc_pdNext (i : Nat) (f : Enc → Enc) : (s.updEnc i f).pdNext = s.pdNext := rfl
@[simp] theorem State.updEnc_pimg (i : Nat) (f : Enc → Enc) : (s.updEnc i f).pimg = s.pimg := rfl
@[simp] theorem State.updEnc_pimgNew (i : Nat) (f : Enc → Enc) : (s.updEnc i f).pimgNew = s.pimgNew := rfl
@[simp] theorem State.updEnc_log (i : Nat) (f : Enc → Enc) : (s.updEnc i f).log = s.log := rfl
@[simp] theorem State.updEnc_windows (i : Nat) (f : Enc → Enc) : (s.updEnc i f).windows = s.windows := rfl
@[simp] theorem State.updEnc_tests (i : Nat) (f : Enc → Enc) : (s.updEnc i f).tests = s.tests := rfl
@[simp] theorem State.updEnc_journal (i : Nat) (f : Enc → Enc) : (s.updEnc i f).journal = s.journal := rfl
@[simp] theorem State.updEnc_ledger (i : Nat) (f : Enc → Enc) : (s.updEnc i f).ledger = s.ledger := rfl
@[simp] theorem State.updEnc_armed (i : Nat) (f : Enc → Enc) : (s.updEnc i f).armed = s.armed := rfl
@[simp] theorem State.updEnc_rehome (i : Nat) (f : Enc → Enc) : (s.updEnc i f).rehome = s.rehome := rfl
@[simp] theorem State.updEnc_svc (i : Nat) (f : Enc → Enc) : (s.updEnc i f).svc = s.svc := rfl
@[simp] theorem State.updEnc_mem (i : Nat) (f : Enc → Enc) : (s.updEnc i f).mem = s.mem := rfl
@[simp] theorem State.updEnc_linkWait (i : Nat) (f : Enc → Enc) : (s.updEnc i f).linkWait = s.linkWait := rfl
@[simp] theorem State.updEnc_free (i : Nat) (f : Enc → Enc) : (s.updEnc i f).free = s.free := rfl
@[simp] theorem State.updEnc_pending (i : Nat) (f : Enc → Enc) : (s.updEnc i f).pending = s.pending := rfl

/-! updEng changes `engine` alone. -/
@[simp] theorem State.updEng_clock (i : Nat) (f : Engine → Engine) : (s.updEng i f).clock = s.clock := rfl
@[simp] theorem State.updEng_frameSt (i : Nat) (f : Engine → Engine) : (s.updEng i f).frameSt = s.frameSt := rfl
@[simp] theorem State.updEng_power (i : Nat) (f : Engine → Engine) : (s.updEng i f).power = s.power := rfl
@[simp] theorem State.updEng_ec (i : Nat) (f : Engine → Engine) : (s.updEng i f).ec = s.ec := rfl
@[simp] theorem State.updEng_time (i : Nat) (f : Engine → Engine) : (s.updEng i f).time = s.time := rfl
@[simp] theorem State.updEng_dev (i : Nat) (f : Engine → Engine) : (s.updEng i f).dev = s.dev := rfl
@[simp] theorem State.updEng_pkg (i : Nat) (f : Engine → Engine) : (s.updEng i f).pkg = s.pkg := rfl
@[simp] theorem State.updEng_term (i : Nat) (f : Engine → Engine) : (s.updEng i f).term = s.term := rfl
@[simp] theorem State.updEng_chan (i : Nat) (f : Engine → Engine) : (s.updEng i f).chan = s.chan := rfl
@[simp] theorem State.updEng_chip (i : Nat) (f : Engine → Engine) : (s.updEng i f).chip = s.chip := rfl
@[simp] theorem State.updEng_lanes (i : Nat) (f : Engine → Engine) : (s.updEng i f).lanes = s.lanes := rfl
@[simp] theorem State.updEng_view (i : Nat) (f : Engine → Engine) : (s.updEng i f).view = s.view := rfl
@[simp] theorem State.updEng_half (i : Nat) (f : Engine → Engine) : (s.updEng i f).half = s.half := rfl
@[simp] theorem State.updEng_enc (i : Nat) (f : Engine → Engine) : (s.updEng i f).enc = s.enc := rfl
@[simp] theorem State.updEng_timer (i : Nat) (f : Engine → Engine) : (s.updEng i f).timer = s.timer := rfl
@[simp] theorem State.updEng_mailbox (i : Nat) (f : Engine → Engine) : (s.updEng i f).mailbox = s.mailbox := rfl
@[simp] theorem State.updEng_coach (i : Nat) (f : Engine → Engine) : (s.updEng i f).coach = s.coach := rfl
@[simp] theorem State.updEng_coachSt (i : Nat) (f : Engine → Engine) : (s.updEng i f).coachSt = s.coachSt := rfl
@[simp] theorem State.updEng_slot (i : Nat) (f : Engine → Engine) : (s.updEng i f).slot = s.slot := rfl
@[simp] theorem State.updEng_fn (i : Nat) (f : Engine → Engine) : (s.updEng i f).fn = s.fn := rfl
@[simp] theorem State.updEng_mon (i : Nat) (f : Engine → Engine) : (s.updEng i f).mon = s.mon := rfl
@[simp] theorem State.updEng_monx (i : Nat) (f : Engine → Engine) : (s.updEng i f).monx = s.monx := rfl
@[simp] theorem State.updEng_monOld (i : Nat) (f : Engine → Engine) : (s.updEng i f).monOld = s.monOld := rfl
@[simp] theorem State.updEng_conn (i : Nat) (f : Engine → Engine) : (s.updEng i f).conn = s.conn := rfl
@[simp] theorem State.updEng_cage (i : Nat) (f : Engine → Engine) : (s.updEng i f).cage = s.cage := rfl
@[simp] theorem State.updEng_net (i : Nat) (f : Engine → Engine) : (s.updEng i f).net = s.net := rfl
@[simp] theorem State.updEng_port (i : Nat) (f : Engine → Engine) : (s.updEng i f).port = s.port := rfl
@[simp] theorem State.updEng_queue (i : Nat) (f : Engine → Engine) : (s.updEng i f).queue = s.queue := rfl
@[simp] theorem State.updEng_token (i : Nat) (f : Engine → Engine) : (s.updEng i f).token = s.token := rfl
@[simp] theorem State.updEng_pd (i : Nat) (f : Engine → Engine) : (s.updEng i f).pd = s.pd := rfl
@[simp] theorem State.updEng_pdNext (i : Nat) (f : Engine → Engine) : (s.updEng i f).pdNext = s.pdNext := rfl
@[simp] theorem State.updEng_pimg (i : Nat) (f : Engine → Engine) : (s.updEng i f).pimg = s.pimg := rfl
@[simp] theorem State.updEng_pimgNew (i : Nat) (f : Engine → Engine) : (s.updEng i f).pimgNew = s.pimgNew := rfl
@[simp] theorem State.updEng_log (i : Nat) (f : Engine → Engine) : (s.updEng i f).log = s.log := rfl
@[simp] theorem State.updEng_windows (i : Nat) (f : Engine → Engine) : (s.updEng i f).windows = s.windows := rfl
@[simp] theorem State.updEng_tests (i : Nat) (f : Engine → Engine) : (s.updEng i f).tests = s.tests := rfl
@[simp] theorem State.updEng_journal (i : Nat) (f : Engine → Engine) : (s.updEng i f).journal = s.journal := rfl
@[simp] theorem State.updEng_ledger (i : Nat) (f : Engine → Engine) : (s.updEng i f).ledger = s.ledger := rfl
@[simp] theorem State.updEng_armed (i : Nat) (f : Engine → Engine) : (s.updEng i f).armed = s.armed := rfl
@[simp] theorem State.updEng_rehome (i : Nat) (f : Engine → Engine) : (s.updEng i f).rehome = s.rehome := rfl
@[simp] theorem State.updEng_svc (i : Nat) (f : Engine → Engine) : (s.updEng i f).svc = s.svc := rfl
@[simp] theorem State.updEng_mem (i : Nat) (f : Engine → Engine) : (s.updEng i f).mem = s.mem := rfl
@[simp] theorem State.updEng_linkWait (i : Nat) (f : Engine → Engine) : (s.updEng i f).linkWait = s.linkWait := rfl
@[simp] theorem State.updEng_free (i : Nat) (f : Engine → Engine) : (s.updEng i f).free = s.free := rfl
@[simp] theorem State.updEng_pending (i : Nat) (f : Engine → Engine) : (s.updEng i f).pending = s.pending := rfl

/-! updTimer changes `timer` alone. -/
@[simp] theorem State.updTimer_clock (i : Nat) (f : TimerU → TimerU) : (s.updTimer i f).clock = s.clock := rfl
@[simp] theorem State.updTimer_frameSt (i : Nat) (f : TimerU → TimerU) : (s.updTimer i f).frameSt = s.frameSt := rfl
@[simp] theorem State.updTimer_power (i : Nat) (f : TimerU → TimerU) : (s.updTimer i f).power = s.power := rfl
@[simp] theorem State.updTimer_ec (i : Nat) (f : TimerU → TimerU) : (s.updTimer i f).ec = s.ec := rfl
@[simp] theorem State.updTimer_time (i : Nat) (f : TimerU → TimerU) : (s.updTimer i f).time = s.time := rfl
@[simp] theorem State.updTimer_dev (i : Nat) (f : TimerU → TimerU) : (s.updTimer i f).dev = s.dev := rfl
@[simp] theorem State.updTimer_pkg (i : Nat) (f : TimerU → TimerU) : (s.updTimer i f).pkg = s.pkg := rfl
@[simp] theorem State.updTimer_term (i : Nat) (f : TimerU → TimerU) : (s.updTimer i f).term = s.term := rfl
@[simp] theorem State.updTimer_chan (i : Nat) (f : TimerU → TimerU) : (s.updTimer i f).chan = s.chan := rfl
@[simp] theorem State.updTimer_chip (i : Nat) (f : TimerU → TimerU) : (s.updTimer i f).chip = s.chip := rfl
@[simp] theorem State.updTimer_lanes (i : Nat) (f : TimerU → TimerU) : (s.updTimer i f).lanes = s.lanes := rfl
@[simp] theorem State.updTimer_view (i : Nat) (f : TimerU → TimerU) : (s.updTimer i f).view = s.view := rfl
@[simp] theorem State.updTimer_half (i : Nat) (f : TimerU → TimerU) : (s.updTimer i f).half = s.half := rfl
@[simp] theorem State.updTimer_enc (i : Nat) (f : TimerU → TimerU) : (s.updTimer i f).enc = s.enc := rfl
@[simp] theorem State.updTimer_engine (i : Nat) (f : TimerU → TimerU) : (s.updTimer i f).engine = s.engine := rfl
@[simp] theorem State.updTimer_mailbox (i : Nat) (f : TimerU → TimerU) : (s.updTimer i f).mailbox = s.mailbox := rfl
@[simp] theorem State.updTimer_coach (i : Nat) (f : TimerU → TimerU) : (s.updTimer i f).coach = s.coach := rfl
@[simp] theorem State.updTimer_coachSt (i : Nat) (f : TimerU → TimerU) : (s.updTimer i f).coachSt = s.coachSt := rfl
@[simp] theorem State.updTimer_slot (i : Nat) (f : TimerU → TimerU) : (s.updTimer i f).slot = s.slot := rfl
@[simp] theorem State.updTimer_fn (i : Nat) (f : TimerU → TimerU) : (s.updTimer i f).fn = s.fn := rfl
@[simp] theorem State.updTimer_mon (i : Nat) (f : TimerU → TimerU) : (s.updTimer i f).mon = s.mon := rfl
@[simp] theorem State.updTimer_monx (i : Nat) (f : TimerU → TimerU) : (s.updTimer i f).monx = s.monx := rfl
@[simp] theorem State.updTimer_monOld (i : Nat) (f : TimerU → TimerU) : (s.updTimer i f).monOld = s.monOld := rfl
@[simp] theorem State.updTimer_conn (i : Nat) (f : TimerU → TimerU) : (s.updTimer i f).conn = s.conn := rfl
@[simp] theorem State.updTimer_cage (i : Nat) (f : TimerU → TimerU) : (s.updTimer i f).cage = s.cage := rfl
@[simp] theorem State.updTimer_net (i : Nat) (f : TimerU → TimerU) : (s.updTimer i f).net = s.net := rfl
@[simp] theorem State.updTimer_port (i : Nat) (f : TimerU → TimerU) : (s.updTimer i f).port = s.port := rfl
@[simp] theorem State.updTimer_queue (i : Nat) (f : TimerU → TimerU) : (s.updTimer i f).queue = s.queue := rfl
@[simp] theorem State.updTimer_token (i : Nat) (f : TimerU → TimerU) : (s.updTimer i f).token = s.token := rfl
@[simp] theorem State.updTimer_pd (i : Nat) (f : TimerU → TimerU) : (s.updTimer i f).pd = s.pd := rfl
@[simp] theorem State.updTimer_pdNext (i : Nat) (f : TimerU → TimerU) : (s.updTimer i f).pdNext = s.pdNext := rfl
@[simp] theorem State.updTimer_pimg (i : Nat) (f : TimerU → TimerU) : (s.updTimer i f).pimg = s.pimg := rfl
@[simp] theorem State.updTimer_pimgNew (i : Nat) (f : TimerU → TimerU) : (s.updTimer i f).pimgNew = s.pimgNew := rfl
@[simp] theorem State.updTimer_log (i : Nat) (f : TimerU → TimerU) : (s.updTimer i f).log = s.log := rfl
@[simp] theorem State.updTimer_windows (i : Nat) (f : TimerU → TimerU) : (s.updTimer i f).windows = s.windows := rfl
@[simp] theorem State.updTimer_tests (i : Nat) (f : TimerU → TimerU) : (s.updTimer i f).tests = s.tests := rfl
@[simp] theorem State.updTimer_journal (i : Nat) (f : TimerU → TimerU) : (s.updTimer i f).journal = s.journal := rfl
@[simp] theorem State.updTimer_ledger (i : Nat) (f : TimerU → TimerU) : (s.updTimer i f).ledger = s.ledger := rfl
@[simp] theorem State.updTimer_armed (i : Nat) (f : TimerU → TimerU) : (s.updTimer i f).armed = s.armed := rfl
@[simp] theorem State.updTimer_rehome (i : Nat) (f : TimerU → TimerU) : (s.updTimer i f).rehome = s.rehome := rfl
@[simp] theorem State.updTimer_svc (i : Nat) (f : TimerU → TimerU) : (s.updTimer i f).svc = s.svc := rfl
@[simp] theorem State.updTimer_mem (i : Nat) (f : TimerU → TimerU) : (s.updTimer i f).mem = s.mem := rfl
@[simp] theorem State.updTimer_linkWait (i : Nat) (f : TimerU → TimerU) : (s.updTimer i f).linkWait = s.linkWait := rfl
@[simp] theorem State.updTimer_free (i : Nat) (f : TimerU → TimerU) : (s.updTimer i f).free = s.free := rfl
@[simp] theorem State.updTimer_pending (i : Nat) (f : TimerU → TimerU) : (s.updTimer i f).pending = s.pending := rfl

/-! updCoach changes `coach` alone. -/
@[simp] theorem State.updCoach_clock (i : Nat) (f : Coach → Coach) : (s.updCoach i f).clock = s.clock := rfl
@[simp] theorem State.updCoach_frameSt (i : Nat) (f : Coach → Coach) : (s.updCoach i f).frameSt = s.frameSt := rfl
@[simp] theorem State.updCoach_power (i : Nat) (f : Coach → Coach) : (s.updCoach i f).power = s.power := rfl
@[simp] theorem State.updCoach_ec (i : Nat) (f : Coach → Coach) : (s.updCoach i f).ec = s.ec := rfl
@[simp] theorem State.updCoach_time (i : Nat) (f : Coach → Coach) : (s.updCoach i f).time = s.time := rfl
@[simp] theorem State.updCoach_dev (i : Nat) (f : Coach → Coach) : (s.updCoach i f).dev = s.dev := rfl
@[simp] theorem State.updCoach_pkg (i : Nat) (f : Coach → Coach) : (s.updCoach i f).pkg = s.pkg := rfl
@[simp] theorem State.updCoach_term (i : Nat) (f : Coach → Coach) : (s.updCoach i f).term = s.term := rfl
@[simp] theorem State.updCoach_chan (i : Nat) (f : Coach → Coach) : (s.updCoach i f).chan = s.chan := rfl
@[simp] theorem State.updCoach_chip (i : Nat) (f : Coach → Coach) : (s.updCoach i f).chip = s.chip := rfl
@[simp] theorem State.updCoach_lanes (i : Nat) (f : Coach → Coach) : (s.updCoach i f).lanes = s.lanes := rfl
@[simp] theorem State.updCoach_view (i : Nat) (f : Coach → Coach) : (s.updCoach i f).view = s.view := rfl
@[simp] theorem State.updCoach_half (i : Nat) (f : Coach → Coach) : (s.updCoach i f).half = s.half := rfl
@[simp] theorem State.updCoach_enc (i : Nat) (f : Coach → Coach) : (s.updCoach i f).enc = s.enc := rfl
@[simp] theorem State.updCoach_engine (i : Nat) (f : Coach → Coach) : (s.updCoach i f).engine = s.engine := rfl
@[simp] theorem State.updCoach_timer (i : Nat) (f : Coach → Coach) : (s.updCoach i f).timer = s.timer := rfl
@[simp] theorem State.updCoach_mailbox (i : Nat) (f : Coach → Coach) : (s.updCoach i f).mailbox = s.mailbox := rfl
@[simp] theorem State.updCoach_coachSt (i : Nat) (f : Coach → Coach) : (s.updCoach i f).coachSt = s.coachSt := rfl
@[simp] theorem State.updCoach_slot (i : Nat) (f : Coach → Coach) : (s.updCoach i f).slot = s.slot := rfl
@[simp] theorem State.updCoach_fn (i : Nat) (f : Coach → Coach) : (s.updCoach i f).fn = s.fn := rfl
@[simp] theorem State.updCoach_mon (i : Nat) (f : Coach → Coach) : (s.updCoach i f).mon = s.mon := rfl
@[simp] theorem State.updCoach_monx (i : Nat) (f : Coach → Coach) : (s.updCoach i f).monx = s.monx := rfl
@[simp] theorem State.updCoach_monOld (i : Nat) (f : Coach → Coach) : (s.updCoach i f).monOld = s.monOld := rfl
@[simp] theorem State.updCoach_conn (i : Nat) (f : Coach → Coach) : (s.updCoach i f).conn = s.conn := rfl
@[simp] theorem State.updCoach_cage (i : Nat) (f : Coach → Coach) : (s.updCoach i f).cage = s.cage := rfl
@[simp] theorem State.updCoach_net (i : Nat) (f : Coach → Coach) : (s.updCoach i f).net = s.net := rfl
@[simp] theorem State.updCoach_port (i : Nat) (f : Coach → Coach) : (s.updCoach i f).port = s.port := rfl
@[simp] theorem State.updCoach_queue (i : Nat) (f : Coach → Coach) : (s.updCoach i f).queue = s.queue := rfl
@[simp] theorem State.updCoach_token (i : Nat) (f : Coach → Coach) : (s.updCoach i f).token = s.token := rfl
@[simp] theorem State.updCoach_pd (i : Nat) (f : Coach → Coach) : (s.updCoach i f).pd = s.pd := rfl
@[simp] theorem State.updCoach_pdNext (i : Nat) (f : Coach → Coach) : (s.updCoach i f).pdNext = s.pdNext := rfl
@[simp] theorem State.updCoach_pimg (i : Nat) (f : Coach → Coach) : (s.updCoach i f).pimg = s.pimg := rfl
@[simp] theorem State.updCoach_pimgNew (i : Nat) (f : Coach → Coach) : (s.updCoach i f).pimgNew = s.pimgNew := rfl
@[simp] theorem State.updCoach_log (i : Nat) (f : Coach → Coach) : (s.updCoach i f).log = s.log := rfl
@[simp] theorem State.updCoach_windows (i : Nat) (f : Coach → Coach) : (s.updCoach i f).windows = s.windows := rfl
@[simp] theorem State.updCoach_tests (i : Nat) (f : Coach → Coach) : (s.updCoach i f).tests = s.tests := rfl
@[simp] theorem State.updCoach_journal (i : Nat) (f : Coach → Coach) : (s.updCoach i f).journal = s.journal := rfl
@[simp] theorem State.updCoach_ledger (i : Nat) (f : Coach → Coach) : (s.updCoach i f).ledger = s.ledger := rfl
@[simp] theorem State.updCoach_armed (i : Nat) (f : Coach → Coach) : (s.updCoach i f).armed = s.armed := rfl
@[simp] theorem State.updCoach_rehome (i : Nat) (f : Coach → Coach) : (s.updCoach i f).rehome = s.rehome := rfl
@[simp] theorem State.updCoach_svc (i : Nat) (f : Coach → Coach) : (s.updCoach i f).svc = s.svc := rfl
@[simp] theorem State.updCoach_mem (i : Nat) (f : Coach → Coach) : (s.updCoach i f).mem = s.mem := rfl
@[simp] theorem State.updCoach_linkWait (i : Nat) (f : Coach → Coach) : (s.updCoach i f).linkWait = s.linkWait := rfl
@[simp] theorem State.updCoach_free (i : Nat) (f : Coach → Coach) : (s.updCoach i f).free = s.free := rfl
@[simp] theorem State.updCoach_pending (i : Nat) (f : Coach → Coach) : (s.updCoach i f).pending = s.pending := rfl

/-! updCst changes `coachSt` alone. -/
@[simp] theorem State.updCst_clock (i : Nat) (f : CoachSt → CoachSt) : (s.updCst i f).clock = s.clock := rfl
@[simp] theorem State.updCst_frameSt (i : Nat) (f : CoachSt → CoachSt) : (s.updCst i f).frameSt = s.frameSt := rfl
@[simp] theorem State.updCst_power (i : Nat) (f : CoachSt → CoachSt) : (s.updCst i f).power = s.power := rfl
@[simp] theorem State.updCst_ec (i : Nat) (f : CoachSt → CoachSt) : (s.updCst i f).ec = s.ec := rfl
@[simp] theorem State.updCst_time (i : Nat) (f : CoachSt → CoachSt) : (s.updCst i f).time = s.time := rfl
@[simp] theorem State.updCst_dev (i : Nat) (f : CoachSt → CoachSt) : (s.updCst i f).dev = s.dev := rfl
@[simp] theorem State.updCst_pkg (i : Nat) (f : CoachSt → CoachSt) : (s.updCst i f).pkg = s.pkg := rfl
@[simp] theorem State.updCst_term (i : Nat) (f : CoachSt → CoachSt) : (s.updCst i f).term = s.term := rfl
@[simp] theorem State.updCst_chan (i : Nat) (f : CoachSt → CoachSt) : (s.updCst i f).chan = s.chan := rfl
@[simp] theorem State.updCst_chip (i : Nat) (f : CoachSt → CoachSt) : (s.updCst i f).chip = s.chip := rfl
@[simp] theorem State.updCst_lanes (i : Nat) (f : CoachSt → CoachSt) : (s.updCst i f).lanes = s.lanes := rfl
@[simp] theorem State.updCst_view (i : Nat) (f : CoachSt → CoachSt) : (s.updCst i f).view = s.view := rfl
@[simp] theorem State.updCst_half (i : Nat) (f : CoachSt → CoachSt) : (s.updCst i f).half = s.half := rfl
@[simp] theorem State.updCst_enc (i : Nat) (f : CoachSt → CoachSt) : (s.updCst i f).enc = s.enc := rfl
@[simp] theorem State.updCst_engine (i : Nat) (f : CoachSt → CoachSt) : (s.updCst i f).engine = s.engine := rfl
@[simp] theorem State.updCst_timer (i : Nat) (f : CoachSt → CoachSt) : (s.updCst i f).timer = s.timer := rfl
@[simp] theorem State.updCst_mailbox (i : Nat) (f : CoachSt → CoachSt) : (s.updCst i f).mailbox = s.mailbox := rfl
@[simp] theorem State.updCst_coach (i : Nat) (f : CoachSt → CoachSt) : (s.updCst i f).coach = s.coach := rfl
@[simp] theorem State.updCst_slot (i : Nat) (f : CoachSt → CoachSt) : (s.updCst i f).slot = s.slot := rfl
@[simp] theorem State.updCst_fn (i : Nat) (f : CoachSt → CoachSt) : (s.updCst i f).fn = s.fn := rfl
@[simp] theorem State.updCst_mon (i : Nat) (f : CoachSt → CoachSt) : (s.updCst i f).mon = s.mon := rfl
@[simp] theorem State.updCst_monx (i : Nat) (f : CoachSt → CoachSt) : (s.updCst i f).monx = s.monx := rfl
@[simp] theorem State.updCst_monOld (i : Nat) (f : CoachSt → CoachSt) : (s.updCst i f).monOld = s.monOld := rfl
@[simp] theorem State.updCst_conn (i : Nat) (f : CoachSt → CoachSt) : (s.updCst i f).conn = s.conn := rfl
@[simp] theorem State.updCst_cage (i : Nat) (f : CoachSt → CoachSt) : (s.updCst i f).cage = s.cage := rfl
@[simp] theorem State.updCst_net (i : Nat) (f : CoachSt → CoachSt) : (s.updCst i f).net = s.net := rfl
@[simp] theorem State.updCst_port (i : Nat) (f : CoachSt → CoachSt) : (s.updCst i f).port = s.port := rfl
@[simp] theorem State.updCst_queue (i : Nat) (f : CoachSt → CoachSt) : (s.updCst i f).queue = s.queue := rfl
@[simp] theorem State.updCst_token (i : Nat) (f : CoachSt → CoachSt) : (s.updCst i f).token = s.token := rfl
@[simp] theorem State.updCst_pd (i : Nat) (f : CoachSt → CoachSt) : (s.updCst i f).pd = s.pd := rfl
@[simp] theorem State.updCst_pdNext (i : Nat) (f : CoachSt → CoachSt) : (s.updCst i f).pdNext = s.pdNext := rfl
@[simp] theorem State.updCst_pimg (i : Nat) (f : CoachSt → CoachSt) : (s.updCst i f).pimg = s.pimg := rfl
@[simp] theorem State.updCst_pimgNew (i : Nat) (f : CoachSt → CoachSt) : (s.updCst i f).pimgNew = s.pimgNew := rfl
@[simp] theorem State.updCst_log (i : Nat) (f : CoachSt → CoachSt) : (s.updCst i f).log = s.log := rfl
@[simp] theorem State.updCst_windows (i : Nat) (f : CoachSt → CoachSt) : (s.updCst i f).windows = s.windows := rfl
@[simp] theorem State.updCst_tests (i : Nat) (f : CoachSt → CoachSt) : (s.updCst i f).tests = s.tests := rfl
@[simp] theorem State.updCst_journal (i : Nat) (f : CoachSt → CoachSt) : (s.updCst i f).journal = s.journal := rfl
@[simp] theorem State.updCst_ledger (i : Nat) (f : CoachSt → CoachSt) : (s.updCst i f).ledger = s.ledger := rfl
@[simp] theorem State.updCst_armed (i : Nat) (f : CoachSt → CoachSt) : (s.updCst i f).armed = s.armed := rfl
@[simp] theorem State.updCst_rehome (i : Nat) (f : CoachSt → CoachSt) : (s.updCst i f).rehome = s.rehome := rfl
@[simp] theorem State.updCst_svc (i : Nat) (f : CoachSt → CoachSt) : (s.updCst i f).svc = s.svc := rfl
@[simp] theorem State.updCst_mem (i : Nat) (f : CoachSt → CoachSt) : (s.updCst i f).mem = s.mem := rfl
@[simp] theorem State.updCst_linkWait (i : Nat) (f : CoachSt → CoachSt) : (s.updCst i f).linkWait = s.linkWait := rfl
@[simp] theorem State.updCst_free (i : Nat) (f : CoachSt → CoachSt) : (s.updCst i f).free = s.free := rfl
@[simp] theorem State.updCst_pending (i : Nat) (f : CoachSt → CoachSt) : (s.updCst i f).pending = s.pending := rfl

/-! updSlot changes `slot` alone. -/
@[simp] theorem State.updSlot_clock (p : Nat) (f : Slot → Slot) : (s.updSlot p f).clock = s.clock := rfl
@[simp] theorem State.updSlot_frameSt (p : Nat) (f : Slot → Slot) : (s.updSlot p f).frameSt = s.frameSt := rfl
@[simp] theorem State.updSlot_power (p : Nat) (f : Slot → Slot) : (s.updSlot p f).power = s.power := rfl
@[simp] theorem State.updSlot_ec (p : Nat) (f : Slot → Slot) : (s.updSlot p f).ec = s.ec := rfl
@[simp] theorem State.updSlot_time (p : Nat) (f : Slot → Slot) : (s.updSlot p f).time = s.time := rfl
@[simp] theorem State.updSlot_dev (p : Nat) (f : Slot → Slot) : (s.updSlot p f).dev = s.dev := rfl
@[simp] theorem State.updSlot_pkg (p : Nat) (f : Slot → Slot) : (s.updSlot p f).pkg = s.pkg := rfl
@[simp] theorem State.updSlot_term (p : Nat) (f : Slot → Slot) : (s.updSlot p f).term = s.term := rfl
@[simp] theorem State.updSlot_chan (p : Nat) (f : Slot → Slot) : (s.updSlot p f).chan = s.chan := rfl
@[simp] theorem State.updSlot_chip (p : Nat) (f : Slot → Slot) : (s.updSlot p f).chip = s.chip := rfl
@[simp] theorem State.updSlot_lanes (p : Nat) (f : Slot → Slot) : (s.updSlot p f).lanes = s.lanes := rfl
@[simp] theorem State.updSlot_view (p : Nat) (f : Slot → Slot) : (s.updSlot p f).view = s.view := rfl
@[simp] theorem State.updSlot_half (p : Nat) (f : Slot → Slot) : (s.updSlot p f).half = s.half := rfl
@[simp] theorem State.updSlot_enc (p : Nat) (f : Slot → Slot) : (s.updSlot p f).enc = s.enc := rfl
@[simp] theorem State.updSlot_engine (p : Nat) (f : Slot → Slot) : (s.updSlot p f).engine = s.engine := rfl
@[simp] theorem State.updSlot_timer (p : Nat) (f : Slot → Slot) : (s.updSlot p f).timer = s.timer := rfl
@[simp] theorem State.updSlot_mailbox (p : Nat) (f : Slot → Slot) : (s.updSlot p f).mailbox = s.mailbox := rfl
@[simp] theorem State.updSlot_coach (p : Nat) (f : Slot → Slot) : (s.updSlot p f).coach = s.coach := rfl
@[simp] theorem State.updSlot_coachSt (p : Nat) (f : Slot → Slot) : (s.updSlot p f).coachSt = s.coachSt := rfl
@[simp] theorem State.updSlot_fn (p : Nat) (f : Slot → Slot) : (s.updSlot p f).fn = s.fn := rfl
@[simp] theorem State.updSlot_mon (p : Nat) (f : Slot → Slot) : (s.updSlot p f).mon = s.mon := rfl
@[simp] theorem State.updSlot_monx (p : Nat) (f : Slot → Slot) : (s.updSlot p f).monx = s.monx := rfl
@[simp] theorem State.updSlot_monOld (p : Nat) (f : Slot → Slot) : (s.updSlot p f).monOld = s.monOld := rfl
@[simp] theorem State.updSlot_conn (p : Nat) (f : Slot → Slot) : (s.updSlot p f).conn = s.conn := rfl
@[simp] theorem State.updSlot_cage (p : Nat) (f : Slot → Slot) : (s.updSlot p f).cage = s.cage := rfl
@[simp] theorem State.updSlot_net (p : Nat) (f : Slot → Slot) : (s.updSlot p f).net = s.net := rfl
@[simp] theorem State.updSlot_port (p : Nat) (f : Slot → Slot) : (s.updSlot p f).port = s.port := rfl
@[simp] theorem State.updSlot_queue (p : Nat) (f : Slot → Slot) : (s.updSlot p f).queue = s.queue := rfl
@[simp] theorem State.updSlot_token (p : Nat) (f : Slot → Slot) : (s.updSlot p f).token = s.token := rfl
@[simp] theorem State.updSlot_pd (p : Nat) (f : Slot → Slot) : (s.updSlot p f).pd = s.pd := rfl
@[simp] theorem State.updSlot_pdNext (p : Nat) (f : Slot → Slot) : (s.updSlot p f).pdNext = s.pdNext := rfl
@[simp] theorem State.updSlot_pimg (p : Nat) (f : Slot → Slot) : (s.updSlot p f).pimg = s.pimg := rfl
@[simp] theorem State.updSlot_pimgNew (p : Nat) (f : Slot → Slot) : (s.updSlot p f).pimgNew = s.pimgNew := rfl
@[simp] theorem State.updSlot_log (p : Nat) (f : Slot → Slot) : (s.updSlot p f).log = s.log := rfl
@[simp] theorem State.updSlot_windows (p : Nat) (f : Slot → Slot) : (s.updSlot p f).windows = s.windows := rfl
@[simp] theorem State.updSlot_tests (p : Nat) (f : Slot → Slot) : (s.updSlot p f).tests = s.tests := rfl
@[simp] theorem State.updSlot_journal (p : Nat) (f : Slot → Slot) : (s.updSlot p f).journal = s.journal := rfl
@[simp] theorem State.updSlot_ledger (p : Nat) (f : Slot → Slot) : (s.updSlot p f).ledger = s.ledger := rfl
@[simp] theorem State.updSlot_armed (p : Nat) (f : Slot → Slot) : (s.updSlot p f).armed = s.armed := rfl
@[simp] theorem State.updSlot_rehome (p : Nat) (f : Slot → Slot) : (s.updSlot p f).rehome = s.rehome := rfl
@[simp] theorem State.updSlot_svc (p : Nat) (f : Slot → Slot) : (s.updSlot p f).svc = s.svc := rfl
@[simp] theorem State.updSlot_mem (p : Nat) (f : Slot → Slot) : (s.updSlot p f).mem = s.mem := rfl
@[simp] theorem State.updSlot_linkWait (p : Nat) (f : Slot → Slot) : (s.updSlot p f).linkWait = s.linkWait := rfl
@[simp] theorem State.updSlot_free (p : Nat) (f : Slot → Slot) : (s.updSlot p f).free = s.free := rfl
@[simp] theorem State.updSlot_pending (p : Nat) (f : Slot → Slot) : (s.updSlot p f).pending = s.pending := rfl

/-! updFn changes `fn` alone. -/
@[simp] theorem State.updFn_clock (f : Nat) (g : Fn → Fn) : (s.updFn f g).clock = s.clock := rfl
@[simp] theorem State.updFn_frameSt (f : Nat) (g : Fn → Fn) : (s.updFn f g).frameSt = s.frameSt := rfl
@[simp] theorem State.updFn_power (f : Nat) (g : Fn → Fn) : (s.updFn f g).power = s.power := rfl
@[simp] theorem State.updFn_ec (f : Nat) (g : Fn → Fn) : (s.updFn f g).ec = s.ec := rfl
@[simp] theorem State.updFn_time (f : Nat) (g : Fn → Fn) : (s.updFn f g).time = s.time := rfl
@[simp] theorem State.updFn_dev (f : Nat) (g : Fn → Fn) : (s.updFn f g).dev = s.dev := rfl
@[simp] theorem State.updFn_pkg (f : Nat) (g : Fn → Fn) : (s.updFn f g).pkg = s.pkg := rfl
@[simp] theorem State.updFn_term (f : Nat) (g : Fn → Fn) : (s.updFn f g).term = s.term := rfl
@[simp] theorem State.updFn_chan (f : Nat) (g : Fn → Fn) : (s.updFn f g).chan = s.chan := rfl
@[simp] theorem State.updFn_chip (f : Nat) (g : Fn → Fn) : (s.updFn f g).chip = s.chip := rfl
@[simp] theorem State.updFn_lanes (f : Nat) (g : Fn → Fn) : (s.updFn f g).lanes = s.lanes := rfl
@[simp] theorem State.updFn_view (f : Nat) (g : Fn → Fn) : (s.updFn f g).view = s.view := rfl
@[simp] theorem State.updFn_half (f : Nat) (g : Fn → Fn) : (s.updFn f g).half = s.half := rfl
@[simp] theorem State.updFn_enc (f : Nat) (g : Fn → Fn) : (s.updFn f g).enc = s.enc := rfl
@[simp] theorem State.updFn_engine (f : Nat) (g : Fn → Fn) : (s.updFn f g).engine = s.engine := rfl
@[simp] theorem State.updFn_timer (f : Nat) (g : Fn → Fn) : (s.updFn f g).timer = s.timer := rfl
@[simp] theorem State.updFn_mailbox (f : Nat) (g : Fn → Fn) : (s.updFn f g).mailbox = s.mailbox := rfl
@[simp] theorem State.updFn_coach (f : Nat) (g : Fn → Fn) : (s.updFn f g).coach = s.coach := rfl
@[simp] theorem State.updFn_coachSt (f : Nat) (g : Fn → Fn) : (s.updFn f g).coachSt = s.coachSt := rfl
@[simp] theorem State.updFn_slot (f : Nat) (g : Fn → Fn) : (s.updFn f g).slot = s.slot := rfl
@[simp] theorem State.updFn_mon (f : Nat) (g : Fn → Fn) : (s.updFn f g).mon = s.mon := rfl
@[simp] theorem State.updFn_monx (f : Nat) (g : Fn → Fn) : (s.updFn f g).monx = s.monx := rfl
@[simp] theorem State.updFn_monOld (f : Nat) (g : Fn → Fn) : (s.updFn f g).monOld = s.monOld := rfl
@[simp] theorem State.updFn_conn (f : Nat) (g : Fn → Fn) : (s.updFn f g).conn = s.conn := rfl
@[simp] theorem State.updFn_cage (f : Nat) (g : Fn → Fn) : (s.updFn f g).cage = s.cage := rfl
@[simp] theorem State.updFn_net (f : Nat) (g : Fn → Fn) : (s.updFn f g).net = s.net := rfl
@[simp] theorem State.updFn_port (f : Nat) (g : Fn → Fn) : (s.updFn f g).port = s.port := rfl
@[simp] theorem State.updFn_queue (f : Nat) (g : Fn → Fn) : (s.updFn f g).queue = s.queue := rfl
@[simp] theorem State.updFn_token (f : Nat) (g : Fn → Fn) : (s.updFn f g).token = s.token := rfl
@[simp] theorem State.updFn_pd (f : Nat) (g : Fn → Fn) : (s.updFn f g).pd = s.pd := rfl
@[simp] theorem State.updFn_pdNext (f : Nat) (g : Fn → Fn) : (s.updFn f g).pdNext = s.pdNext := rfl
@[simp] theorem State.updFn_pimg (f : Nat) (g : Fn → Fn) : (s.updFn f g).pimg = s.pimg := rfl
@[simp] theorem State.updFn_pimgNew (f : Nat) (g : Fn → Fn) : (s.updFn f g).pimgNew = s.pimgNew := rfl
@[simp] theorem State.updFn_log (f : Nat) (g : Fn → Fn) : (s.updFn f g).log = s.log := rfl
@[simp] theorem State.updFn_windows (f : Nat) (g : Fn → Fn) : (s.updFn f g).windows = s.windows := rfl
@[simp] theorem State.updFn_tests (f : Nat) (g : Fn → Fn) : (s.updFn f g).tests = s.tests := rfl
@[simp] theorem State.updFn_journal (f : Nat) (g : Fn → Fn) : (s.updFn f g).journal = s.journal := rfl
@[simp] theorem State.updFn_ledger (f : Nat) (g : Fn → Fn) : (s.updFn f g).ledger = s.ledger := rfl
@[simp] theorem State.updFn_armed (f : Nat) (g : Fn → Fn) : (s.updFn f g).armed = s.armed := rfl
@[simp] theorem State.updFn_rehome (f : Nat) (g : Fn → Fn) : (s.updFn f g).rehome = s.rehome := rfl
@[simp] theorem State.updFn_svc (f : Nat) (g : Fn → Fn) : (s.updFn f g).svc = s.svc := rfl
@[simp] theorem State.updFn_mem (f : Nat) (g : Fn → Fn) : (s.updFn f g).mem = s.mem := rfl
@[simp] theorem State.updFn_linkWait (f : Nat) (g : Fn → Fn) : (s.updFn f g).linkWait = s.linkWait := rfl
@[simp] theorem State.updFn_free (f : Nat) (g : Fn → Fn) : (s.updFn f g).free = s.free := rfl
@[simp] theorem State.updFn_pending (f : Nat) (g : Fn → Fn) : (s.updFn f g).pending = s.pending := rfl

/-! updMon changes `mon` alone. -/
@[simp] theorem State.updMon_clock (m : Nat) (f : Mon → Mon) : (s.updMon m f).clock = s.clock := rfl
@[simp] theorem State.updMon_frameSt (m : Nat) (f : Mon → Mon) : (s.updMon m f).frameSt = s.frameSt := rfl
@[simp] theorem State.updMon_power (m : Nat) (f : Mon → Mon) : (s.updMon m f).power = s.power := rfl
@[simp] theorem State.updMon_ec (m : Nat) (f : Mon → Mon) : (s.updMon m f).ec = s.ec := rfl
@[simp] theorem State.updMon_time (m : Nat) (f : Mon → Mon) : (s.updMon m f).time = s.time := rfl
@[simp] theorem State.updMon_dev (m : Nat) (f : Mon → Mon) : (s.updMon m f).dev = s.dev := rfl
@[simp] theorem State.updMon_pkg (m : Nat) (f : Mon → Mon) : (s.updMon m f).pkg = s.pkg := rfl
@[simp] theorem State.updMon_term (m : Nat) (f : Mon → Mon) : (s.updMon m f).term = s.term := rfl
@[simp] theorem State.updMon_chan (m : Nat) (f : Mon → Mon) : (s.updMon m f).chan = s.chan := rfl
@[simp] theorem State.updMon_chip (m : Nat) (f : Mon → Mon) : (s.updMon m f).chip = s.chip := rfl
@[simp] theorem State.updMon_lanes (m : Nat) (f : Mon → Mon) : (s.updMon m f).lanes = s.lanes := rfl
@[simp] theorem State.updMon_view (m : Nat) (f : Mon → Mon) : (s.updMon m f).view = s.view := rfl
@[simp] theorem State.updMon_half (m : Nat) (f : Mon → Mon) : (s.updMon m f).half = s.half := rfl
@[simp] theorem State.updMon_enc (m : Nat) (f : Mon → Mon) : (s.updMon m f).enc = s.enc := rfl
@[simp] theorem State.updMon_engine (m : Nat) (f : Mon → Mon) : (s.updMon m f).engine = s.engine := rfl
@[simp] theorem State.updMon_timer (m : Nat) (f : Mon → Mon) : (s.updMon m f).timer = s.timer := rfl
@[simp] theorem State.updMon_mailbox (m : Nat) (f : Mon → Mon) : (s.updMon m f).mailbox = s.mailbox := rfl
@[simp] theorem State.updMon_coach (m : Nat) (f : Mon → Mon) : (s.updMon m f).coach = s.coach := rfl
@[simp] theorem State.updMon_coachSt (m : Nat) (f : Mon → Mon) : (s.updMon m f).coachSt = s.coachSt := rfl
@[simp] theorem State.updMon_slot (m : Nat) (f : Mon → Mon) : (s.updMon m f).slot = s.slot := rfl
@[simp] theorem State.updMon_fn (m : Nat) (f : Mon → Mon) : (s.updMon m f).fn = s.fn := rfl
@[simp] theorem State.updMon_monx (m : Nat) (f : Mon → Mon) : (s.updMon m f).monx = s.monx := rfl
@[simp] theorem State.updMon_monOld (m : Nat) (f : Mon → Mon) : (s.updMon m f).monOld = s.monOld := rfl
@[simp] theorem State.updMon_conn (m : Nat) (f : Mon → Mon) : (s.updMon m f).conn = s.conn := rfl
@[simp] theorem State.updMon_cage (m : Nat) (f : Mon → Mon) : (s.updMon m f).cage = s.cage := rfl
@[simp] theorem State.updMon_net (m : Nat) (f : Mon → Mon) : (s.updMon m f).net = s.net := rfl
@[simp] theorem State.updMon_port (m : Nat) (f : Mon → Mon) : (s.updMon m f).port = s.port := rfl
@[simp] theorem State.updMon_queue (m : Nat) (f : Mon → Mon) : (s.updMon m f).queue = s.queue := rfl
@[simp] theorem State.updMon_token (m : Nat) (f : Mon → Mon) : (s.updMon m f).token = s.token := rfl
@[simp] theorem State.updMon_pd (m : Nat) (f : Mon → Mon) : (s.updMon m f).pd = s.pd := rfl
@[simp] theorem State.updMon_pdNext (m : Nat) (f : Mon → Mon) : (s.updMon m f).pdNext = s.pdNext := rfl
@[simp] theorem State.updMon_pimg (m : Nat) (f : Mon → Mon) : (s.updMon m f).pimg = s.pimg := rfl
@[simp] theorem State.updMon_pimgNew (m : Nat) (f : Mon → Mon) : (s.updMon m f).pimgNew = s.pimgNew := rfl
@[simp] theorem State.updMon_log (m : Nat) (f : Mon → Mon) : (s.updMon m f).log = s.log := rfl
@[simp] theorem State.updMon_windows (m : Nat) (f : Mon → Mon) : (s.updMon m f).windows = s.windows := rfl
@[simp] theorem State.updMon_tests (m : Nat) (f : Mon → Mon) : (s.updMon m f).tests = s.tests := rfl
@[simp] theorem State.updMon_journal (m : Nat) (f : Mon → Mon) : (s.updMon m f).journal = s.journal := rfl
@[simp] theorem State.updMon_ledger (m : Nat) (f : Mon → Mon) : (s.updMon m f).ledger = s.ledger := rfl
@[simp] theorem State.updMon_armed (m : Nat) (f : Mon → Mon) : (s.updMon m f).armed = s.armed := rfl
@[simp] theorem State.updMon_rehome (m : Nat) (f : Mon → Mon) : (s.updMon m f).rehome = s.rehome := rfl
@[simp] theorem State.updMon_svc (m : Nat) (f : Mon → Mon) : (s.updMon m f).svc = s.svc := rfl
@[simp] theorem State.updMon_mem (m : Nat) (f : Mon → Mon) : (s.updMon m f).mem = s.mem := rfl
@[simp] theorem State.updMon_linkWait (m : Nat) (f : Mon → Mon) : (s.updMon m f).linkWait = s.linkWait := rfl
@[simp] theorem State.updMon_free (m : Nat) (f : Mon → Mon) : (s.updMon m f).free = s.free := rfl
@[simp] theorem State.updMon_pending (m : Nat) (f : Mon → Mon) : (s.updMon m f).pending = s.pending := rfl

/-! updMonx changes `monx` alone. -/
@[simp] theorem State.updMonx_clock (m : Nat) (f : MonX → MonX) : (s.updMonx m f).clock = s.clock := rfl
@[simp] theorem State.updMonx_frameSt (m : Nat) (f : MonX → MonX) : (s.updMonx m f).frameSt = s.frameSt := rfl
@[simp] theorem State.updMonx_power (m : Nat) (f : MonX → MonX) : (s.updMonx m f).power = s.power := rfl
@[simp] theorem State.updMonx_ec (m : Nat) (f : MonX → MonX) : (s.updMonx m f).ec = s.ec := rfl
@[simp] theorem State.updMonx_time (m : Nat) (f : MonX → MonX) : (s.updMonx m f).time = s.time := rfl
@[simp] theorem State.updMonx_dev (m : Nat) (f : MonX → MonX) : (s.updMonx m f).dev = s.dev := rfl
@[simp] theorem State.updMonx_pkg (m : Nat) (f : MonX → MonX) : (s.updMonx m f).pkg = s.pkg := rfl
@[simp] theorem State.updMonx_term (m : Nat) (f : MonX → MonX) : (s.updMonx m f).term = s.term := rfl
@[simp] theorem State.updMonx_chan (m : Nat) (f : MonX → MonX) : (s.updMonx m f).chan = s.chan := rfl
@[simp] theorem State.updMonx_chip (m : Nat) (f : MonX → MonX) : (s.updMonx m f).chip = s.chip := rfl
@[simp] theorem State.updMonx_lanes (m : Nat) (f : MonX → MonX) : (s.updMonx m f).lanes = s.lanes := rfl
@[simp] theorem State.updMonx_view (m : Nat) (f : MonX → MonX) : (s.updMonx m f).view = s.view := rfl
@[simp] theorem State.updMonx_half (m : Nat) (f : MonX → MonX) : (s.updMonx m f).half = s.half := rfl
@[simp] theorem State.updMonx_enc (m : Nat) (f : MonX → MonX) : (s.updMonx m f).enc = s.enc := rfl
@[simp] theorem State.updMonx_engine (m : Nat) (f : MonX → MonX) : (s.updMonx m f).engine = s.engine := rfl
@[simp] theorem State.updMonx_timer (m : Nat) (f : MonX → MonX) : (s.updMonx m f).timer = s.timer := rfl
@[simp] theorem State.updMonx_mailbox (m : Nat) (f : MonX → MonX) : (s.updMonx m f).mailbox = s.mailbox := rfl
@[simp] theorem State.updMonx_coach (m : Nat) (f : MonX → MonX) : (s.updMonx m f).coach = s.coach := rfl
@[simp] theorem State.updMonx_coachSt (m : Nat) (f : MonX → MonX) : (s.updMonx m f).coachSt = s.coachSt := rfl
@[simp] theorem State.updMonx_slot (m : Nat) (f : MonX → MonX) : (s.updMonx m f).slot = s.slot := rfl
@[simp] theorem State.updMonx_fn (m : Nat) (f : MonX → MonX) : (s.updMonx m f).fn = s.fn := rfl
@[simp] theorem State.updMonx_mon (m : Nat) (f : MonX → MonX) : (s.updMonx m f).mon = s.mon := rfl
@[simp] theorem State.updMonx_monOld (m : Nat) (f : MonX → MonX) : (s.updMonx m f).monOld = s.monOld := rfl
@[simp] theorem State.updMonx_conn (m : Nat) (f : MonX → MonX) : (s.updMonx m f).conn = s.conn := rfl
@[simp] theorem State.updMonx_cage (m : Nat) (f : MonX → MonX) : (s.updMonx m f).cage = s.cage := rfl
@[simp] theorem State.updMonx_net (m : Nat) (f : MonX → MonX) : (s.updMonx m f).net = s.net := rfl
@[simp] theorem State.updMonx_port (m : Nat) (f : MonX → MonX) : (s.updMonx m f).port = s.port := rfl
@[simp] theorem State.updMonx_queue (m : Nat) (f : MonX → MonX) : (s.updMonx m f).queue = s.queue := rfl
@[simp] theorem State.updMonx_token (m : Nat) (f : MonX → MonX) : (s.updMonx m f).token = s.token := rfl
@[simp] theorem State.updMonx_pd (m : Nat) (f : MonX → MonX) : (s.updMonx m f).pd = s.pd := rfl
@[simp] theorem State.updMonx_pdNext (m : Nat) (f : MonX → MonX) : (s.updMonx m f).pdNext = s.pdNext := rfl
@[simp] theorem State.updMonx_pimg (m : Nat) (f : MonX → MonX) : (s.updMonx m f).pimg = s.pimg := rfl
@[simp] theorem State.updMonx_pimgNew (m : Nat) (f : MonX → MonX) : (s.updMonx m f).pimgNew = s.pimgNew := rfl
@[simp] theorem State.updMonx_log (m : Nat) (f : MonX → MonX) : (s.updMonx m f).log = s.log := rfl
@[simp] theorem State.updMonx_windows (m : Nat) (f : MonX → MonX) : (s.updMonx m f).windows = s.windows := rfl
@[simp] theorem State.updMonx_tests (m : Nat) (f : MonX → MonX) : (s.updMonx m f).tests = s.tests := rfl
@[simp] theorem State.updMonx_journal (m : Nat) (f : MonX → MonX) : (s.updMonx m f).journal = s.journal := rfl
@[simp] theorem State.updMonx_ledger (m : Nat) (f : MonX → MonX) : (s.updMonx m f).ledger = s.ledger := rfl
@[simp] theorem State.updMonx_armed (m : Nat) (f : MonX → MonX) : (s.updMonx m f).armed = s.armed := rfl
@[simp] theorem State.updMonx_rehome (m : Nat) (f : MonX → MonX) : (s.updMonx m f).rehome = s.rehome := rfl
@[simp] theorem State.updMonx_svc (m : Nat) (f : MonX → MonX) : (s.updMonx m f).svc = s.svc := rfl
@[simp] theorem State.updMonx_mem (m : Nat) (f : MonX → MonX) : (s.updMonx m f).mem = s.mem := rfl
@[simp] theorem State.updMonx_linkWait (m : Nat) (f : MonX → MonX) : (s.updMonx m f).linkWait = s.linkWait := rfl
@[simp] theorem State.updMonx_free (m : Nat) (f : MonX → MonX) : (s.updMonx m f).free = s.free := rfl
@[simp] theorem State.updMonx_pending (m : Nat) (f : MonX → MonX) : (s.updMonx m f).pending = s.pending := rfl

/-! updConn changes `conn` alone. -/
@[simp] theorem State.updConn_clock (c : Nat) (f : Conn → Conn) : (s.updConn c f).clock = s.clock := rfl
@[simp] theorem State.updConn_frameSt (c : Nat) (f : Conn → Conn) : (s.updConn c f).frameSt = s.frameSt := rfl
@[simp] theorem State.updConn_power (c : Nat) (f : Conn → Conn) : (s.updConn c f).power = s.power := rfl
@[simp] theorem State.updConn_ec (c : Nat) (f : Conn → Conn) : (s.updConn c f).ec = s.ec := rfl
@[simp] theorem State.updConn_time (c : Nat) (f : Conn → Conn) : (s.updConn c f).time = s.time := rfl
@[simp] theorem State.updConn_dev (c : Nat) (f : Conn → Conn) : (s.updConn c f).dev = s.dev := rfl
@[simp] theorem State.updConn_pkg (c : Nat) (f : Conn → Conn) : (s.updConn c f).pkg = s.pkg := rfl
@[simp] theorem State.updConn_term (c : Nat) (f : Conn → Conn) : (s.updConn c f).term = s.term := rfl
@[simp] theorem State.updConn_chan (c : Nat) (f : Conn → Conn) : (s.updConn c f).chan = s.chan := rfl
@[simp] theorem State.updConn_chip (c : Nat) (f : Conn → Conn) : (s.updConn c f).chip = s.chip := rfl
@[simp] theorem State.updConn_lanes (c : Nat) (f : Conn → Conn) : (s.updConn c f).lanes = s.lanes := rfl
@[simp] theorem State.updConn_view (c : Nat) (f : Conn → Conn) : (s.updConn c f).view = s.view := rfl
@[simp] theorem State.updConn_half (c : Nat) (f : Conn → Conn) : (s.updConn c f).half = s.half := rfl
@[simp] theorem State.updConn_enc (c : Nat) (f : Conn → Conn) : (s.updConn c f).enc = s.enc := rfl
@[simp] theorem State.updConn_engine (c : Nat) (f : Conn → Conn) : (s.updConn c f).engine = s.engine := rfl
@[simp] theorem State.updConn_timer (c : Nat) (f : Conn → Conn) : (s.updConn c f).timer = s.timer := rfl
@[simp] theorem State.updConn_mailbox (c : Nat) (f : Conn → Conn) : (s.updConn c f).mailbox = s.mailbox := rfl
@[simp] theorem State.updConn_coach (c : Nat) (f : Conn → Conn) : (s.updConn c f).coach = s.coach := rfl
@[simp] theorem State.updConn_coachSt (c : Nat) (f : Conn → Conn) : (s.updConn c f).coachSt = s.coachSt := rfl
@[simp] theorem State.updConn_slot (c : Nat) (f : Conn → Conn) : (s.updConn c f).slot = s.slot := rfl
@[simp] theorem State.updConn_fn (c : Nat) (f : Conn → Conn) : (s.updConn c f).fn = s.fn := rfl
@[simp] theorem State.updConn_mon (c : Nat) (f : Conn → Conn) : (s.updConn c f).mon = s.mon := rfl
@[simp] theorem State.updConn_monx (c : Nat) (f : Conn → Conn) : (s.updConn c f).monx = s.monx := rfl
@[simp] theorem State.updConn_monOld (c : Nat) (f : Conn → Conn) : (s.updConn c f).monOld = s.monOld := rfl
@[simp] theorem State.updConn_cage (c : Nat) (f : Conn → Conn) : (s.updConn c f).cage = s.cage := rfl
@[simp] theorem State.updConn_net (c : Nat) (f : Conn → Conn) : (s.updConn c f).net = s.net := rfl
@[simp] theorem State.updConn_port (c : Nat) (f : Conn → Conn) : (s.updConn c f).port = s.port := rfl
@[simp] theorem State.updConn_queue (c : Nat) (f : Conn → Conn) : (s.updConn c f).queue = s.queue := rfl
@[simp] theorem State.updConn_token (c : Nat) (f : Conn → Conn) : (s.updConn c f).token = s.token := rfl
@[simp] theorem State.updConn_pd (c : Nat) (f : Conn → Conn) : (s.updConn c f).pd = s.pd := rfl
@[simp] theorem State.updConn_pdNext (c : Nat) (f : Conn → Conn) : (s.updConn c f).pdNext = s.pdNext := rfl
@[simp] theorem State.updConn_pimg (c : Nat) (f : Conn → Conn) : (s.updConn c f).pimg = s.pimg := rfl
@[simp] theorem State.updConn_pimgNew (c : Nat) (f : Conn → Conn) : (s.updConn c f).pimgNew = s.pimgNew := rfl
@[simp] theorem State.updConn_log (c : Nat) (f : Conn → Conn) : (s.updConn c f).log = s.log := rfl
@[simp] theorem State.updConn_windows (c : Nat) (f : Conn → Conn) : (s.updConn c f).windows = s.windows := rfl
@[simp] theorem State.updConn_tests (c : Nat) (f : Conn → Conn) : (s.updConn c f).tests = s.tests := rfl
@[simp] theorem State.updConn_journal (c : Nat) (f : Conn → Conn) : (s.updConn c f).journal = s.journal := rfl
@[simp] theorem State.updConn_ledger (c : Nat) (f : Conn → Conn) : (s.updConn c f).ledger = s.ledger := rfl
@[simp] theorem State.updConn_armed (c : Nat) (f : Conn → Conn) : (s.updConn c f).armed = s.armed := rfl
@[simp] theorem State.updConn_rehome (c : Nat) (f : Conn → Conn) : (s.updConn c f).rehome = s.rehome := rfl
@[simp] theorem State.updConn_svc (c : Nat) (f : Conn → Conn) : (s.updConn c f).svc = s.svc := rfl
@[simp] theorem State.updConn_mem (c : Nat) (f : Conn → Conn) : (s.updConn c f).mem = s.mem := rfl
@[simp] theorem State.updConn_linkWait (c : Nat) (f : Conn → Conn) : (s.updConn c f).linkWait = s.linkWait := rfl
@[simp] theorem State.updConn_free (c : Nat) (f : Conn → Conn) : (s.updConn c f).free = s.free := rfl
@[simp] theorem State.updConn_pending (c : Nat) (f : Conn → Conn) : (s.updConn c f).pending = s.pending := rfl

/-! updCage changes `cage` alone. -/
@[simp] theorem State.updCage_clock (c : Nat) (f : Cage → Cage) : (s.updCage c f).clock = s.clock := rfl
@[simp] theorem State.updCage_frameSt (c : Nat) (f : Cage → Cage) : (s.updCage c f).frameSt = s.frameSt := rfl
@[simp] theorem State.updCage_power (c : Nat) (f : Cage → Cage) : (s.updCage c f).power = s.power := rfl
@[simp] theorem State.updCage_ec (c : Nat) (f : Cage → Cage) : (s.updCage c f).ec = s.ec := rfl
@[simp] theorem State.updCage_time (c : Nat) (f : Cage → Cage) : (s.updCage c f).time = s.time := rfl
@[simp] theorem State.updCage_dev (c : Nat) (f : Cage → Cage) : (s.updCage c f).dev = s.dev := rfl
@[simp] theorem State.updCage_pkg (c : Nat) (f : Cage → Cage) : (s.updCage c f).pkg = s.pkg := rfl
@[simp] theorem State.updCage_term (c : Nat) (f : Cage → Cage) : (s.updCage c f).term = s.term := rfl
@[simp] theorem State.updCage_chan (c : Nat) (f : Cage → Cage) : (s.updCage c f).chan = s.chan := rfl
@[simp] theorem State.updCage_chip (c : Nat) (f : Cage → Cage) : (s.updCage c f).chip = s.chip := rfl
@[simp] theorem State.updCage_lanes (c : Nat) (f : Cage → Cage) : (s.updCage c f).lanes = s.lanes := rfl
@[simp] theorem State.updCage_view (c : Nat) (f : Cage → Cage) : (s.updCage c f).view = s.view := rfl
@[simp] theorem State.updCage_half (c : Nat) (f : Cage → Cage) : (s.updCage c f).half = s.half := rfl
@[simp] theorem State.updCage_enc (c : Nat) (f : Cage → Cage) : (s.updCage c f).enc = s.enc := rfl
@[simp] theorem State.updCage_engine (c : Nat) (f : Cage → Cage) : (s.updCage c f).engine = s.engine := rfl
@[simp] theorem State.updCage_timer (c : Nat) (f : Cage → Cage) : (s.updCage c f).timer = s.timer := rfl
@[simp] theorem State.updCage_mailbox (c : Nat) (f : Cage → Cage) : (s.updCage c f).mailbox = s.mailbox := rfl
@[simp] theorem State.updCage_coach (c : Nat) (f : Cage → Cage) : (s.updCage c f).coach = s.coach := rfl
@[simp] theorem State.updCage_coachSt (c : Nat) (f : Cage → Cage) : (s.updCage c f).coachSt = s.coachSt := rfl
@[simp] theorem State.updCage_slot (c : Nat) (f : Cage → Cage) : (s.updCage c f).slot = s.slot := rfl
@[simp] theorem State.updCage_fn (c : Nat) (f : Cage → Cage) : (s.updCage c f).fn = s.fn := rfl
@[simp] theorem State.updCage_mon (c : Nat) (f : Cage → Cage) : (s.updCage c f).mon = s.mon := rfl
@[simp] theorem State.updCage_monx (c : Nat) (f : Cage → Cage) : (s.updCage c f).monx = s.monx := rfl
@[simp] theorem State.updCage_monOld (c : Nat) (f : Cage → Cage) : (s.updCage c f).monOld = s.monOld := rfl
@[simp] theorem State.updCage_conn (c : Nat) (f : Cage → Cage) : (s.updCage c f).conn = s.conn := rfl
@[simp] theorem State.updCage_net (c : Nat) (f : Cage → Cage) : (s.updCage c f).net = s.net := rfl
@[simp] theorem State.updCage_port (c : Nat) (f : Cage → Cage) : (s.updCage c f).port = s.port := rfl
@[simp] theorem State.updCage_queue (c : Nat) (f : Cage → Cage) : (s.updCage c f).queue = s.queue := rfl
@[simp] theorem State.updCage_token (c : Nat) (f : Cage → Cage) : (s.updCage c f).token = s.token := rfl
@[simp] theorem State.updCage_pd (c : Nat) (f : Cage → Cage) : (s.updCage c f).pd = s.pd := rfl
@[simp] theorem State.updCage_pdNext (c : Nat) (f : Cage → Cage) : (s.updCage c f).pdNext = s.pdNext := rfl
@[simp] theorem State.updCage_pimg (c : Nat) (f : Cage → Cage) : (s.updCage c f).pimg = s.pimg := rfl
@[simp] theorem State.updCage_pimgNew (c : Nat) (f : Cage → Cage) : (s.updCage c f).pimgNew = s.pimgNew := rfl
@[simp] theorem State.updCage_log (c : Nat) (f : Cage → Cage) : (s.updCage c f).log = s.log := rfl
@[simp] theorem State.updCage_windows (c : Nat) (f : Cage → Cage) : (s.updCage c f).windows = s.windows := rfl
@[simp] theorem State.updCage_tests (c : Nat) (f : Cage → Cage) : (s.updCage c f).tests = s.tests := rfl
@[simp] theorem State.updCage_journal (c : Nat) (f : Cage → Cage) : (s.updCage c f).journal = s.journal := rfl
@[simp] theorem State.updCage_ledger (c : Nat) (f : Cage → Cage) : (s.updCage c f).ledger = s.ledger := rfl
@[simp] theorem State.updCage_armed (c : Nat) (f : Cage → Cage) : (s.updCage c f).armed = s.armed := rfl
@[simp] theorem State.updCage_rehome (c : Nat) (f : Cage → Cage) : (s.updCage c f).rehome = s.rehome := rfl
@[simp] theorem State.updCage_svc (c : Nat) (f : Cage → Cage) : (s.updCage c f).svc = s.svc := rfl
@[simp] theorem State.updCage_mem (c : Nat) (f : Cage → Cage) : (s.updCage c f).mem = s.mem := rfl
@[simp] theorem State.updCage_linkWait (c : Nat) (f : Cage → Cage) : (s.updCage c f).linkWait = s.linkWait := rfl
@[simp] theorem State.updCage_free (c : Nat) (f : Cage → Cage) : (s.updCage c f).free = s.free := rfl
@[simp] theorem State.updCage_pending (c : Nat) (f : Cage → Cage) : (s.updCage c f).pending = s.pending := rfl

/-! updNet changes `net` alone. -/
@[simp] theorem State.updNet_clock (d : Side) (f : Net → Net) : (s.updNet d f).clock = s.clock := rfl
@[simp] theorem State.updNet_frameSt (d : Side) (f : Net → Net) : (s.updNet d f).frameSt = s.frameSt := rfl
@[simp] theorem State.updNet_power (d : Side) (f : Net → Net) : (s.updNet d f).power = s.power := rfl
@[simp] theorem State.updNet_ec (d : Side) (f : Net → Net) : (s.updNet d f).ec = s.ec := rfl
@[simp] theorem State.updNet_time (d : Side) (f : Net → Net) : (s.updNet d f).time = s.time := rfl
@[simp] theorem State.updNet_dev (d : Side) (f : Net → Net) : (s.updNet d f).dev = s.dev := rfl
@[simp] theorem State.updNet_pkg (d : Side) (f : Net → Net) : (s.updNet d f).pkg = s.pkg := rfl
@[simp] theorem State.updNet_term (d : Side) (f : Net → Net) : (s.updNet d f).term = s.term := rfl
@[simp] theorem State.updNet_chan (d : Side) (f : Net → Net) : (s.updNet d f).chan = s.chan := rfl
@[simp] theorem State.updNet_chip (d : Side) (f : Net → Net) : (s.updNet d f).chip = s.chip := rfl
@[simp] theorem State.updNet_lanes (d : Side) (f : Net → Net) : (s.updNet d f).lanes = s.lanes := rfl
@[simp] theorem State.updNet_view (d : Side) (f : Net → Net) : (s.updNet d f).view = s.view := rfl
@[simp] theorem State.updNet_half (d : Side) (f : Net → Net) : (s.updNet d f).half = s.half := rfl
@[simp] theorem State.updNet_enc (d : Side) (f : Net → Net) : (s.updNet d f).enc = s.enc := rfl
@[simp] theorem State.updNet_engine (d : Side) (f : Net → Net) : (s.updNet d f).engine = s.engine := rfl
@[simp] theorem State.updNet_timer (d : Side) (f : Net → Net) : (s.updNet d f).timer = s.timer := rfl
@[simp] theorem State.updNet_mailbox (d : Side) (f : Net → Net) : (s.updNet d f).mailbox = s.mailbox := rfl
@[simp] theorem State.updNet_coach (d : Side) (f : Net → Net) : (s.updNet d f).coach = s.coach := rfl
@[simp] theorem State.updNet_coachSt (d : Side) (f : Net → Net) : (s.updNet d f).coachSt = s.coachSt := rfl
@[simp] theorem State.updNet_slot (d : Side) (f : Net → Net) : (s.updNet d f).slot = s.slot := rfl
@[simp] theorem State.updNet_fn (d : Side) (f : Net → Net) : (s.updNet d f).fn = s.fn := rfl
@[simp] theorem State.updNet_mon (d : Side) (f : Net → Net) : (s.updNet d f).mon = s.mon := rfl
@[simp] theorem State.updNet_monx (d : Side) (f : Net → Net) : (s.updNet d f).monx = s.monx := rfl
@[simp] theorem State.updNet_monOld (d : Side) (f : Net → Net) : (s.updNet d f).monOld = s.monOld := rfl
@[simp] theorem State.updNet_conn (d : Side) (f : Net → Net) : (s.updNet d f).conn = s.conn := rfl
@[simp] theorem State.updNet_cage (d : Side) (f : Net → Net) : (s.updNet d f).cage = s.cage := rfl
@[simp] theorem State.updNet_port (d : Side) (f : Net → Net) : (s.updNet d f).port = s.port := rfl
@[simp] theorem State.updNet_queue (d : Side) (f : Net → Net) : (s.updNet d f).queue = s.queue := rfl
@[simp] theorem State.updNet_token (d : Side) (f : Net → Net) : (s.updNet d f).token = s.token := rfl
@[simp] theorem State.updNet_pd (d : Side) (f : Net → Net) : (s.updNet d f).pd = s.pd := rfl
@[simp] theorem State.updNet_pdNext (d : Side) (f : Net → Net) : (s.updNet d f).pdNext = s.pdNext := rfl
@[simp] theorem State.updNet_pimg (d : Side) (f : Net → Net) : (s.updNet d f).pimg = s.pimg := rfl
@[simp] theorem State.updNet_pimgNew (d : Side) (f : Net → Net) : (s.updNet d f).pimgNew = s.pimgNew := rfl
@[simp] theorem State.updNet_log (d : Side) (f : Net → Net) : (s.updNet d f).log = s.log := rfl
@[simp] theorem State.updNet_windows (d : Side) (f : Net → Net) : (s.updNet d f).windows = s.windows := rfl
@[simp] theorem State.updNet_tests (d : Side) (f : Net → Net) : (s.updNet d f).tests = s.tests := rfl
@[simp] theorem State.updNet_journal (d : Side) (f : Net → Net) : (s.updNet d f).journal = s.journal := rfl
@[simp] theorem State.updNet_ledger (d : Side) (f : Net → Net) : (s.updNet d f).ledger = s.ledger := rfl
@[simp] theorem State.updNet_armed (d : Side) (f : Net → Net) : (s.updNet d f).armed = s.armed := rfl
@[simp] theorem State.updNet_rehome (d : Side) (f : Net → Net) : (s.updNet d f).rehome = s.rehome := rfl
@[simp] theorem State.updNet_svc (d : Side) (f : Net → Net) : (s.updNet d f).svc = s.svc := rfl
@[simp] theorem State.updNet_mem (d : Side) (f : Net → Net) : (s.updNet d f).mem = s.mem := rfl
@[simp] theorem State.updNet_linkWait (d : Side) (f : Net → Net) : (s.updNet d f).linkWait = s.linkWait := rfl
@[simp] theorem State.updNet_free (d : Side) (f : Net → Net) : (s.updNet d f).free = s.free := rfl
@[simp] theorem State.updNet_pending (d : Side) (f : Net → Net) : (s.updNet d f).pending = s.pending := rfl

/-! updPort changes `port` alone. -/
@[simp] theorem State.updPort_clock (d : Side) (f : Port → Port) : (s.updPort d f).clock = s.clock := rfl
@[simp] theorem State.updPort_frameSt (d : Side) (f : Port → Port) : (s.updPort d f).frameSt = s.frameSt := rfl
@[simp] theorem State.updPort_power (d : Side) (f : Port → Port) : (s.updPort d f).power = s.power := rfl
@[simp] theorem State.updPort_ec (d : Side) (f : Port → Port) : (s.updPort d f).ec = s.ec := rfl
@[simp] theorem State.updPort_time (d : Side) (f : Port → Port) : (s.updPort d f).time = s.time := rfl
@[simp] theorem State.updPort_dev (d : Side) (f : Port → Port) : (s.updPort d f).dev = s.dev := rfl
@[simp] theorem State.updPort_pkg (d : Side) (f : Port → Port) : (s.updPort d f).pkg = s.pkg := rfl
@[simp] theorem State.updPort_term (d : Side) (f : Port → Port) : (s.updPort d f).term = s.term := rfl
@[simp] theorem State.updPort_chan (d : Side) (f : Port → Port) : (s.updPort d f).chan = s.chan := rfl
@[simp] theorem State.updPort_chip (d : Side) (f : Port → Port) : (s.updPort d f).chip = s.chip := rfl
@[simp] theorem State.updPort_lanes (d : Side) (f : Port → Port) : (s.updPort d f).lanes = s.lanes := rfl
@[simp] theorem State.updPort_view (d : Side) (f : Port → Port) : (s.updPort d f).view = s.view := rfl
@[simp] theorem State.updPort_half (d : Side) (f : Port → Port) : (s.updPort d f).half = s.half := rfl
@[simp] theorem State.updPort_enc (d : Side) (f : Port → Port) : (s.updPort d f).enc = s.enc := rfl
@[simp] theorem State.updPort_engine (d : Side) (f : Port → Port) : (s.updPort d f).engine = s.engine := rfl
@[simp] theorem State.updPort_timer (d : Side) (f : Port → Port) : (s.updPort d f).timer = s.timer := rfl
@[simp] theorem State.updPort_mailbox (d : Side) (f : Port → Port) : (s.updPort d f).mailbox = s.mailbox := rfl
@[simp] theorem State.updPort_coach (d : Side) (f : Port → Port) : (s.updPort d f).coach = s.coach := rfl
@[simp] theorem State.updPort_coachSt (d : Side) (f : Port → Port) : (s.updPort d f).coachSt = s.coachSt := rfl
@[simp] theorem State.updPort_slot (d : Side) (f : Port → Port) : (s.updPort d f).slot = s.slot := rfl
@[simp] theorem State.updPort_fn (d : Side) (f : Port → Port) : (s.updPort d f).fn = s.fn := rfl
@[simp] theorem State.updPort_mon (d : Side) (f : Port → Port) : (s.updPort d f).mon = s.mon := rfl
@[simp] theorem State.updPort_monx (d : Side) (f : Port → Port) : (s.updPort d f).monx = s.monx := rfl
@[simp] theorem State.updPort_monOld (d : Side) (f : Port → Port) : (s.updPort d f).monOld = s.monOld := rfl
@[simp] theorem State.updPort_conn (d : Side) (f : Port → Port) : (s.updPort d f).conn = s.conn := rfl
@[simp] theorem State.updPort_cage (d : Side) (f : Port → Port) : (s.updPort d f).cage = s.cage := rfl
@[simp] theorem State.updPort_net (d : Side) (f : Port → Port) : (s.updPort d f).net = s.net := rfl
@[simp] theorem State.updPort_queue (d : Side) (f : Port → Port) : (s.updPort d f).queue = s.queue := rfl
@[simp] theorem State.updPort_token (d : Side) (f : Port → Port) : (s.updPort d f).token = s.token := rfl
@[simp] theorem State.updPort_pd (d : Side) (f : Port → Port) : (s.updPort d f).pd = s.pd := rfl
@[simp] theorem State.updPort_pdNext (d : Side) (f : Port → Port) : (s.updPort d f).pdNext = s.pdNext := rfl
@[simp] theorem State.updPort_pimg (d : Side) (f : Port → Port) : (s.updPort d f).pimg = s.pimg := rfl
@[simp] theorem State.updPort_pimgNew (d : Side) (f : Port → Port) : (s.updPort d f).pimgNew = s.pimgNew := rfl
@[simp] theorem State.updPort_log (d : Side) (f : Port → Port) : (s.updPort d f).log = s.log := rfl
@[simp] theorem State.updPort_windows (d : Side) (f : Port → Port) : (s.updPort d f).windows = s.windows := rfl
@[simp] theorem State.updPort_tests (d : Side) (f : Port → Port) : (s.updPort d f).tests = s.tests := rfl
@[simp] theorem State.updPort_journal (d : Side) (f : Port → Port) : (s.updPort d f).journal = s.journal := rfl
@[simp] theorem State.updPort_ledger (d : Side) (f : Port → Port) : (s.updPort d f).ledger = s.ledger := rfl
@[simp] theorem State.updPort_armed (d : Side) (f : Port → Port) : (s.updPort d f).armed = s.armed := rfl
@[simp] theorem State.updPort_rehome (d : Side) (f : Port → Port) : (s.updPort d f).rehome = s.rehome := rfl
@[simp] theorem State.updPort_svc (d : Side) (f : Port → Port) : (s.updPort d f).svc = s.svc := rfl
@[simp] theorem State.updPort_mem (d : Side) (f : Port → Port) : (s.updPort d f).mem = s.mem := rfl
@[simp] theorem State.updPort_linkWait (d : Side) (f : Port → Port) : (s.updPort d f).linkWait = s.linkWait := rfl
@[simp] theorem State.updPort_free (d : Side) (f : Port → Port) : (s.updPort d f).free = s.free := rfl
@[simp] theorem State.updPort_pending (d : Side) (f : Port → Port) : (s.updPort d f).pending = s.pending := rfl

/-! updQueue changes `queue` alone. -/
@[simp] theorem State.updQueue_clock (q : Nat) (f : Queue → Queue) : (s.updQueue q f).clock = s.clock := rfl
@[simp] theorem State.updQueue_frameSt (q : Nat) (f : Queue → Queue) : (s.updQueue q f).frameSt = s.frameSt := rfl
@[simp] theorem State.updQueue_power (q : Nat) (f : Queue → Queue) : (s.updQueue q f).power = s.power := rfl
@[simp] theorem State.updQueue_ec (q : Nat) (f : Queue → Queue) : (s.updQueue q f).ec = s.ec := rfl
@[simp] theorem State.updQueue_time (q : Nat) (f : Queue → Queue) : (s.updQueue q f).time = s.time := rfl
@[simp] theorem State.updQueue_dev (q : Nat) (f : Queue → Queue) : (s.updQueue q f).dev = s.dev := rfl
@[simp] theorem State.updQueue_pkg (q : Nat) (f : Queue → Queue) : (s.updQueue q f).pkg = s.pkg := rfl
@[simp] theorem State.updQueue_term (q : Nat) (f : Queue → Queue) : (s.updQueue q f).term = s.term := rfl
@[simp] theorem State.updQueue_chan (q : Nat) (f : Queue → Queue) : (s.updQueue q f).chan = s.chan := rfl
@[simp] theorem State.updQueue_chip (q : Nat) (f : Queue → Queue) : (s.updQueue q f).chip = s.chip := rfl
@[simp] theorem State.updQueue_lanes (q : Nat) (f : Queue → Queue) : (s.updQueue q f).lanes = s.lanes := rfl
@[simp] theorem State.updQueue_view (q : Nat) (f : Queue → Queue) : (s.updQueue q f).view = s.view := rfl
@[simp] theorem State.updQueue_half (q : Nat) (f : Queue → Queue) : (s.updQueue q f).half = s.half := rfl
@[simp] theorem State.updQueue_enc (q : Nat) (f : Queue → Queue) : (s.updQueue q f).enc = s.enc := rfl
@[simp] theorem State.updQueue_engine (q : Nat) (f : Queue → Queue) : (s.updQueue q f).engine = s.engine := rfl
@[simp] theorem State.updQueue_timer (q : Nat) (f : Queue → Queue) : (s.updQueue q f).timer = s.timer := rfl
@[simp] theorem State.updQueue_mailbox (q : Nat) (f : Queue → Queue) : (s.updQueue q f).mailbox = s.mailbox := rfl
@[simp] theorem State.updQueue_coach (q : Nat) (f : Queue → Queue) : (s.updQueue q f).coach = s.coach := rfl
@[simp] theorem State.updQueue_coachSt (q : Nat) (f : Queue → Queue) : (s.updQueue q f).coachSt = s.coachSt := rfl
@[simp] theorem State.updQueue_slot (q : Nat) (f : Queue → Queue) : (s.updQueue q f).slot = s.slot := rfl
@[simp] theorem State.updQueue_fn (q : Nat) (f : Queue → Queue) : (s.updQueue q f).fn = s.fn := rfl
@[simp] theorem State.updQueue_mon (q : Nat) (f : Queue → Queue) : (s.updQueue q f).mon = s.mon := rfl
@[simp] theorem State.updQueue_monx (q : Nat) (f : Queue → Queue) : (s.updQueue q f).monx = s.monx := rfl
@[simp] theorem State.updQueue_monOld (q : Nat) (f : Queue → Queue) : (s.updQueue q f).monOld = s.monOld := rfl
@[simp] theorem State.updQueue_conn (q : Nat) (f : Queue → Queue) : (s.updQueue q f).conn = s.conn := rfl
@[simp] theorem State.updQueue_cage (q : Nat) (f : Queue → Queue) : (s.updQueue q f).cage = s.cage := rfl
@[simp] theorem State.updQueue_net (q : Nat) (f : Queue → Queue) : (s.updQueue q f).net = s.net := rfl
@[simp] theorem State.updQueue_port (q : Nat) (f : Queue → Queue) : (s.updQueue q f).port = s.port := rfl
@[simp] theorem State.updQueue_token (q : Nat) (f : Queue → Queue) : (s.updQueue q f).token = s.token := rfl
@[simp] theorem State.updQueue_pd (q : Nat) (f : Queue → Queue) : (s.updQueue q f).pd = s.pd := rfl
@[simp] theorem State.updQueue_pdNext (q : Nat) (f : Queue → Queue) : (s.updQueue q f).pdNext = s.pdNext := rfl
@[simp] theorem State.updQueue_pimg (q : Nat) (f : Queue → Queue) : (s.updQueue q f).pimg = s.pimg := rfl
@[simp] theorem State.updQueue_pimgNew (q : Nat) (f : Queue → Queue) : (s.updQueue q f).pimgNew = s.pimgNew := rfl
@[simp] theorem State.updQueue_log (q : Nat) (f : Queue → Queue) : (s.updQueue q f).log = s.log := rfl
@[simp] theorem State.updQueue_windows (q : Nat) (f : Queue → Queue) : (s.updQueue q f).windows = s.windows := rfl
@[simp] theorem State.updQueue_tests (q : Nat) (f : Queue → Queue) : (s.updQueue q f).tests = s.tests := rfl
@[simp] theorem State.updQueue_journal (q : Nat) (f : Queue → Queue) : (s.updQueue q f).journal = s.journal := rfl
@[simp] theorem State.updQueue_ledger (q : Nat) (f : Queue → Queue) : (s.updQueue q f).ledger = s.ledger := rfl
@[simp] theorem State.updQueue_armed (q : Nat) (f : Queue → Queue) : (s.updQueue q f).armed = s.armed := rfl
@[simp] theorem State.updQueue_rehome (q : Nat) (f : Queue → Queue) : (s.updQueue q f).rehome = s.rehome := rfl
@[simp] theorem State.updQueue_svc (q : Nat) (f : Queue → Queue) : (s.updQueue q f).svc = s.svc := rfl
@[simp] theorem State.updQueue_mem (q : Nat) (f : Queue → Queue) : (s.updQueue q f).mem = s.mem := rfl
@[simp] theorem State.updQueue_linkWait (q : Nat) (f : Queue → Queue) : (s.updQueue q f).linkWait = s.linkWait := rfl
@[simp] theorem State.updQueue_free (q : Nat) (f : Queue → Queue) : (s.updQueue q f).free = s.free := rfl
@[simp] theorem State.updQueue_pending (q : Nat) (f : Queue → Queue) : (s.updQueue q f).pending = s.pending := rfl

/-! updFst changes `frameSt` alone. -/
@[simp] theorem State.updFst_clock (d : Side) (f : FrameStat → FrameStat) : (s.updFst d f).clock = s.clock := rfl
@[simp] theorem State.updFst_power (d : Side) (f : FrameStat → FrameStat) : (s.updFst d f).power = s.power := rfl
@[simp] theorem State.updFst_ec (d : Side) (f : FrameStat → FrameStat) : (s.updFst d f).ec = s.ec := rfl
@[simp] theorem State.updFst_time (d : Side) (f : FrameStat → FrameStat) : (s.updFst d f).time = s.time := rfl
@[simp] theorem State.updFst_dev (d : Side) (f : FrameStat → FrameStat) : (s.updFst d f).dev = s.dev := rfl
@[simp] theorem State.updFst_pkg (d : Side) (f : FrameStat → FrameStat) : (s.updFst d f).pkg = s.pkg := rfl
@[simp] theorem State.updFst_term (d : Side) (f : FrameStat → FrameStat) : (s.updFst d f).term = s.term := rfl
@[simp] theorem State.updFst_chan (d : Side) (f : FrameStat → FrameStat) : (s.updFst d f).chan = s.chan := rfl
@[simp] theorem State.updFst_chip (d : Side) (f : FrameStat → FrameStat) : (s.updFst d f).chip = s.chip := rfl
@[simp] theorem State.updFst_lanes (d : Side) (f : FrameStat → FrameStat) : (s.updFst d f).lanes = s.lanes := rfl
@[simp] theorem State.updFst_view (d : Side) (f : FrameStat → FrameStat) : (s.updFst d f).view = s.view := rfl
@[simp] theorem State.updFst_half (d : Side) (f : FrameStat → FrameStat) : (s.updFst d f).half = s.half := rfl
@[simp] theorem State.updFst_enc (d : Side) (f : FrameStat → FrameStat) : (s.updFst d f).enc = s.enc := rfl
@[simp] theorem State.updFst_engine (d : Side) (f : FrameStat → FrameStat) : (s.updFst d f).engine = s.engine := rfl
@[simp] theorem State.updFst_timer (d : Side) (f : FrameStat → FrameStat) : (s.updFst d f).timer = s.timer := rfl
@[simp] theorem State.updFst_mailbox (d : Side) (f : FrameStat → FrameStat) : (s.updFst d f).mailbox = s.mailbox := rfl
@[simp] theorem State.updFst_coach (d : Side) (f : FrameStat → FrameStat) : (s.updFst d f).coach = s.coach := rfl
@[simp] theorem State.updFst_coachSt (d : Side) (f : FrameStat → FrameStat) : (s.updFst d f).coachSt = s.coachSt := rfl
@[simp] theorem State.updFst_slot (d : Side) (f : FrameStat → FrameStat) : (s.updFst d f).slot = s.slot := rfl
@[simp] theorem State.updFst_fn (d : Side) (f : FrameStat → FrameStat) : (s.updFst d f).fn = s.fn := rfl
@[simp] theorem State.updFst_mon (d : Side) (f : FrameStat → FrameStat) : (s.updFst d f).mon = s.mon := rfl
@[simp] theorem State.updFst_monx (d : Side) (f : FrameStat → FrameStat) : (s.updFst d f).monx = s.monx := rfl
@[simp] theorem State.updFst_monOld (d : Side) (f : FrameStat → FrameStat) : (s.updFst d f).monOld = s.monOld := rfl
@[simp] theorem State.updFst_conn (d : Side) (f : FrameStat → FrameStat) : (s.updFst d f).conn = s.conn := rfl
@[simp] theorem State.updFst_cage (d : Side) (f : FrameStat → FrameStat) : (s.updFst d f).cage = s.cage := rfl
@[simp] theorem State.updFst_net (d : Side) (f : FrameStat → FrameStat) : (s.updFst d f).net = s.net := rfl
@[simp] theorem State.updFst_port (d : Side) (f : FrameStat → FrameStat) : (s.updFst d f).port = s.port := rfl
@[simp] theorem State.updFst_queue (d : Side) (f : FrameStat → FrameStat) : (s.updFst d f).queue = s.queue := rfl
@[simp] theorem State.updFst_token (d : Side) (f : FrameStat → FrameStat) : (s.updFst d f).token = s.token := rfl
@[simp] theorem State.updFst_pd (d : Side) (f : FrameStat → FrameStat) : (s.updFst d f).pd = s.pd := rfl
@[simp] theorem State.updFst_pdNext (d : Side) (f : FrameStat → FrameStat) : (s.updFst d f).pdNext = s.pdNext := rfl
@[simp] theorem State.updFst_pimg (d : Side) (f : FrameStat → FrameStat) : (s.updFst d f).pimg = s.pimg := rfl
@[simp] theorem State.updFst_pimgNew (d : Side) (f : FrameStat → FrameStat) : (s.updFst d f).pimgNew = s.pimgNew := rfl
@[simp] theorem State.updFst_log (d : Side) (f : FrameStat → FrameStat) : (s.updFst d f).log = s.log := rfl
@[simp] theorem State.updFst_windows (d : Side) (f : FrameStat → FrameStat) : (s.updFst d f).windows = s.windows := rfl
@[simp] theorem State.updFst_tests (d : Side) (f : FrameStat → FrameStat) : (s.updFst d f).tests = s.tests := rfl
@[simp] theorem State.updFst_journal (d : Side) (f : FrameStat → FrameStat) : (s.updFst d f).journal = s.journal := rfl
@[simp] theorem State.updFst_ledger (d : Side) (f : FrameStat → FrameStat) : (s.updFst d f).ledger = s.ledger := rfl
@[simp] theorem State.updFst_armed (d : Side) (f : FrameStat → FrameStat) : (s.updFst d f).armed = s.armed := rfl
@[simp] theorem State.updFst_rehome (d : Side) (f : FrameStat → FrameStat) : (s.updFst d f).rehome = s.rehome := rfl
@[simp] theorem State.updFst_svc (d : Side) (f : FrameStat → FrameStat) : (s.updFst d f).svc = s.svc := rfl
@[simp] theorem State.updFst_mem (d : Side) (f : FrameStat → FrameStat) : (s.updFst d f).mem = s.mem := rfl
@[simp] theorem State.updFst_linkWait (d : Side) (f : FrameStat → FrameStat) : (s.updFst d f).linkWait = s.linkWait := rfl
@[simp] theorem State.updFst_free (d : Side) (f : FrameStat → FrameStat) : (s.updFst d f).free = s.free := rfl
@[simp] theorem State.updFst_pending (d : Side) (f : FrameStat → FrameStat) : (s.updFst d f).pending = s.pending := rfl

/-! updMem changes `mem` alone. -/
@[simp] theorem State.updMem_clock (d : Side) (f : Mem → Mem) : (s.updMem d f).clock = s.clock := rfl
@[simp] theorem State.updMem_frameSt (d : Side) (f : Mem → Mem) : (s.updMem d f).frameSt = s.frameSt := rfl
@[simp] theorem State.updMem_power (d : Side) (f : Mem → Mem) : (s.updMem d f).power = s.power := rfl
@[simp] theorem State.updMem_ec (d : Side) (f : Mem → Mem) : (s.updMem d f).ec = s.ec := rfl
@[simp] theorem State.updMem_time (d : Side) (f : Mem → Mem) : (s.updMem d f).time = s.time := rfl
@[simp] theorem State.updMem_dev (d : Side) (f : Mem → Mem) : (s.updMem d f).dev = s.dev := rfl
@[simp] theorem State.updMem_pkg (d : Side) (f : Mem → Mem) : (s.updMem d f).pkg = s.pkg := rfl
@[simp] theorem State.updMem_term (d : Side) (f : Mem → Mem) : (s.updMem d f).term = s.term := rfl
@[simp] theorem State.updMem_chan (d : Side) (f : Mem → Mem) : (s.updMem d f).chan = s.chan := rfl
@[simp] theorem State.updMem_chip (d : Side) (f : Mem → Mem) : (s.updMem d f).chip = s.chip := rfl
@[simp] theorem State.updMem_lanes (d : Side) (f : Mem → Mem) : (s.updMem d f).lanes = s.lanes := rfl
@[simp] theorem State.updMem_view (d : Side) (f : Mem → Mem) : (s.updMem d f).view = s.view := rfl
@[simp] theorem State.updMem_half (d : Side) (f : Mem → Mem) : (s.updMem d f).half = s.half := rfl
@[simp] theorem State.updMem_enc (d : Side) (f : Mem → Mem) : (s.updMem d f).enc = s.enc := rfl
@[simp] theorem State.updMem_engine (d : Side) (f : Mem → Mem) : (s.updMem d f).engine = s.engine := rfl
@[simp] theorem State.updMem_timer (d : Side) (f : Mem → Mem) : (s.updMem d f).timer = s.timer := rfl
@[simp] theorem State.updMem_mailbox (d : Side) (f : Mem → Mem) : (s.updMem d f).mailbox = s.mailbox := rfl
@[simp] theorem State.updMem_coach (d : Side) (f : Mem → Mem) : (s.updMem d f).coach = s.coach := rfl
@[simp] theorem State.updMem_coachSt (d : Side) (f : Mem → Mem) : (s.updMem d f).coachSt = s.coachSt := rfl
@[simp] theorem State.updMem_slot (d : Side) (f : Mem → Mem) : (s.updMem d f).slot = s.slot := rfl
@[simp] theorem State.updMem_fn (d : Side) (f : Mem → Mem) : (s.updMem d f).fn = s.fn := rfl
@[simp] theorem State.updMem_mon (d : Side) (f : Mem → Mem) : (s.updMem d f).mon = s.mon := rfl
@[simp] theorem State.updMem_monx (d : Side) (f : Mem → Mem) : (s.updMem d f).monx = s.monx := rfl
@[simp] theorem State.updMem_monOld (d : Side) (f : Mem → Mem) : (s.updMem d f).monOld = s.monOld := rfl
@[simp] theorem State.updMem_conn (d : Side) (f : Mem → Mem) : (s.updMem d f).conn = s.conn := rfl
@[simp] theorem State.updMem_cage (d : Side) (f : Mem → Mem) : (s.updMem d f).cage = s.cage := rfl
@[simp] theorem State.updMem_net (d : Side) (f : Mem → Mem) : (s.updMem d f).net = s.net := rfl
@[simp] theorem State.updMem_port (d : Side) (f : Mem → Mem) : (s.updMem d f).port = s.port := rfl
@[simp] theorem State.updMem_queue (d : Side) (f : Mem → Mem) : (s.updMem d f).queue = s.queue := rfl
@[simp] theorem State.updMem_token (d : Side) (f : Mem → Mem) : (s.updMem d f).token = s.token := rfl
@[simp] theorem State.updMem_pd (d : Side) (f : Mem → Mem) : (s.updMem d f).pd = s.pd := rfl
@[simp] theorem State.updMem_pdNext (d : Side) (f : Mem → Mem) : (s.updMem d f).pdNext = s.pdNext := rfl
@[simp] theorem State.updMem_pimg (d : Side) (f : Mem → Mem) : (s.updMem d f).pimg = s.pimg := rfl
@[simp] theorem State.updMem_pimgNew (d : Side) (f : Mem → Mem) : (s.updMem d f).pimgNew = s.pimgNew := rfl
@[simp] theorem State.updMem_log (d : Side) (f : Mem → Mem) : (s.updMem d f).log = s.log := rfl
@[simp] theorem State.updMem_windows (d : Side) (f : Mem → Mem) : (s.updMem d f).windows = s.windows := rfl
@[simp] theorem State.updMem_tests (d : Side) (f : Mem → Mem) : (s.updMem d f).tests = s.tests := rfl
@[simp] theorem State.updMem_journal (d : Side) (f : Mem → Mem) : (s.updMem d f).journal = s.journal := rfl
@[simp] theorem State.updMem_ledger (d : Side) (f : Mem → Mem) : (s.updMem d f).ledger = s.ledger := rfl
@[simp] theorem State.updMem_armed (d : Side) (f : Mem → Mem) : (s.updMem d f).armed = s.armed := rfl
@[simp] theorem State.updMem_rehome (d : Side) (f : Mem → Mem) : (s.updMem d f).rehome = s.rehome := rfl
@[simp] theorem State.updMem_svc (d : Side) (f : Mem → Mem) : (s.updMem d f).svc = s.svc := rfl
@[simp] theorem State.updMem_linkWait (d : Side) (f : Mem → Mem) : (s.updMem d f).linkWait = s.linkWait := rfl
@[simp] theorem State.updMem_free (d : Side) (f : Mem → Mem) : (s.updMem d f).free = s.free := rfl
@[simp] theorem State.updMem_pending (d : Side) (f : Mem → Mem) : (s.updMem d f).pending = s.pending := rfl

/-! Reading an element after an update. -/
/-- The copy of a side after a write of one side. -/
theorem Two.get_set {α : Type} (p : Two α) (x : α) (d e : Side) : (p.set x d).get e = if e = d then x else p.get e := by
  cases d <;> cases e <;> rfl
theorem State.termOf_updTerm (t : Nat) (f : Terminal → Terminal) (e : Nat) :
    (s.updTerm t f).termOf e = if e = t then f (s.termOf t) else s.termOf e :=
  Tab.get_upd _ _ _ _ _
theorem State.chanOf_updChan (c : Nat) (f : Channel → Channel) (e : Nat) :
    (s.updChan c f).chanOf e = if e = c then f (s.chanOf c) else s.chanOf e :=
  Tab.get_upd _ _ _ _ _
theorem State.chipOf_updChip (i : Nat) (f : Chip → Chip) (e : Nat) :
    (s.updChip i f).chipOf e = if e = i then f (s.chipOf i) else s.chipOf e :=
  Tab.get_upd _ _ _ _ _
theorem State.lanesOf_updLanes (i : Nat) (f : Lanes → Lanes) (e : Nat) :
    (s.updLanes i f).lanesOf e = if e = i then f (s.lanesOf i) else s.lanesOf e :=
  Tab.get_upd _ _ _ _ _
theorem State.viewOf_updView (i : Nat) (f : View → View) (e : Nat) :
    (s.updView i f).viewOf e = if e = i then f (s.viewOf i) else s.viewOf e :=
  Tab.get_upd _ _ _ _ _
theorem State.halfOf_updHalf (d : Side) (f : Half → Half) (e : Side) :
    (s.updHalf d f).halfOf e = if e = d then f (s.halfOf d) else s.halfOf e :=
  Two.get_set _ _ _ _
theorem State.encOf_updEnc (i : Nat) (f : Enc → Enc) (e : Nat) :
    (s.updEnc i f).encOf e = if e = i then f (s.encOf i) else s.encOf e :=
  Tab.get_upd _ _ _ _ _
theorem State.engOf_updEng (i : Nat) (f : Engine → Engine) (e : Nat) :
    (s.updEng i f).engOf e = if e = i then f (s.engOf i) else s.engOf e :=
  Tab.get_upd _ _ _ _ _
theorem State.timerOf_updTimer (i : Nat) (f : TimerU → TimerU) (e : Nat) :
    (s.updTimer i f).timerOf e = if e = i then f (s.timerOf i) else s.timerOf e :=
  Tab.get_upd _ _ _ _ _
theorem State.coachOf_updCoach (i : Nat) (f : Coach → Coach) (e : Nat) :
    (s.updCoach i f).coachOf e = if e = i then f (s.coachOf i) else s.coachOf e :=
  Tab.get_upd _ _ _ _ _
theorem State.cstOf_updCst (i : Nat) (f : CoachSt → CoachSt) (e : Nat) :
    (s.updCst i f).cstOf e = if e = i then f (s.cstOf i) else s.cstOf e :=
  Tab.get_upd _ _ _ _ _
theorem State.slotOf_updSlot (p : Nat) (f : Slot → Slot) (e : Nat) :
    (s.updSlot p f).slotOf e = if e = p then f (s.slotOf p) else s.slotOf e :=
  Tab.get_upd _ _ _ _ _
theorem State.fnOf_updFn (f : Nat) (g : Fn → Fn) (e : Nat) :
    (s.updFn f g).fnOf e = if e = f then g (s.fnOf f) else s.fnOf e :=
  Tab.get_upd _ _ _ _ _
theorem State.monOf_updMon (m : Nat) (f : Mon → Mon) (e : Nat) :
    (s.updMon m f).monOf e = if e = m then f (s.monOf m) else s.monOf e :=
  Tab.get_upd _ _ _ _ _
theorem State.monxOf_updMonx (m : Nat) (f : MonX → MonX) (e : Nat) :
    (s.updMonx m f).monxOf e = if e = m then f (s.monxOf m) else s.monxOf e :=
  Tab.get_upd _ _ _ _ _
theorem State.connOf_updConn (c : Nat) (f : Conn → Conn) (e : Nat) :
    (s.updConn c f).connOf e = if e = c then f (s.connOf c) else s.connOf e :=
  Tab.get_upd _ _ _ _ _
theorem State.cageOf_updCage (c : Nat) (f : Cage → Cage) (e : Nat) :
    (s.updCage c f).cageOf e = if e = c then f (s.cageOf c) else s.cageOf e :=
  Tab.get_upd _ _ _ _ _
theorem State.netOf_updNet (d : Side) (f : Net → Net) (e : Side) :
    (s.updNet d f).netOf e = if e = d then f (s.netOf d) else s.netOf e :=
  Two.get_set _ _ _ _
theorem State.portOf_updPort (d : Side) (f : Port → Port) (e : Side) :
    (s.updPort d f).portOf e = if e = d then f (s.portOf d) else s.portOf e :=
  Two.get_set _ _ _ _
theorem State.queueOf_updQueue (q : Nat) (f : Queue → Queue) (e : Nat) :
    (s.updQueue q f).queueOf e = if e = q then f (s.queueOf q) else s.queueOf e :=
  Tab.get_upd _ _ _ _ _
theorem State.fstOf_updFst (d : Side) (f : FrameStat → FrameStat) (e : Side) :
    (s.updFst d f).fstOf e = if e = d then f (s.fstOf d) else s.fstOf e :=
  Two.get_set _ _ _ _

end Sys2Proof.Machine
end

