-- ==== Sys2Proof/Laws/Ops.lean ====
section
/-! SUPPORT. What the shared operations can do, said once: settling changes outputs alone, posting changes the log, its windows,
the journals and the streams alone, and a fold of steps that keep something keeps it. -/

namespace Sys2Proof.Machine

/-- A fold of steps that keep a view of the state keeps it. -/
theorem foldl_keeps {α β : Type} (π : State → β) (f : State → α → State) (h : ∀ x a, π (f x a) = π x) (l : List α) (s : State) :
    π (l.foldl f s) = π s := by
  induction l generalizing s with
  | nil => rfl
  | cons a r ih => rw [List.foldl_cons, ih, h]

/-- The same for forEach. -/
theorem forEach_keeps {β : Type} (π : State → β) (f : State → Nat → State) (h : ∀ x k, π (f x k) = π x) (s : State) (l : List Nat) :
    π (s.forEach l f) = π s := foldl_keeps π f h l s

/-- A fold of steps that keep an invariant keeps it. -/
theorem foldl_inv {α : Type} (P : State → Prop) (f : State → α → State) (h : ∀ x a, P x → P (f x a)) (l : List α) (s : State)
    (hs : P s) : P (l.foldl f s) := by
  induction l generalizing s with
  | nil => exact hs
  | cons a r ih => exact ih (f s a) (h s a hs)

/-- The same for forEach. -/
theorem forEach_inv (P : State → Prop) (f : State → Nat → State) (h : ∀ x k, P x → P (f x k)) (s : State) (l : List Nat)
    (hs : P s) : P (s.forEach l f) := foldl_inv P f h l s hs

/-- A table updated at every key of a list without repeats. -/
theorem foldl_upd_get {α : Type} [DecidableEq α] (d : α) (F : Nat → α → α) (l : List Nat) (hl : l.Nodup) (t : Tab α) (u : Nat) :
    Tab.get d (l.foldl (fun tab k => Tab.upd d tab k (F k)) t) u = if u ∈ l then F u (Tab.get d t u) else Tab.get d t u := by
  induction l generalizing t with
  | nil => simp
  | cons k r ih =>
    rw [List.nodup_cons] at hl
    rw [List.foldl_cons, ih hl.2, Tab.get_upd]
    by_cases hu : u = k
    · subst hu; simp [hl.1]
    · simp [hu]

/-- The output terminals are listed once. -/
theorem State.outTerms_nodup (s : State) : s.outTerms.Nodup := by
  unfold State.outTerms
  split
  · exact List.nodup_range.filter _
  · exact List.nodup_nil

/-- A terminal after settling. -/
theorem State.termOf_settle (s : State) (t : Nat) :
    s.settle.termOf t =
      if t ∈ s.outTerms then (fun x : Terminal => { x with out := x.out.settle (s.tripped t) }) (s.termOf t) else s.termOf t :=
  foldl_upd_get ({} : Terminal) (fun t (x : Terminal) => { x with out := x.out.settle (s.tripped t) }) s.outTerms s.outTerms_nodup
    s.term t

/-- Settling gives every output terminal its gate and latch. -/
theorem State.settle_out (s : State) (t : Nat) :
    (s.settle.termOf t).out = if t ∈ s.outTerms then (s.termOf t).out.settle (s.tripped t) else (s.termOf t).out := by
  rw [State.termOf_settle]; split <;> rfl

/-! Settling changes nothing else of a terminal. -/
@[simp] theorem State.settle_tstat (s : State) (t : Nat) : (s.settle.termOf t).tstat = (s.termOf t).tstat := by
  rw [State.termOf_settle]; split <;> rfl
@[simp] theorem State.settle_dig (s : State) (t : Nat) : (s.settle.termOf t).dig = (s.termOf t).dig := by
  rw [State.termOf_settle]; split <;> rfl
@[simp] theorem State.settle_ana (s : State) (t : Nat) : (s.settle.termOf t).ana = (s.termOf t).ana := by
  rw [State.termOf_settle]; split <;> rfl
@[simp] theorem State.settle_ctr (s : State) (t : Nat) : (s.settle.termOf t).ctr = (s.termOf t).ctr := by
  rw [State.termOf_settle]; split <;> rfl
@[simp] theorem State.settle_img (s : State) (t : Nat) : (s.settle.termOf t).img = (s.termOf t).img := by
  rw [State.termOf_settle]; split <;> rfl
@[simp] theorem State.settle_outOff (s : State) (t : Nat) : (s.settle.termOf t).out.off = (s.termOf t).out.off := by
  rw [State.settle_out]; split
  · unfold Out.settle; split <;> rfl
  · rfl

/-- A command that ends settled, or done, ends in a next state. -/
@[simp] theorem settled_eq (s : State) : settled s = .next s.settle := rfl
@[simp] theorem done_eq (s : State) : done s = .next s := rfl

/-! Settling changes terminals alone. -/
@[simp] theorem State.settle_clock (s : State) : s.settle.clock = s.clock := rfl
@[simp] theorem State.settle_frameSt (s : State) : s.settle.frameSt = s.frameSt := rfl
@[simp] theorem State.settle_power (s : State) : s.settle.power = s.power := rfl
@[simp] theorem State.settle_ec (s : State) : s.settle.ec = s.ec := rfl
@[simp] theorem State.settle_time (s : State) : s.settle.time = s.time := rfl
@[simp] theorem State.settle_dev (s : State) : s.settle.dev = s.dev := rfl
@[simp] theorem State.settle_pkg (s : State) : s.settle.pkg = s.pkg := rfl
@[simp] theorem State.settle_chan (s : State) : s.settle.chan = s.chan := rfl
@[simp] theorem State.settle_chip (s : State) : s.settle.chip = s.chip := rfl
@[simp] theorem State.settle_lanes (s : State) : s.settle.lanes = s.lanes := rfl
@[simp] theorem State.settle_view (s : State) : s.settle.view = s.view := rfl
@[simp] theorem State.settle_half (s : State) : s.settle.half = s.half := rfl
@[simp] theorem State.settle_enc (s : State) : s.settle.enc = s.enc := rfl
@[simp] theorem State.settle_engine (s : State) : s.settle.engine = s.engine := rfl
@[simp] theorem State.settle_timer (s : State) : s.settle.timer = s.timer := rfl
@[simp] theorem State.settle_mailbox (s : State) : s.settle.mailbox = s.mailbox := rfl
@[simp] theorem State.settle_coach (s : State) : s.settle.coach = s.coach := rfl
@[simp] theorem State.settle_coachSt (s : State) : s.settle.coachSt = s.coachSt := rfl
@[simp] theorem State.settle_slot (s : State) : s.settle.slot = s.slot := rfl
@[simp] theorem State.settle_fn (s : State) : s.settle.fn = s.fn := rfl
@[simp] theorem State.settle_mon (s : State) : s.settle.mon = s.mon := rfl
@[simp] theorem State.settle_monx (s : State) : s.settle.monx = s.monx := rfl
@[simp] theorem State.settle_monOld (s : State) : s.settle.monOld = s.monOld := rfl
@[simp] theorem State.settle_conn (s : State) : s.settle.conn = s.conn := rfl
@[simp] theorem State.settle_cage (s : State) : s.settle.cage = s.cage := rfl
@[simp] theorem State.settle_net (s : State) : s.settle.net = s.net := rfl
@[simp] theorem State.settle_port (s : State) : s.settle.port = s.port := rfl
@[simp] theorem State.settle_queue (s : State) : s.settle.queue = s.queue := rfl
@[simp] theorem State.settle_token (s : State) : s.settle.token = s.token := rfl
@[simp] theorem State.settle_pd (s : State) : s.settle.pd = s.pd := rfl
@[simp] theorem State.settle_pdNext (s : State) : s.settle.pdNext = s.pdNext := rfl
@[simp] theorem State.settle_pimg (s : State) : s.settle.pimg = s.pimg := rfl
@[simp] theorem State.settle_pimgNew (s : State) : s.settle.pimgNew = s.pimgNew := rfl
@[simp] theorem State.settle_log (s : State) : s.settle.log = s.log := rfl
@[simp] theorem State.settle_windows (s : State) : s.settle.windows = s.windows := rfl
@[simp] theorem State.settle_tests (s : State) : s.settle.tests = s.tests := rfl
@[simp] theorem State.settle_journal (s : State) : s.settle.journal = s.journal := rfl
@[simp] theorem State.settle_ledger (s : State) : s.settle.ledger = s.ledger := rfl
@[simp] theorem State.settle_armed (s : State) : s.settle.armed = s.armed := rfl
@[simp] theorem State.settle_rehome (s : State) : s.settle.rehome = s.rehome := rfl
@[simp] theorem State.settle_svc (s : State) : s.settle.svc = s.svc := rfl
@[simp] theorem State.settle_mem (s : State) : s.settle.mem = s.mem := rfl
@[simp] theorem State.settle_linkWait (s : State) : s.settle.linkWait = s.linkWait := rfl
@[simp] theorem State.settle_free (s : State) : s.settle.free = s.free := rfl
@[simp] theorem State.settle_pending (s : State) : s.settle.pending = s.pending := rfl

/-! Posting an event changes the log, the windows, the journals and the stream queues alone. -/
@[simp] theorem State.postL_clock (s : State) (code : Nat) (src : Node) (sev detail : Nat) (l : Bool) :
    (s.postL code src sev detail l).clock = s.clock := rfl
@[simp] theorem State.post_clock (s : State) (code : Nat) (src : Node) (sev detail : Nat) :
    (s.post code src sev detail).clock = s.clock := rfl
@[simp] theorem State.postL_frameSt (s : State) (code : Nat) (src : Node) (sev detail : Nat) (l : Bool) :
    (s.postL code src sev detail l).frameSt = s.frameSt := rfl
@[simp] theorem State.post_frameSt (s : State) (code : Nat) (src : Node) (sev detail : Nat) :
    (s.post code src sev detail).frameSt = s.frameSt := rfl
@[simp] theorem State.postL_power (s : State) (code : Nat) (src : Node) (sev detail : Nat) (l : Bool) :
    (s.postL code src sev detail l).power = s.power := rfl
@[simp] theorem State.post_power (s : State) (code : Nat) (src : Node) (sev detail : Nat) :
    (s.post code src sev detail).power = s.power := rfl
@[simp] theorem State.postL_ec (s : State) (code : Nat) (src : Node) (sev detail : Nat) (l : Bool) :
    (s.postL code src sev detail l).ec = s.ec := rfl
@[simp] theorem State.post_ec (s : State) (code : Nat) (src : Node) (sev detail : Nat) :
    (s.post code src sev detail).ec = s.ec := rfl
@[simp] theorem State.postL_time (s : State) (code : Nat) (src : Node) (sev detail : Nat) (l : Bool) :
    (s.postL code src sev detail l).time = s.time := rfl
@[simp] theorem State.post_time (s : State) (code : Nat) (src : Node) (sev detail : Nat) :
    (s.post code src sev detail).time = s.time := rfl
@[simp] theorem State.postL_dev (s : State) (code : Nat) (src : Node) (sev detail : Nat) (l : Bool) :
    (s.postL code src sev detail l).dev = s.dev := rfl
@[simp] theorem State.post_dev (s : State) (code : Nat) (src : Node) (sev detail : Nat) :
    (s.post code src sev detail).dev = s.dev := rfl
@[simp] theorem State.postL_pkg (s : State) (code : Nat) (src : Node) (sev detail : Nat) (l : Bool) :
    (s.postL code src sev detail l).pkg = s.pkg := rfl
@[simp] theorem State.post_pkg (s : State) (code : Nat) (src : Node) (sev detail : Nat) :
    (s.post code src sev detail).pkg = s.pkg := rfl
@[simp] theorem State.postL_term (s : State) (code : Nat) (src : Node) (sev detail : Nat) (l : Bool) :
    (s.postL code src sev detail l).term = s.term := rfl
@[simp] theorem State.post_term (s : State) (code : Nat) (src : Node) (sev detail : Nat) :
    (s.post code src sev detail).term = s.term := rfl
@[simp] theorem State.postL_chan (s : State) (code : Nat) (src : Node) (sev detail : Nat) (l : Bool) :
    (s.postL code src sev detail l).chan = s.chan := rfl
@[simp] theorem State.post_chan (s : State) (code : Nat) (src : Node) (sev detail : Nat) :
    (s.post code src sev detail).chan = s.chan := rfl
@[simp] theorem State.postL_chip (s : State) (code : Nat) (src : Node) (sev detail : Nat) (l : Bool) :
    (s.postL code src sev detail l).chip = s.chip := rfl
@[simp] theorem State.post_chip (s : State) (code : Nat) (src : Node) (sev detail : Nat) :
    (s.post code src sev detail).chip = s.chip := rfl
@[simp] theorem State.postL_lanes (s : State) (code : Nat) (src : Node) (sev detail : Nat) (l : Bool) :
    (s.postL code src sev detail l).lanes = s.lanes := rfl
@[simp] theorem State.post_lanes (s : State) (code : Nat) (src : Node) (sev detail : Nat) :
    (s.post code src sev detail).lanes = s.lanes := rfl
@[simp] theorem State.postL_view (s : State) (code : Nat) (src : Node) (sev detail : Nat) (l : Bool) :
    (s.postL code src sev detail l).view = s.view := rfl
@[simp] theorem State.post_view (s : State) (code : Nat) (src : Node) (sev detail : Nat) :
    (s.post code src sev detail).view = s.view := rfl
@[simp] theorem State.postL_half (s : State) (code : Nat) (src : Node) (sev detail : Nat) (l : Bool) :
    (s.postL code src sev detail l).half = s.half := rfl
@[simp] theorem State.post_half (s : State) (code : Nat) (src : Node) (sev detail : Nat) :
    (s.post code src sev detail).half = s.half := rfl
@[simp] theorem State.postL_enc (s : State) (code : Nat) (src : Node) (sev detail : Nat) (l : Bool) :
    (s.postL code src sev detail l).enc = s.enc := rfl
@[simp] theorem State.post_enc (s : State) (code : Nat) (src : Node) (sev detail : Nat) :
    (s.post code src sev detail).enc = s.enc := rfl
@[simp] theorem State.postL_engine (s : State) (code : Nat) (src : Node) (sev detail : Nat) (l : Bool) :
    (s.postL code src sev detail l).engine = s.engine := rfl
@[simp] theorem State.post_engine (s : State) (code : Nat) (src : Node) (sev detail : Nat) :
    (s.post code src sev detail).engine = s.engine := rfl
@[simp] theorem State.postL_timer (s : State) (code : Nat) (src : Node) (sev detail : Nat) (l : Bool) :
    (s.postL code src sev detail l).timer = s.timer := rfl
@[simp] theorem State.post_timer (s : State) (code : Nat) (src : Node) (sev detail : Nat) :
    (s.post code src sev detail).timer = s.timer := rfl
@[simp] theorem State.postL_mailbox (s : State) (code : Nat) (src : Node) (sev detail : Nat) (l : Bool) :
    (s.postL code src sev detail l).mailbox = s.mailbox := rfl
@[simp] theorem State.post_mailbox (s : State) (code : Nat) (src : Node) (sev detail : Nat) :
    (s.post code src sev detail).mailbox = s.mailbox := rfl
@[simp] theorem State.postL_coach (s : State) (code : Nat) (src : Node) (sev detail : Nat) (l : Bool) :
    (s.postL code src sev detail l).coach = s.coach := rfl
@[simp] theorem State.post_coach (s : State) (code : Nat) (src : Node) (sev detail : Nat) :
    (s.post code src sev detail).coach = s.coach := rfl
@[simp] theorem State.postL_coachSt (s : State) (code : Nat) (src : Node) (sev detail : Nat) (l : Bool) :
    (s.postL code src sev detail l).coachSt = s.coachSt := rfl
@[simp] theorem State.post_coachSt (s : State) (code : Nat) (src : Node) (sev detail : Nat) :
    (s.post code src sev detail).coachSt = s.coachSt := rfl
@[simp] theorem State.postL_slot (s : State) (code : Nat) (src : Node) (sev detail : Nat) (l : Bool) :
    (s.postL code src sev detail l).slot = s.slot := rfl
@[simp] theorem State.post_slot (s : State) (code : Nat) (src : Node) (sev detail : Nat) :
    (s.post code src sev detail).slot = s.slot := rfl
@[simp] theorem State.postL_fn (s : State) (code : Nat) (src : Node) (sev detail : Nat) (l : Bool) :
    (s.postL code src sev detail l).fn = s.fn := rfl
@[simp] theorem State.post_fn (s : State) (code : Nat) (src : Node) (sev detail : Nat) :
    (s.post code src sev detail).fn = s.fn := rfl
@[simp] theorem State.postL_mon (s : State) (code : Nat) (src : Node) (sev detail : Nat) (l : Bool) :
    (s.postL code src sev detail l).mon = s.mon := rfl
@[simp] theorem State.post_mon (s : State) (code : Nat) (src : Node) (sev detail : Nat) :
    (s.post code src sev detail).mon = s.mon := rfl
@[simp] theorem State.postL_monx (s : State) (code : Nat) (src : Node) (sev detail : Nat) (l : Bool) :
    (s.postL code src sev detail l).monx = s.monx := rfl
@[simp] theorem State.post_monx (s : State) (code : Nat) (src : Node) (sev detail : Nat) :
    (s.post code src sev detail).monx = s.monx := rfl
@[simp] theorem State.postL_monOld (s : State) (code : Nat) (src : Node) (sev detail : Nat) (l : Bool) :
    (s.postL code src sev detail l).monOld = s.monOld := rfl
@[simp] theorem State.post_monOld (s : State) (code : Nat) (src : Node) (sev detail : Nat) :
    (s.post code src sev detail).monOld = s.monOld := rfl
@[simp] theorem State.postL_conn (s : State) (code : Nat) (src : Node) (sev detail : Nat) (l : Bool) :
    (s.postL code src sev detail l).conn = s.conn := rfl
@[simp] theorem State.post_conn (s : State) (code : Nat) (src : Node) (sev detail : Nat) :
    (s.post code src sev detail).conn = s.conn := rfl
@[simp] theorem State.postL_cage (s : State) (code : Nat) (src : Node) (sev detail : Nat) (l : Bool) :
    (s.postL code src sev detail l).cage = s.cage := rfl
@[simp] theorem State.post_cage (s : State) (code : Nat) (src : Node) (sev detail : Nat) :
    (s.post code src sev detail).cage = s.cage := rfl
@[simp] theorem State.postL_net (s : State) (code : Nat) (src : Node) (sev detail : Nat) (l : Bool) :
    (s.postL code src sev detail l).net = s.net := rfl
@[simp] theorem State.post_net (s : State) (code : Nat) (src : Node) (sev detail : Nat) :
    (s.post code src sev detail).net = s.net := rfl
@[simp] theorem State.postL_port (s : State) (code : Nat) (src : Node) (sev detail : Nat) (l : Bool) :
    (s.postL code src sev detail l).port = s.port := rfl
@[simp] theorem State.post_port (s : State) (code : Nat) (src : Node) (sev detail : Nat) :
    (s.post code src sev detail).port = s.port := rfl
@[simp] theorem State.postL_token (s : State) (code : Nat) (src : Node) (sev detail : Nat) (l : Bool) :
    (s.postL code src sev detail l).token = s.token := rfl
@[simp] theorem State.post_token (s : State) (code : Nat) (src : Node) (sev detail : Nat) :
    (s.post code src sev detail).token = s.token := rfl
@[simp] theorem State.postL_pd (s : State) (code : Nat) (src : Node) (sev detail : Nat) (l : Bool) :
    (s.postL code src sev detail l).pd = s.pd := rfl
@[simp] theorem State.post_pd (s : State) (code : Nat) (src : Node) (sev detail : Nat) :
    (s.post code src sev detail).pd = s.pd := rfl
@[simp] theorem State.postL_pdNext (s : State) (code : Nat) (src : Node) (sev detail : Nat) (l : Bool) :
    (s.postL code src sev detail l).pdNext = s.pdNext := rfl
@[simp] theorem State.post_pdNext (s : State) (code : Nat) (src : Node) (sev detail : Nat) :
    (s.post code src sev detail).pdNext = s.pdNext := rfl
@[simp] theorem State.postL_pimg (s : State) (code : Nat) (src : Node) (sev detail : Nat) (l : Bool) :
    (s.postL code src sev detail l).pimg = s.pimg := rfl
@[simp] theorem State.post_pimg (s : State) (code : Nat) (src : Node) (sev detail : Nat) :
    (s.post code src sev detail).pimg = s.pimg := rfl
@[simp] theorem State.postL_pimgNew (s : State) (code : Nat) (src : Node) (sev detail : Nat) (l : Bool) :
    (s.postL code src sev detail l).pimgNew = s.pimgNew := rfl
@[simp] theorem State.post_pimgNew (s : State) (code : Nat) (src : Node) (sev detail : Nat) :
    (s.post code src sev detail).pimgNew = s.pimgNew := rfl
@[simp] theorem State.postL_tests (s : State) (code : Nat) (src : Node) (sev detail : Nat) (l : Bool) :
    (s.postL code src sev detail l).tests = s.tests := rfl
@[simp] theorem State.post_tests (s : State) (code : Nat) (src : Node) (sev detail : Nat) :
    (s.post code src sev detail).tests = s.tests := rfl
@[simp] theorem State.postL_ledger (s : State) (code : Nat) (src : Node) (sev detail : Nat) (l : Bool) :
    (s.postL code src sev detail l).ledger = s.ledger := rfl
@[simp] theorem State.post_ledger (s : State) (code : Nat) (src : Node) (sev detail : Nat) :
    (s.post code src sev detail).ledger = s.ledger := rfl
@[simp] theorem State.postL_armed (s : State) (code : Nat) (src : Node) (sev detail : Nat) (l : Bool) :
    (s.postL code src sev detail l).armed = s.armed := rfl
@[simp] theorem State.post_armed (s : State) (code : Nat) (src : Node) (sev detail : Nat) :
    (s.post code src sev detail).armed = s.armed := rfl
@[simp] theorem State.postL_rehome (s : State) (code : Nat) (src : Node) (sev detail : Nat) (l : Bool) :
    (s.postL code src sev detail l).rehome = s.rehome := rfl
@[simp] theorem State.post_rehome (s : State) (code : Nat) (src : Node) (sev detail : Nat) :
    (s.post code src sev detail).rehome = s.rehome := rfl
@[simp] theorem State.postL_svc (s : State) (code : Nat) (src : Node) (sev detail : Nat) (l : Bool) :
    (s.postL code src sev detail l).svc = s.svc := rfl
@[simp] theorem State.post_svc (s : State) (code : Nat) (src : Node) (sev detail : Nat) :
    (s.post code src sev detail).svc = s.svc := rfl
@[simp] theorem State.postL_mem (s : State) (code : Nat) (src : Node) (sev detail : Nat) (l : Bool) :
    (s.postL code src sev detail l).mem = s.mem := rfl
@[simp] theorem State.post_mem (s : State) (code : Nat) (src : Node) (sev detail : Nat) :
    (s.post code src sev detail).mem = s.mem := rfl
@[simp] theorem State.postL_linkWait (s : State) (code : Nat) (src : Node) (sev detail : Nat) (l : Bool) :
    (s.postL code src sev detail l).linkWait = s.linkWait := rfl
@[simp] theorem State.post_linkWait (s : State) (code : Nat) (src : Node) (sev detail : Nat) :
    (s.post code src sev detail).linkWait = s.linkWait := rfl
@[simp] theorem State.postL_free (s : State) (code : Nat) (src : Node) (sev detail : Nat) (l : Bool) :
    (s.postL code src sev detail l).free = s.free := rfl
@[simp] theorem State.post_free (s : State) (code : Nat) (src : Node) (sev detail : Nat) :
    (s.post code src sev detail).free = s.free := rfl
@[simp] theorem State.postL_pending (s : State) (code : Nat) (src : Node) (sev detail : Nat) (l : Bool) :
    (s.postL code src sev detail l).pending = s.pending := rfl
@[simp] theorem State.post_pending (s : State) (code : Nat) (src : Node) (sev detail : Nat) :
    (s.post code src sev detail).pending = s.pending := rfl

/-! The end of a condition changes the windows alone. -/
@[simp] theorem State.endCondition_clock (s : State) (src : Node) (code : Nat) :
    (s.endCondition src code).clock = s.clock := rfl
@[simp] theorem State.endCondition_frameSt (s : State) (src : Node) (code : Nat) :
    (s.endCondition src code).frameSt = s.frameSt := rfl
@[simp] theorem State.endCondition_power (s : State) (src : Node) (code : Nat) :
    (s.endCondition src code).power = s.power := rfl
@[simp] theorem State.endCondition_ec (s : State) (src : Node) (code : Nat) :
    (s.endCondition src code).ec = s.ec := rfl
@[simp] theorem State.endCondition_time (s : State) (src : Node) (code : Nat) :
    (s.endCondition src code).time = s.time := rfl
@[simp] theorem State.endCondition_dev (s : State) (src : Node) (code : Nat) :
    (s.endCondition src code).dev = s.dev := rfl
@[simp] theorem State.endCondition_pkg (s : State) (src : Node) (code : Nat) :
    (s.endCondition src code).pkg = s.pkg := rfl
@[simp] theorem State.endCondition_term (s : State) (src : Node) (code : Nat) :
    (s.endCondition src code).term = s.term := rfl
@[simp] theorem State.endCondition_chan (s : State) (src : Node) (code : Nat) :
    (s.endCondition src code).chan = s.chan := rfl
@[simp] theorem State.endCondition_chip (s : State) (src : Node) (code : Nat) :
    (s.endCondition src code).chip = s.chip := rfl
@[simp] theorem State.endCondition_lanes (s : State) (src : Node) (code : Nat) :
    (s.endCondition src code).lanes = s.lanes := rfl
@[simp] theorem State.endCondition_view (s : State) (src : Node) (code : Nat) :
    (s.endCondition src code).view = s.view := rfl
@[simp] theorem State.endCondition_half (s : State) (src : Node) (code : Nat) :
    (s.endCondition src code).half = s.half := rfl
@[simp] theorem State.endCondition_enc (s : State) (src : Node) (code : Nat) :
    (s.endCondition src code).enc = s.enc := rfl
@[simp] theorem State.endCondition_engine (s : State) (src : Node) (code : Nat) :
    (s.endCondition src code).engine = s.engine := rfl
@[simp] theorem State.endCondition_timer (s : State) (src : Node) (code : Nat) :
    (s.endCondition src code).timer = s.timer := rfl
@[simp] theorem State.endCondition_mailbox (s : State) (src : Node) (code : Nat) :
    (s.endCondition src code).mailbox = s.mailbox := rfl
@[simp] theorem State.endCondition_coach (s : State) (src : Node) (code : Nat) :
    (s.endCondition src code).coach = s.coach := rfl
@[simp] theorem State.endCondition_coachSt (s : State) (src : Node) (code : Nat) :
    (s.endCondition src code).coachSt = s.coachSt := rfl
@[simp] theorem State.endCondition_slot (s : State) (src : Node) (code : Nat) :
    (s.endCondition src code).slot = s.slot := rfl
@[simp] theorem State.endCondition_fn (s : State) (src : Node) (code : Nat) :
    (s.endCondition src code).fn = s.fn := rfl
@[simp] theorem State.endCondition_mon (s : State) (src : Node) (code : Nat) :
    (s.endCondition src code).mon = s.mon := rfl
@[simp] theorem State.endCondition_monx (s : State) (src : Node) (code : Nat) :
    (s.endCondition src code).monx = s.monx := rfl
@[simp] theorem State.endCondition_monOld (s : State) (src : Node) (code : Nat) :
    (s.endCondition src code).monOld = s.monOld := rfl
@[simp] theorem State.endCondition_conn (s : State) (src : Node) (code : Nat) :
    (s.endCondition src code).conn = s.conn := rfl
@[simp] theorem State.endCondition_cage (s : State) (src : Node) (code : Nat) :
    (s.endCondition src code).cage = s.cage := rfl
@[simp] theorem State.endCondition_net (s : State) (src : Node) (code : Nat) :
    (s.endCondition src code).net = s.net := rfl
@[simp] theorem State.endCondition_port (s : State) (src : Node) (code : Nat) :
    (s.endCondition src code).port = s.port := rfl
@[simp] theorem State.endCondition_queue (s : State) (src : Node) (code : Nat) :
    (s.endCondition src code).queue = s.queue := rfl
@[simp] theorem State.endCondition_token (s : State) (src : Node) (code : Nat) :
    (s.endCondition src code).token = s.token := rfl
@[simp] theorem State.endCondition_pd (s : State) (src : Node) (code : Nat) :
    (s.endCondition src code).pd = s.pd := rfl
@[simp] theorem State.endCondition_pdNext (s : State) (src : Node) (code : Nat) :
    (s.endCondition src code).pdNext = s.pdNext := rfl
@[simp] theorem State.endCondition_pimg (s : State) (src : Node) (code : Nat) :
    (s.endCondition src code).pimg = s.pimg := rfl
@[simp] theorem State.endCondition_pimgNew (s : State) (src : Node) (code : Nat) :
    (s.endCondition src code).pimgNew = s.pimgNew := rfl
@[simp] theorem State.endCondition_log (s : State) (src : Node) (code : Nat) :
    (s.endCondition src code).log = s.log := rfl
@[simp] theorem State.endCondition_tests (s : State) (src : Node) (code : Nat) :
    (s.endCondition src code).tests = s.tests := rfl
@[simp] theorem State.endCondition_journal (s : State) (src : Node) (code : Nat) :
    (s.endCondition src code).journal = s.journal := rfl
@[simp] theorem State.endCondition_ledger (s : State) (src : Node) (code : Nat) :
    (s.endCondition src code).ledger = s.ledger := rfl
@[simp] theorem State.endCondition_armed (s : State) (src : Node) (code : Nat) :
    (s.endCondition src code).armed = s.armed := rfl
@[simp] theorem State.endCondition_rehome (s : State) (src : Node) (code : Nat) :
    (s.endCondition src code).rehome = s.rehome := rfl
@[simp] theorem State.endCondition_svc (s : State) (src : Node) (code : Nat) :
    (s.endCondition src code).svc = s.svc := rfl
@[simp] theorem State.endCondition_mem (s : State) (src : Node) (code : Nat) :
    (s.endCondition src code).mem = s.mem := rfl
@[simp] theorem State.endCondition_linkWait (s : State) (src : Node) (code : Nat) :
    (s.endCondition src code).linkWait = s.linkWait := rfl
@[simp] theorem State.endCondition_free (s : State) (src : Node) (code : Nat) :
    (s.endCondition src code).free = s.free := rfl
@[simp] theorem State.endCondition_pending (s : State) (src : Node) (code : Nat) :
    (s.endCondition src code).pending = s.pending := rfl

end Sys2Proof.Machine
end

