-- ==== Sys2Proof/Laws/Lattice.lean ====
section
/-! SUPPORT. The signals, terms and lanes do not look at gates: settling leaves every one as it was, and leaves every gate
safe. -/

namespace Sys2Proof.Machine

/-! Each signal reads the same after settling. -/
@[simp] theorem State.mode_settle (s : State) (c : Nat) : s.settle.mode c = s.mode c := rfl
@[simp] theorem State.cw_settle (s : State) (a b c : Nat) : s.settle.cw a b c = s.cw a b c := rfl
@[simp] theorem State.demVal_settle (s : State) (t : Nat) : s.settle.demVal t = s.demVal t := rfl
@[simp] theorem State.lanesOf_settle (s : State) (i : Nat) : s.settle.lanesOf i = s.lanesOf i := rfl
@[simp] theorem State.chipOf_settle (s : State) (i : Nat) : s.settle.chipOf i = s.chipOf i := rfl
@[simp] theorem State.halfOf_settle (s : State) (d : Side) : s.settle.halfOf d = s.halfOf d := rfl
@[simp] theorem State.encOf_settle (s : State) (i : Nat) : s.settle.encOf i = s.encOf i := rfl
@[simp] theorem State.outTerms_settle (s : State) : s.settle.outTerms = s.outTerms := rfl
@[simp] theorem State.holdTrip_settle (s : State) (i : Nat) : s.settle.holdTrip i = s.holdTrip i := rfl
@[simp] theorem State.qualOf_settle (s : State) (t : Nat) : s.settle.qualOf t = s.qualOf t := by
  simp only [State.qualOf, Terminal.forced, settle_dig, settle_tstat, mode_settle, demVal_settle]; congr
@[simp] theorem State.fsafe_settle (s : State) (t : Nat) : s.settle.fsafe t = s.fsafe t := by
  simp only [State.fsafe, Terminal.forced, settle_dig, settle_tstat, mode_settle, lanesOf_settle]; congr
@[simp] theorem State.ownSig_settle (s : State) (i n : Nat) : s.settle.ownSig i n = s.ownSig i n := by
  simp only [State.ownSig, State.atDemand, qualOf_settle, fsafe_settle, mode_settle, demVal_settle, lanesOf_settle, settle_ctr]; congr
@[simp] theorem State.tripUp_settle (s : State) (i k : Nat) : s.settle.tripUp i k = s.tripUp i k := by
  simp only [State.tripUp, ownSig_settle, lanesOf_settle, chipOf_settle]
@[simp] theorem State.sideSig_settle (s : State) (d : Side) (n : Nat) : s.settle.sideSig d n = s.sideSig d n := by
  simp only [State.sideSig, tripUp_settle, halfOf_settle, encOf_settle]
theorem State.groupTrue_settle (s : State) (d : Side) (w : Nat → Word) : s.settle.groupTrue d w = s.groupTrue d w := by
  simp only [State.groupTrue, sideSig_settle]
@[simp] theorem State.group_settle (s : State) (d : Side) (g : Nat) : s.settle.group d g = s.group d g := by
  simp only [State.group, groupTrue_settle, halfOf_settle, settle_dev, cw_settle]
  rfl
@[simp] theorem State.chipSig_settle (s : State) (i n : Nat) : s.settle.chipSig i n = s.chipSig i n := by
  simp only [State.chipSig, State.tripDown, group_settle, holdTrip_settle, ownSig_settle, lanesOf_settle]
@[simp] theorem State.target_settle (s : State) (i tg : Nat) : s.settle.target i tg = s.target i tg := by
  have h : s.settle.chipSig i = s.chipSig i := funext (chipSig_settle s i)
  simp only [State.target, h, chipOf_settle]
@[simp] theorem State.tripped_settle (s : State) (t : Nat) : s.settle.tripped t = s.tripped t := by
  simp only [State.tripped, State.held, target_settle, State.pairLow, fsafe_settle, holdTrip_settle, lanesOf_settle, chipOf_settle,
    settle_outOff]
/-- After settling, every tripped output is off and latched (R16, R476). -/
theorem State.settle_gatesSafe (s : State) : s.settle.gatesSafe := by
  intro t ht h
  rw [State.outTerms_settle] at ht
  rw [State.tripped_settle] at h
  rw [State.settle_out]
  simp [ht, Out.settle, h]
end Sys2Proof.Machine
end

