-- ==== Sys2Proof/Laws/Memory.lean ====
section
/-! SUPPORT. Laws of the memories and of the shared operations on them: every write keeps the canonical form, a read after a
write, what the OTP and the event log become. -/

namespace Sys2Proof.Machine

/-- The canonical form of a side's memories, part by part. -/
theorem Mem.wf_iff (m : Mem) : m.wf = true ↔
    Tab.wf (0 : Word) m.frame = true ∧ Tab.wf (0 : Word) m.device = true ∧ Tab.wf (0 : Word) m.mram = true := by
  simp [Mem.wf, and_assoc]

/-- Both sides' memories are in canonical form exactly when each side's are. -/
theorem State.memWf_iff (s : State) : s.memWf = true ↔ ∀ d, (s.mem.get d).wf = true := by
  constructor
  · intro h d
    simp only [State.memWf, Bool.and_eq_true] at h
    cases d
    · exact h.1
    · exact h.2
  · intro h
    simp only [State.memWf, Bool.and_eq_true]
    exact ⟨h .A, h .B⟩

/-- A state with the memories of another has its form. -/
theorem State.memWf_congr {s t : State} (h : t.mem = s.mem) (hs : s.memWf = true) : t.memWf = true := by
  simpa [State.memWf, h] using hs

/-- An update of a side's memories keeps the form where it keeps that side's. -/
theorem State.memWf_updMem (s : State) (d : Side) (f : Mem → Mem) (hf : ∀ m : Mem, m.wf = true → (f m).wf = true)
    (hs : s.memWf = true) : (s.updMem d f).memWf = true := by
  rw [State.memWf_iff] at hs ⊢
  intro e
  simp only [State.updMem, Two.get_set]
  split
  · exact hf _ (hs _)
  · exact hs e

/-- A write of an MRAM word keeps the form. -/
theorem State.memWf_mramWrite (s : State) (d : Side) (a : Nat) (w : Word) (hs : s.memWf = true) :
    (s.mramWrite d a w).memWf = true := by
  unfold State.mramWrite
  split
  · refine State.memWf_updMem s d _ (fun m hm => ?_) hs
    rw [Mem.wf_iff] at hm ⊢
    exact ⟨hm.1, hm.2.1, Tab.wf_set 0 _ a w hm.2.2⟩
  · exact hs

/-- What MRAM reads after a word has been written, where the write path takes it. -/
theorem State.mram_mramWrite (s : State) (d e : Side) (a b : Nat) (w : Word) (hw : s.writable = true) :
    Tab.get 0 ((s.mramWrite d a w).mem.get e).mram b =
      if e = d ∧ b = a then w else Tab.get 0 (s.mem.get e).mram b := by
  simp only [State.mramWrite, hw, if_true, State.updMem, Two.get_set]
  by_cases he : e = d
  · subst he; simp [Tab.get_set]
  · simp [he]

/-- A write of an MRAM word leaves the warning as it was. -/
@[simp] theorem State.writable_mramWrite (s : State) (d : Side) (a : Nat) (w : Word) :
    (s.mramWrite d a w).writable = s.writable := by
  unfold State.mramWrite
  split <;> rfl

/-- The words of a page keep the form. -/
theorem State.memWf_writeWords (s : State) (d : Side) (addr : Nat → Nat) (k : Nat) (ws : List Word) (hs : s.memWf = true) :
    (s.writeWords d addr k ws).memWf = true := by
  induction ws generalizing s k with
  | nil => exact hs
  | cons w r ih => exact ih _ _ (State.memWf_mramWrite s d _ w hs)

/-- A page keeps the form. -/
theorem State.memWf_writePage (s : State) (d : Side) (addr : Nat → Nat) (ws : List Word) (hs : s.memWf = true) :
    (s.writePage d addr ws).memWf = true := State.memWf_writeWords s d addr 0 ws hs

/-- A change of a journal leaves the memories. -/
@[simp] theorem State.memWf_updJournal (s : State) (d : Side) (f : Journal → Journal) : (s.updJournal d f).memWf = s.memWf := rfl

/-- Words put one after the other keep the form of a table. -/
theorem Tab.wf_puts (l : List (Nat × Word)) (t : Tab Word) (ht : Tab.wf 0 t = true) :
    Tab.wf 0 (l.foldl (fun (t : Tab Word) (e : Nat × Word) => Tab.set 0 t e.1 e.2) t) = true := by
  induction l generalizing t with
  | nil => exact ht
  | cons e r ih => exact ih _ (Tab.wf_set 0 t e.1 e.2 ht)

/-- A page that tears keeps the form (R387). -/
theorem State.memWf_tear (s : State) (d : Side) (hs : s.memWf = true) : (s.tear d).memWf = true := by
  unfold State.tear
  split
  · exact hs
  · rw [State.memWf_updJournal]
    apply State.memWf_updMem
    · intro m hm
      rw [Mem.wf_iff] at hm ⊢
      exact ⟨hm.1, hm.2.1, Tab.wf_puts _ _ hm.2.2⟩
    · exact hs

/-- The words of a page leave the warning as it was. -/
@[simp] theorem State.writable_writeWords (s : State) (d : Side) (addr : Nat → Nat) (k : Nat) (ws : List Word) :
    (s.writeWords d addr k ws).writable = s.writable := by
  induction ws generalizing s k with
  | nil => rfl
  | cons w r ih => rw [State.writeWords, ih, State.writable_mramWrite]

/-- What MRAM reads after the words of a page have been written at addresses that differ. -/
theorem State.mram_writeWords (s : State) (d e : Side) (addr : Nat → Nat) (k b : Nat) (ws : List Word)
    (hw : s.writable = true) (hb : ∀ i < ws.length, b ≠ addr (k + i)) :
    Tab.get 0 ((s.writeWords d addr k ws).mem.get e).mram b = Tab.get 0 (s.mem.get e).mram b := by
  induction ws generalizing s k with
  | nil => rfl
  | cons w r ih =>
    have h0 : b ≠ addr k := by simpa using hb 0 (by simp)
    rw [State.writeWords, ih (s.mramWrite d (addr k) w) (k + 1) (by simpa using hw) (fun i hi => by
      have := hb (i + 1) (by simpa using hi)
      rwa [Nat.add_assoc, Nat.add_comm 1 i]), State.mram_mramWrite s d e _ _ _ hw]
    simp [h0]

/-- A journal page keeps the form. -/
theorem State.memWf_writeJournal (s : State) (d : Side) (ws : List Word) (hs : s.memWf = true) :
    (s.writeJournal d ws).memWf = true := State.memWf_writeWords _ _ _ _ _ hs

/-- A frame-memory word of a coach keeps the form. -/
theorem Cpu.wf_putWord (u : Cpu) (pa : Nat) (w : Word) (hf : Tab.wf (0 : Word) u.frame = true) :
    Tab.wf (0 : Word) (u.putWord pa w).frame = true := by
  unfold Cpu.putWord
  split
  · exact hf
  · exact Tab.wf_set 0 _ pa w hf

/-- A frame-memory word of a coach leaves the device region. -/
@[simp] theorem Cpu.device_putWord (u : Cpu) (pa : Nat) (w : Word) : (u.putWord pa w).device = u.device := by
  unfold Cpu.putWord
  split <;> rfl

/-- A store of a coach keeps the form of frame memory and of the device region. -/
theorem Cpu.wf_writePhys (u : Cpu) (pa va : Nat) (w : Word) (hf : Tab.wf (0 : Word) u.frame = true)
    (hd : Tab.wf (0 : Word) u.device = true) :
    Tab.wf (0 : Word) (u.writePhys pa va w).frame = true ∧ Tab.wf (0 : Word) (u.writePhys pa va w).device = true := by
  unfold Cpu.writePhys
  split
  · exact ⟨Cpu.wf_putWord u pa w hf, by simpa using hd⟩
  · split
    · exact ⟨hf, hd⟩
    · exact ⟨hf, Tab.wf_set 0 _ _ w hd⟩

/-- OTP bits that a side programs are added to those it holds, in both copies (R409). -/
theorem State.otpKept_otpOr (s : State) (d : Side) (m : BitVec 4096) : s.otpKept (s.otpOr d m) := by
  have h (x : BitVec 4096) : x &&& (x ||| m) = x := by
    ext i
    simp only [BitVec.getElem_and, BitVec.getElem_or]
    cases x[i] <;> simp
  intro e
  simp only [State.otpOr, Two.get_set]
  split
  · rename_i hd; subst hd
    exact ⟨h _, h _⟩
  · simp

/-- An event that no window folds is in the log (R360, R379). -/
theorem State.reports_postL (s : State) (code : Nat) (src : Node) (sev detail : Nat) (l : Bool) :
    s.reports (s.postL code src sev detail l) code src sev detail := by
  unfold State.reports State.folds
  by_cases h : (s.windows.any fun w => (s.ancestors src).contains w.node) = true
  · exact .inl h
  · right
    have h' : (s.windows.any fun w => (s.ancestors src).contains w.node) = false := by simpa using h
    unfold State.postL State.posting
    rw [if_neg (by rw [h']; exact Bool.false_ne_true)]
    cases opensWindow sev <;> simp

end Sys2Proof.Machine
end

