-- ==== Sys2Proof/WellFormed.lean ====
section
/-! DEFINITION. Well-formed commands: the operands that the world can supply, where the types of Sys2Proof/Syntax.lean do not
say so already. Each check has a name; a command to which none applies is well-formed. -/

namespace Sys2Proof

/-- A packet's parameter slots fill at most 4,096 bytes with the header (R344). -/
def slotsFit (ps : List Slot16) : Bool := 32 + 16 * ps.length ≤ 4096
/-- A fetched entry holds at most 4,096 bytes (R338, R344). -/
def entryFits (bs : List Byte) : Bool := bs.length ≤ 4096
/-- A port trains at one of four rates and three widths (R331). -/
def linkTrains (gen width : Nat) : Bool := [1, 2, 3, 4].contains gen && [1, 2, 4].contains width
/-- A write to STOP.WORD carries at least one byte (R357). -/
def stopSize (n : Nat) : Bool := 1 ≤ n
/-- An engine's clock or wait instruction has 1–72 periods (R151). -/
def periods (n : Nat) : Bool := 1 ≤ n && n ≤ 72
/-- WAIT_NS waits for 1–1,048,575 units (R151). -/
def waitUnits (n : BitVec 20) : Bool := n ≠ 0
/-- A curve has 256 samples (R267). -/
def curveSize (l : List (BitVec 18)) : Bool := l.length = 256
/-- An MRAM word begins at the byte offset (R384). -/
def mramPlace (a : Nat) : Bool := Machine.mramHolds a
/-- A class of the dependency tree (R362). -/
def nodeClass (c : Nat) : Bool := c ≤ 0x1A
/-- A record of a stream has two words or four (R79, R360, R343). -/
def recordSize (ws : List Word) : Bool := 1 ≤ ws.length && ws.length ≤ 64

/-- The named check of a command; none where the types say all. -/
def Instr.wf (i : Instr) : Bool :=
  match i with
  | .portLinkUp _ gen width => linkTrains gen width
  | .stopWord _ _ size _ => stopSize size
  | .packetFetch _ _ bytes => entryFits bytes
  | .servicePacket bytes => entryFits bytes
  | .clk _ _ bits => periods bits.length
  | .waitClk _ _ bits => periods bits.length
  | .skip _ _ count => periods count
  | .gray _ _ count => periods count
  | .waitNs _ _ arg => waitUnits arg
  | .curveTransfer _ curve => curveSize curve
  | .mramWordWrite _ addr _ => mramPlace addr
  | .collapseSummary cls _ => nodeClass cls
  | .collapseWindowClose cls _ => nodeClass cls
  | .streamRecordWrite _ words => recordSize words
  | .identify _ ps | .echo _ ps | .devStatus _ ps | .portStatus _ ps | .tokenAcquire _ ps | .tokenRenew _ ps
  | .tokenRelease _ ps | .tokenStatus _ ps | .cfgStageBegin _ ps | .cfgStageData _ ps | .cfgStageEnd _ ps
  | .cfgActivate _ ps | .cfgAbort _ ps | .cfgRead _ ps | .cfgStatus _ ps | .chReadCfg _ ps | .chStatus _ ps
  | .chReadCal _ ps | .chCalibrate _ ps | .wagonStatus _ ps | .chRehome _ ps | .pdWrite _ ps | .pdRead _ ps
  | .sfStatus _ ps | .sfStatusBulk _ ps | .sfDemands _ ps | .sfResetArm _ ps | .sfResetConfirm _ ps
  | .sfCommission _ ps | .sfGroupStatus _ ps | .monReadCfg _ ps | .monStatus _ ps | .monStop _ ps | .shiftLoad _ ps
  | .encStatus _ ps | .jrnlInfo _ ps | .jrnlRead _ ps | .ledgerInfo _ ps | .ledgerRead _ ps | .ledgerAck _ ps
  | .ledgerKey _ ps | .stRun _ ps | .stResult _ ps | .retireRead _ ps | .pairStatus _ ps | .coachStatus _ ps
  | .pairSplit _ ps | .pairJoin _ ps | .pairHandover _ ps | .qCreate _ ps | .qDelete _ ps | .qBind _ ps | .qStatus _ ps
  | .netStatus _ ps | .connStatus _ ps | .keyExport _ ps | .cageStatus _ ps | .fwStageBegin _ ps | .fwStageData _ ps
  | .fwStageEnd _ ps | .fwActivate _ ps | .fwStatus _ ps | .timeGet _ ps | .timeSet _ ps | .ptpStatus _ ps
  | .svcChallenge _ ps | .svcOpen _ ps | .svcClose _ ps => slotsFit ps
  | .logicPowerGood | .logicInputUnder _ _ | .logicInputOver _ _ | .logicInputInRange _ _ | .pfailAssert
  | .pfailDeassert | .bankLow | .railsFall | .fieldSupplyOutOfRange _ _ | .fieldSupplyRestored _ _ | .cartridgeRemoved
  | .cartridgeInserted | .bankMeasurement _ | .cellMeasurement _ | .sealEvent _ | .rtcUpdate | .clockDomainBrownout
  | .provingDone _ _ | .bootDone | .loadingDone _ | .startSupervisorTimeout _ | .supervisorFault _ _
  | .supervisorSelfCheck _ _ | .cryptoKnownAnswerTest _ _ | .thermalLimit _ | .tickAlignment _ _ | .skewFault
  | .alignmentLoss | .sideLinkCrcError _ | .capture | .imageExchangeComplete _ | .commitDeadline | .commit
  | .keepalive _ _ _ | .output _ _ _ _ _ | .diagReq _ _ _ _ _ | .config _ _ _ | .bankSwitch _ _ _ | .barrierEcho _ _ _
  | .sentArm _ _ _ | .calStart _ _ _ | .calAbort _ _ _ | .inject _ _ _ | .refCheck _ _ _ | .latTest _ _ _
  | .restTest _ _ _ _ | .bankCrc _ _ _ | .forceRel _ _ _ | .ovsRel _ _ _ | .captureLo _ _ _ | .captureHi _ _ _
  | .diag _ _ _ | .stream _ _ _ | .idle _ _ _ | .fieldSilenceTimeout _ | .sideSilenceTimeout _ | .fieldChipReturn _
  | .tripLaneChange _ _ _ | .holdLaneTrip _ | .pairLaneTrip _ _ _ _ | .pairLineRecovery _ _ | .diRawEdge _ _ _ _
  | .filterQualify _ _ _ | .stopLineQualify _ _ _ | .chatterWindowEnd _ | .demandAge _ | .discrepancyFault _
  | .tsPulseStart _ | .tsPulseCheck _ _ _ _ _ | .crossShortIdentified _ _ | .outputCurrentLimit _
  | .outputVoltageCheck _ _ | .darkPulseStart _ _ | .darkPulseVerdict _ _ _ | .darkPulseEnd _ | .plugRemoved _
  | .plugInserted _ | .internalCheck _ _ | .openLoopFlag _ | .openLoopClear _ | .aoCompliance _ | .aoMismatch _
  | .ne43Fault _ _ | .aiDisagreement _ | .calibrationComplete _ _ _ _ _ | .pullinEnd _ | .overspeedSentinelTrip _
  | .timerMatch _ | .timerOverflow _ | .encoderEdge _ _ _ _ _ | .encoderLineFault _ _ | .expect _ _ _ _ | .waitTick _ _
  | .deliver _ _ | .jump _ _ _ | .halt _ _ | .shiftLoadApply _ _ _ | .latticeScrub _ | .planeTest _ _
  | .atRestOverdue _ _ | .couplingSignature _ _ _ | .couplingTimeout _ _ | .derailNotice _ _ | .bankNotice _ _
  | .coachTestVerdict _ _ _ | .reserveAcceptance _ _ _ _ | .reserveDailyTest _ _ _ | .coachPowerUpDone _ _
  | .rebuildCompare _ _ _ | .slotRejoin _ | .handoverCopy _ | .handoverExchange _ | .splitApply _
  | .joinLbistDone _ _ _ | .debugHalt _ | .debugBreakpoint _ _ | .debugSingleStep _ | .debugResume _
  | .debugWrite _ _ _ | .debugReplay _ | .splitFendResume _ | .illegalInstruction _ _ | .add _ _ _ _ | .addc _ _ _ _
  | .addx _ _ _ _ | .sub _ _ _ _ | .subc _ _ _ _ | .subx _ _ _ _ | .neg _ _ _ | .negc _ _ _ | .and _ _ _ _
  | .or _ _ _ _ | .xor _ _ _ _ | .andn _ _ _ _ | .cmp _ _ _ | .tst _ _ _ | .min _ _ _ _ | .max _ _ _ _ | .minu _ _ _ _
  | .maxu _ _ _ _ | .mul _ _ _ _ | .mulc _ _ _ _ | .mulh _ _ _ _ | .mulhu _ _ _ _ | .div _ _ _ _ | .divc _ _ _ _
  | .rem _ _ _ _ | .remc _ _ _ _ | .divu _ _ _ _ | .remu _ _ _ _ | .divuc _ _ _ _ | .remuc _ _ _ _ | .shl _ _ _ _
  | .shr _ _ _ _ | .sar _ _ _ _ | .adds _ _ _ _ | .subs _ _ _ _ | .muls _ _ _ _ | .bxt _ _ _ _ | .bxts _ _ _ _
  | .bins _ _ _ _ | .nop _ | .save _ | .restore _ | .ret _ | .jmpr _ _ | .callr _ _ | .tret _ | .spill _ _ | .fill _ _
  | .tlbf _ | .isync _ | .addi _ _ _ _ | .andi _ _ _ _ | .ori _ _ _ _ | .xori _ _ _ _ | .cmpi _ _ _ | .shli _ _ _ _
  | .shri _ _ _ _ | .sari _ _ _ _ | .muli _ _ _ _ | .ldu _ _ _ | .bxti _ _ _ _ | .binsi _ _ _ _ | .ld _ _ _ _
  | .st _ _ _ _ | .xchg _ _ _ _ | .fence _ | .br _ _ | .call _ _ | .beq _ _ | .bne _ _ | .blt _ _ | .bge _ _ | .ble _ _
  | .bgt _ _ | .blo _ _ | .bhs _ _ | .bls _ _ | .bhi _ _ | .bvs _ _ | .bvc _ _ | .bmi _ _ | .bpl _ _ | .trap _ _
  | .cpl _ | .fend _ | .rdsr _ _ _ | .wrsr _ _ _ | .bankCopyDone _ _ | .bankTestVerdict _ _ _ | .laneTestVerdict _ _
  | .frontEndTestVerdict _ _ | .converterTestVerdict _ _ | .unitScanVerdict _ _ | .deviceBlockTestVerdict _ _ _
  | .armedTimeout _ | .resetHeldLong _ _ | .resetInstanceRecovery _ | .remoteResetExpiry | .edmCheckStart _
  | .handrailDeviation _ | .brakeFeedbackTimeout _ _ | .doorchainBridged _ | .timerDelayExpiry _ | .voteDisagreement _
  | .ledgerPageWrite | .monitorDisagreement _ | .monitorFaultClear _ | .eventPulseEnd _ _ | .netData _ _ _
  | .netOpen _ _ _ | .netOpenAck _ _ _ | .telegramReceipt _ _ | .telegramSend _ | .connectionWatchdogExpiry _
  | .singleNetworkTimeout _ | .handshakeTimeout _ | .moduleInserted _ _ | .moduleRemoved _ | .moduleAlarmPoll _ _
  | .cageDown _ _ | .ptpSync _ _ _ | .ptpAnnounceTimeout _ | .portLinkDown _ | .vc1TlpDiscard _ _ | .semReq _ _
  | .semRel _ _ | .admCtlWrite _ _ | .queueProdWrite _ _ _ | .queueConsWrite _ _ _ | .frameStatRead _
  | .frameStatClear _ _ | .cntRead _ | .registerWrite _ _ | .replyWrite _ | .processImageRefresh _ | .tokenLeaseExpiry
  | .sessionExpiry _ | .stageVerifyDone _ | .activationDone _ | .rehomeApply | .selfTestFinal _ | .serviceCableInserted
  | .serviceCableRemoved | .startTokenRefill _ | .journalPageWrite _ | .holdingNotice _ | .holdLaneRelease _
  | .cageUp _ | .complianceRecovered _ | .unitParityError _ | .diceEntropyFault _ | .protectionReconnect _ _
  | .rtcOscillatorPeriod | .tapInstruction _ | .ptpAnnounce _ _ _ | .ptpDelayResponse _ _ | .ptpMessageInterval _
  | .barrierTestVerdict _ _ => true

end Sys2Proof
end

