-- ==== Sys2Proof/Tests/Slice0.lean ====
section
/-! SUPPORT. Small tests by evaluation: ill-formed commands, one step of the commands on small states, and, for every statement
of Certificates/Slice0 with hypotheses, a state and operands that meet them. -/

open Sys2Proof Sys2Proof.Machine

namespace Sys2Proof.Tests

set_option Elab.async false
set_option autoImplicit false

/-! Well-formedness (Sys2Proof/WellFormed.lean): for each named check an ill-formed command that it refuses, and one that passes. -/

/-- A header of no port. -/
def anyHdr : Hdr := { port := none, queue := 0, tag := 0, target := 0, token := false, urgent := false, rsv := 0, zeros := 0, ver := 1, seq := 0 }
theorem test_wf_slotsFit : (Instr.echo anyHdr (List.replicate 255 0)).wf = false ∧ (Instr.echo anyHdr (List.replicate 254 0)).wf = true := by
  decide +kernel
theorem test_wf_entryFits : entryFits (List.replicate 4097 0) = false ∧ (Instr.servicePacket [0, 1]).wf = true := by decide +kernel
theorem test_wf_linkTrains : (Instr.portLinkUp .A 5 4).wf = false ∧ (Instr.portLinkUp .A 4 3).wf = false ∧ (Instr.portLinkUp .A 4 4).wf = true := by
  decide +kernel
theorem test_wf_stopSize : (Instr.stopWord .A 0 0 false).wf = false ∧ (Instr.stopWord .A 0 8 false).wf = true := by decide +kernel
theorem test_wf_periods : (Instr.skip .A 0 73).wf = false ∧ (Instr.skip .A 0 0).wf = false ∧ (Instr.gray .A 0 72).wf = true ∧
    (Instr.clk .A 0 []).wf = false := by decide +kernel
theorem test_wf_waitUnits : (Instr.waitNs .A 0 0).wf = false ∧ (Instr.waitNs .A 0 1).wf = true := by decide +kernel
theorem test_wf_curveSize : (Instr.curveTransfer 0 []).wf = false ∧ (Instr.curveTransfer 0 (List.replicate 256 0)).wf = true := by
  decide +kernel
theorem test_wf_mramPlace : (Instr.mramWordWrite .A (0x05000000 + 8) 0).wf = false ∧ (Instr.mramWordWrite .A 33554430 0).wf = false ∧
    (Instr.mramWordWrite .A (0x05000000 + 18) 0).wf = true := by decide +kernel
theorem test_wf_nodeClass : (Instr.collapseSummary 0x1B 0).wf = false ∧ (Instr.collapseWindowClose 0x1A 0).wf = true := by decide +kernel
theorem test_wf_recordSize : (Instr.streamRecordWrite 0 []).wf = false ∧ (Instr.streamRecordWrite 0 [1, 2]).wf = true := by decide +kernel

/-! Witnesses of EmptyQueueIsOneTick. -/
def tickState : State := State.reset
theorem wit_EmptyQueue_running : tickState.pending = [] ∧ tickState.dev.st ≠ .dormant ∧ tickState.clock.tick + 1 < tickState.clock.fl := by
  decide +kernel
theorem wit_EmptyQueue_dormant : ({ tickState with dev := { tickState.dev with st := .dormant } } : State).pending = [] ∧
    ({ tickState with dev := { tickState.dev with st := .dormant } } : State).dev.st = .dormant := by decide +kernel

/-! Witnesses of LogicInputsAndSources. -/
theorem wit_LogicInputs_event : (State.reset.power.input .A).st = .inRange ∧ State.reset.dev.st ≠ .dormant := by decide +kernel
theorem wit_LogicInputs_abandoned :
    ({ State.reset with dev := { State.reset.dev with abandoned := true } } : State).dev.abandoned = true := by decide +kernel

/-! Witnesses of PowerFailHoldsEveryGateOff. -/
def withSt (st : DevState) : State := { State.reset with dev := { State.reset.dev with st := st } }
theorem wit_PowerFail_states : (withSt .running).dev.st.serves = true ∧ (withSt .holding).dev.st = .holding ∧
    (withSt .boot).dev.st ∈ [DevState.proving, .boot, .loading] ∧ (withSt .service).dev.st = .service := by decide +kernel
theorem wit_PowerFail_bank :
    ({ State.reset with ec := { State.reset.ec with present := true, healthy := true } } : State).bankHealthy = true ∧
    State.reset.bankHealthy = false ∧ State.reset.power.pfail = false ∧
    ({ State.reset with ec := { State.reset.ec with present := true, healthy := true } } : State).ec.bankLow = false := by decide +kernel
/-- A page of two words that side A began to write at count 5. -/
def flying : State := { State.reset with
  clock := { State.reset.clock with count := 6 }
  journal := ⟨{ flight := some (5, [(0x05020000, 7), (0x05020009, 8)]) }, {}⟩ }
theorem wit_PowerFail_flight : (flying.journal.get .A).flight = some (5, [(0x05020000, 7), (0x05020009, 8)]) ∧
    ([((0x05020000 : Nat), (7 : Word)), (0x05020009, 8)].map Prod.fst).Nodup := by decide +kernel

/-! Witnesses of PowerLossAndReturn. -/
theorem wit_PowerLoss_dormant : (withSt .dormant).dev.st = .dormant ∧ (withSt .boot).dev.st ≠ .dormant := by decide +kernel

/-! Witnesses of CartridgeSealsAndClockDomain. -/
theorem wit_Cartridge_present :
    ({ State.reset with ec := { State.reset.ec with present := true } } : State).ec.present = true ∧ State.reset.ec.bankDue = none ∧
    State.reset.ec.cellDue ≤ State.reset.clock.count ∧ State.reset.time.rtcDue ≤ State.reset.clock.count := by decide +kernel
theorem wit_Seals_full :
    16 ≤ ({ State.reset with time := { State.reset.time with seals := List.replicate 16 (1, 0) } } : State).time.seals.length := by
  decide +kernel
theorem wit_Rtc_powered : State.reset.dev.st ≠ .dormant ∧ State.reset.time.valid = false ∧
    ({ State.reset with time := { State.reset.time with valid := true } } : State).time.valid = true := by decide +kernel

/-! Witnesses of StartUpPhases. -/
theorem wit_StartUp_phases : (withSt .proving).dev.st = .proving ∧ (withSt .proving).dev.abandoned = false ∧
    (withSt .boot).dev.st = .boot ∧ (withSt .loading).dev.st = .loading := by decide +kernel
def ownedLoading : State := { withSt .loading with
  dev := { (withSt .loading).dev with lifecycle := 2, provFail := [nLink] } }
theorem wit_StartUp_owned : ownedLoading.dev.lifecycle = 2 ∧ ownedLoading.dev.provFail ≠ [] ∧ (withSt .loading).dev.lifecycle ≠ 2 := by
  decide +kernel
theorem wit_StartUp_failed : ((Side.A, ProvBlock.coach 3) : Side × ProvBlock) ∈ [(Side.A, ProvBlock.coach 3)] := by decide +kernel

/-! Witnesses of SupervisionEntersHolding. -/
theorem wit_Supervision_states : (withSt .running).dev.st.serves = true ∧ (withSt .holding).dev.st = .holding ∧
    (withSt .boot).dev.st.serves = false ∧
    ((withSt .boot).dev.st, 1200000) ∈ [(DevState.proving, 1500000), (.boot, 1200000), (.loading, 1300000)] := by decide +kernel
/-- Twice the limit of BOOT after its entry, with a skew that has lasted and no alignment word. -/
def lateBoot : State := { withSt .boot with
  clock := { State.reset.clock with count := 2400000 }, frameSt := ⟨{ over40 := 100 }, {}⟩ }
theorem wit_Supervision_late : lateBoot.dev.enteredAt + 2 * 1200000 ≤ lateBoot.clock.count ∧ 100 ≤ (lateBoot.fstOf .A).over40 ∧
    (lateBoot.fstOf .B).lastAlign + 8 ≤ lateBoot.clock.count ∧ (State.reset.fstOf .A).over40 < 100 ∧
    State.reset.clock.count < (State.reset.fstOf .A).lastAlign + 8 := by decide +kernel
theorem wit_Supervision_inService : (withSt .running).isRetired (nSupv .B) 0 = false ∧ (withSt .running).isRetired nLink 0 = false := by
  decide +kernel

/-! Witnesses of TickAlignmentAndSideLink. -/
theorem wit_Lane_inService : State.reset.isRetired (nLane 2) tcLane = false ∧ State.reset.tests.lanesOut = 0 ∧
    State.reset.lanesRetired = [] := by decide +kernel
theorem wit_Lane_retired :
    (State.reset.retireBit .A 70).isRetired (nLane 2) tcLane = true := by
  decide +kernel

/-! Witnesses of TestVerdicts. -/
def underTest (n : Node) (cls : Nat) (again requested : Bool) : State := { State.reset with
  tests := { State.reset.tests with running := [{ node := n, cls := cls, again := again, requested := requested, started := 0 }] } }
theorem wit_Verdicts_lane : ((underTest (nLane 1) tcLane false false).tests.find (nLane 1) tcLane).isSome = true ∧
    ((underTest (nLane 1) tcLane false false).tests.find (nChip (tChip 0)) tcConv).isNone = true ∧
    (underTest (nLane 1) tcLane false false).transCount (nLane 1) tcLane + 1 < (transLimit (nLane 1) tcLane).1 ∧
    (underTest (nLane 1) tcLane false false).tests.lanesBad = 0 ∧
    (∀ p ∈ (underTest (nLane 1) tcLane false false).tests.running, testKey p.node p.cls = testKey (nLane 1) tcLane →
      p.node = nLane 1 ∧ p.cls = tcLane) := by decide +kernel
theorem wit_Verdicts_again : ((underTest (nFront 7) tcFront true false).tests.find (nFront 7) tcFront).any (fun q => q.again && !q.further) = true := by
  decide +kernel
/-- Bank 3 of side A on its March run, and the link of chip 5 after 64 echoes, 4 of them bad. -/
def marchAndEcho : State := { underTest (nBank .A 3) tcBank false false with
  tests := { (underTest (nBank .A 3) tcBank false false).tests with banks := [(3, { testing := true })] }
  view := [(5, { echoRun := 64, echoBad := 4 })] }
theorem wit_Verdicts_rows : (marchAndEcho.bankAt .A 3).testing = true ∧ 64 ≤ (marchAndEcho.viewOf 5).echoRun ∧
    ¬ (marchAndEcho.viewOf 5).echoBad < 4 := by decide +kernel
theorem wit_Verdicts_time : State.reset.time.valid = false ∧ State.reset.writable = true ∧
    stampAt (nLane 1) tcLane = [(.A, 518), (.B, 518)] := by decide +kernel
/-- Source: R364, R373: a failed plane test is lasting and sets bit 542 of the side's map. -/
theorem test_planeVerdict : (match exec (.deviceBlockTestVerdict .B (.plane 0) false) (underTest (nPlane .B 0) tcPlane false false) with
    | .next t => bit (t.mramRetire .B) 542 && bit (t.otpRetire .B) 542 | _ => false) = true := by decide +kernel

/-! Witnesses of BlockTestsBeginAndEnd. -/
def copyingBank : State := { State.reset with
  tests := { State.reset.tests with
    banks := [(3, { copying := true })], ecc := ⟨[3 * 2 ^ 19 + 7], []⟩
    running := [{ node := nBank .A 3, cls := tcBank, requested := false, started := 0 }] }
  clock := { State.reset.clock with count := 400 } }
theorem wit_BankCopy : (copyingBank.bankAt .A 3).copying = true ∧ 3 * 2 ^ 19 + 7 ∈ copyingBank.tests.ecc.get .A ∧
    bankOf (3 * 2 ^ 19 + 7) = 3 ∧ (copyingBank.tests.find (nBank .A 3) tcBank).any (fun q => q.started + 262 ≤ copyingBank.clock.count) := by
  decide +kernel
def requestedFront : Test := { node := nFront 7, cls := tcFront, requested := true, reply := some (some .B, 5, 1), started := 0 }
def requestedTest : State := { State.reset with
  tests := { State.reset.tests with running := [requestedFront] }
  port := ⟨{}, { link := true }⟩ }
theorem wit_Requested : requestedTest.tests.running.find? (·.requested) = some requestedFront ∧
    requestedFront.reply = some (some .B, 5, 1) ∧ (requestedTest.portOf .B).link = true ∧
    requestedTest.tests.find (nFront 7) tcFront = some requestedFront := by decide +kernel
theorem wit_UnitInService : State.reset.isRetired (scanNode (.timer .B 5)).1 (scanNode (.timer .B 5)).2 = false := by decide +kernel

/-! Witnesses of CaptureFreezesTheImage. -/
def loadedDi : State := { State.reset with
  dev := { State.reset.dev with loaded := true, st := .running }
  pkg := { State.reset.pkg with words := [(Pkg.key cCCFG 0 0, BitVec.ofNat 72 (2 ^ 68))] } }
theorem wit_Capture : loadedDi.clock.tick < loadedDi.clock.fl ∧
    fld (loadedDi.ccfg (tChan 1)) 71 68 ≠ 0 ∧ (loadedDi.viewOf (tChip 1)).lost = false := by decide +kernel
theorem wit_Capture_lost : (({ loadedDi with view := [(1, { lost := true })] } : State).viewOf (tChip 1)).lost = true ∧
    (({ loadedDi with view := [(1, { lost := true })] } : State).viewOf (tChip 1)).returnAt = none := by decide +kernel

/-! Witnesses of ImageExchangeStartsFrameWork. -/
def lockedZero : State := { State.reset with
  slot := [(0, { st := .locked, mapped := true })], dev := { State.reset.dev with st := .running } }
theorem wit_ImageExchange : lockedZero.clock.tick ≤ 3 ∧ 3 < lockedZero.clock.fl ∧ lockedZero.linkWait = [] ∧ 0 ∈ lockedZero.workSlots := by decide +kernel
theorem wit_ImageExchange_alone : ∀ d, ∀ q ∈ lockedZero.workSlots, ∀ e,
    lockedZero.slotCoach e q = lockedZero.slotCoach d 0 → q = 0 ∧ e = d := by
  have h : lockedZero.workSlots = [0] := by decide +kernel
  intro d q hq e he
  rw [h, List.mem_singleton] at hq
  subst hq
  refine ⟨rfl, ?_⟩
  cases d <;> cases e <;> first | rfl | (revert he; decide +kernel)

/-! Witnesses of DeadlineCountsOverruns. -/
def hostingSlot : State := { State.reset with
  dev := { State.reset.dev with loaded := true, st := .running }
  pkg := { State.reset.pkg with words := [(Pkg.key cFCFG 1 0, BitVec.ofNat 72 (2 ^ 64 + 5 * 2 ^ 49))] }
  slot := [(5, { st := .locked, mapped := true, mapA := 5, mapB := 5, ovr := 1 })]
  fn := [(1, { st := .run })] }
theorem wit_Deadline : hostingSlot.clock.tick ≤ hostingSlot.clock.cdl ∧ hostingSlot.clock.cdl < hostingSlot.clock.fl ∧
    (hostingSlot.slotOf 5).st = .locked ∧ hostingSlot.linkWait = [] ∧ hostingSlot.hosts 5 = true ∧ (hostingSlot.slotOf 5).verified = false ∧
    hostingSlot.clock.k ≤ (hostingSlot.slotOf 5).ovr + 1 ∧ 1 ∈ hostingSlot.fnsOfSlot 5 ∧ isMode (hostingSlot.tid 1) = false ∧
    (hostingSlot.fnOf 1).st ∈ [FnState.locked, .armed, .run] := by decide +kernel
theorem wit_Deadline_verified : (({ hostingSlot with slot := [(5, { st := .locked, ver := ⟨true, true⟩ })] } : State).slotOf 5).verified = true := by
  decide +kernel
/-- Source: R42, R43: with K = 2 a second overrun in a row trips the slot's functions with cause 0x08. -/
theorem test_deadline_trips : (match exec .commitDeadline hostingSlot with
    | .next t => decide ((t.fnOf 1).st = .tripped ∧ (t.fnOf 1).cause = 8 ∧ (t.slotOf 5).ovr = 2) | _ => false) = true := by decide +kernel

/-! Witnesses of CommitAppliesTheFrame. -/
theorem wit_Commit_holding : (withSt .holding).clock.tick < (withSt .holding).clock.fl ∧ (withSt .holding).dev.applyPkg = false ∧
    (withSt .holding).dev.holders = [] ∧ (withSt .holding).dev.responder = false ∧ (withSt .holding).dev.toService = false := by decide +kernel
def copiedChip : State := { loadedDi with
  chip := [(1, { copy := some (0xFFFF, 1, 0) })], clock := { State.reset.clock with fl := 250 } }
theorem wit_Commit_copy : 1 ∈ copiedChip.confChips ∧ copiedChip.toCommit.copyNow 1 = some (1, 0) ∧
    copiedChip.clock.tick < copiedChip.clock.fl := by decide +kernel
theorem wit_Commit_service : ({ withSt .holding with dev := { (withSt .holding).dev with toService := true } } : State).dev.toService = true ∧
    ({ withSt .holding with dev := { (withSt .holding).dev with holders := [nLink] } } : State).dev.holders ≠ [] := by decide +kernel
/-- Source: R91, R402: a terminal that is no output is not commanded on by a commit. -/
theorem test_commit_noOutput : (match exec .commit copiedChip with
    | .next t => decide ((t.chipOf 1).on = 0 ∧ (t.termOf 1).out.gate = false) | _ => false) = true := by decide +kernel

/-! Witnesses of LogicToFieldDataFrames. -/
def downHdr (type payload : Nat) : L2FHdr :=
  let h : L2FHdr := ⟨0, 0, 0, 0, 0⟩
  { h with crc := l2fCrc type h payload }
theorem wit_L2F_data : State.reset.l2fOk 3 1 (downHdr 1 0) 0 true = true ∧
    State.reset.l2fOk 3 3 (downHdr 3 (diagReqPayload 7 0 0)) (diagReqPayload 7 0 0) true = true ∧
    State.reset.l2fOk 3 5 (downHdr 5 (echoPayload 9)) (echoPayload 9) true = true := by decide +kernel
def atTick (n : Nat) : State := { State.reset with clock := { State.reset.clock with tick := n } }
theorem wit_L2F_output : (atTick 246).l2fOk 3 2 (downHdr 2 (outputPayload 1 0 0)) (outputPayload 1 0 0) true = true := by decide +kernel
def shadowCfg : CfgPayload := ⟨oLTERM, 3, true, true, 0, 5, 0⟩
theorem wit_L2F_config : 1 ≤ shadowCfg.obj.toNat ∧ shadowCfg.obj.toNat ≤ 0x0B ∧ State.reset.cfgAnswer 3 shadowCfg = 1 ∧
    State.reset.cfgAnswer 3 { shadowCfg with obj := oTIN } ≠ 1 ∧
    State.reset.l2fOk 3 4 (downHdr 4 (cfgNum shadowCfg)) (cfgNum shadowCfg) true = true := by decide +kernel
def crcBack : State := { State.reset with view := [(3, { shadowCrc := some (bankCrc32 []) })] }
theorem wit_L2F_crcBack : (crcBack.viewOf 3).shadowCrc = some (bankCrc32 (crcBack.viewOf 3).sentBank) := rfl
theorem wit_L2F_switch : (crcBack.chipOf 3).mayswitch = true ∧ (State.reset.viewOf 3).shadowCrc ≠ some (bankCrc32 (State.reset.viewOf 3).sentBank) ∧
    ((({ crcBack with view := [(3, { shadowCrc := some 0 })] } : State).viewOf 3).shadowCrc ≠ none) ∧ fld (5 : Word) 71 16 = 0 ∧
    crcBack.l2fOk 3 4 (downHdr 4 (cfgNum ⟨0x0C, 0, false, true, 0, 5, 0⟩)) (cfgNum ⟨0x0C, 0, false, true, 0, 5, 0⟩) true = true := by
  decide +kernel
theorem wit_L2F_acknowledged : (({ State.reset with chip := [(3, { snap := some (7, []) })] } : State).chipOf 3).snap = some (7, []) := by
  decide +kernel

/-! Witnesses of FieldCommands. -/
def cmdPay (arg : Byte) : CmdPayload := ⟨arg, 6, 0⟩
theorem wit_FieldCommands : ∀ cmd ∈ [2, 3, 4, 5, 6, 7, 8, 9, 10, 11],
    State.reset.l2fOk 3 5 (downHdr 5 (cmdNum (cmdPay 0) cmd)) (cmdNum (cmdPay 0) cmd) true = true := by decide +kernel
theorem wit_FieldCommands_state : State.reset.termBusy (chipTerm 3 0) = false ∧ State.reset.atRest 3 0 = true ∧
    State.reset.laneStopped 3 0 = false ∧ State.reset.laneStopped 3 17 = false ∧ State.reset.atRest 3 17 = true ∧
    bit (State.reset.chipOf 3).injTest 0 = false ∧ (∀ k ∈ chipTerms 3, (State.reset.termOf k).ana.calRun = false) := by decide +kernel
theorem wit_FieldCommands_refused : fld (cmdPay 0xE0).arg 7 4 ≠ 0 ∧ fld (cmdPay 0xE0).arg 4 0 < 18 ∧ (State.reset.viewOf 3).awaiting = false ∧
    State.reset.kmode (chipTerm 3 0) ≠ 4 ∧
    ∀ cmd ∈ [3, 4, 5, 6, 7, 8, 9, 10, 11],
      State.reset.l2fOk 3 5 (downHdr 5 (cmdNum (cmdPay 0xE0) cmd)) (cmdNum (cmdPay 0xE0) cmd) true = true := by decide +kernel
/-- A chip with an injection and a calibration under way, and its pair-lane line 0 driven low by a bad target. -/
def busyChip : State := { State.reset with
  chip := [(3, { injTest := 1, badTargets := 0x10000 })], term := [(chipTerm 3 0, { ana := { calRun := true } })] }
theorem wit_FieldCommands_busy : busyChip.termBusy (chipTerm 3 0) = true ∧ bit (busyChip.chipOf 3).injTest 0 = true ∧
    (chipTerms 3).any (fun x => (busyChip.termOf x).ana.calRun) = true ∧ busyChip.laneStopped 3 0 = true ∧ busyChip.atRest 3 0 = true := by
  decide +kernel
def quadChannel : State := { State.reset with
  dev := { State.reset.dev with loaded := true }
  pkg := { State.reset.pkg with words := [(Pkg.key cKCFG (chipTerm 3 0) 0, BitVec.ofNat 72 (4 * 2 ^ 68 + 3 * 2 ^ 64)),
    (Pkg.key cCCFG (tChan (chipTerm 3 0)) 0, BitVec.ofNat 72 (7 * 2 ^ 68))] } }
theorem wit_FieldCommands_sentinel : quadChannel.kmode (chipTerm 3 0) = 4 ∧ fld (quadChannel.kcfg (chipTerm 3 0)) 65 64 / 2 % 2 = 1 ∧
    quadChannel.l2fOk 3 5 (downHdr 5 (cmdNum (cmdPay 0x20) 2)) (cmdNum (cmdPay 0x20) 2) true = true := by decide +kernel

/-! Witnesses of InvalidBarrierFrames. -/
theorem wit_Invalid_down : State.reset.l2fOk 3 1 { downHdr 1 0 with crc := 0 } 0 true = false ∧
    State.reset.isRetired (nBarrier 3) tcBarrier = false := by decide +kernel
def upHdr (type payload seq : Nat) : F2LHdr :=
  let h : F2LHdr := { seq := BitVec.ofNat 4 seq, qual := 5, fsafe := 0, cf := false, plug := true, silent := false, ack := 0, rsv := 0, crc := 0 }
  { h with crc := f2lCrc type h payload }
theorem wit_Invalid_up : State.reset.f2lOk 1 (upHdr 1 0 3) 0 true = false := by decide +kernel

/-! Witnesses of FieldToLogicFrames. -/
theorem wit_F2L_capture : (atTick 0).f2lOk 1 (upHdr 1 0 0) 0 true = true ∧ (atTick 1).f2lOk 2 (upHdr 2 0 0) 0 true = true := by decide +kernel
theorem wit_F2L_diag : (atTick 5).f2lOk 3 (upHdr 3 (2 ^ 24) 0) (2 ^ 24) true = true ∧
    (({ atTick 5 with view := [(3, { nextPart := some 0 })] } : State).viewOf 3).nextPart = some (BitVec.ofNat 8 (fld (BitVec.ofNat 248 (2 ^ 24)) 23 16)) := by
  decide +kernel
theorem wit_F2L_stream : (atTick 5).f2lOk 4 (upHdr 4 0x20 0) 0x20 true = true ∧ fld (0x20 : BitVec 248) 6 5 ≠ 0 ∧
    ((atTick 5).viewOf 3).awaiting = false ∧ ((atTick 5).chipOf 3).waiting = [] ∧
    ((({ atTick 5 with chip := [(3, { waiting := [(0, 0, true)] })] } : State).chipOf 3).waiting.take 1).map (fun e => (e.1, e.2.1)) =
      [(0, BitVec.ofNat 72 (fld (0x20 : BitVec 248) 103 32))] ∧ ((atTick 5).viewOf 3).lost = false ∧
    fld (0x20 : BitVec 248) 15 0 ≠ ((atTick 5).viewOf 3).diagId.toNat := by decide +kernel
theorem wit_F2L_idle : (atTick 5).f2lOk 5 (upHdr 5 9 0) 9 true = true ∧
    (({ atTick 5 with chip := [(3, { echo := some 9, crcReply := some 4 })] } : State).chipOf 3).echo = some 9 := by decide +kernel
theorem wit_F2L_silent : ({ upHdr 1 0 0 with silent := true } : F2LHdr).silent = true := rfl

/-! Witnesses of SilenceLossAndLanes. -/
def outputDo : State := { State.reset with
  dev := { State.reset.dev with loaded := true, st := .running }
  pkg := { State.reset.pkg with words := [(Pkg.key cCCFG (tChan 3) 0, BitVec.ofNat 72 (3 * 2 ^ 68))] } }
theorem wit_Lanes_output : 3 ∈ outputDo.outTerms ∧ tChip 3 = 1 ∧ chipTerm 1 1 = 3 ∧ outputDo.mode (tChan (chipTerm 1 1)) ≠ mOFF ∧
    (outputDo.viewOf 1).lost = false := by decide +kernel
/-- A lost field chip with the bank of a configuration of nothing, a tested line and a lane at rest. -/
def lostQuiet : State := { State.reset with
  view := [(1, { lost := true })], lanes := [(0, { restAt := [(1, 7)] }), (1, { hold := true })] }
theorem wit_Lanes_return : (lostQuiet.viewOf 1).lost = true ∧ lostQuiet.isRetired (nChip 1) 0 = false ∧
    (lostQuiet.chipOf 1).silent = false ∧ (lostQuiet.tests.find (nBarrier 1) tcBarrier).isSome = false ∧
    lostQuiet.lineTested 1 1 = true ∧ State.reset.lineTested 1 1 = false ∧ (State.reset.viewOf 1).lost = false ∧
    (lostQuiet.lanesOf 1).hold = true ∧ lostQuiet.atRest 1 20 = true ∧
    lostQuiet.atRest 1 (laneItem .down0) = true ∧ ({ lostQuiet with lanes := [(2, { down0 := true })] } : State).laneStopped 2 (laneItem .down0) = true ∧
    ({ lostQuiet with dev := { lostQuiet.dev with st := .running } } : State).laneStopped 1 (laneItem .down0) = false ∧
    ({ outputDo with term := [(3, { out := { on := true } })] } : State).atRest 1 20 = false := by decide +kernel
theorem wit_Lanes_bank : lostQuiet.bankMatches 1 = true := by decide +kernel

/-! Witnesses of DigitalInputRows. -/
/-- Channel 0 is DI with CHAT_LIM 0, a discrepancy time and a demand age, in RUNNING. -/
def diChannel : State := { State.reset with
  dev := { State.reset.dev with loaded := true, st := .running }
  pkg := { State.reset.pkg with words := [(Pkg.key cCCFG 0 0, BitVec.ofNat 72 (2 ^ 68 + 2 ^ 48 + 2 ^ 32))] } }
theorem wit_Di_none : hasFilter (State.reset.mode (tChan 1)) = false ∧ State.reset.mode (tChan 1) ≠ mDI ∧
    fld (State.reset.ccfg (tChan 1)) 47 32 = 0 := by decide +kernel
theorem wit_Di : diChannel.inSourceDark 1 7 = false ∧ diChannel.mode (tChan 1) = mDI ∧ diChannel.dev.st = .running ∧ (diChannel.termOf 1).dig.chatForce = false ∧
    fld (diChannel.tin 1) 55 40 < (diChannel.termOf 1).dig.chatEdges + 1 ∧ hasFilter (diChannel.mode (tChan 1)) = true ∧
    diChannel.atDemand 1 = true ∧ fld (diChannel.ccfg (tChan 1)) 47 32 ≠ 0 := by decide +kernel
def diForced : State := { diChannel with term := [(1, { dig := { chatForce := true, relAt := some 0, chatStart := 5 } })] }
theorem wit_Di_release : (diForced.termOf 1).dig.relAt = some 0 ∧ 0 ≤ (diForced.termOf 1).dig.chatStart ∧
    (diForced.termOf 1).dig.chatForce = true ∧ (diForced.termOf 1).dig.chatEdges ≤ fld (diForced.tin 1) 55 40 := by decide +kernel
def diDisagrees : State := { diChannel with term := [(1, { tstat := { qual := true }, dig := { chatEdges := 3 } })] }
theorem wit_Di_disagree : diDisagrees.disagrees 0 = true ∧ fld (diDisagrees.ccfg 0) 63 48 ≠ 0 ∧
    (diDisagrees.termOf 0).tstat.causes.getLsbD 8 = false ∧
    fld (diDisagrees.tin 1) 55 40 < (diDisagrees.termOf 1).dig.chatEdges := by decide +kernel
/-- Source: R59: with CHAT_LIM = 0 the first edge in RUNNING forces the terminal with cause 0x01. -/
theorem test_rawEdge_chatter : (match exec (.diRawEdge 1 0 true 7) diChannel with
    | .next t => decide ((t.termOf 1).tstat.fault = 1 ∧ (t.termOf 1).dig.chatForce = true) | _ => false) = true := by decide +kernel

/-! Witnesses of OutputChecks. -/
/-- Channel 0 is TS on side B's chip 1 feeding channel 1 (DI); channel 2 is DO-PP with its terminal 5 on. -/
def tsAndDo : State := { State.reset with
  dev := { State.reset.dev with loaded := true, st := .running }
  pkg := { State.reset.pkg with words := [(Pkg.key cCCFG 0 0, BitVec.ofNat 72 (2 * 2 ^ 68)), (Pkg.key cCCFG 1 0, BitVec.ofNat 72 (2 ^ 68)),
    (Pkg.key cCCFG 2 0, BitVec.ofNat 72 (3 * 2 ^ 68)), (Pkg.key cTIN 3 0, BitVec.ofNat 72 (2 ^ 20)),
    (Pkg.key cTOUT 1 0, BitVec.ofNat 72 (2 ^ 56 + 2 ^ 43))] }
  term := [(5, { out := { on := true, gate := true } })] }
theorem wit_TsSource : tsAndDo.mode (tChan 1) = mTS ∧ tsAndDo.tsDue 1 = true ∧ tsAndDo.chipDark 1 = false ∧ 3 ∈ tsAndDo.fedBy 1 ∧ (3 : Nat) ≠ 1 ∧ (tsAndDo.termOf 3).dig.tsFail = none ∧
    tsAndDo.mode (tChan 1) ≠ mOFF := by decide +kernel
theorem wit_DoOn : isDO (tsAndDo.mode (tChan 5)) = true ∧ (tsAndDo.termOf 5).out.gate = true ∧ tsAndDo.mode (tChan 5) ≠ mOFF ∧
    5 ∈ tsAndDo.outTerms ∧ (tsAndDo.termOf 4).out.gate = false ∧ tsAndDo.wouldOverlap 5 = false ∧ tsAndDo.checkDue 5 = true ∧ tsAndDo.clock.count ≥ (tsAndDo.termOf 5).out.nextAt ∧
    tsAndDo.isRetired (nChip 1) tcHalf = false ∧ (tsAndDo.tests.find (nChip 1) tcHalf).isSome = false ∧ tsAndDo.mode (tChan 5) ≠ mTS ∧
    fld (tsAndDo.tout 5) 20 11 * 1000 ≤ fld (tsAndDo.tout 5) 10 1 * 1000 := by decide +kernel
/-- Terminal 1, on the chip of terminal 5, is dark. -/
theorem wit_DoWaits : (({ tsAndDo with term := [(1, { out := { dark := true } }), (5, { out := { on := true, gate := true } })] } : State).wouldOverlap 5) = true := by
  decide +kernel
theorem wit_DoDark : (({ tsAndDo with term := [(5, { out := { on := true, dark := true } })] } : State).termOf 5).out.dark = true ∧
    (if tsAndDo.lowSide 5 then (11000 : Nat) ≤ 5000 else (5000 : Nat) ≤ 5000) ∧ ¬ (if tsAndDo.lowSide 5 then (11000 : Nat) ≤ 5001 else (5001 : Nat) ≤ 5000) := by
  decide +kernel
/-- Source: R69: a current limit switches the output off with cause 0x07 and latches the gate. -/
theorem test_currentLimit : (match exec (.outputCurrentLimit 5) tsAndDo with
    | .next t => decide ((t.termOf 5).tstat.fault = 7 ∧ (t.termOf 5).out.gate = false ∧ (t.termOf 5).out.latch = true) | _ => false) = true := by
  decide +kernel

/-! Witnesses of ConnectorAndFieldSupply. -/
theorem wit_Plug_live : 5 ∈ chipTerms 1 ∧ tsAndDo.mode (tChan 5) ≠ mOFF ∧ 5 ∈ tsAndDo.outTerms ∧ tChip 5 = 1 ∧
    3 ∈ chipTerms 1 ∧ hasFilter (tsAndDo.mode (tChan 3)) = true := by decide +kernel

/-! Witnesses of AnalogTerminals. -/
/-- Channel 0 is AI, channel 1 AO with terminal 3 on; the wagon's bucket holds 2 tokens. -/
def analogs : State := { State.reset with
  dev := { State.reset.dev with loaded := true, st := .running }
  pkg := { State.reset.pkg with words := [(Pkg.key cSCFG 0 0, BitVec.ofNat 72 (2 * 2 ^ 68)),
    (Pkg.key cCCFG 0 0, BitVec.ofNat 72 (5 * 2 ^ 68)), (Pkg.key cCCFG 1 0, BitVec.ofNat 72 (6 * 2 ^ 68))] }
  term := [(0, { ana := { calRun := true } }), (3, { out := { on := true } })] }
theorem wit_Analog_modes : analogs.isAnalog 0 = true ∧ analogs.mode (tChan 0) = mAI ∧ analogs.mode (tChan 3) = mAO ∧
    (analogs.termOf 3).out.on = true ∧ analogs.pairLow (tChip 3) (tLocal 3) = false ∧ analogs.mode (tChan 2) = mAO ∧ analogs.aoCurrent 2 ≠ 0 ∧ (analogs.termOf (2 * 0)).tstat.causes.getLsbD 8 = false ∧
    analogs.isRetired (nFront 0) tcConv = false := by decide +kernel
theorem wit_Analog_internal : analogs.clock.frame.toNat % 4 = 0 ∧
    ((chipTerms 1).filter fun u => bit (1 : BitVec 16) (tLocal u) && !(analogs.termOf u).ana.calRun) = [1] ∧
    analogs.mode (tChan 1) ≠ mOFF ∧
    3 < ((chipTerms 1).filter fun u => bit (15 : BitVec 16) (tLocal u) && !(analogs.termOf u).ana.calRun).length := by decide +kernel
theorem wit_Analog_calibration : (analogs.termOf 0).ana.calRun = true ∧ (analogs.termOf 0).ana.calDone = false ∧ (analogs.termOf 2).ana.calRun = false ∧ calResult 0 100000 = some (524288, 0) ∧
    calResult 5 5 = none := by decide +kernel
theorem wit_Analog_tokens : (analogs.lanesOf 1).tokens ≤ analogs.tokenCap 1 ∧ (analogs.lanesOf 1).tokens < analogs.tokenCap 1 ∧
    (∀ c < 16, (analogs.termOf (chipTerm 1 c)).out.waiting = false) := by decide +kernel
/-- Source: R412: the trim byte 0xF3 gives GAIN 527,360 and OFFSET −64. -/
theorem test_factoryTrim : fld (factoryCal 0xF3 0) 71 52 = 527360 ∧ sfld (factoryCal 0xF3 0) 51 34 = -64 := by decide +kernel

/-! Witnesses of CounterAndTimerUnits. -/
/-- Terminal 0 is a PWM unit after its pull-in time, terminal 4 an event counter one before its match 7 and above its limit, terminal 8
one before its wrap; timer 0 counts ticks and stands before its match 9. -/
def counting : State := { State.reset with
  dev := { State.reset.dev with loaded := true, st := .running }
  pkg := { State.reset.pkg with words := [(Pkg.key cTMR 0 0, BitVec.ofNat 72 (2 * 2 ^ 68 + 5 * 2 ^ 50 + 2 ^ 48)), (Pkg.key cTMR 0 1, 9),
    (Pkg.key cTMR 64 0, BitVec.ofNat 72 (3 * 2 ^ 68 + 2 * 2 ^ 62 + 5 * 2 ^ 50)), (Pkg.key cECFG 2 0, BitVec.ofNat 72 (2 ^ 70 + 2 ^ 52)),
    (Pkg.key cECFG 10 0, BitVec.ofNat 72 (2 ^ 70)),
    (Pkg.key cKCFG 0 0, BitVec.ofNat 72 (5 * 2 ^ 68 + 3 * 2 ^ 18)), (Pkg.key cKCFG 4 0, BitVec.ofNat 72 (2 ^ 68 + 7 * 2 ^ 28 + 3 * 2 ^ 18 + 4)),
    (Pkg.key cKCFG 8 0, BitVec.ofNat 72 (2 ^ 68 + 3 * 2 ^ 18))] }
  term := [(0, { out := { gate := true, pwm := 1 } }), (4, { ctr := { run := true, value := 6, hist := [(0, 2)] } }),
    (8, { ctr := { run := true, value := 0xFFFFFFFFF } })]
  enc := [(2, { hist := [(0, 2)] })]
  timer := [(0, { run := true, value := 8 })] }
theorem wit_Units_pwm : counting.kmode 0 = 5 ∧ (counting.termOf 0).out.pwm = 1 ∧ (counting.termOf 0).out.gate = true ∧
    (counting.termOf 0).out.onAt + 1000 * fld (counting.kcfg 0) 17 2 ≤ counting.clock.count ∧ (counting.termOf 4).out.pwm ≠ 1 := by decide +kernel
theorem wit_Units_sentinel : counting.kmode 4 ∈ [1, 4] ∧ fld (counting.kcfg 4) 17 2 ≠ 0 ∧ counting.dev.st ∈ [DevState.running, .holding] ∧
    fld (counting.kcfg 4) 17 2 < histNet (counting.termOf 4).ctr.hist counting.clock.count ∧ (counting.termOf 4).ctr.ovsTrip = false ∧
    fld (counting.cw cECFG (8 * Side.A.ix + 2) 0) 67 52 ≠ 0 ∧
    fld (counting.cw cECFG (8 * Side.A.ix + 2) 0) 67 52 < histNet (counting.encOf 2).hist counting.clock.count ∧
    (counting.encOf 2).ovsTrip = false := by decide +kernel
theorem wit_Units_match : (counting.termOf 4).ctr.run = true ∧ counting.kmode 4 = 1 ∧ counting.chained 4 = false ∧
    (counting.chipOf (tChip 4)).clkCnt = [] ∧ chipTerm (tChip 4) (fld (counting.kcfg 4) 21 18) ≠ 4 ∧
    (counting.termOf 4).ctr.value.toNat + 1 = fld (counting.kcfg 4) 63 28 := by decide +kernel
theorem wit_Units_overflow : (counting.termOf 8).ctr.run = true ∧ counting.kmode 8 = 1 ∧ counting.chained 8 = false ∧
    chipTerm (tChip 8) (fld (counting.kcfg 8) 21 18) ≠ 8 ∧ (counting.termOf 8).ctr.value.toNat + 1 = 2 ^ 36 := by decide +kernel
theorem wit_Units_timer : (counting.timerOf (64 * Side.A.ix + 0)).run = true ∧ fld (counting.cw cTMR 0 0) 55 50 ≠ 0 ∧
    (counting.timerOf 0).value + 1 = counting.cw cTMR 0 1 ∧ fld (counting.cw cTMR 0 0) 71 68 = 2 ∧ (counting.timerOf 2).run = false := by
  decide +kernel
theorem wit_Units_keys : (counting.timer.map Prod.fst).Nodup := by decide
theorem wit_Units_alone (j : Nat) (h : (counting.timerOf j).run = true) : j = 0 := by
  by_cases hj : j = 0
  · exact hj
  · have : counting.timerOf j = {} := by simp [State.timerOf, counting, Tab.get, hj]
    rw [this] at h
    exact absurd h (by decide)
/-- Timer 0 of side B counts port 2 of its side and stands before its wrap. -/
theorem wit_Units_port : fld (counting.cw cTMR 64 0) 71 68 = 3 ∧ counting.pmode (8 * Side.B.ix + fld (counting.cw cTMR 64 0) 67 62) = 1 ∧
    (({ counting with timer := [(64, { run := true, value := BitVec.intMax 72 })] } : State).timerOf 64).value + 1 = BitVec.intMin 72 ∧
    64 + fld (counting.cw cTMR 64 0) 55 50 ≠ 64 := by decide +kernel
/-- Source: R137: the counter at 6 with match 7 and no action stands at 7 and runs. -/
theorem test_counterMatch : (match exec (.timerMatch (.field 4)) counting with
    | .next t => decide ((t.termOf 4).ctr.value = 7 ∧ (t.termOf 4).ctr.run = true) | _ => false) = true := by decide +kernel
/-- Source: R146: a tick brings the timer to its match, which posts its number. -/
theorem test_timerMatch : (match exec (.timerMatch (.timer .A 0)) counting with
    | .next t => decide ((t.timerOf 0).value = 9 ∧ t.mailbox.a = [0]) | _ => false) = true := by decide +kernel

/-! Witnesses of EncoderPorts. -/
theorem wit_Encoder_other : counting.pmode 3 = 0 ∧ counting.pmode 3 ≠ 1 := by decide +kernel
theorem wit_Encoder : counting.pmode (8 * Side.A.ix + 2) = 1 ∧ counting.pmode 2 ≠ 0 ∧
    (true ≠ (counting.encOf 2).lineA ∧ true ≠ (counting.encOf 2).lineB) ∧
    ((counting.encOf 2).lineA, (counting.encOf 2).lineB, true, false) ∈ [(false, false, true, false), (true, false, true, true),
      (true, true, false, true), (false, true, false, false)] := by decide +kernel
theorem wit_Encoder_armed : (({ counting with enc := [(2, { arm := 1, lineA := true })] } : State).encOf 2).arm = 1 ∧
    (false, false, (({ counting with enc := [(2, { arm := 1, lineA := true })] } : State).encOf 2).lineA,
      (({ counting with enc := [(2, { arm := 1, lineA := true })] } : State).encOf 2).lineB) ∈ [(false, false, true, false), (true, false, true, true),
      (true, true, false, true), (false, true, false, false)] := by decide +kernel

/-! Witnesses of ShiftEngineInstructions. -/
def engineAt (op arg : Nat) : State := { State.reset with
  dev := { State.reset.dev with loaded := true }
  pkg := { State.reset.pkg with words := [(Pkg.key cECFG 2 0, BitVec.ofNat 72 (2 * 2 ^ 70))] }
  engine := [(2, { prog := [(0, BitVec.ofNat 24 (op * 2 ^ 20 + arg))], run := true, nbits := 3 })] }
theorem wit_Engine_other : (engineAt 1 4).pmode 3 ≠ 2 ∧ (engineAt 1 4).clock.tick < (engineAt 1 4).clock.fl := by decide +kernel
theorem wit_Engine : (engineAt 1 4).pmode 2 = 2 ∧ ((engineAt 1 4).engOf 2).at_ 1 [true, false, true, true].length = true ∧ ((engineAt 2 5).engOf 2).at_ 2 5 = true ∧
    ((engineAt 3 1).engOf 2).at_ 3 (b2n true) = true ∧ ((engineAt 4 9).engOf 2).at_ 4 (9 : BitVec 20).toNat = true ∧
    ((engineAt 5 0).engOf 2).at_ 5 0 = true ∧ ((engineAt 6 2).engOf 2).at_ 6 [true, true].length = true ∧
    ((engineAt 7 8).engOf 2).at_ 7 8 = true ∧ ((engineAt 8 0).engOf 2).at_ 8 0 = true ∧
    ((engineAt 9 17).engOf 2).at_ 9 (17 : Fin 64).val = true ∧ ((engineAt 10 0).engOf 2).at_ 10 0 = true := by decide +kernel
theorem wit_Engine_load : (({ State.reset with engine := [(2, { load := some [0x100001, 0x800000] })] } : State).engOf 2).load =
    some [0x100001, 0x800000] := by decide +kernel
/-- Source: R151: the Gray code 1101 is binary 1001. -/
theorem test_gray : grayToBin 4 13 0 = 9 := by decide

/-! Witnesses of LatticeMaintenance. -/
theorem wit_Lattice_plane : 2 ≤ (atTick 9).clock.tick ∧ (atTick 9).clock.tick ≤ (atTick 9).clock.cdl ∧ (atTick 9).group .A 3 = false ∧
    ¬ 2 ≤ State.reset.clock.tick := by decide +kernel
theorem wit_Lattice_notRetired : State.reset.isRetired (nChip 3) tcHalf = false ∧ State.reset.isRetired (nPlane .B 0) tcPlane = false := by
  decide +kernel

/-! Witnesses of AluArithmetic. -/
/-- Coach A3 runs with g1 = x and g2 = y; table words 0x4000 and 0x8000 map the page of address 0 to itself, RD and WR. -/
def coreState (x y : Word) : State := { State.reset with
  coach := [(3, { regs := [(1, x), (2, y)], ptbr := [(0, BitVec.ofNat 72 (2 ^ 71 + 2 ^ 14))], pc := 10 })]
  coachSt := [(3, { stopped := false })]
  mem := ⟨{ frame := [(0x4000, BitVec.ofNat 72 (2 ^ 70 + 2 ^ 15)), (0x8000, BitVec.ofNat 72 (2 ^ 71 + 2 ^ 69 + 2 ^ 68))] }, {}⟩ }
/-- The coach of these states. -/
def coachA3 : CoachRef := ⟨.A, 3⟩
theorem wit_Alu : (coreState 5 7).executes coachA3 ∧ ((coreState 5 7).coachOf 3).legal 1 ∧ coachA3.ix = 3 := by
  decide +kernel
theorem wit_Alu_overflow : signed72 ((BitVec.ofNat 72 (2 ^ 71 - 1)).toInt + (1 : Word).toInt) = false ∧
    signed72 ((1 <<< 71 : Word).toInt - (1 : Word).toInt) = false ∧ signed72 ((5 : Word).toInt + (7 : Word).toInt) = true ∧
    ((coreState (1 <<< 71) 1).coachOf 3).read 1 = 1 <<< 71 := by decide +kernel
theorem wit_Alu_vector : ((coreState 5 7).coachOf 3).trapMode = false ∧ (coreState 5 7).vector coachA3 0x02 0 :=
  ⟨by decide +kernel, 2, by decide +kernel, by decide +kernel⟩

/-! Witnesses of AluLogicAndExtremes. -/
theorem wit_Logic : (coreState 5 7).executes coachA3 ∧ ((coreState 5 7).coachOf 3).legal 31 := by
  decide +kernel
theorem wit_Logic_results : (∀ i < 72, bit (4 : Word) i = (bit (5 : Word) i && bit (0xC : Word) i)) ∧
    (∀ i < 72, bit (0xD : Word) i = (bit (5 : Word) i || bit (0xC : Word) i)) ∧
    (∀ i < 72, bit (9 : Word) i = Bool.xor (bit (5 : Word) i) (bit (0xC : Word) i)) ∧
    (∀ i < 72, bit (1 : Word) i = (bit (5 : Word) i && !bit (0xC : Word) i)) ∧
    (BitVec.allOnes 72).toInt ≤ (5 : Word).toInt ∧ (5 : Word).toNat ≤ (BitVec.allOnes 72).toNat ∧
    (BitVec.ofInt 72 (-(2 ^ 16))).toInt = (BitVec.allOnes 22).toInt * 2 ^ 16 := by decide +kernel

/-! Witnesses of MultiplyAndDivide. -/
theorem wit_MulDiv : (coreState (1 <<< 71) (BitVec.allOnes 72)).executes coachA3 ∧ (BitVec.allOnes 72).toInt = -1 ∧
    (1 <<< 71 : Word).toInt = -(2 ^ 71) ∧ ((coreState 25 0).coachOf 3).read 2 = 0 := by
  decide +kernel
theorem wit_MulDiv_results : (BitVec.allOnes 72).toInt * 2 ^ 72 + (BitVec.ofInt 72 (-7) * (2 : Word)).toNat = (-7) * 2 ∧
    (1 : Word).toNat * 2 ^ 72 + ((1 <<< 71 : Word) * 2).toNat = (1 <<< 71 : Word).toNat * 2 ∧
    (BitVec.ofInt 72 (-1)).toInt = (BitVec.ofInt 72 (-7)).toInt.tmod 2 ∧
    (3 : Word).toNat = (7 : Word).toNat / 2 ∧ (1 : Word).toNat = (7 : Word).toNat % 2 := by decide +kernel
/-- Sources: the worked values of R224. -/
theorem test_divisions : divF (BitVec.ofInt 72 (-7)) 2 = (BitVec.ofInt 72 (-3), { n := some true, z := some false, c := some false, v := some false, dz := some false }) ∧
    (remF 7 (BitVec.ofInt 72 (-2))).1 = 1 ∧ (divF (1 <<< 71) (BitVec.ofInt 72 (-1))).1 = 1 <<< 71 ∧ (remF 25 0).1 = 25 := by decide +kernel
theorem test_shifts : (shlF 1 72).1 = 0 ∧ (shlF 1 72).2.c = some true ∧ (shlF 1 71).2.c = some false ∧
    (shrF (BitVec.ofNat 72 (2 ^ 71 - 1)) (2 ^ 72 - 1)).2.c = some true ∧ (sarF (BitVec.ofInt 72 (-5)) 100).1 = BitVec.allOnes 72 ∧
    (satF ((-(2 ^ 71)) * (-1))).1 = BitVec.ofNat 72 (2 ^ 71 - 1) := by decide +kernel

/-! Witnesses of ShiftsSaturationAndBytes. -/
theorem wit_Shifts : (coreState 5 72).executes coachA3 ∧ (∀ i < 72, bit (0 : Word) i = (decide (72 ≤ i) && bit (5 : Word) (i - 72))) ∧
    (∀ i < 72, bit (2 : Word) i = bit (5 : Word) (i + 1)) ∧ (∀ i < 72, bit (2 : Word) i = if i + 1 < 72 then bit (5 : Word) (i + 1) else bit (5 : Word) 71) := by
  decide +kernel
theorem wit_Byte : (coreState 0x080706050403020100 8).executes coachA3 ∧ ((coreState 0 8).coachOf 3).read 2 = 8 ∧
    ((coreState 0 9).coachOf 3).read 2 = 9 ∧ (∀ j < 9, BitVec.ofNat 8 ((0xAA : Word).toNat / 2 ^ (8 * j)) =
      if j = 0 then BitVec.ofNat 8 ((0xAA : Word).toNat / 2 ^ (8 * 0)) else BitVec.ofNat 8 ((0 : Word).toNat / 2 ^ (8 * j))) := by
  decide +kernel
/-- Sources: the examples of R225. -/
theorem test_bytes : (bxtF 0x080706050403020100 5 false).1 = 5 ∧ (bxtF 0x080706050403020100 8 true).1 = 8 ∧
    bxtF 0x080706050403020100 9 false = (0, { v := some true }) ∧ (binsF 0 0xAA 0).1 = some 0xAA := by decide +kernel

/-! Witnesses of ConditionalBranches. -/
theorem wit_Branches : (coreState 0 0).executes coachA3 := by
  decide +kernel
/-- Source: R210: a displacement counts instructions from the branch itself. -/
theorem test_branch_back : (match exec (.bne coachA3 (BitVec.ofInt 28 (-4))) (coreState 0 0) with
    | .next t => (t.coachOf 3).pc | _ => 0) = 6 := by decide +kernel

/-! Witnesses of JumpsCallsAndWindows. -/
theorem wit_Jumps : (coreState 100 0).executes coachA3 ∧ ((coreState 100 0).coachOf 3).legal 1 ∧
    ((coreState 100 0).coachOf 3).trapMode = false ∧ fld (((coreState 100 0).coachOf 3).read 1) 71 41 = 0 ∧
    fld (((coreState (1 <<< 50) 0).coachOf 3).read 1) 71 41 ≠ 0 ∧ ((coreState 100 0).coachOf 3).depth ≠ 7 := by
  decide +kernel
/-- Coach A3 at a given depth. -/
def deepCoach (depth spilled : Nat) (tm : Bool) : State := { State.reset with
  coach := [(3, { depth := depth, spilled := spilled, trapMode := tm, cur := 6 })], coachSt := [(3, { stopped := false })] }
theorem wit_Jumps_depth : (deepCoach 7 0 false).executes coachA3 ∧ ((deepCoach 7 0 false).coachOf 3).depth = 7 ∧
    (deepCoach 2 1 true).executes coachA3 ∧ ((deepCoach 2 1 true).coachOf 3).trapMode = true ∧
    ¬ (3 ≤ ((deepCoach 2 1 false).coachOf 3).depth ∨ (((deepCoach 2 1 false).coachOf 3).depth = 2 ∧ ((deepCoach 2 1 false).coachOf 3).spilled = 0)) := by
  decide +kernel

/-! Witnesses of TrapEntry. -/
theorem wit_Trap : (coreState 5 7).executes coachA3 ∧ ((coreState 5 7).coachOf 3).trapMode = false ∧
    ¬ ((coreState 5 7).coachOf 3).legal 40 ∧ ((coreState 5 7).cpu coachA3).legal coachA3 0 = false ∧
    ((coreState 5 7).cpu coachA3).legal coachA3 0x70000000 = true ∧ (deepCoach 1 0 true).executes coachA3 ∧
    ((deepCoach 1 0 true).coachOf 3).trapMode = true := by decide +kernel
theorem wit_Trap_vector : ∀ cause ∈ [0x01, 0x02, 0x03, 0x04, 0x08, 0x0D],
    (coreState 5 7).maps coachA3 0 true ((coreState 5 7).vectorVa coachA3 cause) kLoad cause ∧ (coreState 5 7).vectorAt coachA3 cause 0 := by
  decide +kernel
theorem wit_Trap_closed : (deepCoach 1 0 false).executes coachA3 ∧ bit (Tab.get (0 : Word) ((deepCoach 1 0 false).coachOf 3).ptbr 0) 71 = false := by
  decide +kernel

/-! Witnesses of TrapReturn. -/
/-- Coach A3 in trap mode with TPC 9, TFLAGS and TPART with bits beyond their fields, and t0 = 10. -/
def inTrap : State := { State.reset with
  coach := [(3, { trapMode := true, regs := [(128, 10), (136, 9), (140, 0xFF), (141, 0xF3)] })], coachSt := [(3, { stopped := false })] }
theorem wit_Tret : inTrap.executes coachA3 ∧ (inTrap.coachOf 3).trapMode = true ∧ (inTrap.coachOf 3).legal 40 ∧
    (inTrap.coachOf 3).read 40 = (inTrap.coachOf 3).getPhys 136 + 1 ∧ (inTrap.coachOf 3).cplcnt + 1 ≠ 4095 := by
  decide +kernel
/-- Source: R232: other bits of TFLAGS and TPART are ignored. -/
theorem test_tret : (match exec (.tret coachA3) inTrap with
    | .next t => ((t.coachOf 3).pc, (t.coachOf 3).flags, (t.coachOf 3).part, (t.coachOf 3).trapMode) | _ => (0, 0, 0, true)) = (9, 31, 3, false) := by
  decide +kernel

/-! Witnesses of SpillFillAndTrapModeInstructions. -/
/-- Coach A3 in trap mode with windows to move and t0 = x; page 1 (addresses 0x1000 on) is mapped to itself. -/
def windows (depth spilled : Nat) (x : Word) : State := { State.reset with
  coach := [(3, { trapMode := true, depth := depth, spilled := spilled, cur := 6, regs := [(16, 77), (128, x)],
                  ptbr := [(0, BitVec.ofNat 72 (2 ^ 71 + 2 ^ 14))] })]
  coachSt := [(3, { stopped := false })]
  mem := ⟨{ frame := [(0x4000, BitVec.ofNat 72 (2 ^ 70 + 2 ^ 15)), (0x8001, BitVec.ofNat 72 (2 ^ 71 + 2 ^ 69 + 2 ^ 68 + 2 ^ 12))] }, {}⟩ }
theorem wit_Spill : (windows 7 0 0x1000).executes coachA3 ∧ ((windows 7 0 0x1000).coachOf 3).legal 40 ∧
    ((windows 7 0 0x1000).coachOf 3).read 40 = 0x1000 := by
  decide +kernel
theorem wit_Spill_maps : ∀ j < 16, (windows 7 0 0x1000).maps coachA3 0 true (0x1000 + j) kStore (0x1000 + j) := by decide +kernel
theorem wit_Fill_maps : ∀ j < 16, (windows 3 1 0x1000).maps coachA3 0 true (0x1000 + j) kLoad (0x1000 + j) := by decide +kernel
theorem wit_Spill_apart : ∀ j < 16, ∀ l < 16, 0x1000 + l ≠ (windows 7 0 0x1000).entry1 coachA3 0 (0x1000 + j) ∧
    0x1000 + l ≠ (windows 7 0 0x1000).entry2 coachA3 0 (0x1000 + j) := by decide +kernel
/-- Source: R216's worked example, step 3: window (6 − 7 + 1) mod 7 = 0 goes out, k0 first. -/
theorem test_spill : (match exec (.spill coachA3 40) (windows 7 0 0x1000) with
    | .next t => (Tab.get 0 t.mem.a.frame 0x1000, (t.coachOf 3).depth, (t.coachOf 3).spilled) | _ => (0, 0, 0)) = (77, 6, 1) := by decide +kernel

/-! Witnesses of LoadsAndStores. -/
theorem wit_Loads : (coreState 0x20 7).executes coachA3 ∧ (((coreState 0x20 7).coachOf 3).read 1 + (3 : BitVec 16).signExtend 72) = 0x23 ∧
    fld ((1 <<< 50 : Word) + (3 : BitVec 16).signExtend 72) 71 40 ≠ 0 := by
  decide +kernel
/-- The same coach in partition 1, which has no table. -/
def noTable : State := { coreState 0x20 7 with
  coach := [(3, { part := 1, regs := [(1, 0x20)], ptbr := [(0, BitVec.ofNat 72 (2 ^ 71 + 2 ^ 14))] })] }
theorem wit_Loads_noTable : noTable.executes coachA3 ∧ bit (Tab.get (0 : Word) (noTable.coachOf 3).ptbr 1) 71 = false ∧
    (noTable.coachOf 3).trapMode = false := by decide +kernel
theorem wit_Loads_maps : (coreState 0x20 7).maps coachA3 0 false 0x23 kLoad 0x23 ∧ (coreState 0x20 7).maps coachA3 0 false 0x23 kStore 0x23 ∧
    (coreState 0x20 7).maps coachA3 0 false 0x23 kXchg 0x23 ∧ 0x23 ∉ (coreState 0x20 7).errWords .A :=
  ⟨by decide +kernel, by decide +kernel, by decide +kernel, by decide +kernel⟩
/-- Source: R227 and R210: ST then reads back through XCHG at a negative displacement. -/
theorem test_store : (match exec (.st coachA3 2 1 (BitVec.ofInt 16 (-1))) (coreState 0x20 7) with
    | .next t => Tab.get 0 t.mem.a.frame 0x1F | _ => 0) = 7 := by decide +kernel

/-! Witnesses of SpecialRegisters. -/
theorem wit_Special : (coreState 0x123 7).executes coachA3 ∧ ((coreState 0x123 7).coachOf 3).cur < 7 ∧ ((coreState 0x123 7).coachOf 3).depth < 8 ∧
    fld (0x20 : Word) 4 0 = 0 ∧ fld (0x20 : Word) 7 5 = 1 ∧ fld (0x20 : Word) 71 8 = 0 ∧ inTrap.executes coachA3 ∧
    fld (0xA0 : Word) 71 40 = 0 ∧ fld (0xA0 : Word) 3 0 = 0 := by
  decide +kernel

/-! Witnesses of CouplingsAndMismatches. -/
/-- Slot 12 LOCKED on coaches A3 and B3, with the values of both copies held on side A. -/
def coupled (st : SlotState) (a b : CplVals) : State := { coreState 5 7 with
  dev := { State.reset.dev with loaded := true, st := .running }
  clock := { State.reset.clock with tick := 3 }
  coachSt := [(3, { stopped := false }), (67, { stopped := false })]
  slot := [(12, { st := st, mapA := 3, mapB := 3, mapped := true, cplA := ⟨[a], [b]⟩, rebuilt := true })] }
theorem wit_Coupling : (coupled .locked ⟨1, 2, true, 3⟩ ⟨1, 2, true, 3⟩).ready coachA3 ∧
    ((coupled .locked ⟨1, 2, true, 3⟩ ⟨1, 2, true, 3⟩).coachOf 3).trapMode = false ∧
    (coupled .locked ⟨1, 2, true, 3⟩ ⟨1, 2, true, 3⟩).slotOfCoach .A 3 = some 12 ∧
    ((coupled .locked ⟨1, 2, true, 3⟩ ⟨1, 2, true, 3⟩).slotOf 12).cplA = ⟨[⟨1, 2, true, 3⟩], [⟨1, 2, true, 3⟩]⟩ ∧
    ((coupled .locked ⟨1, 2, true, 3⟩ ⟨1, 2, true, 3⟩).slotOf 12).resumed = ⟨false, false⟩ ∧ 3 ≤ (coupled .locked ⟨1, 2, true, 3⟩ ⟨1, 2, true, 3⟩).clock.tick ∧ (12 : Nat) ∉ (State.reset).fnsOfSlot 12 ∧
    State.reset.isRetired (nCoach 3) tcCoach = false := by decide +kernel
/-- The coach of a split slot that waits after FEND; and one that has retired 4,095 instructions. -/
def fendWaits : State := { coupled .split ⟨1, 2, true, 3⟩ ⟨1, 2, true, 3⟩ with coachSt := [(3, { stopped := false, waitFend := true })] }
/-- Side B has registered BANK for slot 12, its coach has derailed, and side A holds its own values alone. -/
def noticed : State := { coupled .testing ⟨1, 2, true, 3⟩ ⟨1, 2, true, 3⟩ with
  coachSt := [(67, { derailed := true })]
  slot := [(12, { st := .testing, cause := 9, reg := ⟨false, true⟩, mapA := 3, mapB := 3, mapped := true, cplA := ⟨[⟨1, 2, true, 3⟩], []⟩ })] }
theorem wit_Coupling_notice : (noticed.slotOf 12).reg.get .B = true ∧ (noticed.slotOf 12).cause = 9 ∧ (noticed.slotOf 12).reg.get .A = false ∧
    (noticed.cstOf (noticed.slotCoach .B 12)).derailed = true ∧ (noticed.slotOf 12).cplA.a ≠ [] ∧ (noticed.slotOf 12).cplA.b = [] ∧
    3 ≤ noticed.clock.tick ∧ noticed.linkWait = [] := by decide +kernel
theorem wit_Coupling_split : fendWaits.lockedCoach coachA3 = false ∧ (fendWaits.cstOf 3).waitFend = true ∧
    (({ coreState 5 7 with coach := [(3, { cplcnt := 4095 })] } : State).coachOf 3).cplcnt = 4095 ∧
    ({ coreState 5 7 with coach := [(3, { cplcnt := 4095 })] } : State).ready coachA3 := by decide +kernel
/-- Source: R182's table. -/
theorem test_lag : lagHold 127 = (0, 33) ∧ lagHold 128 = (0, 0) ∧ lagHold 192 = (0, 0) ∧ lagHold 193 = (33, 0) := by decide
/-- Source: R184's check values. -/
theorem test_fold : sigFold 0 (1 <<< 71) 0 = 0x1C27 ∧ sigFold 0 0x400000000000000001 0 = 0x800000000000000002 := by decide

/-! Witnesses of CoachVerdictsAndReserves. -/
/-- Slot 12 under test on coaches A3 and B3, both coaches under targeted test. -/
def slotTested : State := { coupled .testing ⟨1, 2, true, 3⟩ ⟨1, 2, true, 3⟩ with
  tests := { State.reset.tests with running := [{ node := nCoach 3, cls := tcCoach, requested := false, started := 0 },
    { node := nCoach 67, cls := tcCoach, requested := false, started := 0 }] } }
theorem wit_Coaches : slotTested.slotCoach .A 12 = 3 ∧ slotTested.slotCoach .B 12 = 67 ∧ (slotTested.slotOf 12).mapped = true ∧
    slotTested.tests.find (nCoach 3) tcCoach = some { node := nCoach 3, cls := tcCoach, requested := false, started := 0 } ∧
    slotTested.tests.find (nCoach 67) tcCoach = some { node := nCoach 67, cls := tcCoach, requested := false, started := 0 } ∧
    slotTested.transCount (nCoach 3) tcCoach < 2 ∧ slotTested.nextReserve .A = some 0 ∧ slotTested.canRejoin 12 = false ∧ slotTested.canRebuild 12 = false := by decide +kernel
/-- Slot 12 is ready for its rebuild, and ready to rejoin; then its coaches are split, one of them under test. -/
def slotReady : State := { coupled .testing ⟨1, 2, true, 3⟩ ⟨1, 2, true, 3⟩ with clock := { State.reset.clock with tick := 3, count := 100 } }
theorem wit_Coaches_ready : slotReady.canRebuild 12 = true ∧ slotReady.canRejoin 12 = true ∧ slotReady.clock.late = false ∧
    slotReady.linkWait = [] := by decide +kernel
def splitTested : State := { slotTested with
  slot := [(12, { st := .split, mapA := 3, mapB := 3, mapped := true })]
  tests := { State.reset.tests with running := [{ node := nCoach 3, cls := tcCoach, requested := false, started := 0 }] } }
theorem wit_Coaches_split : splitTested.tests.find (nCoach 3) tcCoach = some { node := nCoach 3, cls := tcCoach, requested := false, started := 0 } ∧
    splitTested.tests.find (nCoach 67) tcCoach = none ∧ splitTested.slotCoach .A 12 = 3 := by decide +kernel
theorem wit_Coaches_alone : ∀ q < 48, (slotTested.slotOf q).st = .locked → q ≠ 12 → slotTested.slotCoach .B q ≠ 67 := by decide +kernel
theorem wit_Coaches_noReserve : (slotTested.otpOr .A (BitVec.ofNat 4096 ((2 ^ 52 - 1 - 8) * 2 ^ 3520))).nextReserve .A = none := by
  decide +kernel
/-- Slot 12 waits for a reserve of side B and joins. -/
def slotWaits : State := { slotTested with slot := [(12, { st := .testing, mapA := 3, mapB := 3, mapped := true, waitB := true, joining := true })] }
theorem wit_Coaches_waits : (slotWaits.slotOf 12).waitB = true ∧ slotWaits.isReserve .B 0 = true ∧ (slotWaits.slotOf 12).joining = true ∧
    slotWaits.dev.st ≠ .holding ∧ slotWaits.nextPowerUp .B = some 0 ∧ slotWaits.dailyDue .B 0 = true ∧
    (({ slotWaits with coachSt := [(64, { powered := true })] } : State).cstOf 64).powered = true := by decide +kernel
theorem wit_Coaches_lowest : ∀ q < 12, (slotWaits.slotOf q).waitB = false := by decide +kernel

/-! Witnesses of HandoversSplitsAndDebugging. -/
/-- Slot 12 in hand-over to slot 20, N = 1 agreed; slot 21 waits to split; a Debug session is open in RUNNING. -/
def handing (copied : Bool) : State := { coreState 5 7 with
  dev := { State.reset.dev with loaded := true, st := .running, lifecycle := 2 }
  port := ⟨{ link := true, session := some ⟨1, 0, 2, 0⟩ }, {}⟩
  clock := { State.reset.clock with tick := if copied then 0 else 3 }
  coachSt := [(3, { stopped := false, halted := true })]
  slot := [(12, { st := .locked, mapA := 3, mapB := 3, mapped := true, ver := ⟨true, true⟩, log := [(0, .pc, 9)],
                  hand := some { target := 20, n := 1, agreed := if copied then 1 else 0, copied := copied,
                                 reply := some (some .A, 7, 1, 0x60) } }),
    (20, { st := if copied then .shadow else .locked, mapA := 20, mapB := 20, mapped := true }),
    (21, { st := .locked, mapA := 21, mapB := 21, mapped := true, splitPend := true, reply := some (some .A, 8, 1, 0x62) })] }
theorem wit_Handover : ((handing false).slotOf 12).hand = some { target := 20, n := 1, reply := some (some .A, 7, 1, 0x60) } ∧
    ((handing true).slotOf 12).hand = some { target := 20, n := 1, agreed := 1, copied := true, reply := some (some .A, 7, 1, 0x60) } ∧
    ((handing false).slotOf 12).verified = true ∧ ((handing false).slotOf 21).splitPend = true ∧ ((handing false).portOf .A).link = true ∧
    (handing false).tests.running.any ((handing false).testsCoachOf 12) = false := by decide +kernel
theorem wit_Debug : (handing false).debugStop 12 = true ∧ (handing false).debugC = true ∧ ((handing false).cstOf 3).halted = true ∧
    ((handing false).slotOf 12).log = [(0, .pc, 9)] ∧ ((handing false).coachOf ((handing false).slotCoach .B 12)).retcnt = 0 ∧
    State.reset.debugStop 12 = false ∧ State.reset.debugC = false := by decide +kernel
theorem wit_Debug_step : (({ coreState 5 7 with coachSt := [(3, { stopped := false, stepping := true })] } : State).cstOf 3).stepping = true ∧
    ((coreState 5 7).coachOf 3).cplcnt ≠ 4095 := by decide +kernel
/-- Source: R205: the debugger's write reaches the lead alone. -/
theorem test_debugWrite : (match exec (.debugWrite 12 (.reg 5) 99) (handing false) with
    | .next t => ((t.coachOf 3).getPhys 5, (t.coachOf 67).getPhys 5) | _ => (0, 0)) = (99, 0) := by decide +kernel

/-! Witnesses of FunctionEvaluationAndCommit. -/
/-- Function 7 (ES_STOP, slot 12, ARM_S 5) in a state; its slot LOCKED and verified. -/
def withFn (tid : Nat) (x : Fn) : State := { State.reset with
  dev := { State.reset.dev with loaded := true, st := .running }
  clock := { State.reset.clock with count := 100000000 }
  pkg := { State.reset.pkg with words := [(Pkg.key cFCFG 7 0, BitVec.ofNat 72 (tid * 2 ^ 64 + 12 * 2 ^ 49 + 5 * 2 ^ 10))] }
  slot := [(12, { st := .locked, mapped := true, ver := ⟨true, true⟩ })]
  fn := [(7, x)] }
theorem wit_Functions : ((withFn 0x31 { st := .armed }).fnOf 7).st = .armed ∧ fld ((withFn 0x31 { st := .armed }).fcfg 7) 19 10 = 5 ∧
    ((withFn 0x31 { st := .armed }).fnOf 7).armedAt + 5 * 1000000 ≤ (withFn 0x31 { st := .armed }).clock.count - (withFn 0x31 { st := .armed }).clock.tick ∧
    isMode ((withFn 0x31 { st := .armed }).tid 7) = false ∧ 7 ∈ (withFn 0x31 { st := .armed }).fns ∧
    ((withFn 0x31 { st := .armed }).slotOf ((withFn 0x31 { st := .armed }).fSlot 7)).verified = true ∧
    (withFn 0x31 { st := .armed }).dev.applyPkg = false ∧ (withFn 0x31 { st := .armed }).clock.tick < 250 := by decide +kernel
/-- Source: R250 and R36: ARM_S expiry, then the commit of its verified frame, leaves the instance LOCKED. -/
theorem test_armed_timeout : (match exec (.armedTimeout 7) (withFn 0x31 { st := .armed }) with
    | .next t => (match exec .commit t with | .next u => decide ((u.fnOf 7).st = .locked) | _ => false)
    | _ => false) = true := by decide +kernel

/-! Witnesses of TemplateMonitors. -/
theorem wit_Templates : (withFn 0x12 {}).tid 7 = 0x12 ∧ (withFn 0x15 {}).tid 7 = 0x15 ∧ (withFn 0x18 {}).tid 7 = 0x18 ∧
    (withFn 0x20 {}).tid 7 = 0x20 ∧ (withFn 0x42 {}).tid 7 = 0x42 ∧ (withFn 0x41 {}).tid 7 = 0x41 ∧
    (withFn 0x04 { vars := [(2, 1), (3, 1)] }).tid 7 = 0x04 ∧ Tab.get 0 ((withFn 0x04 { vars := [(2, 1), (3, 1)] }).fnOf 7).vars 3 = 1 ∧
    Tab.get 0 ((withFn 0x12 { vars := [(8, 1)] }).fnOf 7).vars 8 + 1000000 * (withFn 0x12 { vars := [(8, 1)] }).fpar 7 4 ≤ 100000001 := by decide +kernel
theorem wit_Templates_reset : (withFn 0x05 { st := .fault, cause := 0x10 }).tid 7 = 0x05 ∧
    ((withFn 0x05 { st := .fault, cause := 0x10 }).fnOf 7).st = .fault ∧
    (withFn 0x05 { st := .fault, cause := 0x10 }).presentFaults 7 = [] ∧ (withFn 0x05 { st := .fault, cause := 0x10 }).offOneSecond 7 = true ∧
    (withFn 0x05 { vars := [(0, 1)] }).heldLong 7 = true ∧ (withFn 0x05 {}).t10 = 10000000000 ∧ ((withFn 0x05 { st := .fault, cause := 0x10 }).fnOf 7).cur = [] := by
  decide +kernel

/-! Witnesses of LedgerPages. -/
def ledgered (n : Nat) : State := { State.reset with
  ledger := { waiting := [⟨5, 0x0B, 7, 0xFF, 0, 0x11, 0, 0, 3, 5, 7, 0⟩], written := [(7, n)] } }
theorem wit_Ledger : (ledgered 7).ledger.waiting = [⟨5, 0x0B, 7, 0xFF, 0, 0x11, 0, 0, 3, 5, 7, 0⟩] ∧ (ledgered 7).writable = true ∧
    (ledgered 7).ledger.seq ≠ 0 ∧ (ledgered 7).ledger.second = (ledgered 7).clock.count / 1000000 ∧
    8 ≤ Tab.get 0 (ledgered 8).ledger.written 7 ∧ ¬ 8 ≤ Tab.get 0 (ledgered 7).ledger.written 7 := by decide +kernel
theorem wit_Ledger_warned : ({ ledgered 7 with power := { State.reset.power with pfail := true } } : State).writable = false ∧
    State.reset.ledger.waiting = [] ∧ (List.replicate 256 (3 : BitVec 18)).length = 256 := by decide +kernel

/-! Witnesses of MotionMonitors. -/
/-- Monitor 2 on an encoder port in RAMP, with events PENDING and PULSING. -/
def moving (flt : BitVec 4) (st : DevState) : State := { State.reset with
  dev := { State.reset.dev with loaded := true, st := st }
  pkg := { State.reset.pkg with words := [(Pkg.key cMON 2 0, BitVec.ofNat 72 (2 ^ 68))] }
  mon := [(2, { sstate := 2, mflt := flt })]
  monx := [(2, { disagree := 16, agree := 64, events := [(0, { st := 2 }), (1, { st := 3 }), (2, { st := 3, left := 4 })] })] }
theorem wit_Motion : (moving 0 .running).msrc 2 ≠ 0 ∧ ((moving 0 .running).monOf 2).mflt = 0 ∧ ((moving 1 .running).monOf 2).mflt ≠ 0 ∧
    ((moving 0 .running).monxOf 2).disagree = 16 ∧ fld ((moving 0 .running).mbind 2) 11 4 ≤ 16 ∧ ((moving 0 .running).monxOf 2).agree = 64 ∧
    (Tab.get ({} : PosEvent) ((moving 0 .running).monxOf 2).events 0).st = 2 ∧
    (Tab.get ({} : PosEvent) ((moving 0 .running).monxOf 2).events 1).st = 3 ∧
    (Tab.get ({} : PosEvent) ((moving 0 .running).monxOf 2).events 2).left ≠ 0 ∧ (moving 0 .running).msrc 3 = 0 := by decide +kernel
theorem wit_Motion_holding : (moving 0 .holding).dev.st = .holding ∧ ((moving 0 .holding).monOf 2).sstate ≠ 0 ∧
    ((moving 0 .holding).monNow 2).sstate ≠ 0 ∧ (moving 0 .holding).dev.applyPkg = false ∧ (moving 0 .holding).clock.tick < (moving 0 .holding).clock.fl := by decide +kernel
/-- The same monitor while a frame computes: its last verified position is 5, its working one 9. -/
def inFrame (verified : Bool) : State := { moving 0 .running with
  mon := [(2, { sstate := 2, pos := 9 })], monOld := some ([(2, { sstate := 2, pos := 5 })], [])
  slot := [(0, { ver := ⟨verified, verified⟩ })] }
theorem wit_Motion_frame : (inFrame true).msrc 2 ≠ 0 ∧ ((inFrame true).monOf 2).mflt = 0 ∧ (inFrame true).monOld ≠ none ∧
    (inFrame true).dev.toService = false ∧ (inFrame true).dev.applyPkg = false ∧ (inFrame true).dev.st = .running ∧
    (inFrame true).monVerified 2 = true ∧ (inFrame false).monVerified 2 = false := by decide +kernel
/-- Source: R36 and R297: the commit of an unverified frame leaves the position of the last verified one. -/
theorem test_monitor_discarded : (match exec .commit (inFrame false), exec .commit (inFrame true) with
    | .next t, .next u => decide ((t.monOf 2).pos = 5 ∧ (u.monOf 2).pos = 9)
    | _, _ => false) = true := by decide +kernel
/-- Source: R295's table: the window crossed in one frame fires; backward in the window withdraws. -/
theorem test_event : evtStep { st := 1 } 10 20 5 20 false 3 = ({ st := 3, left := 3 }, some 2) ∧
    evtStep { st := 2 } 10 20 15 9 false 3 = ({ st := 1 }, some 1) ∧ evtStep { st := 1 } 10 20 10 20 false 3 = ({ st := 2 }, none) := by decide

/-! Witnesses of TelegramReception. -/
/-- A telegram of connection 3 with good FCS, EtherType 0x88B5 and its own CRC; its MAC is a given number. -/
def telegram (typ : Nat) (mac : BitVec 64) : Telegram :=
  let g : Telegram := { fcsOk := true, etype := 0x88B5, ver := 1, cid := 3, dir := true, stop := true, kgp := false, len := 0,
                        epoch := 9, seq := 1, time := 1 <<< 71, data := 0, crc := 0, mac := mac }
  { g with crc := crc32c (pduBytes typ g) }
/-- Connection 3 enabled with RX_LEN 0 in epoch 9, on a network with that EtherType. -/
def linked (st : LinkState) : State := { State.reset with
  dev := { State.reset.dev with loaded := true, st := .running }
  clock := { State.reset.clock with count := 61 }
  pkg := { State.reset.pkg with words := [(Pkg.key cNCFG 0 0, BitVec.ofNat 72 (0x88B5 * 2 ^ 56 + 2 ^ 50)), (Pkg.key cCONN 3 0, BitVec.ofNat 72 (2 ^ 71 + 61 * 2 ^ 30)),
    (Pkg.key cCONN 3 1, BitVec.ofNat 72 (2 ^ 37 + 5 * 2 ^ 31))] }
  conn := [(3, { st := st, epoch := 9 })] }
theorem wit_Reception : ((linked .dual).netOf .A).muted = false ∧ ¬ ((telegram 1 7).fcsOk = false ∨ (telegram 1 7).etype.toNat ≠ fld ((linked .dual).ncfg .A) 71 56) ∧
    (linked .dual).connEn 3 = true ∧ (linked .dual).connRxLen 3 = 0 ∧
    (telegram 1 7).epoch = ((linked .dual).connOf 3).epoch ∧ ¬ (telegram 1 7).seq ≤ ((linked .dual).connOf 3).verA := by decide +kernel
theorem wit_Reception_crc : (telegram 1 7).crc = crc32c (pduBytes 1 (telegram 1 7)) := by simp only [telegram, pduBytes]
/-- A telegram with the right MAC passes every check. -/
theorem wit_Reception_mac : (linked .dual).macOk .A 1 (telegram 1 (Config.cmac64 (Config.connKey ((linked .dual).secret .A) (linked .dual).pkg.nsalt 3 0 true)
    (pduBytes 1 (telegram 1 0) ++ leBytes 4 (telegram 1 0).crc.toNat))) = true := by
  have h : (linked .dual).rxGen 3 false = some 0 := by decide +kernel
  unfold State.macOk
  have e : (telegram 1 (Config.cmac64 (Config.connKey ((linked .dual).secret .A) (linked .dual).pkg.nsalt 3 0 true)
    (pduBytes 1 (telegram 1 0) ++ leBytes 4 (telegram 1 0).crc.toNat))).cid.toNat = 3 := rfl
  rw [e]
  show (match (linked .dual).rxGen 3 false with | none => false | some gen => _) = true
  rw [h]
  exact decide_eq_true rfl
/-- Source: R310's check value over the ASCII string 123456789. -/
theorem test_crc32c : crc32c [0x31, 0x32, 0x33, 0x34, 0x35, 0x36, 0x37, 0x38, 0x39] = 0xE3069283 := by decide +kernel

/-! Witnesses of ConnectionsAndSending. -/
theorem wit_Sending : (linked .dual).connEn 3 = true ∧ fld ((linked .dual).lcfg1 3) 30 25 = 0 ∧ (linked .dual).dev.st = .running ∧
    ((linked .dual).connOf 3).st.up = true ∧ ((linked .opening).connOf 3).st = .opening ∧ ((linked .singleB).connOf 3).st = .singleB ∧
    ((linked .lost).connOf 3).st = .lost ∧
    (linked .dual).clock.count % fld ((linked .dual).lcfg0 3) 53 30 = 61 * 3 % fld ((linked .dual).lcfg0 3) 53 30 ∧
    ((linked .dual).connOf 3).lastArr = none ∧ ((linked .dual).connOf 3).sentAt = none ∧
    100000 * (linked .singleB).connSnt 3 + ((linked .singleB).connOf 3).leftDual < (linked .singleB).t10 ∧
    100 * (linked .opening).connWd 3 + ((linked .opening).connOf 3).openAt < (linked .opening).t10 ∧ bit ((linked .dual).lcfg1 3) 37 = true := by decide +kernel
theorem wit_Sending_loss : (({ linked .dual with conn := [(3, { st := .dual, lossReq := true })] } : State).connOf 3).lossReq = true ∧
    Tab.wf {} ({ linked .dual with conn := [(3, { st := .dual, lossReq := true })] } : State).conn = true ∧
    (({ linked .dual with conn := [(3, { st := .opening, handReq := true })] } : State).connOf 3).handReq = true ∧
    ((linked .closed).connOf 3).st = .closed ∧ (linked .closed).connOpener 3 = false ∧ (linked .dual).clock.tick < (linked .dual).clock.fl := by decide +kernel
/-- Source: R325: the lost connection's NSTOP of group 5 stands on both sides. -/
theorem test_loss : (match exec .capture { linked .dual with conn := [(3, { st := .dual, lossReq := true, data := 9 })] } with
    | .next t => decide ((t.connOf 3).st = .lost ∧ (t.connOf 3).data = 0 ∧ t.half.a.nstop = 1 <<< 5 ∧ t.half.b.nstop = 1 <<< 5) | _ => false) = true := by
  decide +kernel

/-! Witnesses of CagesAndPtp. -/
theorem wit_Cages : ({ State.reset with cage := [(1, { present := true, up := true })] } : State).cageOf 1 = { present := true, up := true } ∧
    (State.reset.cageOf 1).present = false ∧ fld ((linked .dual).ncfg .A) 51 50 ≠ 0 ∧ fld (State.reset.ncfg .A) 51 50 = 0 ∧
    fld (State.reset.ncfg .A) 55 54 ≠ 1 := by decide +kernel
theorem wit_Ptp : (({ linked .dual with net := ⟨{ good := 7 }, {}⟩ } : State).netOf .A).good = 7 ∧
    (({ linked .dual with net := ⟨{ locked := true, bad := 2 }, {}⟩ } : State).netOf .A).bad = 2 ∧
    (({ linked .dual with net := ⟨{ good := 6, bad := 1 }, {}⟩ } : State).netOf .A).good < 7 := by decide +kernel
/-- Network A in active/standby mode. -/
def standbyNet : State := { State.reset with
  dev := { State.reset.dev with loaded := true }
  pkg := { State.reset.pkg with words := [(Pkg.key cNCFG 0 0, BitVec.ofNat 72 (2 ^ 54))] } }
theorem wit_Cages_standby : fld (standbyNet.ncfg (cageNet 0)) 55 54 = 1 ∧ (standbyNet.netOf .A).active = (0 : Fin 4).val % 2 ∧
    (standbyNet.cageOf (2 * Side.A.ix + (standbyNet.netOf .A).active)).up = false := by decide +kernel

/-! Witnesses of HostPortRegisters. -/
/-- A running device, both links up, token held by Port 1; Port 1's admin rings run, 256-byte entries, one packet fetchable; a
stream ring 5 of 16 entries is live, nine entries written; channel stream 8192 is bound to it and holds a root back. -/
def hosted : State := { State.reset with
  dev := { State.reset.dev with loaded := true, st := .running, lifecycle := 2 }
  port := ⟨{ link := true, admCtl := 0x8000000000000000#64, session := some ⟨7, 3, 5, 0⟩ }, { link := true }⟩
  token := { holder := some .A, last := some .A, left := 500 }
  queue := [(0, { live := true, d0 := BitVec.ofNat 72 (4 * 2 ^ 65 + 3 * 2 ^ 63), d1 := BitVec.ofNat 72 (2 ^ 57), prod := 1 }),
    (1, { live := true, d0 := BitVec.ofNat 72 (2 ^ 70 + 4 * 2 ^ 65 + 3 * 2 ^ 63) }),
    (5, { live := true, d0 := BitVec.ofNat 72 (2 * 2 ^ 70 + 4 * 2 ^ 65), prod := 9 }),
    (8192, { bind := some 5, backlog := [⟨1, 0x0203, ⟨6, 0⟩, 3, 0⟩] }), (8193, { bind := some 5 })] }
/-- The same without the second stream. -/
def hosted1 : State := { hosted with queue := hosted.queue.filter fun e => e.1 ≠ 8193 }
theorem wit_Registers : hosted.dev.st.answers = true ∧ State.reset.dev.st.answers = false ∧ hosted.powered = true ∧
    bit (hosted.portOf .A).admCtl 63 = true ∧ bit (hosted.portOf .B).admCtl 63 = false ∧
    (hosted.portOf .A).session = some ⟨7, 3, 5, 0⟩ ∧ (hosted.queueOf 0).live = true ∧ (hosted.queueOf 0).type = 0 ∧
    poolOf 0 = some .A := by decide +kernel
theorem wit_Registers_off : ({ hosted with
    dev := { hosted.dev with st := .dormant }
    power := { hosted.power with la := { hosted.power.la with st := .under }, lb := { hosted.power.lb with st := .under } } } : State).powered = false := by decide +kernel
theorem wit_Registers_ring : (hosted.queueOf 0).used ≤ (2#32 - (hosted.queueOf 0).cons).toNat ∧
    (2#32 - (hosted.queueOf 0).cons).toNat ≤ (hosted.queueOf 0).size ∧ (hosted.queueOf 5).type = 2 ∧
    (hosted.queueOf 5).used = 9 ∧ hosted1.boundTo 5 = [8192] ∧ hosted.boundTo 1 = [] ∧
    (hosted1.queueOf 8192).backlog.length + (hosted1.queueOf 8192).counts.length = 1 ∧
    ({ hosted1.queueOf 5 with cons := 9 } : Queue).size ≤ ({ hosted1.queueOf 5 with cons := 9 } : Queue).free * 2 := by decide +kernel
/-- ADM_CTL with EN, 16 entries of 1,024 bytes on both rings. -/
def admWord : BitVec 64 := BitVec.ofNat 64 (2 ^ 63 + 4 * 2 ^ 43 + 2 * 2 ^ 41 + 4 * 2 ^ 36 + 2 * 2 ^ 34 + 9)
theorem wit_Registers_adm : fld admWord 62 48 = 0 ∧ fld admWord 33 11 = 0 ∧ bit admWord 63 = true ∧ fld admWord 47 43 = 4 ∧ fld admWord 40 36 = 4 ∧
    setBit admWord 63 false ≠ setBit (hosted.portOf .A).admCtl 63 false := by decide +kernel
/-- Source: R334: the rings start at index 0; 16 entries of 1,024 bytes. -/
theorem test_adm : (match exec (.admCtlWrite .B admWord) hosted with
    | .next t => decide ((t.queueOf 4096).size = 16 ∧ (t.queueOf 4096).esize = 1024 ∧ (t.queueOf 4096).cq = 4097 ∧ (t.queueOf 4097).type = 1)
    | _ => false) = true := by decide +kernel
/-- Source: R357: the word of group 3: magic, index, complement. Group 3 is not used, so all 32 DOOR signals stand. -/
theorem test_stopWord : (match exec (.stopWord .B 0x5A0F0003A5F0FFFC 8 false) hosted with
    | .next t => decide (t.half.b.door = 0xFFFFFFFF ∧ t.half.a.door = 0 ∧ (t.portOf .B).taken = 1) | _ => false) = true := by decide +kernel
/-- Source: R357: the same word with one bit of the complement wrong. -/
theorem test_stopWord_bad : (match exec (.stopWord .B 0x5A0F0003A5F0FFFD 8 false) hosted with
    | .next t => decide (t.half.b.door = 0 ∧ (t.portOf .B).bad = 1) | _ => false) = true := by decide +kernel
/-- Source: R382: the held root is written once half of the ring is free. -/
theorem test_held : (match exec (.queueConsWrite .A ⟨5, by decide⟩ 9) hosted1 with
    | .next t => decide ((t.queueOf 5).prod = 10 ∧ (t.queueOf 8192).backlog = []) | _ => false) = true := by decide +kernel

/-! Witnesses of PacketChecks. -/
/-- A packet's header of Port 1's admin ring. -/
def hdrA (target : Nat) : Hdr :=
  { port := some .A, queue := ⟨0, by decide⟩, tag := 0x55, target := BitVec.ofNat 16 target, token := false, urgent := false,
    rsv := 0, zeros := 0, ver := 1, seq := 0 }
/-- The same under the token. -/
def hdrT (target : Nat) : Hdr := { hdrA target with token := true }
/-- A packet of the service port. -/
def hdrS (target : Nat) : Hdr := { hdrA target with port := none }
theorem wit_Checks : hosted.portAnswers (some .A) = true ∧ State.reset.portAnswers (some .A) = false ∧ hosted.hears (hdrA 0xFFFF) ∧
    hosted.authorised (hdrA 0xFFFF) 0x02 ∧ hosted.tokenFits (hdrT 3) 0x23 true ∧ ¬ hosted.tokenFits (hdrA 3) 0x23 true ∧
    upTo 384 hosted (hdrT 3) [] = true ∧ upTo 384 hosted (hdrT 400) [] = false := by decide +kernel
theorem wit_Checks_service : (let s := { hosted with svc := { hosted.svc with cable := true } }
    s.hears (hdrS 0xFFFF) ∧ ¬ s.authorised (hdrS 0xFFFF) 0x02 ∧ s.authorised (hdrS 0xFFFF) 0xF0) := by decide +kernel
theorem wit_Checks_bad : ({ hdrA 3 with ver := 2 } : Hdr).ver ≠ 1 ∧ fld ({ hdrA 3 with rsv := 4 } : Hdr).rsv 5 0 ≠ 0 ∧
    fld ({ hdrA 3 with rsv := 0x80 } : Hdr).rsv 5 0 = 0 ∧ fld ({ hdrA 3 with zeros := 1 <<< 95 } : Hdr).zeros 95 88 ≠ 0 ∧
    fld ({ hdrA 3 with zeros := 1 <<< 95 } : Hdr).zeros 87 80 = 0 ∧ ({ hdrA 3 with seq := 9 } : Hdr).seq ≠ (hosted.queueOf 0).seq := by
  decide +kernel
/-- The slot of SF_COMMISSION (one bit): 2 has its first offending bit in byte 0; 3 s0 of TOKEN_ACQUIRE is below 100. -/
theorem wit_Checks_slots : pv [2] 0 / 2 ^ 1 * 2 ^ 1 / 2 ^ (8 * 0) % 256 ≠ 0 ∧ pv [3] 0 < 2 ^ 16 ∧ ¬ 100 ≤ pv [3] 0 ∧
    pv [100] 0 < 2 ^ 16 ∧ 100 ≤ pv [100] 0 ∧ [(3 : Slot16)].length = [(16, 100, 60000)].length := by decide +kernel
theorem wit_Checks_responder : (let s := { hosted with dev := { hosted.dev with responder := true, st := .service } }
    responds 0xC0 = true ∧ responds 0x16 = false ∧ s.hears (hdrA 0xFFFF) ∧ s.tokenFits (hdrA 0xFFFF) 0x16 false) := by decide +kernel
/-- Status and offset of the last reply at Port 1. -/
def lastReply (s : State) : Option (Nat × Nat) := (s.portOf .A).replies.getLast?.map fun r => (r.status, r.offset)
/-- Source: R346: a target of 12 and more is no wagon: OUT_OF_RANGE, offset 8. -/
theorem test_target : (match exec (.wagonStatus (hdrA 12) []) hosted with | .next t => lastReply t | _ => none) = some (0x0103, 8) := by
  decide +kernel
/-- Source: R351: an opcode that needs the token with TOKEN = 0: TOKEN_REQUIRED, even on the holding port. -/
theorem test_token : (match exec (.monStop (hdrA 0) []) hosted, exec (.cfgAbort (hdrA 0xFFFF) []) hosted with
    | .next t, .next u => (lastReply t, lastReply u) | _, _ => (none, none)) = (some (0x010A, 0xFFFF), some (0x0104, 10)) := by
  decide +kernel

/-! Witnesses of DepotTokenAndStreams. -/
/-- A packet of 32 zero bytes but its length. -/
def shortPkt : List Byte := [0, 1, 32] ++ List.replicate 29 0
theorem wit_Depot : (let x := hosted.portOf .A
    hosted.dev.st.answers = true ∧ x.link = true ∧ x.stopped = false ∧ hosted.nextRing .A = some 0 ∧ x.fetchB + pktFld shortPkt 2 2 ≤ hosted.budget.1 ∧ hosted.fetchedN .A + x.carried + 1 ≤ hosted.budget.2) := by decide +kernel
theorem wit_Depot_size : 32 ≤ pktFld shortPkt 2 2 ∧ pktFld shortPkt 2 2 % 16 = 0 ∧ pktFld shortPkt 2 2 ≤ (hosted.queueOf 0).esize ∧
    pktFld shortPkt 2 2 ≤ shortPkt.length ∧ crcOk shortPkt = false := by decide +kernel
/-- The same with its CRC. -/
theorem wit_Depot_crc : crcOk (shortPkt.take 28 ++ leBytes 4 (crc32c shortPkt).toNat) = true := by decide +kernel
/-- A reply waits at Port 1. -/
def replying : State := { hosted with port := hosted.port.set { hosted.portOf .A with replies := [⟨some .A, 0, 2, 9, 0, 0xFFFF, 3, []⟩] } .A }
theorem wit_Depot_reply : (replying.portOf .A).replies = [⟨some .A, 0, 2, 9, 0, 0xFFFF, 3, []⟩] ∧ (replying.portOf .A).link = true ∧
    (replying.queueOf (replying.queueOf 0).cq).live = true ∧ (replying.queueOf (replying.queueOf 0).cq).type = 1 ∧
    (replying.queueOf (replying.queueOf 0).cq).free ≠ 0 ∧ replying.replyDue ⟨some .A, 0, 2, 9, 0, 0xFFFF, 3, []⟩ = true := by decide +kernel
theorem wit_Depot_streams : (hosted.queueOf 8192).bind = some 5 ∧ (hosted.queueOf 8193).bind = some 5 ∧ (hosted.queueOf 5).live = true ∧
    (hosted.queueOf 5).free = 7 ∧ (hosted.queueOf 5).free * 2 < (hosted.queueOf 5).size ∧ (hosted.queueOf 5).size ≤ (hosted.queueOf 5).free * 8 ∧
    (eventOf [1, BitVec.ofNat 72 (3 * 2 ^ 28)]).isRoot = true ∧ (eventOf [1, 0]).isRoot = false := by decide +kernel
theorem wit_Depot_full : (let k := { hosted.queueOf 5 with prod := 16 }; k.free = 0 ∧ k.size ≠ 0 ∧ k.free * 8 < k.size) := by decide +kernel
def asking (h : Option Side) (rs : List TokReq) : State := { hosted with token := { holder := h, last := h, left := 5, reqs := rs } }
theorem wit_Depot_token : (asking none [⟨.acquire 100, .B, 7, 4096⟩]).clock.tick = 0 ∧
    (asking none [⟨.acquire 100, .B, 7, 4096⟩]).clock.captured = false ∧
    ((asking none [⟨.acquire 100, .B, 7, 4096⟩]).portOf .B).link = true ∧ (asking (some .A) []).token.left ≠ 0 ∧
    ((asking (some .A) []).portOf .A).resetPend = false ∧ hosted.clock.tick < hosted.clock.fl := by decide +kernel
theorem wit_Depot_expiry : (asking (some .A) []).token.holder = some .A ∧ ({ hosted with token := { hosted.token with left := 0 } } : State).token.left = 0 ∧
    (⟨7, 3, 5, 0⟩ : Session).opened + 3600000000 ≤ ({ hosted with clock := { hosted.clock with count := 3600000005 } } : State).clock.count ∧ hosted.sessionOf (some .A) = some ⟨7, 3, 5, 0⟩ ∧ hosted.sessionOf none = none := by
  decide +kernel
/-- Source: R350: with neither port having held the token, Port 1 wins the tie. -/
theorem test_tie : (match exec .capture (asking none [⟨.acquire 100, .B, 7, 4096⟩, ⟨.acquire 100, .A, 8, 0⟩]) with
    | .next t => t.token.holder | _ => none) = some .A := by decide +kernel
/-- Source: R343: the first record after three lost ones carries the count in bits [71:64] of its word 1. -/
theorem test_lost : (match exec (.streamRecordWrite ⟨8193, by decide⟩ [1, 2])
      { hosted with queue := Tab.upd {} hosted.queue 8193 fun x => { x with lost := 3, words := [1, 2] } } with
    | .next t => (t.queueOf 5).last | _ => []) = [1, BitVec.ofNat 72 (3 * 2 ^ 64 + 2)] := by decide +kernel

/-! Witnesses of ReadCommands. -/
theorem wit_Reads : (hdrA 0xFFFF).target = 0xFFFF ∧ hosted.admits (hdrA 0xFFFF) 0x02 false ∧ hosted.admits (hdrA 3) 0x20 false ∧
    hosted.fits (hdrA 3) 8 = true ∧ hosted.fits (hdrA 3) 255 = false ∧ (hdrA 3).target.toNat = 3 ∧ hosted.keysHeld .A = true := by decide +kernel
theorem wit_Reads_ledger : (hosted.ledgCopy .A 4 = none) ∧ hosted.admits (hdrA 0xFFFF) 0x63 false ∧
    ({ hosted with dev := { hosted.dev with secretOk := false } } : State).keysHeld .A = false ∧
    (Tab.get ({} : Verdict) hosted.tests.last (testKey (testNode 5 3) 5)).known = false := by decide +kernel
/-- A valid ledger page of SEQ 4 in both MRAMs (all words but the last zero), and a verdict of chip 3. -/
def withPage : State := (fun m : Tab Word => { hosted with
  mem := ⟨{ mram := m }, { mram := m }⟩
  tests := { hosted.tests with last := [(testKey (testNode 5 3) 5, { known := true, verdict := 1 })] } })
  [(ledgAddr 0 159, commitWord (List.replicate 159 0) 4)]
theorem wit_Reads_verdict : (Tab.get ({} : Verdict) withPage.tests.last (testKey (testNode 5 3) 5)).known = true ∧
    testTarget 5 3 = true := by decide +kernel
theorem wit_Reads_cfg : (List.range 2).map (fun k => (3#8 + BitVec.ofNat 8 k).toNat) = [3, 4] ∧ (hdrA 47).target.toNat < 48 ∧
    ¬ (hdrA 48).target.toNat < 48 ∧ hosted.hears (hdrA 48) ∧ hosted.authorised (hdrA 48) 0x15 ∧ hosted.admits (hdrA 60) 0x31 false ∧
    64 < (hdrA 60).target.toNat + 5 ∧ (hdrA 60).target.toNat + 4 ≤ 64 := by decide +kernel
theorem wit_Reads_service : (let s := { hosted with svc := { hosted.svc with cable := true, session := some ⟨9, 3, 32, 0⟩ } }
    s.admits (hdrS 5) 0x93 false ∧ (hdrS 5).port = none) := by decide +kernel
/-- Source: R354: SF_STATUS_BULK whose count runs past instance 4,095: the slot's first byte is 32. -/
theorem test_bulk : (match exec (.sfStatusBulk (hdrA 4090) [7]) hosted with | .next t => lastReply t | _ => none) = some (0x0103, 32) := by
  decide +kernel
/-- Source: R334: PART 0x0192, port 1; DEV_STATE 0x5 RUNNING, token held by Port 1 with 500 ticks left. -/
theorem test_status : (match exec (.devStatus (hdrA 0xFFFF) []) hosted with
    | .next t => (t.portOf .A).replies.getLast?.map fun r => r.slots | _ => none) =
    some [0x5000000000000000, 0, 0x50000000000001F4, 0] := by decide +kernel

/-! Witnesses of ConfigurationCommands. -/
/-- The same device in another state, with a staging of 20 bytes by Port 1. -/
def staging (st : DevState) (g : Staging) : State := { hosted with dev := { hosted.dev with st := st, cfgStage := some g, fwStage := some g } }
theorem wit_Config_token : hosted.admits (hdrA 0xFFFF) 0x08 false ∧ hosted.admits (hdrA 0xFFFF) 0x0A false ∧ (hdrA 0xFFFF).port = some .A := by
  decide +kernel
theorem wit_Config_stage : hosted.admits (hdrT 0xFFFF) 0x10 true ∧ hosted.admits (hdrT 0xFFFF) 0xB1 true ∧ hosted.stageOf true = none ∧
    (staging .running { port := .A, length := 20 }).stageOf false = some { port := .A, length := 20 } ∧
    0 + 16 * 2 ≤ (20 + 15) / 16 * 16 ∧ hosted.openOf (some .A) < 16 ∧ hosted.fits (hdrT 0xFFFF) 0 = true := by decide +kernel
theorem wit_Config_open : 16 ≤ ({ hosted with port := hosted.port.set { hosted.portOf .A with open_ := 16 } .A } : State).openOf (some .A) := by
  decide +kernel
/-- Both sides hold the active copy of sequence 4 in region A and a staged one with flags in region B; an image of security version 3
is staged; Port 1's session has all roles; slots 0 and 3 are LOCKED. -/
def activatable (st : DevState) (flags : Byte) : State := { hosted with
  dev := { hosted.dev with
    st := st
    cfg := ⟨⟨{ state := 2, actSeq := 4, valid := true }, { state := 1, valid := true, pkg := { flags := flags } }⟩,
            ⟨{ state := 2, actSeq := 4, valid := true }, { state := 1, valid := true, pkg := { flags := flags } }⟩⟩
    fw := ⟨⟨{ state := 2, actSeq := 7, valid := true }, { state := 1, svn := 3, valid := true }⟩,
           ⟨{ state := 2, actSeq := 7, valid := true }, { state := 1, svn := 3, valid := true }⟩⟩ }
  port := hosted.port.set { hosted.portOf .A with session := some ⟨7, 3, 0xFF, 0⟩ } .A
  slot := [(0, { st := .locked, mapped := true }), (3, { st := .locked, mapped := true, mapA := 3, mapB := 3 })] }
theorem wit_Config_activate : (activatable .running 0).admits (hdrT 3) 0x13 true ∧ (activatable .running 0).isSpare 3 = true ∧
    (activatable .running 0).activating = false ∧ (activatable .running 0).cfgStaged = some { flags := 0 } ∧ tidsOk { flags := 0 } = true ∧ modesOk { flags := 0 } = true ∧
    modesOk { words := [(Pkg.key cCCFG 1 0, BitVec.ofNat 72 (8 * 2 ^ 68))] } = false ∧ (activatable .running 0).isSpare 7 = false ∧ (activatable .standby 2).portRole (some .A) 3 = true ∧
    (activatable .standby 2).unexported = 0 ∧ (activatable .standby 2).dev.lifecycle = 2 ∧ bit (2 : Byte) 1 = true ∧
    (activatable .running 0).fwStaged = some { state := 1, svn := 3, valid := true } := by decide +kernel
theorem wit_Config_own : (let s := { activatable .service 1 with dev := { (activatable .service 1).dev with lifecycle := 1 } }
    s.portRole (some .A) 4 = true ∧ s.completable .A 0 = true ∧ s.completable .B 0 = true ∧ s.admits (hdrT 0xFFFF) 0x13 true) := by decide +kernel
/-- The boot responder with a staged image. -/
def responding : State := { activatable .holding 0 with dev := { (activatable .holding 0).dev with responder := true } }
theorem wit_Config_responder : responding.admits (hdrT 0xFFFF) 0xB3 true ∧ responding.fwStaged = some { state := 1, svn := 3, valid := true } := by
  decide +kernel
def activated : State := { activatable .running 0 with
  clock := { hosted.clock with tick := 0, committed := true }
  rehome := some ⟨1, 5, some .A, 9, 0⟩
  dev := { (activatable .running 0).dev with cfgAct := some ⟨.A, 9, 0, 3, 16, [], [], []⟩, fwAct := some ⟨.A, 9, 0, 3, 16, [], [], []⟩ } }
theorem wit_Config_done : activated.dev.cfgAct = some ⟨.A, 9, 0, 3, 16, [], [], []⟩ ∧ activated.dev.applyPkg = false ∧ activated.atCommit = true ∧
    (activated.portOf .A).link = true ∧ activated.fwStaged = some { state := 1, svn := 3, valid := true } ∧
    activated.cfgStaged = some { flags := 0 } ∧ activated.activating = true := by decide +kernel
/-- Channel 1 is configured AI with SM_MS = 3 (R131's example: 9 frames of 250 ticks), channel 2 DI. -/
def calible (ms : Nat) : State := { hosted with
  term := [(3, { ana := { sample := 100, stale := false } })]
  pkg := { hosted.pkg with words := [(Pkg.key cCCFG 1 0, BitVec.ofNat 72 (5 * 2 ^ 68)), (Pkg.key cCCFG 2 0, BitVec.ofNat 72 (1 * 2 ^ 68)),
    (Pkg.key cACFG 1 0, BitVec.ofNat 72 (ms * 2 ^ 12))] } }
theorem wit_Config_cal : (calible 3).admits (hdrT 2) 0x23 true ∧ (calible 3).mode 1 = mAI ∧ (calible 3).calibrating 2 = false ∧
    ¬ fld ((calible 3).acfg 1) 27 12 * 1000 < (calible 3).calFrames * (calible 3).clock.fl ∧ (calible 3).otherUnfit 2 = false ∧
    fld ((calible 2).acfg 1) 27 12 * 1000 < (calible 2).calFrames * (calible 2).clock.fl ∧ (calible 3).mode 2 = mDI := by decide +kernel
/-- A package staged by Port 1 that moves channel 1 to channel 5. -/
def movedPkg : Pkg := { (calible 3).pkg with words := [(Pkg.key cCCFG 2 0, BitVec.ofNat 72 (1 * 2 ^ 68)),
  (Pkg.key cCCFG 5 0, BitVec.ofNat 72 (5 * 2 ^ 68)), (Pkg.key cACFG 5 0, BitVec.ofNat 72 (3 * 2 ^ 12))] }
def movable : State := { calible 3 with
  dev := { hosted.dev with cfgStage := some { port := .A, length := 0, ended := true, verified := true, pkg := movedPkg } } }
theorem wit_Config_move : movable.admits (hdrT 1) 0x25 true ∧ movable.rehomeRefusal (hdrT 1) 1 5 = none ∧ movable.activating = false ∧
    movable.spareOk 5 = true ∧ movable.spareOk 2 = false ∧ movable.pairedUnit 1 = false ∧ movable.chanBusy 1 = false := by decide +kernel
theorem wit_Config_verify : (staging .running { port := .A, length := 20, ended := true }).stageOf false = some { port := .A, length := 20, ended := true } ∧
    ((staging .running { port := .A, length := 20, ended := true }).portOf .A).link = true := by decide +kernel
theorem wit_Config_pd : hosted.admits (hdrA 60) 0x30 false ∧ 60 + [(1 : BitVec 64), 2].length ≤ 64 ∧ 64 < 63 + [(1 : BitVec 64), 2].length := by
  decide +kernel
theorem wit_Config_rehome : activated.rehome = some ⟨1, 5, some .A, 9, 0⟩ ∧ activated.clock.tick = 0 ∧ activated.clock.committed = true := by
  decide +kernel
/-- Source: R131's worked example: SM_MS = 2 is refused, SM_MS = 3 accepted. -/
theorem test_calibrate : ((match exec (.chCalibrate (hdrT 2) []) (calible 2) with | .next t => lastReply t | _ => none),
    (match exec (.chCalibrate (hdrT 2) []) (calible 3) with | .next t => lastReply t | _ => none)) =
    (some (0x010C, 0xFFFF), some (0x0001, 0xFFFF)) := by decide +kernel
/-- Source: R419: one greater than the running image's sequence, on both sides; FW_SVN follows. -/
theorem test_fwActive : (match exec (.activationDone true) activated with
    | .next t => (t.dev.fw.a.b.actSeq, t.dev.fw.b.b.state, t.dev.running, t.svnMin .B) | _ => (0, 0, .A, 0)) = (8, 2, .B, 3) := by decide +kernel

/-! Witnesses of FunctionTestAndSlotCommands. -/
/-- Function 3 of slot 3 (REMOTE and COMM_OK, template 0x01), LOCKED; slots 0 and 3 LOCKED, slot 7 LOCKED and spare; the arm is
Port 1's. -/
def resettable : State := { hosted with
  pkg := { hosted.pkg with words := [(Pkg.key cFCFG 3 0, BitVec.ofNat 72 (2 ^ 64 + 3 * 2 ^ 49 + 2 ^ 35 + 2 ^ 34))] }
  fn := [(3, { st := .locked })]
  armed := some ⟨3, .A, 0x1234, 0⟩
  slot := [(0, { st := .locked, mapped := true }), (3, { st := .locked, mapped := true, mapA := 3, mapB := 3 }),
    (7, { st := .locked, mapped := true, mapA := 7, mapB := 7 })] }
theorem wit_Fn_reset : 3 ∈ resettable.fns ∧ resettable.admits (hdrT 3) 0x43 true ∧ resettable.admits (hdrT 3) 0x44 true ∧
    bit (resettable.fcfg 3) 35 = true ∧ bit (resettable.fcfg 3) 34 = true ∧ resettable.armed = some ⟨3, .A, 0x1234, 0⟩ ∧
    resettable.edgeCount ≤ 2000000 ∧ isMode (resettable.tid 3) = false := by decide +kernel
theorem wit_Fn_accept : (resettable.fnOf 3).st = .locked ∧ resettable.dev.st = .running ∧ (resettable.slotOf (resettable.fSlot 3)).st = .locked ∧
    resettable.presentFaults 3 ++ ((resettable.fnOf 3).cur.filter fun c => isFaultCause c.1) ++ resettable.edmFails 3 = [] ∧
    resettable.inputDemands 3 ++ resettable.groupDemands 3 ++ resettable.templateDemands 3 ++
      ((resettable.fnOf 3).cur.filter fun c => !isFaultCause c.1) = [] := by decide +kernel
theorem wit_Fn_others : ({ resettable with armed := none } : State).armed = none ∧ hosted.admits (hdrA 3) 0x52 false ∧
    ({ hosted with pkg := { hosted.pkg with words := [(Pkg.key cMON 3 5, BitVec.ofNat 72 (2 ^ 6))] } } : State).mstop 3 1 = BitVec.ofNat 72 (2 ^ 6) ∧
    hosted.admits (hdrT 3) 0x53 true ∧ fld (0xA00000#24) 23 20 = 0x0A ∧ ¬ 1 ≤ fld (0x0FFFFF#24) 23 20 := by decide +kernel
/-- The function is a RESET instance in RUN; monitor 3 has encoder ports in a frame under way. -/
def resetMode : State := { resettable with
  monOld := some ([], [])
  pkg := { hosted.pkg with words := [(Pkg.key cFCFG 3 0, BitVec.ofNat 72 (5 * 2 ^ 64 + 3 * 2 ^ 49 + 2 ^ 35)),
    (Pkg.key cMON 3 0, BitVec.ofNat 72 (2 ^ 70)), (Pkg.key cMON 3 5, BitVec.ofNat 72 (2 ^ 6))] }
  fn := [(3, { st := .run })] }
theorem wit_Fn_mode : 3 ∈ resetMode.fns ∧ isMode (resetMode.tid 3) = true ∧ bit (resetMode.fcfg 3) 35 = true ∧ (resetMode.fnOf 3).st ≠ .none ∧
    resetMode.monOld ≠ none ∧ resetMode.msrc 3 ≠ 0 ∧ bit (resetMode.mstop 3 1) 6 = true ∧ (resetMode.fnOf 5).next = none ∧
    bit (resettable.fcfg 3) 34 = true ∧ hosted.lanesRetired = [] := by decide +kernel
theorem wit_Fn_ledger : hosted.admits (hdrT 0xFFFF) 0x64 true ∧
    ({ hosted with ledger := { hosted.ledger with seq := 9, mark := 3 } } : State).ledger.seq.toNat = 9 ∧ hosted.writable = true := by decide +kernel
theorem wit_Fn_test : testTarget 7 3 = true ∧ hosted.admits (hdrT 3) 0x70 true ∧ hosted.isRetired (testNode 7 3) 7 = false ∧
    (hosted.tests.find (testNode 7 3) 7).isSome = false ∧ hosted.tests.running.any (·.requested) = false ∧ hosted.testRefusal 7 3 = none ∧
    hosted.openOf (some .A) < 16 ∧ hosted.fits (hdrT 3) 5 = true ∧ hosted.slotOfCoach .A 3 = none ∧
    resettable.slotOfCoach .A 7 = some 7 ∧ resettable.isSpare 7 = true ∧ resettable.isSpare 3 = false ∧ resettable.lowestSpare = some 7 := by
  decide +kernel
theorem wit_Fn_slots : resettable.admits (hdrT 3) 0x82 true ∧ resettable.hosts 3 = true ∧ (resettable.slotOf 3).hand = none ∧
    resettable.admits (hdrT 7) 0x83 true ∧ ({ resettable with slot := Tab.upd {} resettable.slot 7 fun x => { x with st := .split } } : State).slotOf 7 =
      { st := .split, mapped := true, mapA := 7, mapB := 7 } := by decide +kernel
/-- Source: R256: CHAL xor 0xFFFF from the same port: 0x1234 is answered by 0xEDCB; R254 accepts in LOCKED without a demand. -/
theorem test_confirm : (match exec (.sfResetConfirm (hdrT 3) [0xEDCB]) resettable with
    | .next t => (lastReply t, t.armed.isSome) | _ => (none, true)) = (some (0, 0xFFFF), false) := by decide +kernel
/-- Source: R256: a wrong CHAL voids the arm, CHECK_FAILED. -/
theorem test_confirm_wrong : (match exec (.sfResetConfirm (hdrT 3) [0x1234]) resettable with
    | .next t => (lastReply t, t.armed.isSome) | _ => (none, true)) = (some (0x0109, 0xFFFF), false) := by decide +kernel
/-- Source: R199: N defaults to 16. -/
theorem test_handover : (match exec (.pairHandover (hdrT 3) [7]) resettable with
    | .next t => (lastReply t, (t.slotOf 3).hand.map fun x => (x.target, x.n)) | _ => (none, none)) = (some (1, 0xFFFF), some (7, 16)) := by
  decide +kernel

/-! Witnesses of QueueTimeAndSessionCommands. -/
/-- A stream ring of 16 entries of 64 bytes; a completion ring; a command ring of queue 6's completion ring 1. -/
theorem wit_Queue_create : hosted.admits (hdrA 6) 0x90 false ∧ (hosted.queueOf 6).live = false ∧ poolOf 6 = some .A ∧
    (let w0 : Word := BitVec.ofNat 72 (4 * 2 ^ 65); let w1 : Word := BitVec.ofNat 72 (2 ^ 57)
     fld w0 71 70 = 0 ∧ fld w0 69 65 = 4 ∧ fld w1 71 57 = 1 ∧ (hosted.queueOf 1).live = true ∧ (hosted.queueOf 1).type = 1 ∧ fld w1 56 46 = 0) ∧
    fld (BitVec.ofNat 72 (3 * 2 ^ 70) : Word) 71 70 = 3 ∧ fld (1 : Word) 10 0 ≠ 0 ∧ poolOf 5000 ≠ some .A := by decide +kernel
theorem wit_Queue_delete : hosted.admits (hdrA 5) 0x91 false ∧ (hosted.queueOf 5).live = true ∧ (hosted.queueOf 5).type = 2 ∧
    Tab.wf {} hosted.queue = true ∧ (hdrA 5).queue.val ≠ 5 ∧ ¬ 2 ≤ 1 % 4096 := by decide +kernel
theorem wit_Queue_bind : hosted.admits (hdrA 8194) 0x92 false ∧ bindable 8194 = true ∧ hosted.splitOwned 8194 = false ∧ (hosted.queueOf 8194).bind = none ∧
    poolOf 5 = some .A ∧ (hosted.queueOf 5).live = true ∧ poolOf 4097 ≠ some .A ∧ bindable 8195 = false ∧
    (hosted.queueOf 8192).bind = some 5 ∧ poolOf 5 ≠ some .B := by decide +kernel
theorem wit_Queue_service : (let s := { hosted with svc := { hosted.svc with cable := true, session := some ⟨9, 3, 32, 0⟩ } }
    s.admits (hdrS 6) 0x90 false ∧ s.portAnswers none = true ∧ (s.portOf .A).fetchB + pktFld shortPkt 2 2 ≤ s.budget.1 ∧
    s.fetchedN .A + 1 ≤ s.budget.2) := by decide +kernel
theorem wit_Session_key : hosted.admits (hdrT 3) 0xA2 true ∧ hosted.portRole (some .A) 0 = true ∧ (activatable .running 0).portRole (some .A) 0 = true ∧
    ({ hosted with port := hosted.port.set { hosted.portOf .A with session := none } .A } : State).portRole (some .A) 0 = false := by decide +kernel
theorem wit_Session_time : hosted.admits (hdrT 0xFFFF) 0xC1 true ∧ (hosted.netOf .A).locked = false ∧ (hosted.netOf .B).locked = false ∧
    ({ hosted with net := hosted.net.set { hosted.netOf .B with locked := true } .B } : State).netOf .B = { hosted.netOf .B with locked := true } := by
  decide +kernel
theorem wit_Session_challenge : hosted.admits (hdrA 0xFFFF) 0xF0 false := by decide +kernel
theorem wit_Session_close : hosted.admits (hdrA 0xFFFF) 0xF2 false := by decide +kernel
theorem wit_Session_open : hosted.admits (hdrA 0xFFFF) 0xF1 false ∧ [(3 : Slot16), 1, 1, 1, 1, 1, 1].length = 7 ∧ pv [(3 : Slot16), 1, 1, 1, 1, 1, 1] 0 < 2 ^ 32 := by decide +kernel
theorem wit_Session_refused : (hosted.svcCred (hdrA 0xFFFF) [(3 : Slot16), 1, 1, 1, 1, 1, 1]).isNone = true := by decide +kernel
/-- An owner credential of identity 3 under which any signature that the opaque verification accepts opens a session. -/
def credited : State := { hosted with
  pkg := { hosted.pkg with creds := [⟨3, 1, 0, 9, []⟩] }
  time := { hosted.time with valid := true }
  port := hosted.port.set { hosted.portOf .A with nonce := some (5, 0), session := none } .A }
theorem wit_Session_cred (hv : Config.ecdsaP384Verify [] (credited.svcMessage (some .A) 5 3)
      (([(1 : Slot16), 1, 1, 1, 1, 1].map fun (v : Slot16) => leBytes 16 v.toNat).flatten) = true) :
    credited.svcCred (hdrA 0xFFFF) [(3 : Slot16), 1, 1, 1, 1, 1, 1] = some ⟨3, 1, 0, 9, []⟩ := by
  have h1 : credited.creds = [⟨3, 1, 0, 9, []⟩] := by decide +kernel
  have h2 : credited.nonceOf (hdrA 0xFFFF).port = some (5, 0) := by decide +kernel
  have h3 : pv [(3 : Slot16), 1, 1, 1, 1, 1, 1] 0 = 3 := by decide +kernel
  unfold State.svcCred
  rw [h1, h2]
  have hp : (hdrA 0xFFFF).port = some .A := rfl
  simp only [List.find?_cons, h3, hp, List.drop_succ_cons, List.drop_zero, hv]
  decide +kernel
theorem wit_Session_cable : hosted.svc.cable = false ∧ ({ hosted with svc := { hosted.svc with cable := true } } : State).svc.cable = true ∧
    hosted.dev.st ≠ .dormant ∧ ¬ hosted.dev.st = .service := by decide +kernel
/-- Source: R427: IDCODE reads 0x192 in [27:12] and 1 in [11:0]; EXTEST at level 0 acts as BYPASS. -/
theorem test_tap : (match exec (.tapInstruction .idcode) hosted, exec (.tapInstruction .extest) hosted with
    | .next t, .next u => (t.svc.tapOut, u.svc.tap) | _, _ => (0, .scan)) = (0x00192001, .bypass) := by decide +kernel
/-- Source: R338, R354: an admin ring is STATE_CONFLICT; a ring of 2^3 entries OUT_OF_RANGE. -/
theorem test_create : ((match exec (.qCreate (hdrA 1) [BitVec.ofNat 128 (2 ^ 70 + 4 * 2 ^ 65), 0]) hosted with | .next t => lastReply t | _ => none),
    (match exec (.qCreate (hdrA 6) [BitVec.ofNat 128 (2 ^ 70 + 3 * 2 ^ 65), 0]) hosted with | .next t => lastReply t | _ => none)) =
    (some (0x0107, 0xFFFF), some (0x0103, 32)) := by decide +kernel

/-! Witnesses of JournalMramAndWindows. -/
/-- An event in side A's open page; a device with it. -/
def anEvent : Event := ⟨0, 0x0904, ⟨0x18, 0⟩, 1, 2⟩
def journalling : State := ({ State.reset with
  ec := { State.reset.ec with present := true, healthy := true }, clock := { State.reset.clock with count := 200000 } } : State).updJournal .A
  fun j => { j with opened := some (7, 9, 0, false), recs := [anEvent], seq := BitVec.allOnes 40, next := 72589, wrote := [1] }
theorem wit_Journal_open : journalling.writable = true ∧ journalling.power.pfail = false ∧ (journalling.journal.get .A).waiting = [] ∧
    (journalling.journal.get .A).opened = some (7, 9, 0, false) ∧ 9 + 100000000 ≤ journalling.pns ∧ State.reset.pns < 1000 ∧ ¬ State.reset.journal.a.opened ≠ none := by decide +kernel
/-- The page of the witness. -/
def journalWords : List Word := [BitVec.ofNat 72 (2 ^ 68 + 2 ^ 63 + 7), 9, 0, anEvent.word1] ++ List.replicate 59 0
theorem wit_Journal_words : journalWords.length = 63 ∧ fld (journalWords.getD 0 0) 71 68 = 1 ∧ fld (journalWords.getD 0 0) 67 63 = 1 ∧
    fld (journalWords.getD 0 0) 61 61 = 0 ∧ fld (journalWords.getD 0 0) 55 32 = journalling.time.bootSeq.toNat ∧
    fld (journalWords.getD 0 0) 31 0 = 7 ∧ (journalWords.getD 0 0).getLsbD 62 = false ∧ journalWords.getD 1 0 = 9 := by decide +kernel
theorem wit_Journal_waiting : (journalling.updJournal .A fun j => { j with waiting := [[1, 2]], dropped := [(0x0904, 3)] }).journal.a.waiting = [1, 2] :: [] ∧
    ({ journalling with power := { journalling.power with pfail := true } } : State).power.pfail = true := by decide +kernel
/-- The last word of a region, and the first byte left over after it; the second word of the record area. -/
theorem wit_Mram : journalling.writable = true ∧ mramHolds (33554430 - 9) = true ∧ mramHolds 33554430 = false ∧ mramHolds (0x05000000 + 9) = true ∧
    mramHolds (0x07800000 + 8388000 - 9) = true ∧ mramHolds (0x07800000 + 8388000) = false := by decide +kernel
/-- A window at a terminal's node that has folded one code, and one whose condition lasts. -/
def windowed (ended : Option Nat) : State := { State.reset with
  clock := { State.reset.clock with frame := 8 }
  dev := { State.reset.dev with loaded := true }
  pkg := { State.reset.pkg with words := [(Pkg.key cEVCFG 0 0, BitVec.ofNat 72 (8 * 2 ^ 64))] }
  windows := [⟨⟨0x05, 3⟩, 0x0103, [], ended, 0, [(0x0201, 4)], 2, []⟩] }
theorem wit_Window : (∃ w ∈ (windowed (some 0)).windows, w.node = ⟨0x05, 3⟩ ∧ w.ended = some 0 ∧ 0 + fld ((windowed none).cw cEVCFG 0 0) 71 64 ≤ 8) ∧
    (∃ w ∈ (windowed none).windows, w.opened < 8 ∧ (8 - w.opened) % fld ((windowed none).cw cEVCFG 0 0) 71 64 = 0) ∧
    ∀ w ∈ (windowed none).windows, w.node = ⟨0x05, 3⟩ → w.ended = none := by decide +kernel
/-- Source: R384 (word 2 of the record area is the retire map's first word), R373. -/
theorem test_mram_retire : (match exec (.mramWordWrite .A (0x05000000 + 18) 5) journalling with
    | .next t => some (t.recRead .A 2, t.retireMap .A) | _ => none) = some (5, 5) := by decide +kernel
/-- Source: R380: one SUMMARY per code, the rest under 0x0B02. -/
theorem test_window_close : (match exec (.collapseWindowClose 0x05 3) (windowed (some 0)) with
    | .next t => some (t.windows.length, t.log.map fun e => (e.code, e.sev, e.detail)) | _ => none) = some (0, [(0x0201, 7, 4), (0x0B02, 7, 2)]) := by decide +kernel

/-! Witnesses of StepKeepsMemoryForm. -/
/-- A state with listed words in each memory. -/
def memWf_state : State := { State.reset with mem := ⟨{ frame := [(3, 7), (9, 1)], device := [(0, 2)], mram := [(0x05000000, 5)] }, {}⟩ }
/-- One out of order, and one that lists what an unlisted word reads as. -/
theorem test_memWf_refuses : ({ State.reset with mem := ⟨{ frame := [(9, 1), (3, 7)] }, {}⟩ } : State).memWf = false ∧
    ({ State.reset with mem := ⟨{}, { mram := [(9, 0)] }⟩ } : State).memWf = false := by decide +kernel
theorem wit_Memory_form : memWf_state.memWf = true ∧ memWf_state ≠ State.reset := by decide +kernel

end Sys2Proof.Tests
end

/-! SUPPORT and PROOFS of the family 00_scope: the state at reset (O60), power lost and power good (O5), the host ports'
registers (O50). -/

namespace Sys2Proof.Machine

/-! ### The state at reset (R7) -/

/-- An unlisted element of every numbered group stands at its reset value. -/
@[simp] theorem State.cw_reset (cls idx w : Nat) : State.reset.cw cls idx w = 0 := rfl
@[simp] theorem State.outTerms_reset : State.reset.outTerms = [] := rfl
@[simp] theorem State.fstOf_reset (d : Side) : State.reset.fstOf d = {} := by cases d <;> rfl
@[simp] theorem State.portOf_reset (d : Side) : State.reset.portOf d = {} := by cases d <;> rfl

@[simp] theorem State.connOf_reset (c : Nat) : State.reset.connOf c = {} := rfl
/-- Every connection is OFF with epoch and sequence 0, so LSTAT reads zero (R322). -/
theorem State.lstat_reset (c : Nat) : State.reset.lstat c = 0 := by
  unfold State.lstat
  rw [State.connOf_reset]
  decide

/-- Without an output terminal no gate can be unsafe. -/
theorem State.gatesSafe_of_outTerms_nil {s : State} (h : s.outTerms = []) : s.gatesSafe := by
  intro t ht
  rw [h] at ht
  exact absurd ht List.not_mem_nil

/-- Settles O60: the reset state is the default of every field, so each listed field reads its Reset value. -/
theorem resetState : Obligations.ResetState := by
  unfold Obligations.ResetState
  refine ⟨rfl, rfl, rfl, rfl, rfl, rfl, rfl, State.cw_reset, ?frameSt, ?term, ?slot, ?fn, ?lstat, rfl, rfl, rfl, rfl, ?port,
    ?coach, rfl, rfl, rfl, rfl, rfl, rfl, rfl, rfl, ?otp, rfl, rfl, ?gates⟩
  case frameSt => intro d; rw [State.fstOf_reset]; exact ⟨rfl, rfl, rfl, rfl, rfl⟩
  case term => exact fun t => ⟨rfl, rfl, rfl⟩
  case slot => exact fun p => ⟨rfl, rfl, rfl, rfl⟩
  case fn => exact fun f => ⟨rfl, rfl, rfl, rfl, rfl, rfl, rfl, rfl⟩
  case lstat => exact State.lstat_reset
  case port => intro d; rw [State.portOf_reset]; exact ⟨rfl, rfl, rfl, rfl, rfl, rfl, rfl⟩
  case coach => exact fun i => ⟨rfl, rfl, rfl, rfl, rfl⟩
  case otp => intro d; cases d <;> exact ⟨rfl, rfl⟩
  case gates => exact State.gatesSafe_of_outTerms_nil State.outTerms_reset

/-! ### Writes that leave the retire maps -/

/-- A record-area word reads as before after a write of another one. -/
theorem State.recRead_recWrite_other (s : State) (d e : Side) (w : Word) {j k : Nat} (h : j ≠ k) :
    (s.recWrite e k w).recRead d j = s.recRead d j := by
  have ha : recAddr j ≠ recAddr k := by simp only [recAddr]; omega
  unfold State.recWrite State.recRead
  by_cases hw : s.writable = true
  · rw [State.mram_mramWrite s e d _ _ w hw, if_neg fun hc => ha hc.2]
  · rw [State.mramWrite, if_neg hw]

/-- t is s but for words of MRAM, none of them of a retire map. -/
def State.keepsRetire (s t : State) : Prop := t = { s with mem := t.mem } ∧ ∀ d, t.retireMap d = s.retireMap d

theorem State.keepsRetire.refl (s : State) : s.keepsRetire s := ⟨rfl, fun _ => rfl⟩

theorem State.keepsRetire.trans {s t u : State} (h : s.keepsRetire t) (g : t.keepsRetire u) : s.keepsRetire u := by
  obtain ⟨ht, hr⟩ := h
  obtain ⟨hu, gr⟩ := g
  refine ⟨?_, fun d => (gr d).trans (hr d)⟩
  rw [ht] at hu
  exact hu

/-- Words 2–9 of the record area hold the retire map (R395); a write of another word leaves it. -/
theorem State.keepsRetire_recWrite (s : State) (e : Side) (k : Nat) (w : Word) (hk : k < 2 ∨ 10 ≤ k) :
    s.keepsRetire (s.recWrite e k w) := by
  have hs : s.recWrite e k w = { s with mem := (s.recWrite e k w).mem } := by
    unfold State.recWrite State.mramWrite
    split <;> rfl
  refine ⟨hs, fun d => ?_⟩
  have hm : (s.recWrite e k w).mramRetire d = s.mramRetire d := by
    unfold State.mramRetire
    congr 2
    refine List.map_congr_left fun j hj => ?_
    have hj' : 2 + j ≠ k := by have := List.mem_range.mp hj; omega
    rw [State.recRead_recWrite_other s d e w hj']
  have ho : (s.recWrite e k w).otpRetire d = s.otpRetire d := by rw [hs]; rfl
  rw [State.retireMap, hm, ho]
  rfl

/-- Transient stamps stand behind the retire map (R395). -/
theorem stampAt_ge (n : Node) (cls : Nat) : ∀ e ∈ stampAt n cls, 10 ≤ e.2 := by
  unfold stampAt
  split
  case h_4 =>
    have h : 542 ≤ if cls = tcConv then 734 else 542 := by split <;> decide
    simp only [List.mem_singleton, forall_eq]
    omega
  case h_6 => split <;> simp <;> omega
  all_goals simp <;> omega

/-- Storing the stamps of a block leaves the retire maps. -/
theorem State.keepsRetire_storeStamps (s : State) (k : Nat) (e : Side × Nat) (l : List (BitVec 36)) (he : 10 ≤ e.2) :
    s.keepsRetire (s.storeStamps k e l) :=
  forEach_inv s.keepsRetire _ (fun x j hx => hx.trans (x.keepsRetire_recWrite e.1 (e.2 + j) _ (.inr (by omega)))) s _
    (.refl s)

/-- A new stamp of a block leaves the retire maps. -/
theorem State.keepsRetire_pushStamp (s : State) (n : Node) (cls : Nat) (st : BitVec 36) :
    s.keepsRetire (s.pushStamp n cls st) :=
  List.foldlRecOn (stampAt n cls) _ (State.keepsRetire.refl s) fun x hx e he =>
    hx.trans (x.keepsRetire_storeStamps _ e _ (stampAt_ge n cls e he))

/-- The stamps taken without valid time become stamps in MRAM; the retire maps stay (R396). -/
theorem State.keepsRetire_rewriteStamps (s : State) :
    ({ s with tests := { s.tests with trans0 := [] } } : State).keepsRetire s.rewriteStamps :=
  foldl_inv _ _ (fun _ _ hx => foldl_inv _ _ (fun _ _ hy => hy.trans (State.keepsRetire_pushStamp _ _ _ _)) _ _ hx) _ _ (.refl _)

/-! ### Power lost and power good (R398, R403, R436) -/

/-- RTC_STATE gives device time when it checks with TVAL = 1 (R397, R398). -/
def Time.rtcValid (x : Time) : Prop := rtcOk x.rtc = true ∧ bit x.rtc 16 = true

/-- Reading RTC_STATE changes device time, the stamps, MRAM and what an event changes, and nothing else. -/
theorem State.readRtc_frame (s : State) :
    s.readRtc = { s.takeEvents s.readRtc with
      time := { s.time with valid := s.readRtc.time.valid, tsrc := s.readRtc.time.tsrc, tai := s.readRtc.time.tai }
      tests := s.readRtc.tests, mem := s.readRtc.mem } := by
  unfold State.readRtc
  dsimp only
  split
  · rw [(State.keepsRetire_rewriteStamps _).1]; rfl
  · rfl

/-- Reading RTC_STATE leaves the retire maps. -/
theorem State.readRtc_retireMap (s : State) (d : Side) : s.readRtc.retireMap d = s.retireMap d := by
  unfold State.readRtc
  dsimp only
  split
  · exact (State.keepsRetire_rewriteStamps _).2 d
  · rfl

/-- Device time is valid after the read exactly when RTC_STATE gives it. -/
theorem State.readRtc_valid (s : State) : s.readRtc.time.valid = true ↔ s.time.rtcValid := by
  unfold State.readRtc Time.rtcValid
  dsimp only
  split
  · next h => rw [(State.keepsRetire_rewriteStamps _).1]; exact iff_of_true rfl h
  · next h => exact iff_of_false Bool.false_ne_true h

/-- Volatile state is lost, the retire maps are not (R373, R384, R409). -/
theorem State.volatileLost_retireMap (s : State) (d : Side) : s.volatileLost.retireMap d = s.retireMap d := by
  cases d <;> rfl

/-- Volatile state at reset, the next BOOT_SEQ in force, links and registered stop words as they were (R331, R358, R398). -/
def State.restarted (s : State) : State := { s.volatileLost with
  time := { s.volatileLost.time with bootSeq := s.time.bootSeq + 1 }
  port := ⟨s.port.a.link_, s.port.b.link_⟩
  half := ⟨s.half.a.rung, s.half.b.rung⟩ }

/-- The record word of BOOT_SEQ n (R398). -/
def bootWord (n : BitVec 24) : Word := BitVec.ofNat 72 (at_ n.toNat 48)

/-- BOOT_SEQ in word 0 of both record areas. -/
def State.bootWritten (s : State) (w : Word) : State := (s.recWrite .A 0 w).recWrite .B 0 w

/-- Entry to PROVING: the restart, BOOT_SEQ in MRAM, then the read of RTC_STATE. -/
theorem State.enterProving_eq (s : State) : s.enterProving = (s.restarted.bootWritten (bootWord (s.time.bootSeq + 1))).readRtc := rfl

theorem State.keepsRetire_bootWritten (s : State) (w : Word) : s.keepsRetire (s.bootWritten w) :=
  (s.keepsRetire_recWrite .A 0 w (.inl Nat.zero_lt_two)).trans (State.keepsRetire_recWrite _ .B 0 w (.inl Nat.zero_lt_two))

/-- Entry to PROVING leaves the restarted device, but for device time, the stamps and an event. -/
theorem State.enterProving_frame (s : State) :
    s.enterProving = { s.restarted.takeEvents s.enterProving with
      time := { s.restarted.time with
        valid := s.enterProving.time.valid, tsrc := s.enterProving.time.tsrc, tai := s.enterProving.time.tai }
      tests := s.enterProving.tests, mem := s.enterProving.mem } := by
  rw [State.enterProving_eq]
  have h := State.readRtc_frame (s.restarted.bootWritten (bootWord (s.time.bootSeq + 1)))
  rw [(State.keepsRetire_bootWritten _ _).1] at h ⊢
  exact h

theorem State.enterProving_retireMap (s : State) (d : Side) : s.enterProving.retireMap d = s.retireMap d := calc
  s.enterProving.retireMap d = (s.restarted.bootWritten (bootWord (s.time.bootSeq + 1))).retireMap d := State.readRtc_retireMap _ d
  _ = s.restarted.retireMap d := (State.keepsRetire_bootWritten _ _).2 d
  _ = s.retireMap d := s.volatileLost_retireMap d

theorem State.enterProving_valid (s : State) : s.enterProving.time.valid = true ↔ s.time.rtcValid := by
  rw [State.enterProving_eq, State.readRtc_valid, (State.keepsRetire_bootWritten _ _).1]
  rfl

/-- Settles O5: RAILS_FALL loses the volatile state, LOGIC_POWER_GOOD restarts a dormant device, each as its frame lemma says. -/
theorem powerLossAndReturn : Obligations.PowerLossAndReturn := by
  unfold Obligations.PowerLossAndReturn
  refine ⟨fun s => ?fall, fun s hs => ?good, fun s hs => ?other⟩
  case fall =>
    exact ⟨_, rfl, rfl, rfl, rfl, rfl, rfl, rfl, rfl, rfl, rfl, rfl, rfl, rfl, rfl, rfl, rfl, s.volatileLost_retireMap,
      fun d => by cases d <;> rfl, rfl, rfl, rfl⟩
  case good =>
    have hx : exec .logicPowerGood s = .next s.enterProving := by
      show execLogicPowerGood s = _
      rw [execLogicPowerGood, hs, done_eq]
    have h := s.enterProving_frame
    refine ⟨s.enterProving, hx, ?_, ?_, ?_, ?_, ?_, ?_, ?_, ?_, ?_, ?_, ?_, ?_, ?_, ?_, s.enterProving_retireMap, fun d => ?halves,
      s.enterProving_valid⟩
    all_goals rw [h]
    case halves => cases d <;> exact ⟨rfl, rfl⟩
    all_goals rfl
  case other =>
    show execLogicPowerGood s = _
    unfold execLogicPowerGood
    split
    · next h => exact absurd h hs
    · rfl

/-! ### Bits and fields (R4) -/

/-- A bit as the parity of a quotient. -/
theorem bit_eq_decide {n : Nat} (w : BitVec n) (i : Nat) : bit w i = decide (w.toNat / 2 ^ i % 2 = 1) := by
  rw [bit, ← BitVec.testBit_toNat, Nat.testBit_eq_decide_div_mod_eq]

theorem fld_lt {n : Nat} (w : BitVec n) (hi lo : Nat) : fld w hi lo < 2 ^ (hi + 1 - lo) := Nat.mod_lt _ (Nat.two_pow_pos _)

/-- Every bit of a field that reads zero is clear. -/
theorem bit_of_fld_eq_zero {n : Nat} {w : BitVec n} {hi lo i : Nat} (h : fld w hi lo = 0) (h1 : lo ≤ i) (h2 : i ≤ hi) :
    bit w i = false := by
  have ht : (fld w hi lo).testBit (i - lo) = bit w i := by
    rw [fld, Nat.testBit_mod_two_pow, Nat.testBit_div_two_pow, bit, ← BitVec.testBit_toNat, Nat.sub_add_cancel h1]
    simp only [Bool.and_eq_right_iff_imp, decide_eq_true_eq]
    omega
  rw [← ht, h, Nat.zero_testBit]

/-- Replacing a field that reads zero by zero changes nothing. -/
theorem putFld_zero {n : Nat} {w : BitVec n} {hi lo : Nat} (h : fld w hi lo = 0) : putFld w hi lo 0 = w := by
  simp [putFld, h]

theorem b2n_le_one (b : Bool) : b2n b ≤ 1 := by cases b <;> decide

/-- A number with bit i replaced: what lies above it, the new bit, what lies below it. -/
def spliceBit (m i : Nat) (b : Bool) : Nat := 2 ^ i * (2 * (m / 2 ^ i / 2) + b2n b) + m % 2 ^ i

theorem setBit_eq {n : Nat} (w : BitVec n) (i : Nat) (b : Bool) : setBit w i b = BitVec.ofNat n (spliceBit w.toNat i b) := by
  have hb : b2n b % 2 = b2n b := by cases b <;> rfl
  have hm : w.toNat = 2 ^ i * (w.toNat / 2 ^ i) + w.toNat % 2 ^ i := (Nat.div_add_mod _ _).symm
  have hc : 2 ^ i * (w.toNat / 2 ^ i) = 2 ^ i * (2 * (w.toNat / 2 ^ i / 2)) + w.toNat / 2 ^ i % 2 * 2 ^ i := by
    rw [Nat.mul_comm (_ % 2), ← Nat.mul_add, Nat.div_add_mod]
  rw [setBit, putFld, fld, Nat.add_sub_cancel_left, Nat.pow_one, hb, spliceBit, Nat.mul_add, Nat.mul_comm _ (b2n b)]
  congr 1
  omega

theorem testBit_spliceBit (m i j : Nat) (b : Bool) : (spliceBit m i b).testBit j = if j = i then b else m.testBit j := by
  have hr : m % 2 ^ i < 2 ^ i := Nat.mod_lt _ (Nat.two_pow_pos i)
  rw [spliceBit, Nat.testBit_two_pow_mul_add _ hr]
  rcases Nat.lt_trichotomy j i with h | rfl | h
  · simp [h, Nat.ne_of_lt h]
  · cases b <;> simp [b2n]
  · obtain ⟨k, rfl⟩ : ∃ k, j = k + 1 + i := ⟨j - i - 1, by omega⟩
    have hd : (2 * (m / 2 ^ i / 2) + b2n b) / 2 = m / 2 ^ i / 2 := by have := b2n_le_one b; omega
    have hi : ¬ k + 1 + i < i := by omega
    have hj : k + 1 + i ≠ i := by omega
    rw [if_neg hi, if_neg hj, Nat.add_sub_cancel, Nat.testBit_succ, hd, ← Nat.testBit_succ, Nat.testBit_div_two_pow]

/-- A bit after a bit has been set. -/
theorem bit_setBit {n : Nat} (w : BitVec n) (i j : Nat) (b : Bool) :
    bit (setBit w i b) j = if j = i ∧ i < n then b else bit w j := by
  rw [setBit_eq, bit, BitVec.getLsbD_ofNat, testBit_spliceBit, bit, ← BitVec.testBit_toNat]
  by_cases hn : j < n
  · by_cases hj : j = i
    · subst hj; simp [hn]
    · simp [hn, hj]
  · have hz : w.toNat.testBit j = false := by
      rw [BitVec.testBit_toNat]; exact BitVec.getLsbD_of_ge w j (Nat.not_lt.mp hn)
    have hi : ¬ (j = i ∧ i < n) := fun h => hn (h.1 ▸ h.2)
    simp [hn, hi, hz]

/-! ### Ports, queues and frame status after an update -/

@[simp] theorem side_other_ne (d : Side) : d.other ≠ d := by cases d <;> decide

@[simp] theorem State.portOf_updPort_self (s : State) (p : Side) (f : Port → Port) : (s.updPort p f).portOf p = f (s.portOf p) := by
  rw [State.portOf_updPort, if_pos rfl]

@[simp] theorem State.portOf_updPort_other (s : State) (p : Side) (f : Port → Port) :
    (s.updPort p f).portOf p.other = s.portOf p.other := by rw [State.portOf_updPort, if_neg (side_other_ne p)]

/-- Two changes of a port are one. -/
theorem State.updPort_updPort (s : State) (p : Side) (f g : Port → Port) :
    (s.updPort p f).updPort p g = s.updPort p fun x => g (f x) := by cases p <;> rfl

/-- A port that is left as it is leaves the state. -/
theorem State.updPort_id (s : State) (p : Side) : (s.updPort p fun x => x) = s := by cases p <;> rfl

/-- A port with a counted access (R8, R334). -/
def Port.counted (x : Port) : Port := { x with cnt := satInc x.cnt }

theorem State.ignored_eq (s : State) (p : Side) : s.ignored p = s.updPort p Port.counted := rfl

/-- A port after a write whose reserved fields hold v. -/
def Port.rsv (x : Port) (v : Nat) : Port := if v = 0 then x else x.counted

theorem State.countRsv_eq (s : State) (p : Side) (v : Nat) : s.countRsv p v = s.updPort p fun x => x.rsv v := by
  unfold State.countRsv Port.rsv
  split
  · exact (s.updPort_id p).symm
  · rfl

@[simp] theorem State.countRsv_zero (s : State) (p : Side) : s.countRsv p 0 = s := rfl

/-- The command answers a next state in which port p reads y; nothing else differs. -/
def State.portTo (s : State) (p : Side) (i : Instr) (y : Port) : Prop :=
  ∃ t, exec i s = .next t ∧ t.portOf p = y ∧ t.portOf p.other = s.portOf p.other ∧ t = { s with port := t.port }

theorem State.portTo_of {s : State} {p : Side} {i : Instr} {f : Port → Port} (h : exec i s = .next (s.updPort p f)) :
    s.portTo p i (f (s.portOf p)) :=
  ⟨_, h, s.portOf_updPort_self p f, s.portOf_updPort_other p f, rfl⟩

/-- The command answers a next state in which queue q reads y; nothing else differs. -/
def State.queueTo (s : State) (q : Nat) (i : Instr) (y : Queue) : Prop :=
  ∃ t, exec i s = .next t ∧ t.queueOf q = y ∧ (∀ j, j ≠ q → t.queueOf j = s.queueOf j) ∧ t = { s with queue := t.queue }

theorem State.queueTo_of {s : State} {q : Nat} {i : Instr} {f : Queue → Queue} (h : exec i s = .next (s.updQueue q f)) :
    s.queueTo q i (f (s.queueOf q)) :=
  ⟨_, h, by rw [State.queueOf_updQueue, if_pos rfl], fun j hj => by rw [State.queueOf_updQueue, if_neg hj], rfl⟩

/-! ### Settling -/

/-- Settling changes the output part of terminals alone. -/
theorem State.outsOnly_settle (s : State) : s.outsOnly s.settle := by
  intro k
  rw [State.termOf_settle]
  split <;> rfl

/-- A command that settles x ends in x, but for gates. -/
theorem State.ends_of_settled {s x : State} {i : Instr} (h : exec i s = settled x) : s.ends i x :=
  ⟨x.settle, h, rfl, x.outsOnly_settle⟩

/-! ### Events -/

/-- The parent of a node depends on the clock, the networks, the functions and the configuration alone (R362). -/
theorem State.parent_congr {s t : State} (hc : t.clock = s.clock) (hn : t.net = s.net) (hf : t.fn = s.fn) (hd : t.dev = s.dev)
    (hp : t.pkg = s.pkg) (n : Node) : t.parent n = s.parent n := by
  cases s
  cases t
  subst hc hn hf hd hp
  rfl

theorem State.ancestorsF_congr {s t : State} (h : ∀ n, t.parent n = s.parent n) (k : Nat) (n : Node) :
    t.ancestorsF k n = s.ancestorsF k n := by
  induction k generalizing n with
  | zero => rfl
  | succ k ih =>
    rw [State.ancestorsF, State.ancestorsF, h]
    cases s.parent n with
    | none => rfl
    | some p => exact congrArg (p :: ·) (ih p)

/-- Whether an event is folded depends on the tree and the open windows alone (R379). -/
theorem State.folds_congr {s t : State} (h : ∀ n, t.parent n = s.parent n) (hw : t.windows = s.windows) (n : Node) :
    t.folds n = s.folds n := by
  unfold State.folds State.ancestors
  rw [hw, State.ancestorsF_congr h]

/-- The report of an event posted in a state with the same time, tree and windows. -/
theorem State.reports_post {s x : State} {code sev detail : Nat} {src : Node} (ht : x.timeWord = s.timeWord)
    (hf : x.folds src = s.folds src) : s.reports (x.post code src sev detail) code src sev detail := by
  have h := x.reports_postL code src sev detail false
  unfold State.reports at h ⊢
  rwa [ht, hf] at h

/-- Posting keeps what the log holds. -/
theorem State.mem_log_post {s : State} {e : Event} (h : e ∈ s.log) (code : Nat) (src : Node) (sev detail : Nat) :
    e ∈ (s.post code src sev detail).log := List.mem_append_left _ h

/-- A report lasts while the log grows. -/
theorem State.reports_mono {s t u : State} {code sev detail : Nat} {src : Node} (h : s.reports t code src sev detail)
    (hl : ∀ e ∈ t.log, e ∈ u.log) : s.reports u code src sev detail := h.imp_right (hl _)

/-- An event that opens no window and is not folded is posted alone. -/
theorem State.posting_alone {s : State} {src : Node} {sev : Nat} (ho : opensWindow sev = false) (hf : s.folds src = false)
    (code detail : Nat) (l : Bool) :
    s.posting code src sev detail l = ⟨s.windows, [⟨s.timeWord, code, src, sev, detail % 2 ^ 28⟩], []⟩ := by
  unfold State.folds at hf
  unfold State.posting
  dsimp only
  rw [hf, ho]
  rfl

/-- It leaves the windows. -/
theorem State.post_windows {s : State} {src : Node} {sev : Nat} (ho : opensWindow sev = false) (hf : s.folds src = false)
    (code detail : Nat) : (s.post code src sev detail).windows = s.windows :=
  congrArg Posted.windows (State.posting_alone ho hf code detail false)

/-- An event that opens no window at a node without a stream leaves the queues. -/
theorem State.post_queue {s : State} {src : Node} {sev : Nat} (ho : opensWindow sev = false) (hs : src.stream = none)
    (code detail : Nat) : (s.post code src sev detail).queue = s.queue := by
  have hr (w : Window) : w.foldedRef s.timeWord code src = [] := by simp [Window.foldedRef, hs]
  simp only [State.post, State.postL, State.posting, ho, hr, Bool.false_eq_true, if_false]
  split
  · simp
  · simp [queueEvent, hs]

/-! ### Links (R331, R353, R426) -/

/-- Commands that change ports, halves, queues and the log alone leave the tree. -/
theorem State.parent_updPort (s : State) (p : Side) (f : Port → Port) (n : Node) : (s.updPort p f).parent n = s.parent n :=
  State.parent_congr rfl rfl rfl rfl rfl n

@[simp] theorem State.portOf_post (s : State) (code : Nat) (src : Node) (sev detail : Nat) (d : Side) :
    (s.post code src sev detail).portOf d = s.portOf d := rfl

/-- A port whose link has trained (R331). -/
def Port.up (gen width : Nat) (x : Port) : Port := { x with link := true, gen := gen, width := width }

/-- PORT_LINK_UP puts rate and width into its port and reports. -/
theorem portLinkUp_spec (s : State) (p : Side) (gen width : Nat) : ∃ t, exec (.portLinkUp p gen width) s = .next t ∧
    t.portOf p = (s.portOf p).up gen width ∧ t.portOf p.other = s.portOf p.other ∧
    s.reports t 0x0701 (nPort p) 0 0 ∧ t = { s.takeEvents t with port := t.port } :=
  ⟨_, rfl, s.portOf_updPort_self p (Port.up gen width), s.portOf_updPort_other p (Port.up gen width),
    State.reports_post rfl (State.folds_congr (s.parent_updPort p _) rfl _), rfl⟩

/-- Reading a table whose entries have been changed in place. -/
theorem Tab.get_map {α : Type} (d : α) (f : Nat × α → Nat × α) (hk : ∀ e, (f e).1 = e.1) (hd : ∀ k, (f (k, d)).2 = d)
    (t : Tab α) (k : Nat) : Tab.get d (t.map f) k = (f (k, Tab.get d t k)).2 := by
  induction t with
  | nil => exact (hd k).symm
  | cons e r ih =>
    obtain ⟨j, x⟩ := e
    have hj : f (j, x) = (j, (f (j, x)).2) := Prod.ext (hk (j, x)) rfl
    rw [List.map_cons, hj, Tab.get, Tab.get, ih]
    by_cases h : k = j
    · subst h; simp
    · simp [h]

/-- A command ring of the pool of port p. -/
def State.commandRing (s : State) (p : Side) (q : Nat) : Prop :=
  poolOf q = some p ∧ (s.queueOf q).live = true ∧ (s.queueOf q).type = 0

/-- The command rings of the port lose their unfetched entries, no other queue changes (R353). -/
theorem State.queueOf_discardRings (s : State) (p : Side) (q : Nat) :
    (s.commandRing p q → (s.discardRings p).queueOf q = { s.queueOf q with cons := (s.queueOf q).prod }) ∧
    (¬ s.commandRing p q → (s.discardRings p).queueOf q = s.queueOf q) := by
  have h := Tab.get_map ({} : Queue) (fun (e : Nat × Queue) =>
    if poolOf e.1 = some p ∧ e.2.live ∧ e.2.type = 0 then (e.1, { e.2 with cons := e.2.prod }) else e)
    (fun e => by dsimp only; split <;> rfl) (fun k => by simp) s.queue q
  constructor
  · intro hc
    exact h.trans (congrArg Prod.snd (if_pos hc))
  · intro hc
    exact h.trans (congrArg Prod.snd (if_neg hc))

/-- A port whose session has ended (R426). -/
def Port.sessionless (x : Port) : Port := { x with session := none }

/-- What the end of a port's session leaves: the port without a session, no other port, queue or open window changed, and its
event. -/
structure State.SessionEnded (s : State) (p : Side) (x : State) : Prop where
  frame : x = { s.takeEvents x with port := x.port }
  port : x.portOf p = (s.portOf p).sessionless
  other : x.portOf p.other = s.portOf p.other
  queue : x.queue = s.queue
  windows : s.folds (nPort p) = false → x.windows = s.windows
  reports : ∀ y, (s.portOf p).session = some y → s.reports x 0x0705 (nPort p) 0 (y.id.toNat % 2 ^ 28)

theorem State.sessionEnd_none {s : State} {p : Side} (h : (s.portOf p).session = none) : s.sessionEnd (some p) = s := by
  rw [State.sessionEnd, State.sessionOf, h]

theorem State.sessionEnd_some {s : State} {p : Side} {y : Session} (h : (s.portOf p).session = some y) :
    s.sessionEnd (some p) = (s.updPort p Port.sessionless).post 0x0705 (nPort p) 0 (y.id.toNat % 2 ^ 28) := by
  rw [State.sessionEnd, State.sessionOf, h]
  rfl

theorem State.sessionEnded (s : State) (p : Side) : s.SessionEnded p (s.sessionEnd (some p)) := by
  cases hx : (s.portOf p).session with
  | none =>
    rw [State.sessionEnd_none hx]
    have hp : s.portOf p = (s.portOf p).sessionless := by rw [Port.sessionless, ← hx]
    exact ⟨rfl, hp, rfl, rfl, fun _ => rfl, fun y hy => absurd (hx.symm.trans hy) (by simp)⟩
  | some y =>
    rw [State.sessionEnd_some hx]
    have hf := State.folds_congr (s.parent_updPort p Port.sessionless) rfl (nPort p)
    refine ⟨rfl, by simp, by simp, State.post_queue rfl rfl _ _, fun h => State.post_windows rfl (hf.trans h) _ _, fun z hz => ?_⟩
    obtain rfl := Option.some.inj (hx.symm.trans hz)
    exact State.reports_post rfl hf

/-- What a port becomes when its link goes down (R353). -/
def Port.down (x : Port) : Port :=
  { x with link := false, resetPend := true, dropped := x.dropped + x.replies.length, replies := [], session := none }

/-- PORT_LINK_DOWN ends the session, drops replies and command entries of its port, and reports. -/
theorem portLinkDown_spec (s : State) (p : Side) : ∃ t, exec (.portLinkDown p) s = .next t ∧
    s.reports t 0x0701 (nPort p) 1 0 ∧
    (∀ y, (s.portOf p).session = some y → s.reports t 0x0705 (nPort p) 0 (y.id.toNat % 2 ^ 28)) ∧
    t.portOf p = (s.portOf p).down ∧ t.portOf p.other = s.portOf p.other ∧
    (∀ q, (s.commandRing p q → (t.queueOf q).cons = (s.queueOf q).prod) ∧
      (¬ s.commandRing p q → (t.queueOf q).cons = (s.queueOf q).cons) ∧
      t.queueOf q = { s.queueOf q with cons := (t.queueOf q).cons, words := (t.queueOf q).words }) ∧
    t = { s.takeEvents t with port := t.port } := by
  obtain ⟨hframe, hport, hother, hqueue, hwindows, hreports⟩ := s.sessionEnded p
  generalize hx : s.sessionEnd (some p) = x at *
  have hexec : exec (.portLinkDown p) s = .next (((x.discardRings p).updPort p Port.down).post 0x0701 (nPort p) 1 0) := by
    rw [← hx]; rfl
  have hq (q : Nat) : (((x.discardRings p).updPort p Port.down).post 0x0701 (nPort p) 1 0).queueOf q =
      (s.discardRings p).queueOf q := by
    rw [State.queueOf, State.post_queue rfl rfl, State.updPort_queue, State.discardRings, hqueue]; rfl
  refine ⟨_, hexec, ?_, fun y hy => ?_, ?_, ?_, fun q => ?_, ?_⟩
  · by_cases hf : s.folds (nPort p) = true
    · exact .inl hf
    · have hw := hwindows (Bool.eq_false_iff.mpr hf)
      have htree (n : Node) : ((x.discardRings p).updPort p Port.down).parent n = s.parent n :=
        State.parent_congr (congrArg State.clock hframe) (congrArg State.net hframe) (congrArg State.fn hframe)
          (congrArg State.dev hframe) (congrArg State.pkg hframe) n
      refine State.reports_post ?_ (State.folds_congr htree hw _)
      rw [hframe]; rfl
  · exact State.reports_mono (hreports y hy) fun e he =>
      State.mem_log_post (s := (x.discardRings p).updPort p Port.down) he _ _ _ _
  · rw [State.portOf_post, State.portOf_updPort_self, show (x.discardRings p).portOf p = x.portOf p from rfl, hport]
    rfl
  · rw [State.portOf_post, State.portOf_updPort_other]
    exact hother
  · rw [hq]
    obtain ⟨hpos, hneg⟩ := s.queueOf_discardRings p q
    by_cases hc : s.commandRing p q
    · rw [hpos hc]; exact ⟨fun _ => rfl, fun h => absurd hc h, rfl⟩
    · rw [hneg hc]; exact ⟨fun h => absurd h hc, fun _ => rfl, rfl⟩
  · rw [hframe]; rfl

/-! ### Stop words (R165, R356–R358) -/

@[simp] theorem State.halfOf_updHalf_self (s : State) (d : Side) (f : Half → Half) : (s.updHalf d f).halfOf d = f (s.halfOf d) := by
  rw [State.halfOf_updHalf, if_pos rfl]

@[simp] theorem State.halfOf_updHalf_other (s : State) (d : Side) (f : Half → Half) :
    (s.updHalf d f).halfOf d.other = s.halfOf d.other := by rw [State.halfOf_updHalf, if_neg (side_other_ne d)]

/-- The DOOR signals of a list registered one after the other. -/
def Half.rings (h : Half) (port : Side) (frame : Nat) (l : List Nat) : Half :=
  l.foldl (fun (k : Half) d => k.ring port frame d) h

/-- A registered DOOR signal is on, the others are as before. -/
theorem Half.door_rings (h : Half) (port : Side) (frame : Nat) (l : List Nat) (hl : ∀ d ∈ l, d < 32) (d : Nat) :
    bit (h.rings port frame l).door d = if d ∈ l then true else bit h.door d := by
  induction l generalizing h with
  | nil => simp [Half.rings]
  | cons a r ih =>
    have ha : a < 32 := hl a List.mem_cons_self
    have hr : ∀ e ∈ r, e < 32 := fun e he => hl e (List.mem_cons_of_mem a he)
    have hring : bit (h.ring port frame a).door d = if d = a then true else bit h.door d := by
      rw [Half.ring, bit_setBit]; simp [ha]
    rw [Half.rings, List.foldl_cons, ← Half.rings, ih _ hr, hring]
    by_cases h1 : d ∈ r <;> by_cases h2 : d = a <;> simp [h1, h2]

/-- A registered DOOR signal has the frame of its registration. -/
theorem Half.doorAt_rings (h : Half) (port : Side) (frame : Nat) (l : List Nat) (d : Nat) :
    Tab.get 0 (h.rings port frame l).doorAt d = if d ∈ l then frame else Tab.get 0 h.doorAt d := by
  induction l generalizing h with
  | nil => simp [Half.rings]
  | cons a r ih =>
    have hring : Tab.get 0 (h.ring port frame a).doorAt d = if d = a then frame else Tab.get 0 h.doorAt d :=
      Tab.get_set 0 frame h.doorAt a d
    rw [Half.rings, List.foldl_cons, ← Half.rings, ih, hring]
    by_cases h1 : d ∈ r <;> by_cases h2 : d = a <;> simp [h1, h2]

/-- The DOOR signals of a group index: its own where a function uses the group, else all 32 (R165). -/
theorem State.mem_doorsOf (s : State) (g d : Nat) : d ∈ s.doorsOf g ↔
    ((∃ f ∈ s.fns, s.fGroup f = g) ∧ d = fld (s.gmap g) 71 67) ∨ ((∀ f ∈ s.fns, s.fGroup f ≠ g) ∧ d < 32) := by
  have hu : s.groupUsed g = true ↔ ∃ f ∈ s.fns, s.fGroup f = g := by simp [State.groupUsed]
  unfold State.doorsOf
  by_cases h : ∃ f ∈ s.fns, s.fGroup f = g
  · have hn : ¬ ∀ f ∈ s.fns, s.fGroup f ≠ g := fun hf => h.elim fun f hfg => hf f hfg.1 hfg.2
    rw [if_pos (hu.mpr h), List.mem_singleton]
    exact ⟨fun hd => .inl ⟨h, hd⟩, fun hd => hd.elim And.right fun c => absurd c.1 hn⟩
  · have hn : ∀ f ∈ s.fns, s.fGroup f ≠ g := fun f hf hg => h ⟨f, hf, hg⟩
    rw [if_neg (mt hu.mp h), List.mem_range]
    exact ⟨fun hd => .inr ⟨hn, hd⟩, fun hd => hd.elim (fun c => absurd c.1 h) And.right⟩

theorem State.doorsOf_lt (s : State) (g : Nat) : ∀ d ∈ s.doorsOf g, d < 32 := by
  intro d hd
  obtain ⟨-, rfl⟩ | ⟨-, h⟩ := (s.mem_doorsOf g d).mp hd
  · exact fld_lt _ 71 67
  · exact h

theorem stopOk_iff (w : BitVec 64) (size : Nat) :
    stopOk w size = true ↔ size = 8 ∧ fld w 63 48 = 0x5A0F ∧ fld w 31 0 = 2 ^ 32 - 1 - fld w 63 32 := by
  simp [stopOk, and_assoc]

/-- A port that has taken a well-formed stop word. -/
def Port.stopTaken (vc0 : Bool) (x : Port) : Port :=
  { x with taken := satInc x.taken, vc0 := if vc0 then satInc x.vc0 else x.vc0 }

/-- A port that has seen a malformed stop word. -/
def Port.stopBad (x : Port) : Port := { x with bad := satInc x.bad, badFrame := x.badFrame + 1 }

/-- What a well-formed stop word registers on its side: the port's counts and the DOOR signals of its group. -/
def State.stopRegistered (s : State) (p : Side) (g : Nat) (vc0 : Bool) : State :=
  (s.updPort p (Port.stopTaken vc0)).updHalf p fun h => h.rings p s.clock.nextCapture (s.doorsOf g)

theorem State.stopWrite_unpowered {s : State} (h : s.powered = false) (p : Side) (w : BitVec 64) (size : Nat) (vc0 : Bool) :
    s.stopWrite p w size vc0 = s := by simp [State.stopWrite, h]

theorem State.stopWrite_bad {s : State} (h : s.powered = true) {w : BitVec 64} {size : Nat} (hb : stopOk w size = false)
    (p : Side) (vc0 : Bool) : s.stopWrite p w size vc0 = s.updPort p Port.stopBad := by
  simp [State.stopWrite, h, hb]; rfl

theorem State.stopWrite_dormant {s : State} (h : s.powered = true) {w : BitVec 64} {size : Nat} (hg : stopOk w size = true)
    (hd : s.dev.st = .dormant) (p : Side) (vc0 : Bool) :
    s.stopWrite p w size vc0 = s.stopRegistered p (fld w 47 32) vc0 := by
  simp only [State.stopWrite, h, hg, hd]; rfl

theorem State.stopWrite_good {s : State} (h : s.powered = true) {w : BitVec 64} {size : Nat} (hg : stopOk w size = true)
    (hd : s.dev.st ≠ .dormant) (p : Side) (vc0 : Bool) :
    s.stopWrite p w size vc0 = (s.stopRegistered p (fld w 47 32) vc0).post 0x0702 (nPort p) 4 (fld w 47 32) := by
  simp only [State.stopWrite, h, hg]
  rfl

/-- A state with the terminals of another settles to outputs that differ from it alone. -/
theorem State.outsOnly_settle_of {s u : State} (h : u.term = s.term) : s.outsOnly u.settle := by
  have hk (k : Nat) : u.termOf k = s.termOf k := by rw [State.termOf, h]; rfl
  intro k
  rw [← hk]
  exact u.outsOnly_settle k

/-- A well-formed stop word registers its DOOR signals, and reports unless the device is dormant; then the gates follow. -/
theorem stopWord_good {s : State} (h : s.powered = true) {w : BitVec 64} {size : Nat} (hg : stopOk w size = true)
    (p : Side) (vc0 : Bool) : ∃ t, exec (.stopWord p w size vc0) s = .next t ∧
      t.portOf p = (s.portOf p).stopTaken vc0 ∧ t.portOf p.other = s.portOf p.other ∧
      t.halfOf p = (s.halfOf p).rings p s.clock.nextCapture (s.doorsOf (fld w 47 32)) ∧ t.halfOf p.other = s.halfOf p.other ∧
      (s.dev.st ≠ .dormant → s.reports t 0x0702 (nPort p) 4 (fld w 47 32)) ∧ s.outsOnly t ∧ t.gatesSafe ∧
      t = { s.takeEvents t with port := t.port, half := t.half, term := t.term } := by
  have hport := s.portOf_updPort_self p (Port.stopTaken vc0)
  have hother := s.portOf_updPort_other p (Port.stopTaken vc0)
  have hhalf := (s.updPort p (Port.stopTaken vc0)).halfOf_updHalf_self p fun h => h.rings p s.clock.nextCapture (s.doorsOf (fld w 47 32))
  have hhalf' := (s.updPort p (Port.stopTaken vc0)).halfOf_updHalf_other p fun h => h.rings p s.clock.nextCapture (s.doorsOf (fld w 47 32))
  have hexec : exec (.stopWord p w size vc0) s = .next (s.stopWrite p w size vc0).settle := rfl
  by_cases hd : s.dev.st = .dormant
  · rw [State.stopWrite_dormant h hg hd] at hexec
    exact ⟨_, hexec, hport, hother, hhalf, hhalf', fun hn => absurd hd hn, State.outsOnly_settle_of rfl, State.settle_gatesSafe _, rfl⟩
  · rw [State.stopWrite_good h hg hd] at hexec
    have hrep : s.reports ((s.stopRegistered p (fld w 47 32) vc0).post 0x0702 (nPort p) 4 (fld w 47 32)) 0x0702 (nPort p) 4 (fld w 47 32) :=
      State.reports_post rfl (State.folds_congr (fun n => State.parent_congr rfl rfl rfl rfl rfl n) rfl _)
    exact ⟨_, hexec, hport, hother, hhalf, hhalf', fun _ => hrep, State.outsOnly_settle_of rfl, State.settle_gatesSafe _, rfl⟩

/-- An unpowered device ignores a stop word; a malformed one is counted alone. -/
theorem stopWord_unpowered {s : State} (h : s.powered = false) (p : Side) (w : BitVec 64) (size : Nat) (vc0 : Bool) :
    s.ends (.stopWord p w size vc0) s :=
  State.ends_of_settled (congrArg settled (State.stopWrite_unpowered h p w size vc0))

theorem stopWord_bad {s : State} (h : s.powered = true) {w : BitVec 64} {size : Nat} (hb : stopOk w size = false) (p : Side)
    (vc0 : Bool) : s.ends (.stopWord p w size vc0) (s.updPort p Port.stopBad) :=
  State.ends_of_settled (congrArg settled (State.stopWrite_bad h hb p vc0))

/-! ### Registers of BAR0 (R6, R8, R40, R334, R352) -/

theorem State.atRegs_answers {s : State} (h : s.dev.st.answers = true) (f : State → State) : s.atRegs f = f s := if_pos h

theorem State.atRegs_silent {s : State} (h : s.dev.st.answers = false) (f : State → State) : s.atRegs f = s :=
  if_neg (by rw [h]; exact Bool.false_ne_true)

/-- In a state in which no register answers, every register row does nothing. -/
theorem registers_silent {s : State} (h : s.dev.st.answers = false) (p : Side) (w : BitVec 64) (q : QueueIx) :
    ∀ i ∈ [Instr.semReq p w, .semRel p w, .admCtlWrite p w, .queueProdWrite p q w, .queueConsWrite p q w, .frameStatRead p,
      .frameStatClear p w, .cntRead p], exec i s = .next s := by
  have hf (f : State → State) : (Host.Outcome.next (s.atRegs f) : Res) = .next s := by rw [State.atRegs_silent h]
  simp only [List.forall_mem_cons, List.not_mem_nil, false_implies, implies_true, and_true]
  exact ⟨hf _, hf _, hf _, hf _, hf _, hf _, hf _, hf _⟩

/-- A port that asks for semaphores, and one that releases them (R352). -/
def Port.asks (x : Port) (w : BitVec 64) : Port := { x with semReq := x.semReq ||| w.setWidth 16 }
def Port.releases (x : Port) (w : BitVec 64) : Port := { x with semRel := x.semRel ||| w.setWidth 16 }

theorem State.semReqWrite_eq (s : State) (p : Side) (w : BitVec 64) :
    s.semReqWrite p w = s.updPort p fun x => (x.rsv (fld w 63 16)).asks w := by
  rw [State.semReqWrite, State.countRsv_eq, State.updPort_updPort]; rfl

theorem State.semRelWrite_eq (s : State) (p : Side) (w : BitVec 64) :
    s.semRelWrite p w = s.updPort p fun x => (x.rsv (fld w 63 16)).releases w := by
  rw [State.semRelWrite, State.countRsv_eq, State.updPort_updPort]; rfl

/-- A counted access changes no semaphore bit. -/
theorem Port.rsv_semReq (x : Port) (v : Nat) : (x.rsv v).semReq = x.semReq := by unfold Port.rsv; split <;> rfl
theorem Port.rsv_semRel (x : Port) (v : Nat) : (x.rsv v).semRel = x.semRel := by unfold Port.rsv; split <;> rfl

theorem semReq_spec {s : State} (h : s.dev.st.answers = true) (p : Side) (w : BitVec 64) :
    s.portTo p (.semReq p w) { (s.portOf p).rsv (fld w 63 16) with semReq := (s.portOf p).semReq ||| w.setWidth 16 } := by
  rw [← Port.rsv_semReq (s.portOf p) (fld w 63 16)]
  exact State.portTo_of (f := fun x => (x.rsv (fld w 63 16)).asks w)
    (congrArg Host.Outcome.next ((State.atRegs_answers h _).trans (s.semReqWrite_eq p w)))

theorem semRel_spec {s : State} (h : s.dev.st.answers = true) (p : Side) (w : BitVec 64) :
    s.portTo p (.semRel p w) { (s.portOf p).rsv (fld w 63 16) with semRel := (s.portOf p).semRel ||| w.setWidth 16 } := by
  rw [← Port.rsv_semRel (s.portOf p) (fld w 63 16)]
  exact State.portTo_of (f := fun x => (x.rsv (fld w 63 16)).releases w)
    (congrArg Host.Outcome.next ((State.atRegs_answers h _).trans (s.semRelWrite_eq p w)))

theorem cntRead_spec {s : State} (h : s.dev.st.answers = true) (p : Side) :
    s.portTo p (.cntRead p) { s.portOf p with rdata := (s.portOf p).cnt, cnt := 0 } :=
  State.portTo_of (f := fun y => { y with rdata := y.cnt, cnt := 0 }) (congrArg Host.Outcome.next (State.atRegs_answers h _))

theorem vc1TlpDiscard_spec (s : State) (p : Side) (np : Bool) : s.portTo p (.vc1TlpDiscard p np)
    { (s.portOf p).counted with urCount := if np then (s.portOf p).urCount + 1 else (s.portOf p).urCount } := by
  cases np with
  | false => exact State.portTo_of (f := Port.counted) rfl
  | true =>
    exact State.portTo_of (f := fun x => { x.counted with urCount := x.counted.urCount + 1 })
      (congrArg Host.Outcome.next (s.updPort_updPort p Port.counted fun x => { x with urCount := x.urCount + 1 }))

/-! ### FRAME_STAT (R40) -/

@[simp] theorem State.fstOf_updFst_self (s : State) (d : Side) (f : FrameStat → FrameStat) : (s.updFst d f).fstOf d = f (s.fstOf d) := by
  rw [State.fstOf_updFst, if_pos rfl]

@[simp] theorem State.fstOf_updFst_other (s : State) (d : Side) (f : FrameStat → FrameStat) :
    (s.updFst d f).fstOf d.other = s.fstOf d.other := by rw [State.fstOf_updFst, if_neg (side_other_ne d)]

/-- The fields of the FRAME_STAT word. -/
theorem FrameStat.word_fields (f : FrameStat) : fld f.word 63 32 = f.frameNo.toNat ∧ fld f.word 31 16 = f.ovr.toNat ∧
    fld f.word 15 8 = f.skew.toNat ∧ fld f.word 7 2 = 0 ∧ bit f.word 1 = f.imgLate ∧ bit f.word 0 = f.alignWarn := by
  have h1 := f.frameNo.isLt
  have h2 := f.ovr.isLt
  have h3 := f.skew.isLt
  have h4 := b2n_le_one f.imgLate
  have h5 := b2n_le_one f.alignWarn
  have hb (b : Bool) : decide (b2n b = 1) = b := by cases b <;> rfl
  have hw : f.word.toNat = f.frameNo.toNat * 2 ^ 32 + f.ovr.toNat * 2 ^ 16 + f.skew.toNat * 2 ^ 8 + b2n f.imgLate * 2 + b2n f.alignWarn := by
    rw [FrameStat.word, BitVec.toNat_ofNat]
    simp only [at_]
    omega
  have hl : f.word.toNat / 2 ^ 1 % 2 = b2n f.imgLate := by omega
  have ha : f.word.toNat / 2 ^ 0 % 2 = b2n f.alignWarn := by omega
  rw [bit_eq_decide, bit_eq_decide, hl, ha, hb, hb]
  refine ⟨?_, ?_, ?_, ?_, rfl, rfl⟩ <;> (rw [fld, hw]; omega)

/-- A FRAME_STAT_READ returns the word and clears OVR_COUNT. -/
theorem frameStatRead_spec {s : State} (h : s.dev.st.answers = true) (p : Side) : ∃ t, exec (.frameStatRead p) s = .next t ∧
    t.fstOf p = { s.fstOf p with ovr := 0 } ∧ t.fstOf p.other = s.fstOf p.other ∧
    t.portOf p = { s.portOf p with rdata := (s.fstOf p).word } ∧ t.portOf p.other = s.portOf p.other ∧
    t = { s with frameSt := t.frameSt, port := t.port } :=
  ⟨_, congrArg Host.Outcome.next (State.atRegs_answers h _), State.fstOf_updFst_self _ _ _, State.fstOf_updFst_other _ _ _,
    s.portOf_updPort_self p fun y => { y with rdata := (s.fstOf p).word },
    s.portOf_updPort_other p fun y => { y with rdata := (s.fstOf p).word }, rfl⟩

/-- A write to FRAME_STAT clears the flags that it names, and is counted for a reserved field that it sets. -/
theorem frameStatClear_spec {s : State} (h : s.dev.st.answers = true) (p : Side) (w : BitVec 64) :
    ∃ t, exec (.frameStatClear p w) s = .next t ∧ t.portOf p = (s.portOf p).rsv (fld w 7 2) ∧ t.portOf p.other = s.portOf p.other ∧
      t.fstOf p.other = s.fstOf p.other ∧ t.fstOf p = { s.fstOf p with
        imgLate := (s.fstOf p).imgLate && !bit w 1, alignWarn := (s.fstOf p).alignWarn && !bit w 0 } ∧
      t = { s with frameSt := t.frameSt, port := t.port } := by
  have hx : exec (.frameStatClear p w) s = .next (s.fstWrite p w) := congrArg Host.Outcome.next (State.atRegs_answers h _)
  rw [State.fstWrite, State.countRsv_eq] at hx
  exact ⟨_, hx, s.portOf_updPort_self p fun x => x.rsv (fld w 7 2), s.portOf_updPort_other p fun x => x.rsv (fld w 7 2),
    State.fstOf_updFst_other _ _ _, State.fstOf_updFst_self _ _ _, rfl⟩

/-! ### ADM_CTL and the admin rings (R334, R338) -/

/-- A word whose reserved fields read zero keeps every bit (R334). -/
theorem admFields_eq {w : BitVec 64} (h1 : fld w 62 48 = 0) (h2 : fld w 33 11 = 0) : admFields w = w := by
  have hmask : ∀ i : Fin 64, (0x8000FFFC000007FF#64).getLsbD i.val = true ∨ (48 ≤ i.val ∧ i.val ≤ 62) ∨ (11 ≤ i.val ∧ i.val ≤ 33) := by
    decide
  refine BitVec.eq_of_getLsbD_eq fun i hi => ?_
  rw [admFields, BitVec.getLsbD_and]
  obtain hm | ⟨hl, hu⟩ | ⟨hl, hu⟩ := hmask ⟨i, hi⟩
  · rw [show (0x8000FFFC000007FF#64).getLsbD i = true from hm, Bool.and_true]
  · rw [show w.getLsbD i = false from bit_of_fld_eq_zero h1 hl hu, Bool.false_and]
  · rw [show w.getLsbD i = false from bit_of_fld_eq_zero h2 hl hu, Bool.false_and]

theorem sizeOk_iff (n : Nat) : sizeOk n = true ↔ 4 ≤ n ∧ n ≤ 16 := by simp [sizeOk]

/-- The fields of a ring's first word: type, size, entry size, address. -/
theorem ringWord_fields {ty sz es ad : Nat} (ht : ty < 4) (hs : sz < 32) (he : es < 4) (ha : ad < 2 ^ 52) :
    let d : Word := BitVec.ofNat 72 (at_ ty 70 + at_ sz 65 + at_ es 63 + at_ ad 11)
    fld d 71 70 = ty ∧ fld d 69 65 = sz ∧ fld d 64 63 = es := by
  simp only [fld, at_, BitVec.toNat_ofNat]
  omega

/-- What ADM_CTL describes of the admin rings (R338): live, empty and at sequence 0; a command ring and its completion ring. -/
theorem admRings_command (x : Port) {base : Nat} (hb : base < 8192) {w : BitVec 64} (hs : fld w 47 43 ≤ 16) :
    let k := (admRings x base w).1
    k.type = 0 ∧ k.size = 2 ^ fld w 47 43 ∧ k.esize = 64 * 4 ^ fld w 42 41 ∧ k.cq = base + 1 := by
  have h := ringWord_fields (ty := 0) (sz := fld w 47 43) (es := fld w 42 41) (ad := fld x.cmdBase 63 12) (by omega) (by omega)
    (fld_lt w 42 41) (fld_lt x.cmdBase 63 12)
  rw [show at_ 0 70 = 0 from rfl, Nat.zero_add] at h
  obtain ⟨h1, h2, h3⟩ := h
  refine ⟨h1, congrArg (2 ^ ·) h2, congrArg (64 * 4 ^ ·) h3, ?_⟩
  simp only [admRings, Queue.cq, fld, at_, BitVec.toNat_ofNat]
  omega

theorem admRings_completion (x : Port) (base : Nat) {w : BitVec 64} (hs : fld w 40 36 ≤ 16) :
    let k := (admRings x base w).2
    k.type = 1 ∧ k.size = 2 ^ fld w 40 36 ∧ k.esize = 64 * 4 ^ fld w 35 34 := by
  obtain ⟨h1, h2, h3⟩ := ringWord_fields (ty := 1) (sz := fld w 40 36) (es := fld w 35 34) (ad := fld x.cplBase 63 12) (by omega)
    (by omega) (fld_lt w 35 34) (fld_lt x.cplBase 63 12)
  exact ⟨h1, congrArg (2 ^ ·) h2, congrArg (64 * 4 ^ ·) h3⟩

/-- Two queues put in place one after the other. -/
theorem State.queueOf_updQueue_pair (s : State) (a : Nat) (x y : Queue) (q : Nat) :
    (((s.updQueue a fun _ => x).updQueue (a + 1) fun _ => y)).queueOf q =
      if q = a + 1 then y else if q = a then x else s.queueOf q := by
  rw [State.queueOf_updQueue, State.queueOf_updQueue]

/-- ADM_CTL as a write takes it where its reserved fields read zero. -/
def Port.adm (w : BitVec 64) (x : Port) : Port := { x with admCtl := w }

/-- A write to ADM_CTL that is counted, in either order. -/
theorem State.adm_ignored (s : State) (p : Side) (v : BitVec 64) :
    (s.updPort p (Port.adm v)).ignored p = s.updPort p fun x => x.counted.adm v := s.updPort_updPort p (Port.adm v) Port.counted

section
variable {s : State} {p : Side} {w : BitVec 64}

/-- The command on a word without reserved bits in a state in which the register answers. -/
theorem admCtlWrite_exec (h : s.dev.st.answers = true) : exec (.admCtlWrite p w) s = .next (s.admWrite p w) :=
  congrArg Host.Outcome.next (State.atRegs_answers h _)

/-- A write that changes the port alone. -/
theorem admCtlWrite_portTo (h : s.dev.st.answers = true) {f : Port → Port} (hf : s.admWrite p w = s.updPort p f) :
    s.portTo p (.admCtlWrite p w) (f (s.portOf p)) :=
  State.portTo_of ((admCtlWrite_exec h).trans (congrArg Host.Outcome.next hf))

variable (h1 : fld w 62 48 = 0) (h2 : fld w 33 11 = 0)
include h1 h2

/-- A write without reserved bits, by EN before and after (R334; log entry 45). -/
theorem State.admWrite_eq : s.admWrite p w =
    if bit (s.portOf p).admCtl 63 = true then
      if setBit w 63 false ≠ setBit (s.portOf p).admCtl 63 false then s.updPort p Port.counted
      else if bit w 63 = true then s
      else ((s.updPort p (Port.adm w)).updQueue (poolBase p) fun _ => {}).updQueue (poolBase p + 1) fun _ => {}
    else if bit w 63 = true ∧ (sizeOk (fld w 47 43) && sizeOk (fld w 40 36)) = false then
      s.updPort p fun x => x.counted.adm (setBit w 63 false)
    else if bit w 63 = true then
      ((s.updPort p (Port.adm w)).updQueue (poolBase p) fun _ => (admRings (s.portOf p) (poolBase p) w).1).updQueue
        (poolBase p + 1) fun _ => (admRings (s.portOf p) (poolBase p) w).2
    else s.updPort p (Port.adm w) := by
  rw [← State.adm_ignored]
  simp only [State.admWrite, h1, h2, admFields_eq h1 h2, Nat.add_zero, State.countRsv_zero, Bool.not_eq_true']
  rfl

/-- A write that leaves the rings stopped puts its word. -/
theorem State.admWrite_off (hx : bit (s.portOf p).admCtl 63 = false) (hw : bit w 63 = false) :
    s.admWrite p w = s.updPort p (Port.adm w) := by
  simp [State.admWrite_eq h1 h2, hx, hw]

/-- A start with an undefined size puts the word without EN and is counted. -/
theorem State.admWrite_unsized (hx : bit (s.portOf p).admCtl 63 = false) (hw : bit w 63 = true)
    (hs : (sizeOk (fld w 47 43) && sizeOk (fld w 40 36)) = false) :
    s.admWrite p w = s.updPort p fun x => x.counted.adm (setBit w 63 false) := by
  rw [State.admWrite_eq h1 h2, if_neg (by simp [hx]), if_pos ⟨hw, hs⟩]

/-- A start with defined sizes puts the word and both rings. -/
theorem State.admWrite_start (hx : bit (s.portOf p).admCtl 63 = false) (hw : bit w 63 = true)
    (hs : (sizeOk (fld w 47 43) && sizeOk (fld w 40 36)) = true) :
    s.admWrite p w = ((s.updPort p (Port.adm w)).updQueue (poolBase p) fun _ => (admRings (s.portOf p) (poolBase p) w).1).updQueue
      (poolBase p + 1) fun _ => (admRings (s.portOf p) (poolBase p) w).2 := by
  rw [State.admWrite_eq h1 h2, if_neg (by simp [hx]), if_neg (by simp [hs]), if_pos hw]

/-- Under EN = 1 a write that changes a field is counted alone. -/
theorem State.admWrite_changed (hx : bit (s.portOf p).admCtl 63 = true) (hr : setBit w 63 false ≠ setBit (s.portOf p).admCtl 63 false) :
    s.admWrite p w = s.updPort p Port.counted := by
  rw [State.admWrite_eq h1 h2, if_pos hx, if_pos hr]

/-- Under EN = 1 the same word again changes nothing. -/
theorem State.admWrite_same (hx : bit (s.portOf p).admCtl 63 = true) (hr : setBit w 63 false = setBit (s.portOf p).admCtl 63 false)
    (hw : bit w 63 = true) : s.admWrite p w = s := by
  rw [State.admWrite_eq h1 h2, if_pos hx, if_neg (not_not.mpr hr), if_pos hw]

/-- EN = 0 with the same fields stops both rings. -/
theorem State.admWrite_stop (hx : bit (s.portOf p).admCtl 63 = true) (hr : setBit w 63 false = setBit (s.portOf p).admCtl 63 false)
    (hw : bit w 63 = false) :
    s.admWrite p w = ((s.updPort p (Port.adm w)).updQueue (poolBase p) fun _ => {}).updQueue (poolBase p + 1) fun _ => {} := by
  rw [State.admWrite_eq h1 h2, if_pos hx, if_neg (not_not.mpr hr), if_neg (by simp [hw])]

end

/-! ### PROD and CONS (R339, R382) -/

/-- What indexOk asks of PROD, and of CONS. -/
theorem State.indexOk_prod (s : State) (p : Side) (q : Nat) (v : BitVec 32) : s.indexOk p q true v = true ↔
    (poolOf q = some p ∧ (s.queueOf q).live = true) ∧ (s.queueOf q).type = 0 ∧ (s.queueOf q).used ≤ (v - (s.queueOf q).cons).toNat ∧
      (v - (s.queueOf q).cons).toNat ≤ (s.queueOf q).size := by
  simp [State.indexOk, and_assoc]

theorem State.indexOk_cons (s : State) (p : Side) (q : Nat) (v : BitVec 32) : s.indexOk p q false v = true ↔
    (poolOf q = some p ∧ (s.queueOf q).live = true) ∧ ((s.queueOf q).type = 1 ∨ (s.queueOf q).type = 2) ∧
      (v - (s.queueOf q).cons).toNat ≤ (s.queueOf q).used := by
  simp [State.indexOk, and_assoc]

section
variable {s : State} (h : s.dev.st.answers = true) {w : BitVec 64} (hr : fld w 63 32 = 0) (p : Side) (q : QueueIx)
include h hr

theorem queueProdWrite_ok (hi : s.indexOk p q.val true (w.setWidth 32) = true) :
    s.queueTo q.val (.queueProdWrite p q w) { s.queueOf q.val with prod := w.setWidth 32 } := by
  refine State.queueTo_of (f := fun x => { x with prod := w.setWidth 32 }) (congrArg Host.Outcome.next ?_)
  rw [State.atRegs_answers h, State.prodWrite, hr, State.countRsv_zero, if_pos hi]

theorem queueProdWrite_counted (hi : ¬ s.indexOk p q.val true (w.setWidth 32) = true) :
    s.portTo p (.queueProdWrite p q w) (s.portOf p).counted := by
  refine State.portTo_of (f := Port.counted) (congrArg Host.Outcome.next ?_)
  rw [State.atRegs_answers h, State.prodWrite, hr, State.countRsv_zero, if_neg hi, State.ignored_eq]

theorem queueConsWrite_counted (hi : ¬ s.indexOk p q.val false (w.setWidth 32) = true) :
    s.portTo p (.queueConsWrite p q w) (s.portOf p).counted := by
  refine State.portTo_of (f := Port.counted) (congrArg Host.Outcome.next ?_)
  rw [State.atRegs_answers h, State.consWrite, hr, State.countRsv_zero, if_neg hi, State.ignored_eq]

/-- An accepted CONS takes its index, then each bound stream whose entries are held writes them. -/
theorem queueConsWrite_exec (hi : s.indexOk p q.val false (w.setWidth 32) = true) :
    exec (.queueConsWrite p q w) s = .next ((s.updQueue q.val fun x => { x with cons := w.setWidth 32 }).forEach
      ((s.updQueue q.val fun x => { x with cons := w.setWidth 32 }).boundTo q.val) fun z k => z.streamSummary k q.val) := by
  refine congrArg Host.Outcome.next ?_
  rw [State.atRegs_answers h, State.consWrite, hr, State.countRsv_zero, if_pos hi]

end

/-- A key that does not read as the default is listed. -/
theorem Tab.mem_of_get_ne {α : Type} {d : α} {t : Tab α} {k : Nat} (h : Tab.get d t k ≠ d) : (k, Tab.get d t k) ∈ t := by
  induction t with
  | nil => exact absurd rfl h
  | cons e r ih =>
    obtain ⟨j, x⟩ := e
    rw [Tab.get] at h ⊢
    by_cases hk : k = j
    · subst hk; simp
    · rw [if_neg hk] at h ⊢
      exact List.mem_cons_of_mem _ (ih h)

/-- Where neither a key's new entry nor any old one passes a filter, the filter does not see a write of the key. -/
theorem Tab.filter_ins {α : Type} (P : Nat × α → Bool) {v : α} {k : Nat} (hv : P (k, v) = false) (t : Tab α)
    (ht : ∀ x, (k, x) ∈ t → P (k, x) = false) : (Tab.ins v t k).filter P = t.filter P := by
  induction t with
  | nil => simp [Tab.ins, hv]
  | cons e r ih =>
    obtain ⟨j, x⟩ := e
    have hr := ih fun y hy => ht y (List.mem_cons_of_mem _ hy)
    rw [Tab.ins]
    split
    · simp [hv]
    · split
      · next hkj =>
        subst hkj
        simp [hv, ht x List.mem_cons_self]
      · simp [List.filter_cons, hr]

/-- A live ring's new CONS leaves the streams bound to it, where the ring is bound to none itself. -/
theorem State.boundTo_updQueue_cons {s : State} {q : Nat} (hl : (s.queueOf q).live = true) (hq : q ∉ s.boundTo q) (v : BitVec 32) :
    (s.updQueue q fun x => { x with cons := v }).boundTo q = s.boundTo q := by
  have hne : s.queueOf q ≠ {} := fun h => by rw [h] at hl; exact absurd hl (by decide)
  have hne' : ({ s.queueOf q with cons := v } : Queue) ≠ {} := fun h => by
    rw [show (s.queueOf q).live = ({ s.queueOf q with cons := v } : Queue).live from rfl, h] at hl
    exact absurd hl (by decide)
  have hb (x : Queue) (hx : (q, x) ∈ s.queue) : decide (x.bind = some q) = false := by
    rw [decide_eq_false_iff_not]
    exact fun hb => hq (List.mem_map.mpr ⟨(q, x), List.mem_filter.mpr ⟨hx, decide_eq_true hb⟩, rfl⟩)
  have hins : (s.updQueue q fun x => { x with cons := v }).queue = Tab.ins { s.queueOf q with cons := v } s.queue q := if_neg hne'
  unfold State.boundTo
  rw [hins, Tab.filter_ins _ (hb _ (Tab.mem_of_get_ne hne)) _ hb]

/-- An entry written into a ring that is not full takes one of its free entries. -/
theorem Queue.free_push {z : Queue} (hz : z.free ≠ 0) (ws : List Word) : (z.push ws).free = z.free - 1 := by
  have hs : z.size ≤ 2 ^ 31 := Nat.pow_le_pow_right Nat.zero_lt_two (Nat.le_of_lt_succ (fld_lt z.d0 69 65))
  have hu : (z.push ws).used = z.used + 1 := by
    have hlt : z.used < z.size := by rw [Queue.free] at hz; omega
    have hp : z.prod + 1 - z.cons = (z.prod - z.cons) + 1 := by
      rw [BitVec.sub_eq_add_neg, BitVec.sub_eq_add_neg, BitVec.add_assoc, BitVec.add_comm 1, ← BitVec.add_assoc]
    have hm : z.used + 1 < 2 ^ 32 := by omega
    rw [Queue.used, Queue.push, hp, BitVec.toNat_add]
    exact Nat.mod_eq_of_lt hm
  rw [Queue.free, Queue.free, hu, show (z.push ws).size = z.size from rfl]
  omega

/-- Records written into a ring while it has a free entry (R382). -/
def Queue.pushAll (z : Queue) (l : List Event) : Queue :=
  l.foldl (fun (z : Queue) (e : Event) => if z.free = 0 then z else z.push [e.time, e.word1]) z

/-- Records that fit are all written, and CONS stays. -/
theorem Queue.pushAll_fits (l : List Event) (z : Queue) (h : l.length ≤ z.free) :
    (z.pushAll l).prod = z.prod + BitVec.ofNat 32 l.length ∧ (z.pushAll l).cons = z.cons := by
  induction l generalizing z with
  | nil => simp [Queue.pushAll]
  | cons e r ih =>
    rw [List.length_cons] at h
    have hz : z.free ≠ 0 := by omega
    obtain ⟨hp, hc⟩ := ih (z.push [e.time, e.word1]) (by rw [Queue.free_push hz]; omega)
    rw [Queue.pushAll, List.foldl_cons, if_neg hz, ← Queue.pushAll]
    refine ⟨?_, hc⟩
    rw [hp, List.length_cons, BitVec.ofNat_add, Queue.push, BitVec.add_comm (BitVec.ofNat 32 r.length), BitVec.add_assoc]
    rfl

/-- Entries held for a stream: its backlog and one per counted code. -/
theorem State.heldEntries_length (s : State) (b : Nat) :
    (s.heldEntries b).length = (s.queueOf b).backlog.length + (s.queueOf b).counts.length := by
  simp [State.heldEntries]

/-- A stream whose held entries all fit a half-free ring gives them all to it. -/
theorem State.streamSummary_fits {s : State} {b r : Nat} (hl : (s.queueOf r).live = true) (hbr : b ≠ r)
    (h0 : (s.heldEntries b).length ≠ 0) (hh : (s.queueOf r).size ≤ (s.queueOf r).free * 2)
    (hf : (s.heldEntries b).length ≤ (s.queueOf r).free) :
    s.streamSummary b r = (s.updQueue r fun y => y.pushAll (s.heldEntries b)).updQueue b fun y => { y with backlog := [], counts := [] } := by
  have hn : s.heldEntries b ≠ [] := fun h => h0 (by rw [h]; rfl)
  have hlen := s.heldEntries_length b
  have hg : ¬ ((!(s.queueOf r).live) = true ∨ (s.queueOf r).free * 2 < (s.queueOf r).size ∨ s.heldEntries b = []) := by
    simp only [hl, Bool.not_true, Bool.false_eq_true, hn, or_false, false_or]
    omega
  have hu (x : State) (f g : Queue → Queue) (hfg : f (x.queueOf b) = g (x.queueOf b)) : x.updQueue b f = x.updQueue b g := by
    unfold State.updQueue Tab.upd
    rw [show f (Tab.get {} x.queue b) = g (Tab.get {} x.queue b) from hfg]
  rw [State.streamSummary, if_neg hg]
  refine hu _ _ _ ?_
  rw [State.queueOf_updQueue, if_neg hbr, List.drop_eq_nil_of_le (by omega), List.drop_eq_nil_of_le (by omega)]

section
variable {s : State} (h : s.dev.st.answers = true) {w : BitVec 64} (hr : fld w 63 32 = 0) {p : Side} {q : QueueIx}
  (hi : s.indexOk p q.val false (w.setWidth 32) = true)
include h hr hi

/-- An accepted CONS of a ring without a bound stream takes its index. -/
theorem queueConsWrite_unbound (hb : s.boundTo q.val = []) :
    s.queueTo q.val (.queueConsWrite p q w) { s.queueOf q.val with cons := w.setWidth 32 } := by
  obtain ⟨⟨-, hl⟩, -⟩ := (s.indexOk_cons p q.val _).mp hi
  have hx := queueConsWrite_exec h hr p q hi
  rw [State.boundTo_updQueue_cons hl (by rw [hb]; exact List.not_mem_nil), hb] at hx
  exact State.queueTo_of (f := fun x => { x with cons := w.setWidth 32 }) hx

/-- An accepted CONS that leaves its ring half free takes what its one bound stream holds, where it fits. -/
theorem queueConsWrite_bound {b : Nat} (hb : s.boundTo q.val = [b]) (hbq : b ≠ q.val)
    (hn : (s.queueOf b).backlog.length + (s.queueOf b).counts.length ≠ 0)
    (hh : ({ s.queueOf q.val with cons := w.setWidth 32 } : Queue).size ≤ ({ s.queueOf q.val with cons := w.setWidth 32 } : Queue).free * 2)
    (hf : (s.queueOf b).backlog.length + (s.queueOf b).counts.length ≤ ({ s.queueOf q.val with cons := w.setWidth 32 } : Queue).free) :
    ∃ t, exec (.queueConsWrite p q w) s = .next t ∧ (t.queueOf q.val).cons = w.setWidth 32 ∧
      (t.queueOf q.val).prod =
        (s.queueOf q.val).prod + BitVec.ofNat 32 ((s.queueOf b).backlog.length + (s.queueOf b).counts.length) ∧
      t.queueOf b = { s.queueOf b with backlog := [], counts := [] } ∧
      (∀ j, j ≠ q.val → j ≠ b → t.queueOf j = s.queueOf j) ∧ t = { s with queue := t.queue } := by
  obtain ⟨⟨-, hl⟩, -⟩ := (s.indexOk_cons p q.val _).mp hi
  have hx := queueConsWrite_exec h hr p q hi
  rw [State.boundTo_updQueue_cons hl (by rw [hb]; simpa using Ne.symm hbq), hb] at hx
  generalize hs1 : (s.updQueue q.val fun x => { x with cons := w.setWidth 32 }) = s1 at hx
  have hq : s1.queueOf q.val = { s.queueOf q.val with cons := w.setWidth 32 } := by
    rw [← hs1, State.queueOf_updQueue, if_pos rfl]
  have ho (j : Nat) (hj : j ≠ q.val) : s1.queueOf j = s.queueOf j := by rw [← hs1, State.queueOf_updQueue, if_neg hj]
  have hlen := s1.heldEntries_length b
  rw [ho b hbq] at hlen
  rw [← hlen] at hn hf ⊢
  rw [← hq] at hh hf
  have hx' : exec (.queueConsWrite p q w) s = .next (s1.streamSummary b q.val) := hx
  rw [State.streamSummary_fits (by rw [hq]; exact hl) hbq hn hh hf] at hx'
  obtain ⟨hprod, hcons⟩ := (s1.queueOf q.val).pushAll_fits (s1.heldEntries b) hf
  refine ⟨_, hx', ?_, ?_, ?_, fun j hjq hjb => ?_, ?_⟩
  · rw [State.queueOf_updQueue, if_neg (Ne.symm hbq), State.queueOf_updQueue, if_pos rfl, hcons, hq]
  · rw [State.queueOf_updQueue, if_neg (Ne.symm hbq), State.queueOf_updQueue, if_pos rfl, hprod, hq]
  · rw [State.queueOf_updQueue, if_pos rfl, State.queueOf_updQueue, if_neg hbq, ho b hbq]
  · rw [State.queueOf_updQueue, if_neg hjb, State.queueOf_updQueue, if_neg hjq, ho j hjq]
  · rw [← hs1]; rfl

end

/-! ### Writes by offset (R333) -/

theorem registerWrite_ends {s x : State} {p : Side} {y : BarWrite} (h : s.barWrite p y = x) : s.ends (.registerWrite p y) x :=
  State.ends_of_settled (congrArg settled h)

/-- The write by offset ends as the register's own row does, but for gates. -/
def State.writesAs (s : State) (p : Side) (y : BarWrite) (i : Instr) : Prop :=
  ∃ u, exec i s = .next u ∧ s.ends (.registerWrite p y) u

/-- A row that reaches the registers, and the write by offset that does the same. -/
theorem State.writesAs_of {s : State} {p : Side} {y : BarWrite} {i : Instr} {f : State → State} (h : s.dev.st.answers = true)
    (hi : exec i s = done (s.atRegs f)) (hb : s.barWrite p y = f s) : s.writesAs p y i :=
  ⟨f s, hi.trans (congrArg done (State.atRegs_answers h f)), registerWrite_ends hb⟩

/-- No register that only reports lies beyond BAR0's registers and image. -/
theorem roReserved_beyond {o : Nat} (hb : 0x800000 ≤ o) : roReserved o = none := by
  have hne (k : Nat) (hk : k < 0x800000) : ¬ o = k := by omega
  simp only [roReserved, hne 0x000000 (by decide), hne 0x000008 (by decide), hne 0x000010 (by decide), hne 0x000118 (by decide),
    hne 0x000300 (by decide), hne 0x000308 (by decide), hne 0x010000 (by decide), hne 0x010008 (by decide), hne 0x010020 (by decide),
    hne 0x020008 (by decide), hne 0x020010 (by decide), hne 0x020018 (by decide), if_false, or_self]

section
variable {s : State} {p : Side} {y : BarWrite}

/-- STOP.WORD by its offset. -/
theorem State.barWrite_stop (ho : y.offset.toNat = 0x020000) : s.barWrite p y = s.stopWrite p y.value y.size true := if_pos ho

/-- No register answers in these states. -/
theorem State.barWrite_silent (ho : y.offset.toNat ≠ 0x020000) (h : s.dev.st.answers = false) : s.barWrite p y = s := by
  simp only [State.barWrite, if_neg ho, h]
  rfl

/-- The process image is not written (log entry 45). -/
theorem State.barWrite_image (h1 : 0x400000 ≤ y.offset.toNat) (h2 : y.offset.toNat < 0x800000) : s.barWrite p y = s := by
  have ho : y.offset.toNat ≠ 0x020000 := by omega
  simp only [State.barWrite, if_neg ho, if_pos (And.intro h1 h2), ite_self]

variable (h : s.dev.st.answers = true)
include h

/-- Another size or a misaligned offset is ignored and counted. -/
theorem State.barWrite_misfit (ho : y.offset.toNat ≠ 0x020000) (hi : ¬ (0x400000 ≤ y.offset.toNat ∧ y.offset.toNat < 0x800000))
    (hm : y.size ≠ 8 ∨ y.offset.toNat % 8 ≠ 0) : s.barWrite p y = s.ignored p := by
  simp only [State.barWrite, if_neg ho, h, if_neg hi, if_pos hm]
  rfl

/-- So is an offset beyond BAR0's registers and image. -/
theorem State.barWrite_beyond (hb : 0x800000 ≤ y.offset.toNat) : s.barWrite p y = s.ignored p := by
  by_cases hm : y.size ≠ 8 ∨ y.offset.toNat % 8 ≠ 0
  · exact State.barWrite_misfit h (by omega) (by omega) hm
  · have hne (k : Nat) (hk : k < 0x800000) : ¬ y.offset.toNat = k := by omega
    have hring : ¬ (0x100000 ≤ y.offset.toNat ∧ y.offset.toNat < 0x300000) := by omega
    have himage : ¬ (0x400000 ≤ y.offset.toNat ∧ y.offset.toNat < 0x800000) := by omega
    simp only [State.barWrite, h, hm, hring, himage, hne 0x020000 (by decide), hne 0x000100 (by decide), hne 0x000108 (by decide),
      hne 0x000110 (by decide), hne 0x000200 (by decide), hne 0x010010 (by decide), hne 0x010018 (by decide),
      roReserved_beyond hb, Bool.not_true, Bool.false_eq_true, if_false]

variable (h8 : y.size = 8)
include h8

/-! Each register by its offset. -/
theorem State.barWrite_admCtl (ho : y.offset.toNat = 0x000110) : s.barWrite p y = s.admWrite p y.value := by
  simp [State.barWrite, ho, h, h8]
theorem State.barWrite_frameStat (ho : y.offset.toNat = 0x000200) : s.barWrite p y = s.fstWrite p y.value := by
  simp [State.barWrite, ho, h, h8]
theorem State.barWrite_semReq (ho : y.offset.toNat = 0x010010) : s.barWrite p y = s.semReqWrite p y.value := by
  simp [State.barWrite, ho, h, h8]
theorem State.barWrite_semRel (ho : y.offset.toNat = 0x010018) : s.barWrite p y = s.semRelWrite p y.value := by
  simp [State.barWrite, ho, h, h8]
theorem State.barWrite_cmdBase (ho : y.offset.toNat = 0x000100) : s.barWrite p y = s.baseWrite p true y.value := by
  simp [State.barWrite, ho, h, h8]
theorem State.barWrite_cplBase (ho : y.offset.toNat = 0x000108) : s.barWrite p y = s.baseWrite p false y.value := by
  simp [State.barWrite, ho, h, h8]

/-- An offset in the rings' range is none of the other registers. -/
theorem State.barWrite_ring {k : Nat} (q : QueueIx) (hk : k = 0 ∨ k = 8) (ho : y.offset.toNat = 0x100000 + k + 64 * q.val) :
    s.barWrite p y = if k = 0 then s.prodWrite p q.val y.value else s.consWrite p q.val y.value := by
  have hq := q.isLt
  have hne : ¬ y.offset.toNat = 0x020000 := by omega
  have hm : ¬ (y.size ≠ 8 ∨ y.offset.toNat % 8 ≠ 0) := by omega
  have hring : 0x100000 ≤ y.offset.toNat ∧ y.offset.toNat < 0x300000 := by omega
  have himage : ¬ (0x400000 ≤ y.offset.toNat ∧ y.offset.toNat < 0x800000) := by omega
  have hix : (y.offset.toNat - 0x100000) / 64 = q.val := by omega
  have hmod : y.offset.toNat % 64 = k := by omega
  simp only [State.barWrite, h, hne, hm, hring, himage, hix, hmod, Bool.not_true, Bool.false_eq_true, if_false, and_self, if_true]
  obtain rfl | rfl := hk <;> rfl

theorem State.barWrite_prod (q : QueueIx) (ho : y.offset.toNat = 0x100000 + 64 * q.val) :
    s.barWrite p y = s.prodWrite p q.val y.value := State.barWrite_ring h h8 q (.inl rfl) (by omega)

theorem State.barWrite_cons (q : QueueIx) (ho : y.offset.toNat = 0x100008 + 64 * q.val) :
    s.barWrite p y = s.consWrite p q.val y.value := State.barWrite_ring (k := 8) h h8 q (.inr rfl) (by omega)

end

/-- The admin rings' base registers while EN = 0, without reserved bits (R334). -/
theorem State.baseWrite_cmd {s : State} {p : Side} {v : BitVec 64} (hv : fld v 11 0 = 0) (hx : bit (s.portOf p).admCtl 63 = false) :
    s.baseWrite p true v = s.updPort p fun z => { z with cmdBase := v } := by
  simp [State.baseWrite, hv, hx, putFld_zero hv]
theorem State.baseWrite_cpl {s : State} {p : Side} {v : BitVec 64} (hv : fld v 11 0 = 0) (hx : bit (s.portOf p).admCtl 63 = false) :
    s.baseWrite p false v = s.updPort p fun z => { z with cplBase := v } := by
  simp [State.baseWrite, hv, hx, putFld_zero hv]

section
variable {s : State} (h : s.dev.st.answers = true) {p : Side} {w : BitVec 64} (h1 : fld w 62 48 = 0) (h2 : fld w 33 11 = 0)
include h h1 h2

/-- What a start of the admin rings leaves: ADM_CTL, two live empty rings of the sizes asked for, and every other queue. -/
theorem admCtlWrite_start (hx : bit (s.portOf p).admCtl 63 = false) (hw : bit w 63 = true)
    (hs : 4 ≤ fld w 47 43 ∧ fld w 47 43 ≤ 16 ∧ 4 ≤ fld w 40 36 ∧ fld w 40 36 ≤ 16) :
    let base := poolBase p
    ∃ t, exec (.admCtlWrite p w) s = .next t ∧
      t.portOf p = { s.portOf p with admCtl := w } ∧ t.portOf p.other = s.portOf p.other ∧
      (∀ q, q ≠ base → q ≠ base + 1 → t.queueOf q = s.queueOf q) ∧ (t.queueOf base).type = 0 ∧ (t.queueOf (base + 1)).type = 1 ∧
      (t.queueOf base).size = 2 ^ fld w 47 43 ∧ (t.queueOf (base + 1)).size = 2 ^ fld w 40 36 ∧
      (t.queueOf base).esize = 64 * 4 ^ fld w 42 41 ∧ (t.queueOf (base + 1)).esize = 64 * 4 ^ fld w 35 34 ∧
      (t.queueOf base).cq = base + 1 ∧
      (∀ q ∈ [base, base + 1], (t.queueOf q).live = true ∧ (t.queueOf q).prod = 0 ∧ (t.queueOf q).cons = 0 ∧ (t.queueOf q).seq = 0) ∧
      t = { s with port := t.port, queue := t.queue } := by
  obtain ⟨hc1, hc2, hd1, hd2⟩ := hs
  have hok : (sizeOk (fld w 47 43) && sizeOk (fld w 40 36)) = true := by
    rw [Bool.and_eq_true, sizeOk_iff, sizeOk_iff]; exact ⟨⟨hc1, hc2⟩, hd1, hd2⟩
  have hbase : poolBase p < 8192 := by cases p <;> decide
  have hexec := admCtlWrite_exec (p := p) (w := w) h
  rw [State.admWrite_start h1 h2 hx hw hok] at hexec
  have hq := State.queueOf_updQueue_pair (s.updPort p (Port.adm w)) (poolBase p) (admRings (s.portOf p) (poolBase p) w).1
    (admRings (s.portOf p) (poolBase p) w).2
  have hq0 := (hq (poolBase p)).trans ((if_neg (by omega)).trans (if_pos rfl))
  have hq1 := (hq (poolBase p + 1)).trans (if_pos rfl)
  obtain ⟨ht0, hs0, he0, hcq⟩ := admRings_command (s.portOf p) hbase hc2
  obtain ⟨ht1, hs1, he1⟩ := admRings_completion (s.portOf p) (poolBase p) hd2
  refine ⟨_, hexec, s.portOf_updPort_self p (Port.adm w), s.portOf_updPort_other p (Port.adm w), fun q hn0 hn1 => ?_, ?_, ?_, ?_,
    ?_, ?_, ?_, ?_, ?_, rfl⟩
  · exact (hq q).trans ((if_neg hn1).trans (if_neg hn0))
  · rw [hq0]; exact ht0
  · rw [hq1]; exact ht1
  · rw [hq0]; exact hs0
  · rw [hq1]; exact hs1
  · rw [hq0]; exact he0
  · rw [hq1]; exact he1
  · rw [hq0]; exact hcq
  · simp only [List.forall_mem_cons, List.not_mem_nil, false_implies, implies_true, and_true]
    rw [hq0, hq1]
    exact ⟨⟨rfl, rfl, rfl, rfl⟩, rfl, rfl, rfl, rfl⟩

/-- A stop leaves both admin rings as at reset. -/
theorem admCtlWrite_stop (hx : bit (s.portOf p).admCtl 63 = true)
    (hr : setBit w 63 false = setBit (s.portOf p).admCtl 63 false) (hw : bit w 63 = false) :
    let base := poolBase p
    ∃ t, exec (.admCtlWrite p w) s = .next t ∧ t.portOf p = { s.portOf p with admCtl := w } ∧ t.portOf p.other = s.portOf p.other ∧
      t.queueOf base = {} ∧ t.queueOf (base + 1) = {} ∧ (∀ q, q ≠ base → q ≠ base + 1 → t.queueOf q = s.queueOf q) ∧
      t = { s with port := t.port, queue := t.queue } := by
  have hexec := admCtlWrite_exec (p := p) (w := w) h
  rw [State.admWrite_stop h1 h2 hx hr hw] at hexec
  have hq := State.queueOf_updQueue_pair (s.updPort p (Port.adm w)) (poolBase p) {} {}
  exact ⟨_, hexec, s.portOf_updPort_self p (Port.adm w), s.portOf_updPort_other p (Port.adm w),
    (hq _).trans ((if_neg (by omega)).trans (if_pos rfl)), (hq _).trans (if_pos rfl),
    fun q hn0 hn1 => (hq q).trans ((if_neg hn1).trans (if_neg hn0)), rfl⟩

end

/-- Settles O50, clause by clause: each row's lemma above says what it answers. -/
theorem hostPortRegisters : Obligations.HostPortRegisters := by
  unfold Obligations.HostPortRegisters
  intro s p w
  refine ⟨portLinkUp_spec s p, portLinkDown_spec s p, fun size vc0 => ⟨?unpowered, ?good, ?bad⟩, vc1TlpDiscard_spec s p,
    fun h q => registers_silent h p w q, fun h => ⟨semReq_spec h p w, semRel_spec h p w, cntRead_spec h p, ?fstRead,
    frameStatClear_spec h p w, fun h1 h2 => ⟨?off, ?unsized, ?start, ?changed, ?same, ?stop⟩, fun q hr => ?rings⟩, fun y =>
    ⟨?stopWord, ?silent, ?image, ?misfit, fun h h8 => ⟨?registers, ?indices, ?bases⟩⟩⟩
  case unpowered => exact fun h => stopWord_unpowered h p w size vc0
  case good =>
    intro h hg
    obtain ⟨t, hx, hp, ho, hh, hho, hrep, hout, hsafe, ht⟩ := stopWord_good h ((stopOk_iff w size).mpr hg) p vc0
    refine ⟨t, hx, hp, ho, fun d => ⟨fun hd => ?_, fun hd => ?_⟩, hho, hrep, hout, hsafe, ht⟩
    · have hm := (s.mem_doorsOf _ d).mpr hd
      rw [hh, Half.door_rings _ _ _ _ (s.doorsOf_lt _), Half.doorAt_rings, if_pos hm, if_pos hm]
      exact ⟨rfl, rfl⟩
    · rw [hh, Half.door_rings _ _ _ _ (s.doorsOf_lt _), if_neg (mt (s.mem_doorsOf _ d).mp hd)]
  case bad =>
    exact fun h hb => stopWord_bad h (Bool.eq_false_iff.mpr (mt (stopOk_iff w size).mp hb)) p vc0
  case fstRead =>
    obtain ⟨t, hx, hf, hfo, hp, hpo, ht⟩ := frameStatRead_spec h p
    obtain ⟨h1, h2, h3, h4, h5, h6⟩ := (s.fstOf p).word_fields
    have hv : (t.portOf p).rdata = (s.fstOf p).word := by rw [hp]
    refine ⟨t, hx, hf, hfo, ?_, hpo, ht⟩
    rw [hv]
    exact ⟨h1, h2, h3, h4, h5, h6, hp⟩
  case off => exact fun hx hw => admCtlWrite_portTo h (State.admWrite_off h1 h2 hx hw)
  case unsized =>
    intro hx hw hs
    have hok : (sizeOk (fld w 47 43) && sizeOk (fld w 40 36)) = false := by
      rw [← Bool.not_eq_true, Bool.and_eq_true, sizeOk_iff, sizeOk_iff, and_assoc]
      exact hs
    exact admCtlWrite_portTo h (State.admWrite_unsized h1 h2 hx hw hok)
  case start => exact fun hx hw hs => admCtlWrite_start h h1 h2 hx hw hs
  case changed => exact fun hx hr => admCtlWrite_portTo h (State.admWrite_changed h1 h2 hx hr)
  case same =>
    exact fun hx hr hw => (admCtlWrite_exec h).trans (congrArg Host.Outcome.next (State.admWrite_same h1 h2 hx hr hw))
  case stop => exact fun hx hr hw => admCtlWrite_stop h h1 h2 hx hr hw
  case rings =>
    refine ⟨?_, ?_, ?_, ?_, ?_⟩
    · exact fun hi => queueProdWrite_ok h hr p q ((s.indexOk_prod p q.val _).mpr hi)
    · exact fun hi => queueProdWrite_counted h hr p q (mt (s.indexOk_prod p q.val _).mp hi)
    · exact fun hi => queueConsWrite_counted h hr p q (mt (s.indexOk_cons p q.val _).mp hi)
    · exact fun hi hb => queueConsWrite_unbound h hr ((s.indexOk_cons p q.val _).mpr hi) hb
    · exact fun b hi hb hbq hn hh hf => queueConsWrite_bound h hr ((s.indexOk_cons p q.val _).mpr hi) hb hbq hn hh hf
  case stopWord => exact fun ho => congrArg settled (State.barWrite_stop ho)
  case silent => exact fun ho h => registerWrite_ends (State.barWrite_silent ho h)
  case image => exact fun h1 h2 => registerWrite_ends (State.barWrite_image h1 h2)
  case misfit =>
    intro h ho hi hm
    by_cases hb : 0x800000 ≤ y.offset.toNat
    · exact registerWrite_ends (State.barWrite_beyond h hb)
    · exact registerWrite_ends (State.barWrite_misfit h ho (by omega) (by omega))
  case registers =>
    simp only [List.forall_mem_cons, List.not_mem_nil, false_implies, implies_true, and_true]
    exact ⟨fun ho => State.writesAs_of h rfl (State.barWrite_admCtl h h8 ho),
      fun ho => State.writesAs_of h rfl (State.barWrite_frameStat h h8 ho),
      fun ho => State.writesAs_of h rfl (State.barWrite_semReq h h8 ho),
      fun ho => State.writesAs_of h rfl (State.barWrite_semRel h h8 ho)⟩
  case indices =>
    exact fun q => ⟨fun ho => State.writesAs_of h rfl
        (State.barWrite_prod h h8 q ho),
      fun ho => State.writesAs_of h rfl (State.barWrite_cons h h8 q ho)⟩
  case bases =>
    exact fun hv hx => ⟨fun ho => registerWrite_ends ((State.barWrite_cmdBase h h8 ho).trans (State.baseWrite_cmd hv hx)),
      fun ho => registerWrite_ends ((State.barWrite_cplBase h h8 ho).trans (State.baseWrite_cpl hv hx))⟩

end Sys2Proof.Machine

/-! SUPPORT and PROOFS of the family 01_architecture: silence, loss and lanes of the field chips (O20), the image exchange
(O13), couplings and mismatches (O40). -/

namespace Sys2Proof.Machine

/-! ### Running tests and what they note (R364, R378) -/

/-- t is s but for its books: the tests with what a test notes at its barrier, events with their windows, journals and
streams, replies and free values. The log only grows. -/
structure State.Books (s t : State) : Prop where
  frame : t = { s with
    tests := t.tests, view := t.view, log := t.log, windows := t.windows, journal := t.journal, queue := t.queue
    port := t.port, svc := t.svc, free := t.free }
  log : ∀ e ∈ s.log, e ∈ t.log

theorem State.Books.refl (s : State) : s.Books s := ⟨rfl, fun _ h => h⟩

theorem State.Books.trans {s t u : State} (h : s.Books t) (g : t.Books u) : s.Books u := by
  refine ⟨?_, fun e he => g.log e (h.log e he)⟩
  have hu := g.frame
  rw [h.frame] at hu
  exact hu

section
variable {s t : State} (h : s.Books t)
include h

/-! What the books leave. -/
theorem State.Books.clock : t.clock = s.clock := (congrArg State.clock h.frame :)
theorem State.Books.frameSt : t.frameSt = s.frameSt := (congrArg State.frameSt h.frame :)
theorem State.Books.time : t.time = s.time := (congrArg State.time h.frame :)
theorem State.Books.dev : t.dev = s.dev := (congrArg State.dev h.frame :)
theorem State.Books.pkg : t.pkg = s.pkg := (congrArg State.pkg h.frame :)
theorem State.Books.term : t.term = s.term := (congrArg State.term h.frame :)
theorem State.Books.lanes : t.lanes = s.lanes := (congrArg State.lanes h.frame :)
theorem State.Books.half : t.half = s.half := (congrArg State.half h.frame :)
theorem State.Books.coach : t.coach = s.coach := (congrArg State.coach h.frame :)
theorem State.Books.coachSt : t.coachSt = s.coachSt := (congrArg State.coachSt h.frame :)
theorem State.Books.slot : t.slot = s.slot := (congrArg State.slot h.frame :)
theorem State.Books.fn : t.fn = s.fn := (congrArg State.fn h.frame :)
theorem State.Books.armed : t.armed = s.armed := (congrArg State.armed h.frame :)
theorem State.Books.ledger : t.ledger = s.ledger := (congrArg State.ledger h.frame :)
theorem State.Books.mem : t.mem = s.mem := (congrArg State.mem h.frame :)
theorem State.Books.linkWait : t.linkWait = s.linkWait := (congrArg State.linkWait h.frame :)

end

/-- Posting keeps what the log holds. -/
theorem State.mem_log_postL {s : State} {e : Event} (h : e ∈ s.log) (code : Nat) (src : Node) (sev detail : Nat) (l : Bool) :
    e ∈ (s.postL code src sev detail l).log := List.mem_append_left _ h

section
variable {s x : State} (h : s.Books x)
include h

/-! Each of these keeps the books of s. -/
theorem State.Books.postL (code : Nat) (src : Node) (sev detail : Nat) (l : Bool) : s.Books (x.postL code src sev detail l) :=
  h.trans ⟨rfl, fun _ he => State.mem_log_postL he _ _ _ _ _⟩

theorem State.Books.post (code : Nat) (src : Node) (sev detail : Nat) : s.Books (x.post code src sev detail) :=
  h.postL code src sev detail false

theorem State.Books.drawn : s.Books x.drawn := h.trans ⟨rfl, fun _ he => he⟩

theorem State.Books.addReply (r : Reply) : s.Books (x.addReply r) := by
  refine h.trans ?_
  unfold State.addReply
  split <;> exact ⟨rfl, fun _ he => he⟩

theorem State.Books.finalReply (port : Option Side) (queue opcode : Nat) (tag : BitVec 32) (status : Nat) (slots : List Nat) :
    s.Books (x.finalReply port queue opcode tag status slots) := by
  refine (h.addReply (x.mkReply port queue opcode tag status slots)).trans ?_
  unfold State.finalReply
  cases port <;> exact ⟨rfl, fun _ he => he⟩

theorem State.Books.concludeTest (q : Test) (verdict : Nat) : s.Books (x.concludeTest q verdict) := by
  unfold State.concludeTest
  split
  · exact h.trans ⟨rfl, fun _ he => he⟩
  · refine State.Books.finalReply ?_ _ _ _ _ _ _
    exact h.trans ⟨rfl, fun _ he => he⟩

end

/-- A block whose test releases nothing when it ends: it is no lane, plane, front-end, engine or timer unit (R378). -/
def Node.releasesNothing (n : Node) : Prop := n.cls ≠ 0x13 ∧ n.cls ≠ 0x12 ∧ n.cls ≠ 0x05 ∧ n.cls ≠ 0x10 ∧ n.cls ≠ 0x11

theorem nBarrier_releasesNothing (i : Nat) : (nBarrier i).releasesNothing := by simp [Node.releasesNothing, nBarrier]
theorem nCoach_releasesNothing (i : Nat) : (nCoach i).releasesNothing := by simp [Node.releasesNothing, nCoach]

theorem State.testRelease_nothing {n : Node} (h : n.releasesNothing) (s : State) : s.testRelease n = s := by
  obtain ⟨h1, h2, h3, h4, h5⟩ := h
  simp only [State.testRelease, State.unitTesting, h1, h2, h3, h4, h5, if_false]

theorem State.Books.abortTest {s x : State} (h : s.Books x) {q : Test} (hq : q.node.releasesNothing) : s.Books (x.abortTest q) := by
  rw [State.abortTest, State.testRelease_nothing hq]
  exact ((h.post _ _ _ _).concludeTest q 2).drawn

theorem State.Books.beginTest {s x : State} (h : s.Books x) (n : Node) (cls : Nat) : s.Books (x.beginTest n cls) := by
  unfold State.beginTest
  dsimp only
  refine State.Books.post ?_ _ _ _ _
  split <;> exact h.trans ⟨rfl, fun _ he => he⟩

/-- The test found on a block is that block's. -/
theorem Tests.find_block {x : Tests} {n : Node} {cls : Nat} {q : Test} (h : x.find n cls = some q) : q.node = n ∧ q.cls = cls := by
  have := List.find?_some h
  simpa using this

theorem State.Books.startTest {s x : State} (h : s.Books x) {n : Node} (hn : n.releasesNothing) (cls : Nat) :
    s.Books (x.startTest n cls) := by
  unfold State.startTest
  split
  · exact h
  · split
    · exact h.beginTest n cls
    · next q hq =>
      split
      · exact (h.abortTest ((Tests.find_block hq).1 ▸ hn)).beginTest n cls
      · exact h.trans ⟨rfl, fun _ he => he⟩

/-- A test runs on a block. -/
theorem Tests.find_isSome (x : Tests) (n : Node) (cls : Nat) :
    (x.find n cls).isSome = true ↔ ∃ q ∈ x.running, q.node = n ∧ q.cls = cls := by
  simp [Tests.find, List.find?_isSome]

/-- A test that begins joins those that run. -/
theorem State.running_beginTest (s : State) (n : Node) (cls : Nat) :
    (s.beginTest n cls).tests.running = s.tests.running ++ [{ node := n, cls := cls, requested := false, started := s.clock.count }] := by
  unfold State.beginTest
  dsimp only
  split <;> rfl

theorem State.running_finalReply (s : State) (port : Option Side) (queue opcode : Nat) (tag : BitVec 32) (status : Nat)
    (slots : List Nat) : (s.finalReply port queue opcode tag status slots).tests = s.tests := by
  cases port
  · unfold State.finalReply State.addReply; rfl
  · unfold State.finalReply State.addReply; rfl

/-- The end of a block's test takes it, and no other test, off the list. -/
theorem State.running_abortTest (s : State) (q : Test) : (s.abortTest q).tests.running = (s.tests.drop q.node q.cls).running := by
  have hc (x : State) : (x.concludeTest q 2).tests.running = (x.tests.drop q.node q.cls).running := by
    unfold State.concludeTest
    split
    · rfl
    · rw [State.running_finalReply]
  have hr (x : State) : (x.testRelease q.node).tests.running = x.tests.running := by
    unfold State.testRelease State.unitTesting
    split_ifs <;> rfl
  rw [State.abortTest, hr]
  exact hc _

/-- A detected error leaves every other test, and one on the block that was running or could start (R364). -/
theorem State.startTest_isSome (s : State) (n : Node) (cls : Nat) (m : Node) (c : Nat)
    (h : (s.tests.find m c).isSome = true ∨ (s.isRetired n cls = false ∧ m = n ∧ c = cls)) :
    ((s.startTest n cls).tests.find m c).isSome = true := by
  have begun (x : State) : (((x.beginTest n cls).tests.find n cls).isSome = true) := by
    rw [Tests.find_isSome, State.running_beginTest]
    exact ⟨_, List.mem_append_right _ (List.mem_singleton_self _), rfl, rfl⟩
  have kept (x : State) (hx : (x.tests.find m c).isSome = true) : ((x.beginTest n cls).tests.find m c).isSome = true := by
    rw [Tests.find_isSome] at hx ⊢
    obtain ⟨q, hq, hm⟩ := hx
    rw [State.running_beginTest]
    exact ⟨q, List.mem_append_left _ hq, hm⟩
  unfold State.startTest
  split
  · next hr => exact h.elim id fun g => absurd g.1 (by simp [hr])
  · split
    · exact h.elim (kept s) fun g => by rw [g.2.1, g.2.2]; exact begun s
    · next q hq =>
      have hself : (s.tests.find m c).isSome = true :=
        h.elim id fun g => by rw [g.2.1, g.2.2, hq]; rfl
      by_cases hmn : m = n ∧ c = cls
      · obtain ⟨rfl, rfl⟩ := hmn
        split
        · exact begun _
        · rw [Tests.find_isSome] at hself ⊢
          obtain ⟨p, hp, hm⟩ := hself
          exact ⟨_, List.mem_map_of_mem hp, by simp [hm]⟩
      · rw [Tests.find_isSome] at hself
        obtain ⟨p, hp, hm, hcl⟩ := hself
        obtain ⟨hqn, hqc⟩ := Tests.find_block hq
        split
        · refine kept _ ((Tests.find_isSome _ _ _).mpr ⟨p, ?_, hm, hcl⟩)
          rw [State.running_abortTest, hqn, hqc, Tests.drop]
          refine List.mem_filter.mpr ⟨hp, ?_⟩
          simp only [hm, hcl, Bool.not_eq_true', Bool.and_eq_false_iff, decide_eq_false_iff_not]
          exact not_and_or.mp hmn
        · refine (Tests.find_isSome _ _ _).mpr ⟨_, List.mem_map_of_mem hp, ?_⟩
          rw [if_neg (by rw [hm, hcl]; exact hmn)]
          exact ⟨hm, hcl⟩

/-! ### Silence, loss and lanes (R23, R105–R107, R172, R173) -/

/-- The terminals of field chip j have their outputs off and latched. -/
def State.chipOff (t : State) (j : Nat) : Prop :=
  ∀ k ∈ t.outTerms, tChip k = j → (t.termOf k).out.gate = false ∧ (t.termOf k).out.latch = true

/-- A hold on every terminal of a chip takes its outputs off (R16, R476). -/
theorem State.chipOff_settle {s : State} {j : Nat} (h : ∀ k, tChip k = j → s.held k = true) : s.settle.chipOff j := by
  intro k hk hj
  refine s.settle_gatesSafe k hk ?_
  rw [State.tripped_settle, State.tripped, h k hj]
  rfl

theorem State.held_of_silent {s : State} {j : Nat} (h : (s.chipOf j).silent = true) (k : Nat) (hk : tChip k = j) :
    s.held k = true := by simp [State.held, hk, h]

theorem State.held_of_otherLost {s : State} {j : Nat} (h : (s.lanesOf j).otherLost = true) (k : Nat) (hk : tChip k = j) :
    s.held k = true := by simp [State.held, hk, h]

theorem State.held_of_hold {s : State} {j : Nat} (h : (s.lanesOf j).hold = true) (k : Nat) (hk : tChip k = j) :
    s.held k = true := by simp [State.held, State.holdTrip, hk, h]

@[simp] theorem State.lanesOf_updLanes_self (s : State) (i : Nat) (f : Lanes → Lanes) :
    (s.updLanes i f).lanesOf i = f (s.lanesOf i) := by rw [State.lanesOf_updLanes, if_pos rfl]

theorem State.lanesOf_updLanes_other (s : State) {i j : Nat} (h : j ≠ i) (f : Lanes → Lanes) :
    (s.updLanes i f).lanesOf j = s.lanesOf j := by rw [State.lanesOf_updLanes, if_neg h]

/-- A read of an updated key. -/
theorem Tab.get_upd_self {α : Type} [DecidableEq α] (d : α) (t : Tab α) (k : Nat) (f : α → α) :
    Tab.get d (Tab.upd d t k f) k = f (Tab.get d t k) := by rw [Tab.get_upd, if_pos rfl]

/-- A cause in the diagnosis buffer leaves the silence safe state. -/
@[simp] theorem Chip.diagAdd_silent (x : Chip) (cause src tick : Nat) : (x.diagAdd cause src tick).silent = x.silent := by
  unfold Chip.diagAdd
  dsimp only
  split_ifs <;> rfl

theorem tChip_chipTerm (i : Nat) {c : Nat} (h : c < 16) : tChip (chipTerm i c) = i := by
  unfold tChip chipTerm; omega

theorem tLocal_chipTerm (i : Nat) {c : Nat} (h : c < 16) : tLocal (chipTerm i c) = c := by
  unfold tLocal chipTerm; omega

/-- FIELD_SILENCE_TIMEOUT: the silent chip's outputs are off. -/
theorem fieldSilenceTimeout_spec (s : State) (i : ChipIx) : ∃ t, exec (.fieldSilenceTimeout i) s = .next t ∧
    (t.chipOf i.val).silent = true ∧ t.chipOff i.val ∧ t.gatesSafe := by
  refine ⟨_, rfl, ?_, State.chipOff_settle (State.held_of_silent ?_), State.settle_gatesSafe _⟩ <;>
    simp [State.chipCause, State.chipOf, State.diagAdd, State.updChip, Tab.get_upd_self]

theorem State.timeWord_congr {s t : State} (hc : t.clock = s.clock) (ht : t.time = s.time) : t.timeWord = s.timeWord := by
  unfold State.timeWord State.pns
  rw [hc, ht]

theorem State.reports_settle (s t : State) (code : Nat) (src : Node) (sev detail : Nat) :
    s.reports t.settle code src sev detail = s.reports t code src sev detail := rfl

/-- An event posted in a state with the same time, tree and windows is reported. -/
theorem State.reports_of_postL {s x : State} {code sev detail : Nat} {src : Node} (l : Bool) (hc : x.clock = s.clock)
    (ht : x.time = s.time) (hn : x.net = s.net) (hf : x.fn = s.fn) (hd : x.dev = s.dev) (hp : x.pkg = s.pkg)
    (hw : x.windows = s.windows) : s.reports (x.postL code src sev detail l) code src sev detail := by
  have h := x.reports_postL code src sev detail l
  unfold State.reports at h ⊢
  rwa [State.timeWord_congr hc ht, State.folds_congr (State.parent_congr hc hn hf hd hp) hw] at h

theorem State.chipLost_again {s : State} {i : Nat} (h : (s.viewOf i).lost = true) :
    s.chipLost i = s.updView i fun v => { v with returnAt := none } := by rw [State.chipLost, if_pos h]

/-- A chip declared lost: the outputs of the wagon's other chip are off, and the loss is reported (R23, R107). -/
theorem State.chipLost_first {s : State} {i : Nat} (h : (s.viewOf i).lost = false) :
    ((s.chipLost i).viewOf i).lost = true ∧ ((s.chipLost i).lanesOf (chipOther i)).otherLost = true ∧
    s.reports (s.chipLost i) 0x0202 (nChip i) 3 (fld (s.cw cWCFG (i / 2) 0) 71 62) := by
  rw [State.chipLost, if_neg (by simp [h])]
  dsimp only
  refine ⟨?_, ?_, ?_⟩
  · simp [State.viewOf, State.updView, Tab.get_upd_self]
  · simp [State.lanesOf, State.updLanes, Tab.get_upd_self]
  · rw [State.reports_settle]
    apply State.reports_of_postL true <;> dsimp only [State.updChip, State.updLanes, State.updView]

theorem sideSilenceTimeout_spec (s : State) (i : ChipIx) : ∃ t, exec (.sideSilenceTimeout i) s = .next t ∧
    (t.viewOf i.val).lost = true ∧ t.gatesSafe ∧
    ((s.viewOf i.val).lost = false → t.chipOff (chipOther i.val) ∧
      s.reports t 0x0202 (nChip i.val) 3 (fld (s.cw cWCFG (i.val / 2) 0) 71 62)) := by
  refine ⟨_, rfl, ?_, State.settle_gatesSafe _, fun h => ?_⟩
  · cases h : (s.viewOf i.val).lost
    · exact (State.chipLost_first h).1
    · rw [State.chipLost_again h]
      simpa [State.viewOf, State.updView, Tab.get_upd_self] using h
  · obtain ⟨-, ho, hr⟩ := State.chipLost_first h
    exact ⟨State.chipOff_settle (State.held_of_otherLost ho), hr⟩

theorem State.mayReturn_iff (s : State) (i : Nat) : s.mayReturn i = true ↔ (s.viewOf i).lost = true ∧ s.isRetired (nChip i) 0 = false ∧
    (s.chipOf i).silent = false ∧ (s.tests.find (nBarrier i) tcBarrier).isSome = false ∧ s.bankMatches i = true := by
  simp [State.mayReturn, and_assoc]

theorem fieldChipReturn_taken {s : State} {i : ChipIx} (h : s.mayReturn i.val = true) :
    ∃ t, exec (.fieldChipReturn i) s = .next t ∧ (t.viewOf i.val).returnAt = some s.clock.count ∧
      (t.viewOf i.val).lost = true ∧ s.outsOnly t ∧ t = { s with view := t.view, term := t.term } := by
  refine ⟨_, if_pos h, ?_, ?_, State.outsOnly_settle_of rfl, rfl⟩
  · simp [State.viewOf, State.updView, Tab.get_upd_self]
  · simpa [State.viewOf, State.updView, Tab.get_upd_self] using ((s.mayReturn_iff i.val).mp h).1

theorem fieldChipReturn_refused {s : State} {i : ChipIx} (h : ¬ s.mayReturn i.val = true) : s.ends (.fieldChipReturn i) s :=
  State.ends_of_settled (if_neg h)

/-! #### Trip lanes -/

/-- A lane without its carrier, and the test of its barrier (R172). -/
theorem tripLaneChange_lost (s : State) (i : ChipIx) (l : TripLane) : ∃ t, exec (.tripLaneChange i l .lost) s = .next t ∧
    t.gatesSafe ∧ t.lanesOf i.val = (s.lanesOf i.val).cut l true ∧ (∀ j, j ≠ i.val → t.lanesOf j = s.lanesOf j) ∧
    (s.isRetired (nBarrier i.val) tcBarrier = false → (t.tests.find (nBarrier i.val) tcBarrier).isSome = true) := by
  have hl : (((s.updLanes i.val fun x => x.cut l true).settle.startTest (nBarrier i.val) tcBarrier)).lanes =
      (s.updLanes i.val fun x => x.cut l true).lanes :=
    ((State.Books.refl _).startTest (nBarrier_releasesNothing _) tcBarrier).lanes
  refine ⟨_, rfl, State.settle_gatesSafe _, ?_, fun j hj => ?_, fun hr => State.startTest_isSome _ _ _ _ _ (.inr ⟨hr, rfl, rfl⟩)⟩
  · rw [State.lanesOf, State.settle_lanes, hl]
    exact s.lanesOf_updLanes_self i.val fun x => x.cut l true
  · rw [State.lanesOf, State.settle_lanes, hl]
    exact s.lanesOf_updLanes_other hj fun x => x.cut l true

theorem tripLaneChange_back (s : State) (i : ChipIx) (l : TripLane) : ∃ t, exec (.tripLaneChange i l .back) s = .next t ∧
    t.gatesSafe ∧ t.lanesOf i.val = (s.lanesOf i.val).cut l false ∧ (∀ j, j ≠ i.val → t.lanesOf j = s.lanesOf j) ∧
    s.outsOnly t ∧ t = { s with lanes := t.lanes, term := t.term } :=
  ⟨_, rfl, State.settle_gatesSafe _, s.lanesOf_updLanes_self i.val fun x => x.cut l false,
    fun _ hj => s.lanesOf_updLanes_other hj fun x => x.cut l false, State.outsOnly_settle_of rfl, rfl⟩

/-- The at-rest test of a trip lane, before gates settle: it runs for a down lane at rest (R173). -/
def State.laneRest (s : State) (i : Nat) (l : TripLane) (r : RestResult) : State :=
  if 18 ≤ laneItem l ∧ s.atRest i (laneItem l) = true then s.restTest i (laneItem l) r else s

theorem tripLaneChange_restTest (s : State) (i : ChipIx) (l : TripLane) (r : RestResult) :
    exec (.tripLaneChange i l (.restTest r)) s = .next (s.laneRest i.val l r).settle := rfl

/-- It does nothing for an up lane, a lane not at rest, one that a real stop holds, and one that has not run (R174). -/
theorem State.laneRest_none {s : State} {i : Nat} {l : TripLane} {r : RestResult}
    (h : l = .up0 ∨ l = .up1 ∨ s.atRest i (laneItem l) = false ∨ s.laneStopped i (laneItem l) = true ∨ r = .notRun) :
    s.laneRest i l r = s := by
  have hr : s.laneStopped i (laneItem l) = true ∨ r = .notRun → s.restTest i (laneItem l) r = s := by
    rintro (h | rfl) <;> simp [State.restTest, *]
  unfold State.laneRest
  split
  · next hg =>
    obtain ⟨hd, ha⟩ := hg
    rcases h with rfl | rfl | h | h
    · exact absurd hd (by decide)
    · exact absurd hd (by decide)
    · exact absurd ha (by simp [h])
    · exact hr h
  · rfl

theorem down_laneItem {l : TripLane} (h : l = .down0 ∨ l = .down1) : 18 ≤ laneItem l := by
  rcases h with rfl | rfl <;> decide

theorem State.laneRest_runs {s : State} {i : Nat} {l : TripLane} (hl : l = .down0 ∨ l = .down1)
    (ha : s.atRest i (laneItem l) = true) (hs : s.laneStopped i (laneItem l) = false) :
    s.laneRest i l .pass = s.restPassed i (laneItem l) ∧ s.laneRest i l .fail = s.startTest (nBarrier i) tcBarrier := by
  have hd := down_laneItem hl
  have hn : ¬ laneItem l < 16 := by omega
  simp [State.laneRest, State.restTest, hd, ha, hs, hn]

/-! #### Hold lane and pair lane -/

theorem holdLaneTrip_spec (s : State) (i : ChipIx) : ∃ t, exec (.holdLaneTrip i) s = .next t ∧
    t.lanesOf i.val = { s.lanesOf i.val with hold := true } ∧ t.chipOff i.val ∧
    s.outsOnly t ∧ t = { s with lanes := t.lanes, term := t.term } := by
  have hl := s.lanesOf_updLanes_self i.val fun l => { l with hold := true }
  exact ⟨_, rfl, hl, State.chipOff_settle (State.held_of_hold (by rw [hl])), State.outsOnly_settle_of rfl, rfl⟩

theorem holdLaneRelease_spec (s : State) (i : ChipIx) : ∃ t, exec (.holdLaneRelease i) s = .next t ∧
    t.lanesOf i.val = { s.lanesOf i.val with
      hold := false
      restAt := if (s.lanesOf i.val).hold = true ∧ s.atRest i.val 20 = true then Tab.set 0 (s.lanesOf i.val).restAt 20 s.clock.count
        else (s.lanesOf i.val).restAt } ∧ t.gatesSafe ∧
    s.outsOnly t ∧ t = { s with lanes := t.lanes, term := t.term } := by
  have hx : exec (.holdLaneRelease i) s = settled
      (if (s.lanesOf i.val).hold = true ∧ s.atRest i.val 20 = true
        then (s.updLanes i.val fun l => { l with hold := false }).restPassed i.val 20
        else s.updLanes i.val fun l => { l with hold := false }) := rfl
  rw [hx]
  split
  · refine ⟨_, rfl, ?_, State.settle_gatesSafe _, State.outsOnly_settle_of rfl, rfl⟩
    simp [State.restPassed]
  · refine ⟨_, rfl, ?_, State.settle_gatesSafe _, State.outsOnly_settle_of rfl, rfl⟩
    simp

/-- A cause at a terminal leaves the lanes (R55, R81). -/
theorem State.calAbort_lanes (s : State) (t : Nat) : (s.calAbort t).lanes = s.lanes := by
  have hend (x : State) (st : Nat) : (x.calEnd t st).lanes = x.lanes := by
    unfold State.calEnd
    dsimp only
    split
    · rfl
    · exact ((State.Books.refl _).finalReply _ _ _ _ _ _).lanes
  unfold State.calAbort
  split
  · exact hend _ _
  · rfl

theorem State.raiseCause_lanes (s : State) (t cause : Nat) : (s.raiseCause t cause).lanes = s.lanes := by
  unfold State.raiseCause State.raiseCauseD
  dsimp only
  split_ifs
  · rfl
  · dsimp only [State.diagAdd, State.updChip]
  · rw [State.calAbort_lanes]
    dsimp only [State.postL, State.diagAdd, State.updChip, State.updTerm]
  · dsimp only [State.postL, State.diagAdd, State.updChip, State.updTerm]

/-- The end of a calibration leaves the causes of every terminal. -/
theorem State.calAbort_tstat (s : State) (t k : Nat) : ((s.calAbort t).termOf k).tstat = (s.termOf k).tstat := by
  have hend (x : State) (st : Nat) : ((x.calEnd t st).termOf k).tstat = (x.termOf k).tstat := by
    have hu (f : Terminal → Terminal) (hf : ∀ y, (f y).tstat = y.tstat) : ((x.updTerm t f).termOf k).tstat = (x.termOf k).tstat := by
      rw [State.termOf_updTerm]; split
      · next h => rw [h]; exact hf _
      · rfl
    unfold State.calEnd
    dsimp only
    split
    · exact hu _ fun _ => rfl
    · rw [State.termOf, ((State.Books.refl _).finalReply _ _ _ _ _ _).term]
      exact hu _ fun _ => rfl
  unfold State.calAbort
  split
  · exact hend _ _
  · rfl

/-- A cause that arises is present afterwards, at a terminal that is not OFF (R81, R475). -/
theorem State.raiseCause_causes (s : State) {t cause : Nat} (hm : s.mode (tChan t) ≠ mOFF) (hc : cause < 32) :
    ((s.raiseCause t cause).termOf t).tstat.causes.getLsbD cause = true := by
  have hraise (x : Tstat) (now : Nat) : (x.raise cause now).causes.getLsbD cause = true := by
    have h := bit_setBit x.causes cause cause true
    rw [if_pos ⟨rfl, hc⟩] at h
    unfold Tstat.raise
    split <;> exact h
  have hone : (((s.updTerm t fun x => { x with tstat := x.tstat.raise cause s.clock.count }).termOf t).tstat.causes.getLsbD
      cause) = true := by
    rw [State.termOf_updTerm, if_pos rfl]; exact hraise _ _
  unfold State.raiseCause State.raiseCauseD
  rw [if_neg hm]
  split
  · next h => exact h
  · dsimp only
    split
    · rw [State.calAbort_tstat]; exact hone
    · exact hone

theorem Tstat.lower_causes (x : Tstat) {cause : Nat} (hc : cause < 32) : (x.lower cause).causes.getLsbD cause = false := by
  have h := bit_setBit x.causes cause cause false
  rwa [if_pos ⟨rfl, hc⟩] at h

theorem State.lanesOf_lowerCause (s : State) (t cause i : Nat) : (s.lowerCause t cause).lanesOf i = s.lanesOf i := rfl

theorem State.lowerCause_causes (s : State) (t : Nat) {cause : Nat} (hc : cause < 32) :
    ((s.lowerCause t cause).termOf t).tstat.causes.getLsbD cause = false := by
  have h : (s.lowerCause t cause).termOf t = (s.updTerm t fun x => { x with tstat := x.tstat.lower cause }).termOf t := rfl
  rw [h, State.termOf_updTerm, if_pos rfl]
  exact Tstat.lower_causes _ hc

/-- A low pair-lane line takes its terminal off (R106). -/
theorem State.settle_gate_of_pairCut {s : State} {i c : Nat} (hc : c < 16) (h : bit (s.lanesOf i).pairCut c = true)
    (ht : chipTerm i c ∈ s.settle.outTerms) : (s.settle.termOf (chipTerm i c)).out.gate = false := by
  refine (s.settle_gatesSafe _ ht ?_).1
  rw [State.tripped_settle, State.tripped, State.pairLow, tChip_chipTerm i hc, tLocal_chipTerm i hc, h]
  simp

theorem bit_setBit_self {n : Nat} (w : BitVec n) {c : Nat} (hc : c < n) (b : Bool) : bit (setBit w c b) c = b := by
  rw [bit_setBit, if_pos ⟨rfl, hc⟩]

/-- PAIR_LANE_TRIP of a low line, through a fault or not. -/
theorem pairLaneTrip_low (s : State) (i : ChipIx) (c : LocalIx) (fault : Bool) :
    ∃ t, exec (.pairLaneTrip i c true fault) s = .next t ∧ bit (t.lanesOf i.val).pairCut c.val = true ∧ t.gatesSafe ∧
      (chipTerm i.val c.val ∈ t.outTerms → (t.termOf (chipTerm i.val c.val)).out.gate = false) ∧
      (fault = true → s.mode (tChan (chipTerm i.val c.val)) ≠ mOFF →
        (t.termOf (chipTerm i.val c.val)).tstat.causes.getLsbD 0x12 = true) := by
  cases fault with
  | false =>
    have hcut : bit ((s.updLanes i.val fun l => { l with pairCut := setBit l.pairCut c.val true }).lanesOf i.val).pairCut c.val = true := by
      rw [State.lanesOf_updLanes_self]; exact bit_setBit_self _ c.isLt true
    exact ⟨_, rfl, hcut, State.settle_gatesSafe _, State.settle_gate_of_pairCut c.isLt hcut, fun h => absurd h (by decide)⟩
  | true =>
    have hcut : bit ((s.pairFault i.val c.val).lanesOf i.val).pairCut c.val = true := by
      rw [State.lanesOf, State.pairFault, State.raiseCause_lanes]
      exact (congrArg (fun l : Lanes => bit l.pairCut c.val) (s.lanesOf_updLanes_self i.val _)).trans (bit_setBit_self _ c.isLt true)
    refine ⟨_, rfl, hcut, State.settle_gatesSafe _, State.settle_gate_of_pairCut c.isLt hcut, fun _ hm => ?_⟩
    have hset (x : State) (k : Nat) : (x.settle.termOf k).tstat = (x.termOf k).tstat := x.settle_tstat k
    show ((s.pairFault i.val c.val).settle.termOf _).tstat.causes.getLsbD 0x12 = true
    rw [hset]
    exact State.raiseCause_causes _ hm (by decide)

theorem pairLaneTrip_high (s : State) (i : ChipIx) (c : LocalIx) :
    ∃ t, exec (.pairLaneTrip i c false false) s = .next t ∧ bit (t.lanesOf i.val).pairCut c.val = false ∧ t.gatesSafe ∧
      s.outsOnly t ∧ t = { s with lanes := t.lanes, term := t.term } := by
  refine ⟨_, rfl, ?_, State.settle_gatesSafe _, State.outsOnly_settle_of rfl, rfl⟩
  rw [State.lanesOf_settle, State.lanesOf_updLanes_self]
  exact bit_setBit_self _ c.isLt false

theorem pairLineRecovery_spec (s : State) (i : ChipIx) (c : LocalIx) :
    ∃ t, exec (.pairLineRecovery i c) s = .next t ∧ bit (t.lanesOf i.val).pairCut c.val = false ∧ t.gatesSafe ∧
      (s.lineTested i.val c.val = true →
        bit (t.lanesOf i.val).pairBad c.val = false ∧ (t.termOf (chipTerm i.val c.val)).tstat.causes.getLsbD 0x12 = false) ∧
      (s.lineTested i.val c.val = false → s.outsOnly t ∧ t = { s with lanes := t.lanes, term := t.term }) := by
  cases h : s.lineTested i.val c.val with
  | false =>
    refine ⟨_, if_neg (by simp [h]), ?_, State.settle_gatesSafe _, fun h => absurd h (by decide), fun _ =>
      ⟨State.outsOnly_settle_of rfl, rfl⟩⟩
    rw [State.lanesOf_settle, State.lanesOf_updLanes_self]
    exact bit_setBit_self _ c.isLt false
  | true =>
    refine ⟨_, if_pos h, ?_, State.settle_gatesSafe _, fun _ => ⟨?_, ?_⟩, fun h => absurd h (by decide)⟩
    · rw [State.lanesOf_settle, State.lanesOf_lowerCause, State.lanesOf_updLanes_self, State.lanesOf_updLanes_self]
      exact bit_setBit_self _ c.isLt false
    · rw [State.lanesOf_settle, State.lanesOf_lowerCause, State.lanesOf_updLanes_self]
      exact bit_setBit_self _ c.isLt false
    · rw [State.settle_tstat]
      exact State.lowerCause_causes _ _ (by decide)

/-- Settles O20, row by row: each row's lemma above says what it answers. -/
theorem silenceLossAndLanes : Obligations.SilenceLossAndLanes := by
  unfold Obligations.SilenceLossAndLanes
  intro s i c
  refine ⟨fieldSilenceTimeout_spec s i, sideSilenceTimeout_spec s i, ?returns, ?stays, fun l => ⟨tripLaneChange_lost s i l,
    tripLaneChange_back s i l, ?idle, ?rest⟩, holdLaneTrip_spec s i, holdLaneRelease_spec s i, pairLaneTrip_low s i c,
    pairLaneTrip_high s i c, pairLineRecovery_spec s i c⟩
  case returns =>
    exact fun h1 h2 h3 h4 h5 => fieldChipReturn_taken ((s.mayReturn_iff i.val).mpr ⟨h1, h2, h3, h4, h5⟩)
  case stays =>
    intro h
    obtain ⟨t, hx, ht, ho⟩ := fieldChipReturn_refused (s := s) (i := i) (by
      rw [s.mayReturn_iff i.val]
      rintro ⟨h1, h2, h3, h4, h5⟩
      simp [h1, h2, h3, h4, h5] at h)
    exact ⟨t, hx, ho, ht⟩
  case idle =>
    intro r h
    rw [tripLaneChange_restTest, State.laneRest_none h]
    exact ⟨_, rfl, s.settle_gatesSafe, s.outsOnly_settle, rfl⟩
  case rest =>
    intro hl ha hs
    obtain ⟨hpass, hfail⟩ := State.laneRest_runs hl ha hs
    rw [tripLaneChange_restTest, tripLaneChange_restTest, hpass, hfail]
    refine ⟨⟨_, rfl, State.settle_gatesSafe _, ?_, State.outsOnly_settle_of rfl, rfl⟩, _, rfl, State.settle_gatesSafe _, ?_,
      fun hr => State.startTest_isSome _ _ _ _ _ (.inr ⟨hr, rfl, rfl⟩)⟩
    · rw [State.lanesOf_settle, State.restPassed, State.lanesOf_updLanes_self]
      exact Tab.get_set_self _ _ _ _
    · exact ((State.Books.refl s).startTest (nBarrier_releasesNothing _) tcBarrier).lanes

/-! ### What a hand-over's end and a function's fault leave (R199, R249) -/

/-- What the end of a hand-over rewrites in a slot: the hand-over and its target's marks. -/
def Slot.hands (x y : Slot) : Slot :=
  { x with hand := y.hand, cause := y.cause, shadowOk := y.shadowOk, shadowOf := y.shadowOf, buf := y.buf, st := y.st }

/-- t is s but for its books, hand-overs and activations. -/
structure State.Hands (s t : State) : Prop where
  frame : t = { s with
    tests := t.tests, view := t.view, log := t.log, windows := t.windows, journal := t.journal, queue := t.queue
    port := t.port, svc := t.svc, free := t.free, slot := t.slot
    dev := { s.dev with cfgAct := t.dev.cfgAct, fwAct := t.dev.fwAct } }
  slot : ∀ q, t.slotOf q = (s.slotOf q).hands (t.slotOf q)
  log : ∀ e ∈ s.log, e ∈ t.log

theorem State.Hands.refl (s : State) : s.Hands s := ⟨rfl, fun _ => rfl, fun _ h => h⟩

theorem State.Hands.trans {s t u : State} (h : s.Hands t) (g : t.Hands u) : s.Hands u := by
  refine ⟨?_, fun q => ?_, fun e he => g.log e (h.log e he)⟩
  · have hu := g.frame
    rw [h.frame] at hu
    exact hu
  · have hu := g.slot q
    rw [h.slot q] at hu
    exact hu

/-- The books alone change neither. -/
theorem State.Books.hands {s t : State} (h : s.Books t) : s.Hands t := by
  refine ⟨?_, fun q => ?_, h.log⟩
  · rw [h.dev, h.slot]
    exact h.frame
  · rw [State.slotOf, h.slot]
    rfl

section
variable {s t : State} (h : s.Hands t)
include h

/-! What a hand-over's end leaves. -/
theorem State.Hands.clock : t.clock = s.clock := (congrArg State.clock h.frame :)
theorem State.Hands.frameSt : t.frameSt = s.frameSt := (congrArg State.frameSt h.frame :)
theorem State.Hands.half : t.half = s.half := (congrArg State.half h.frame :)
theorem State.Hands.coach : t.coach = s.coach := (congrArg State.coach h.frame :)
theorem State.Hands.coachSt : t.coachSt = s.coachSt := (congrArg State.coachSt h.frame :)
theorem State.Hands.fn : t.fn = s.fn := (congrArg State.fn h.frame :)
theorem State.Hands.mem : t.mem = s.mem := (congrArg State.mem h.frame :)
theorem State.Hands.linkWait : t.linkWait = s.linkWait := (congrArg State.linkWait h.frame :)
theorem State.Hands.otp : t.dev.otp = s.dev.otp := (congrArg (fun x : State => x.dev.otp) h.frame :)

theorem State.Hands.otp1 : t.dev.otp1 = s.dev.otp1 := (congrArg (fun x : State => x.dev.otp1) h.frame :)

/-- A coach stays where the map has it. -/
theorem State.Hands.slotCoach (d : Side) (p : Nat) : t.slotCoach d p = s.slotCoach d p := by
  rw [State.slotCoach, h.slot p]
  cases d <;> rfl

end

theorem State.Hands.abortActivation {s x : State} (h : s.Hands x) (p : Nat) : s.Hands (x.abortActivation p) := by
  have ends (c f : Option Activation) (a : Activation) (op : Nat) :
      let y := { x with dev := { x.dev with cfgAct := c, fwAct := f } }
      s.Hands ((y.finalReply (some a.port) a.queue op a.tag y.freeStatus []).drawn) :=
    State.Hands.trans (t := { x with dev := { x.dev with cfgAct := c, fwAct := f } })
      (h.trans ⟨rfl, fun _ => rfl, fun _ he => he⟩) ((State.Books.refl _).finalReply _ _ _ _ _ _).drawn.hands
  unfold State.abortActivation
  dsimp only
  split
  · split
    · exact ends _ _ _ _
    · exact h
  · split
    · exact ends _ _ _ _
    · exact h
  · exact h

/-- The requested tests of a slot's coaches are tests of coaches. -/
theorem State.testsCoachOf_releasesNothing {s : State} {p : Nat} {q : Test} (h : s.testsCoachOf p q = true) : q.node.releasesNothing := by
  simp only [State.testsCoachOf, Bool.and_eq_true, Bool.or_eq_true, decide_eq_true_eq] at h
  obtain ⟨-, hq | hq⟩ := h <;> rw [hq] <;> exact nCoach_releasesNothing _

theorem State.Hands.abortCoachTest {s x : State} (h : s.Hands x) (p : Nat) : s.Hands (x.abortCoachTest p) := by
  have keeps (l : List Test) (hl : ∀ q ∈ l, q.node.releasesNothing) (y : State) : y.Books (l.foldl State.abortTest y) := by
    induction l generalizing y with
    | nil => exact .refl y
    | cons q r ih =>
      exact ((State.Books.refl y).abortTest (hl q List.mem_cons_self)).trans (ih (fun a ha => hl a (List.mem_cons_of_mem _ ha)) _)
  exact h.trans (keeps _ (fun q hq => State.testsCoachOf_releasesNothing (List.mem_filter.mp hq).2) x).hands

/-- An update of a slot's hand-over fields. -/
theorem State.Hands.updSlot {s x : State} (h : s.Hands x) (p : Nat) (f : Slot → Slot) (hf : ∀ y, f y = y.hands (f y)) :
    s.Hands (x.updSlot p f) := by
  refine h.trans ⟨rfl, fun q => ?_, fun _ he => he⟩
  rw [State.slotOf_updSlot]
  split
  · next hq => rw [hq]; exact hf _
  · rfl

theorem State.Hands.abortHandover {s x : State} (h : s.Hands x) (p : Nat) : s.Hands (x.abortHandover p) := by
  unfold State.abortHandover
  split
  · exact h
  · next g _ =>
    have h3 : s.Hands ((((x.updSlot p fun y => { y with hand := none }).updSlot g.target fun y => { y with
        cause := 7, shadowOk := 0, shadowOf := none, buf := ⟨[], []⟩, st := if y.st = .shadow then .locked else y.st }).postL
        0x0306 (nSlot p) 3 g.target false).abortActivation p |>.abortCoachTest p) := by
      refine State.Hands.abortCoachTest (State.Hands.abortActivation (State.Hands.trans ?_
        ((State.Books.refl _).postL _ _ _ _ _).hands) p) p
      exact (h.updSlot p _ fun _ => rfl).updSlot _ _ fun _ => rfl
    dsimp only
    split
    · exact h3
    · exact h3.trans ((State.Books.refl _).finalReply _ _ _ _ _ _).drawn.hands

theorem State.Hands.abortAround {s x : State} (h : s.Hands x) (p : Nat) : s.Hands (x.abortAround p) := by
  unfold State.abortAround
  dsimp only
  split
  · exact h.abortHandover p
  · exact (h.abortHandover p).abortHandover _

theorem State.Hands.shadowCompare {s x : State} (h : s.Hands x) (p : Nat) : s.Hands (x.shadowCompare p) := by
  unfold State.shadowCompare
  split
  · exact h
  · split
    · exact h
    · split
      · split
        · exact (h.updSlot p _ fun _ => rfl).updSlot _ _ fun _ => rfl
        · exact h.abortHandover p
      · exact h

/-- Without a hand-over of the slot or to it nothing ends. -/
theorem State.abortAround_none {s : State} {p : Nat} (h : (s.slotOf p).hand = none) (hs : s.sourceOf p = none) :
    s.abortAround p = s := by
  simp [State.abortAround, State.abortHandover, h, hs]

/-! #### Functions in FAULT -/

/-- t is s but for its books, functions, ledger and armed function. -/
structure State.Marks (s t : State) : Prop where
  frame : t = { s with
    tests := t.tests, view := t.view, log := t.log, windows := t.windows, journal := t.journal, queue := t.queue
    port := t.port, svc := t.svc, free := t.free, fn := t.fn, armed := t.armed, ledger := t.ledger }
  log : ∀ e ∈ s.log, e ∈ t.log

theorem State.Marks.refl (s : State) : s.Marks s := ⟨rfl, fun _ h => h⟩

theorem State.Marks.trans {s t u : State} (h : s.Marks t) (g : t.Marks u) : s.Marks u := by
  refine ⟨?_, fun e he => g.log e (h.log e he)⟩
  have hu := g.frame
  rw [h.frame] at hu
  exact hu

theorem State.Books.marks {s t : State} (h : s.Books t) : s.Marks t := by
  refine ⟨?_, h.log⟩
  rw [h.fn, h.armed, h.ledger]
  exact h.frame

section
variable {s t : State} (h : s.Marks t)
include h

/-! What they leave. -/
theorem State.Marks.clock : t.clock = s.clock := (congrArg State.clock h.frame :)
theorem State.Marks.frameSt : t.frameSt = s.frameSt := (congrArg State.frameSt h.frame :)
theorem State.Marks.time : t.time = s.time := (congrArg State.time h.frame :)
theorem State.Marks.half : t.half = s.half := (congrArg State.half h.frame :)
theorem State.Marks.coachSt : t.coachSt = s.coachSt := (congrArg State.coachSt h.frame :)
theorem State.Marks.slot : t.slot = s.slot := (congrArg State.slot h.frame :)
theorem State.Marks.mem : t.mem = s.mem := (congrArg State.mem h.frame :)
theorem State.Marks.dev : t.dev = s.dev := (congrArg State.dev h.frame :)
theorem State.Marks.linkWait : t.linkWait = s.linkWait := (congrArg State.linkWait h.frame :)

end

theorem State.Marks.updFn {s x : State} (h : s.Marks x) (f : Nat) (g : Fn → Fn) : s.Marks (x.updFn f g) :=
  h.trans ⟨rfl, fun _ he => he⟩

theorem State.Marks.setFn {s x : State} (h : s.Marks x) (f : Nat) (st : FnState) (cause detail term : Nat) :
    s.Marks (x.setFn f st cause detail term) := by
  have hp (l : List Event) : ∀ e ∈ x.log, e ∈ x.log ++ l := fun e he => List.mem_append_left _ he
  cases st <;> exact h.trans ⟨rfl, hp _⟩

/-- A function's state is set in its record and posted (R249). -/
theorem State.setFn_fields (s : State) (f : Nat) (st : FnState) (cause detail term : Nat) : ∃ (a : Option Armed) (g : Fn → Fn),
    (g (s.fnOf f)).st = st ∧ (s.setFn f st cause detail term).fn = (s.updFn f g).fn ∧
    (s.setFn f st cause detail term).windows = (State.postFn (State.updFn { s with armed := a } f g) f st cause detail).windows :=
  ⟨if (s.armed.map fun (a : Armed) => a.fn) = some f then none else s.armed, fun x => { x with
    st := st, cause := BitVec.ofNat 8 cause, detail := BitVec.ofNat 8 detail, term := term,
    chgFrame := BitVec.ofNat 32 s.clock.frame.toNat, next := none, parent := s.causeNode f cause detail term,
    armedAt := (match st with | .armed => s.clock.count | _ => x.armedAt) }, rfl, by cases st <;> rfl, by cases st <;> rfl⟩

theorem State.setFn_fnOf (s : State) (f : Nat) (st : FnState) (cause detail term k : Nat) :
    (k = f → ((s.setFn f st cause detail term).fnOf k).st = st) ∧
    (k ≠ f → (s.setFn f st cause detail term).fnOf k = s.fnOf k) := by
  obtain ⟨-, g, hg, hs, -⟩ := s.setFn_fields f st cause detail term
  have hk := s.fnOf_updFn f g k
  rw [State.fnOf, ← hs] at hk
  exact ⟨fun h => by rw [State.fnOf, hk, if_pos h, hg], fun h => by rw [State.fnOf, hk, if_neg h]⟩

theorem State.Marks.faultNow {s x : State} (h : s.Marks x) (f cause detail term : Nat) : s.Marks (x.faultNow f cause detail term) := by
  unfold State.faultNow
  split
  · exact h.trans ((State.Books.refl x).postL _ _ _ _ _).marks
  · exact h.setFn _ _ _ _ _

/-- A function faulted is in FAULT, and every other one as before (R249). -/
theorem State.faultNow_fnOf (s : State) (f cause detail term k : Nat) :
    (k = f → ((s.faultNow f cause detail term).fnOf k).st = .fault) ∧
    (k ≠ f → (s.faultNow f cause detail term).fnOf k = s.fnOf k) := by
  unfold State.faultNow
  split
  · next h => exact ⟨fun hk => hk ▸ h, fun _ => rfl⟩
  · exact s.setFn_fnOf f .fault cause detail term k

/-- Steps that each set one function's state set those of a list. -/
theorem State.forEach_fnOf {P : Fn → Prop} {f : State → Nat → State} (hself : ∀ x k, P ((f x k).fnOf k))
    (hother : ∀ x i k, k ≠ i → (f x i).fnOf k = x.fnOf k) (s : State) (l : List Nat) (k : Nat) :
    (k ∈ l → P ((s.forEach l f).fnOf k)) ∧ (k ∉ l → (s.forEach l f).fnOf k = s.fnOf k) := by
  induction l generalizing s with
  | nil => exact ⟨fun h => absurd h List.not_mem_nil, fun _ => rfl⟩
  | cons i r ih =>
    obtain ⟨hin, hout⟩ := ih (f s i)
    refine ⟨fun hk => ?_, fun hk => ?_⟩
    · by_cases hr : k ∈ r
      · exact hin hr
      · obtain rfl := (List.mem_cons.mp hk).resolve_right hr
        have h := hself s k
        rwa [← hout hr] at h
    · rw [List.mem_cons, not_or] at hk
      exact (hout hk.2).trans (hother s i k hk.1)

theorem State.Marks.faultAll {s x : State} (h : s.Marks x) (fs : List Nat) (cause detail : Nat) : s.Marks (x.faultAll fs cause detail) :=
  forEach_inv (fun y => s.Marks y) _ (fun _ _ hy => hy.faultNow _ _ _ _) x fs h

/-- The listed functions are in FAULT, every other one as before. -/
theorem State.faultAll_fnOf (s : State) (fs : List Nat) (cause detail k : Nat) :
    (k ∈ fs → ((s.faultAll fs cause detail).fnOf k).st = .fault) ∧
    (k ∉ fs → (s.faultAll fs cause detail).fnOf k = s.fnOf k) :=
  State.forEach_fnOf (P := fun z => z.st = .fault) (fun x k => (x.faultNow_fnOf k cause detail 0x1FF k).1 rfl)
    (fun x i k => (x.faultNow_fnOf i cause detail 0x1FF k).2) s fs k

/-! ### Reports at a slot (R379) -/

/-- From s to t, new windows open at nodes of P alone. -/
def State.opensAt (P : Node → Prop) (s t : State) : Prop := ∀ w ∈ t.windows, (∃ v ∈ s.windows, v.node = w.node) ∨ P w.node

theorem State.opensAt_of_eq {P : Node → Prop} {s t : State} (h : t.windows = s.windows) : s.opensAt P t :=
  fun w hw => .inl ⟨w, h ▸ hw, rfl⟩

theorem State.opensAt.trans {P : Node → Prop} {s t u : State} (h : s.opensAt P t) (g : t.opensAt P u) : s.opensAt P u := by
  intro w hw
  obtain ⟨v, hv, hn⟩ | hP := g w hw
  · rw [← hn]
    exact h v hv
  · exact .inr hP

theorem State.rootWindow_node (s : State) (code : Nat) (src : Node) (lasting : Bool) : (s.rootWindow code src lasting).node = src := by
  unfold State.rootWindow
  split
  · rfl
  · next o ho => simpa using List.find?_some ho

/-- A posted event opens a window at its source alone. -/
theorem State.opensAt_postL (s : State) (code : Nat) (src : Node) (sev detail : Nat) (l : Bool) :
    s.opensAt (· = src) (s.postL code src sev detail l) := by
  intro w hw
  change w ∈ (s.posting code src sev detail l).windows at hw
  unfold State.posting at hw
  dsimp only at hw
  split at hw
  · obtain ⟨v, hv, rfl⟩ := List.mem_map.mp hw
    refine .inl ⟨v, hv, ?_⟩
    split <;> rfl
  · split at hw
    · rw [List.mem_append, List.mem_singleton] at hw
      obtain hw | rfl := hw
      · exact .inl ⟨w, List.mem_of_mem_filter (List.mem_of_mem_filter hw), rfl⟩
      · exact .inr (s.rootWindow_node _ _ _)
    · exact .inl ⟨w, hw, rfl⟩

theorem State.opensAt.mono {P Q : Node → Prop} {s t : State} (h : s.opensAt P t) (hPQ : ∀ n, P n → Q n) : s.opensAt Q t :=
  fun w hw => (h w hw).imp_right (hPQ _)

/-- A function in FAULT opens windows at functions alone. -/
theorem State.opensAt_faultAll (s : State) (fs : List Nat) (cause detail : Nat) :
    s.opensAt (· ≠ nDevice) (s.faultAll fs cause detail) := by
  have posts (x : State) (f c sev det : Nat) (l : Bool) : x.opensAt (· ≠ nDevice) (x.postL c (nFn f) sev det l) := by
    refine (x.opensAt_postL c (nFn f) sev det l).mono ?_
    rintro n rfl
    exact fun h => absurd (congrArg Node.cls h) (by simp [nFn, nDevice])
  refine forEach_inv (fun y => s.opensAt (· ≠ nDevice) y) _ (fun x f hx => hx.trans ?_) s fs (State.opensAt_of_eq rfl)
  unfold State.faultNow
  split
  · exact posts x f _ _ _ _
  · obtain ⟨a, g, -, -, hw⟩ := x.setFn_fields f .fault cause detail 0x1FF
    rw [State.opensAt, hw]
    exact (State.opensAt_of_eq rfl).trans (posts (State.updFn { x with armed := a } f g) f _ _ _ _)

/-- A node directly below the device (R362). -/
def Node.top (n : Node) : Prop := ∀ s : State, s.ancestors n = [nDevice]

theorem nSlot_top (p : Nat) : (nSlot p).top := fun _ => rfl
theorem nLink_top : nLink.top := fun _ => rfl

theorem State.folds_top {n : Node} (h : n.top) (s : State) : s.folds n = s.windows.any fun w => decide (w.node = nDevice) := by
  rw [State.folds, h]
  simp

/-- Windows opened below the device fold no event of a node directly below it. -/
theorem State.reports_top {n : Node} (h : n.top) {s x : State} (ht : x.timeWord = s.timeWord) (hw : s.opensAt (· ≠ nDevice) x)
    (code sev detail : Nat) (l : Bool) : s.reports (x.postL code n sev detail l) code n sev detail := by
  have hr := x.reports_postL code n sev detail l
  unfold State.reports at hr ⊢
  rw [ht] at hr
  refine hr.imp_left fun hx => ?_
  rw [State.folds_top h, List.any_eq_true] at hx ⊢
  obtain ⟨w, hm, hn⟩ := hx
  obtain ⟨v, hv, hvn⟩ | hne := hw w hm
  · exact ⟨v, hv, by rwa [hvn]⟩
  · exact absurd (of_decide_eq_true hn) hne

/-! ### A registered mismatch (R188, R189) -/

theorem State.retired_congr {s t : State} (hm : t.mem = s.mem) (ho : t.dev.otp = s.dev.otp) (ho1 : t.dev.otp1 = s.dev.otp1) (n : Node)
    (cls : Nat) : t.isRetired n cls = s.isRetired n cls := by
  unfold State.isRetired State.retired State.recRead State.otpOf
  rw [hm, ho, ho1]

/-- Side d asserts its lattice signal for slot p, stops its copy and discards its buffer; frame memory stands. -/
def State.asserts (s t : State) (d : Side) (p : Nat) : Prop :=
  bit (t.halfOf d).mismatch p = true ∧ (∀ k < 48, k ≠ p → bit (t.halfOf d).mismatch k = bit (s.halfOf d).mismatch k) ∧
  t.halfOf d.other = s.halfOf d.other ∧ (t.cstOf (s.slotCoach d p)).stopped = true ∧ (t.slotOf p).reg.get d = true ∧
  (t.slotOf p).work.get d = [] ∧ t.mem = s.mem ∧ t.gatesSafe

theorem State.slotOf_updSlot_self (s : State) (p : Nat) (f : Slot → Slot) : (s.updSlot p f).slotOf p = f (s.slotOf p) := by
  rw [State.slotOf_updSlot, if_pos rfl]

theorem State.cstOf_updCst_self (s : State) (i : Nat) (f : CoachSt → CoachSt) : (s.updCst i f).cstOf i = f (s.cstOf i) := by
  rw [State.cstOf_updCst, if_pos rfl]

/-- The slot after a side has registered its mismatch. -/
theorem State.sideMismatch_slotOf (s : State) (d : Side) (p : Nat) : (s.sideMismatch d p).slotOf p =
    { (s.slotOf p).setUnit d ⟨[], []⟩ with reg := (s.slotOf p).reg.set true d, work := (s.slotOf p).work.set [] d } := by
  have h := State.slotOf_updSlot_self ((s.updHalf d fun h => { h with mismatch := setBit h.mismatch p true }).updCst (s.slotCoach d p)
    fun c => { c with stopped := true }) p fun x =>
      { x.setUnit d ⟨[], []⟩ with reg := x.reg.set true d, work := x.work.set [] d }
  cases d <;> exact h

/-- What a side that registers does lasts into any state with its half, its copies and its slot. -/
theorem State.asserts_of {s x t : State} {d : Side} {p : Nat} (hp : p < 48) (xh : x.half = s.half)
    (xc : x.slotCoach d p = s.slotCoach d p) (xm : x.mem = s.mem)
    (th : t.half = (x.sideMismatch d p).half) (tc : t.coachSt = (x.sideMismatch d p).coachSt)
    (tr : (t.slotOf p).reg.get d = true) (tw : (t.slotOf p).work.get d = []) (tm : t.mem = x.mem) (tg : t.gatesSafe) :
    s.asserts t d p := by
  have hd (e : Side) : t.halfOf e = ((x.updHalf d fun h => { h with mismatch := setBit h.mismatch p true }).halfOf e) := by
    rw [State.halfOf, th]
    rfl
  have hx (e : Side) : x.halfOf e = s.halfOf e := by rw [State.halfOf, xh]; rfl
  refine ⟨?_, fun k hk hkp => ?_, ?_, ?_, tr, tw, tm.trans xm, tg⟩
  · rw [hd, State.halfOf_updHalf_self]
    exact bit_setBit_self _ hp true
  · rw [hd, State.halfOf_updHalf_self, bit_setBit, if_neg (by omega), hx]
  · rw [hd, State.halfOf_updHalf_other, hx]
  · rw [State.cstOf, tc, ← xc]
    exact congrArg CoachSt.stopped (x.cstOf_updCst_self (x.slotCoach d p) fun c => { c with stopped := true })

/-- A slot that begins to test for a cause (R189). -/
def Slot.testingFor (cause : Nat) (y : Slot) : Slot :=
  { y with
    st := .testing, cause := cause, mismatched := true, reg := ⟨false, false⟩, rebuilt := false, awaitRel := false,
    outNow := none, ver := ⟨false, false⟩, bankWait := (cause = 9) }

/-- The first side's registration: hand-overs end, the slot begins to test, the side registers (R188, R199). -/
def State.mismatchBegun (s : State) (d : Side) (p cause : Nat) : State :=
  ((s.abortAround p).updSlot p (Slot.testingFor cause)).sideMismatch d p

/-- A slot's functions in FAULT with cause 0x11, its event, and the causes latched (R189, R251). -/
def State.slotFaults (x : State) (fs : List Nat) (p cause : Nat) : State :=
  State.forEach ((x.faultAll fs 0x11 cause).postL 0x0301 (nSlot p) 3 cause true) fs fun y f => y.updFn f fun z => { z with
    next := none, latched := z.latched ++ [(0x11, BitVec.ofNat 8 cause, 0x1FF)] }

/-- Both coaches tested, but for BANK (R189). -/
def State.coachesTested (x : State) (a b cause : Nat) : State :=
  if cause = 9 then x else (x.startTest (nCoach a) tcCoach).startTest (nCoach b) tcCoach

theorem State.registerMismatch_first {s : State} {p : Nat} (h : (s.slotOf p).st = .locked ∨ (s.slotOf p).st = .shadow) (d : Side)
    (cause : Nat) : s.registerMismatch d p cause = (((s.mismatchBegun d p cause).slotFaults (s.fnsOfSlot p) p cause).coachesTested
      (s.slotCoach .A p) (s.slotCoach .B p) cause).settle := by
  unfold State.registerMismatch
  rcases h with h | h <;> rw [h] <;> rfl

theorem State.Marks.slotFaults (x : State) (fs : List Nat) (p cause : Nat) : x.Marks (x.slotFaults fs p cause) := by
  have h := ((State.Marks.refl x).faultAll fs 0x11 cause).trans ((State.Books.refl _).postL 0x0301 (nSlot p) 3 cause true).marks
  exact forEach_inv (fun y => x.Marks y) _ (fun _ _ hy => hy.updFn _ _) _ fs h

/-- A slot's functions are in FAULT without a working buffer, the others as before. -/
theorem State.slotFaults_fnOf (x : State) (fs : List Nat) (p cause k : Nat) :
    (k ∈ fs → ((x.slotFaults fs p cause).fnOf k).st = .fault ∧ ((x.slotFaults fs p cause).fnOf k).next = none) ∧
    (k ∉ fs → (x.slotFaults fs p cause).fnOf k = x.fnOf k) := by
  obtain ⟨hin, hout⟩ := x.faultAll_fnOf fs 0x11 cause k
  obtain ⟨win, wout⟩ := State.forEach_fnOf (P := fun z => z.next = none)
    (f := fun y f => y.updFn f fun z => { z with next := none, latched := z.latched ++ [(0x11, BitVec.ofNat 8 cause, 0x1FF)] })
    (fun y j => by rw [State.fnOf_updFn, if_pos rfl]) (fun y i j hj => by rw [State.fnOf_updFn, if_neg hj])
    ((x.faultAll fs 0x11 cause).postL 0x0301 (nSlot p) 3 cause true) fs k
  refine ⟨fun hk => ⟨?_, win hk⟩, fun hk => (wout hk).trans (hout hk)⟩
  refine forEach_inv (fun y => (y.fnOf k).st = .fault) _ (fun y i hy => ?_) _ fs (hin hk)
  rw [State.fnOf_updFn]
  split
  · next h => exact h ▸ hy
  · exact hy

theorem State.Books.coachesTested (x : State) (a b cause : Nat) : x.Books (x.coachesTested a b cause) := by
  unfold State.coachesTested
  split
  · exact .refl x
  · exact ((State.Books.refl x).startTest (nCoach_releasesNothing a) tcCoach).startTest (nCoach_releasesNothing b) tcCoach

/-- A coach that is not retired has its test. -/
theorem State.coachesTested_find {x : State} {a b cause i : Nat} (hc : cause ≠ 9) (hi : i = a ∨ i = b)
    (hr : x.isRetired (nCoach i) tcCoach = false) :
    ((x.coachesTested a b cause).tests.find (nCoach i) tcCoach).isSome = true := by
  rw [State.coachesTested, if_neg hc]
  have hb := (State.Books.refl x).startTest (nCoach_releasesNothing a) tcCoach
  obtain rfl | rfl := hi
  · exact State.startTest_isSome _ _ _ _ _ (.inl (State.startTest_isSome _ _ _ _ _ (.inr ⟨hr, rfl, rfl⟩)))
  · refine State.startTest_isSome _ _ _ _ _ (.inr ⟨?_, rfl, rfl⟩)
    rw [State.retired_congr hb.mem (congrArg Device.otp hb.dev) (congrArg Device.otp1 hb.dev)]
    exact hr

/-- What the registration of the first side answers. -/
def State.firstRegistered (s t : State) (d : Side) (p cause : Nat) : Prop :=
  s.asserts t d p ∧ (t.slotOf p).reg.get d.other = false ∧ (t.slotOf p).st = .testing ∧ (t.slotOf p).cause = cause ∧
  (∀ f ∈ s.fnsOfSlot p, (t.fnOf f).st = .fault ∧ (t.fnOf f).next = none) ∧
  (∀ f, f ∉ s.fnsOfSlot p → t.fnOf f = s.fnOf f) ∧
  ((s.slotOf p).hand = none → s.sourceOf p = none → s.reports t 0x0301 (nSlot p) 3 cause) ∧
  (cause ≠ 9 → ∀ e : Side, s.isRetired (nCoach (s.slotCoach e p)) tcCoach = false →
    (t.tests.find (nCoach (s.slotCoach e p)) tcCoach).isSome = true)

theorem State.slotFaults_reports {x : State} (fs : List Nat) (p cause : Nat) :
    x.reports (x.slotFaults fs p cause) 0x0301 (nSlot p) 3 cause := by
  have hm := (State.Marks.refl x).faultAll fs 0x11 cause
  have ht := State.timeWord_congr hm.clock hm.time
  exact State.reports_mono (State.reports_top (nSlot_top p) ht (x.opensAt_faultAll fs 0x11 cause) 0x0301 3 cause true)
    (forEach_inv (fun y => State.Marks _ y) _ (fun _ _ hy => hy.updFn _ _) _ fs (.refl _)).log

/-- The slot that the first registration leaves. -/
theorem State.mismatchBegun_slotOf (s : State) (d : Side) (p cause : Nat) : ∃ y, (s.mismatchBegun d p cause).slotOf p =
    { (Slot.testingFor cause y).setUnit d ⟨[], []⟩ with
      reg := (⟨false, false⟩ : Two Bool).set true d, work := y.work.set [] d } := by
  refine ⟨(s.abortAround p).slotOf p, ?_⟩
  rw [State.mismatchBegun, State.sideMismatch_slotOf, State.slotOf_updSlot_self]
  rfl

/-- A side's registration rewrites its half, its copy and the slot alone. -/
theorem State.sideMismatch_frame (s : State) (d : Side) (p : Nat) :
    s.sideMismatch d p = { s with
      half := (s.sideMismatch d p).half, coachSt := (s.sideMismatch d p).coachSt, slot := (s.sideMismatch d p).slot } := rfl

/-- Where no hand-over ends, nothing is posted before the functions' events. -/
theorem State.mismatchBegun_alone {s : State} {p : Nat} (h : (s.slotOf p).hand = none) (hs : s.sourceOf p = none) (d : Side)
    (cause : Nat) : (s.mismatchBegun d p cause).windows = s.windows ∧ (s.mismatchBegun d p cause).timeWord = s.timeWord := by
  rw [State.mismatchBegun, State.abortAround_none h hs, State.sideMismatch_frame]
  exact ⟨rfl, State.timeWord_congr rfl rfl⟩

theorem State.mismatchBegun_keeps (s : State) (d : Side) (p cause : Nat) : (s.mismatchBegun d p cause).fn = s.fn ∧
    (s.mismatchBegun d p cause).mem = s.mem ∧ (s.mismatchBegun d p cause).dev.otp = s.dev.otp ∧
    (s.mismatchBegun d p cause).dev.otp1 = s.dev.otp1 := by
  have ha := (State.Hands.refl s).abortAround p
  rw [State.mismatchBegun, State.sideMismatch_frame]
  generalize s.abortAround p = x at ha ⊢
  exact ⟨ha.fn, ha.mem, ha.otp, ha.otp1⟩

theorem State.mismatchBegun_asserts {s t : State} {d : Side} {p cause : Nat} (hp : p < 48) (th : t.half = (s.mismatchBegun d p cause).half)
    (tc : t.coachSt = (s.mismatchBegun d p cause).coachSt) (ts : t.slotOf p = (s.mismatchBegun d p cause).slotOf p)
    (tm : t.mem = (s.mismatchBegun d p cause).mem) (tg : t.gatesSafe) : s.asserts t d p := by
  have ha := (State.Hands.refl s).abortAround p
  obtain ⟨y, hy⟩ := s.mismatchBegun_slotOf d p cause
  unfold State.mismatchBegun at *
  generalize s.abortAround p = x at *
  refine State.asserts_of (x := x.updSlot p (Slot.testingFor cause)) hp ha.half ?_ ha.mem th tc ?_ ?_ tm tg
  · rw [← ha.slotCoach, State.slotCoach, State.slotOf_updSlot_self]
    cases d <;> rfl
  · rw [ts, hy]
    cases d <;> rfl
  · rw [ts, hy]
    cases d <;> rfl

theorem State.registerMismatch_firstRegistered {s : State} {p : Nat} (hp : p < 48)
    (h : (s.slotOf p).st = .locked ∨ (s.slotOf p).st = .shadow) (d : Side) (cause : Nat) :
    s.firstRegistered (s.registerMismatch d p cause) d p cause := by
  rw [State.registerMismatch_first h]
  have hf := State.Marks.slotFaults (s.mismatchBegun d p cause) (s.fnsOfSlot p) p cause
  have ht := State.Books.coachesTested ((s.mismatchBegun d p cause).slotFaults (s.fnsOfSlot p) p cause) (s.slotCoach .A p)
    (s.slotCoach .B p) cause
  have hfn (k : Nat) := (s.mismatchBegun d p cause).slotFaults_fnOf (s.fnsOfSlot p) p cause k
  have hm := ht.marks
  generalize hu : State.coachesTested _ _ _ _ = u at ht hm ⊢
  have hk (k : Nat) : u.settle.fnOf k = ((s.mismatchBegun d p cause).slotFaults (s.fnsOfSlot p) p cause).fnOf k := by
    rw [State.fnOf, State.settle_fn, ht.fn]
    rfl
  have hs : u.settle.slotOf p = (s.mismatchBegun d p cause).slotOf p := by
    rw [State.slotOf, State.settle_slot, ht.slot, hf.slot]
    rfl
  obtain ⟨y, hy⟩ := s.mismatchBegun_slotOf d p cause
  refine ⟨State.mismatchBegun_asserts hp (ht.half.trans hf.half) (ht.coachSt.trans hf.coachSt) hs (ht.mem.trans hf.mem) u.settle_gatesSafe,
    ?_, ?_, ?_, fun f hin => ?_, fun f hout => ?_, fun hn hsrc => ?_, fun hc e hr => ?_⟩
  · rw [hs, hy]
    cases d <;> rfl
  · rw [hs, hy]
    cases d <;> rfl
  · rw [hs, hy]
    cases d <;> rfl
  · rw [hk]
    exact (hfn f).1 hin
  · rw [hk, (hfn f).2 hout]
    rw [State.fnOf, (s.mismatchBegun_keeps d p cause).1]
    rfl
  · have hr := State.reports_mono (State.slotFaults_reports (s.fnsOfSlot p) p cause) ht.log
    obtain ⟨hw, htw⟩ := State.mismatchBegun_alone hn hsrc d cause
    unfold State.reports at hr ⊢
    rwa [State.folds_top (nSlot_top p), hw, htw, ← State.folds_top (nSlot_top p)] at hr
  · rw [State.settle_tests, ← hu]
    refine State.coachesTested_find hc (by cases e <;> simp) ?_
    obtain ⟨-, hmem, hotp, hotp1⟩ := s.mismatchBegun_keeps d p cause
    rw [State.retired_congr (hf.mem.trans hmem) ((congrArg Device.otp hf.dev).trans hotp) ((congrArg Device.otp1 hf.dev).trans hotp1)]
    exact hr

/-! #### The second side, and the rows that register -/

/-- What the registration of the second side answers: it registers for itself alone (R189). -/
def State.secondRegistered (s t : State) (d : Side) (p cause : Nat) : Prop :=
  s.asserts t d p ∧ t = { s with half := t.half, coachSt := t.coachSt, slot := t.slot, term := t.term } ∧
  (∀ j, j ≠ s.slotCoach d p → t.cstOf j = s.cstOf j) ∧ (∀ q, q ≠ p → t.slotOf q = s.slotOf q) ∧
  (t.slotOf p).st = .testing ∧ (t.slotOf p).cause = (s.slotOf p).cause ∧
  (t.slotOf p).bankWait = ((s.slotOf p).bankWait || decide (cause = 9))

/-- A side that has not registered the mismatch of a testing slot, which the other has. -/
def State.secondDue (s : State) (d : Side) (p : Nat) : Prop :=
  (s.slotOf p).st = .testing ∧ (s.slotOf p).reg.get d.other = true ∧ (s.slotOf p).reg.get d = false

/-- A slot whose copies compare: no mismatch is registered yet. -/
def State.firstDue (s : State) (p : Nat) : Prop := (s.slotOf p).st = .locked ∨ (s.slotOf p).st = .shadow

/-- BANK waits for the bank too (R236). -/
def State.bankWaits (x : State) (p cause : Nat) : State :=
  if cause = 9 then x.updSlot p fun y => { y with bankWait := true, rebuilt := false } else x

theorem State.registerMismatch_second {s : State} {d : Side} {p : Nat} (h : s.secondDue d p) (cause : Nat) :
    s.registerMismatch d p cause = ((s.sideMismatch d p).bankWaits p cause).settle := by
  obtain ⟨ht, ho, hd⟩ := h
  unfold State.registerMismatch
  rw [ht]
  simp only [ho, hd, Bool.not_false, and_self, if_true]
  rfl

theorem State.slotOf_updSlot_other (s : State) {p q : Nat} (h : q ≠ p) (f : Slot → Slot) : (s.updSlot p f).slotOf q = s.slotOf q := by
  rw [State.slotOf_updSlot, if_neg h]

theorem State.cstOf_updCst_other (s : State) {i j : Nat} (h : j ≠ i) (f : CoachSt → CoachSt) : (s.updCst i f).cstOf j = s.cstOf j := by
  rw [State.cstOf_updCst, if_neg h]

/-- What BANK adds in the slot. -/
theorem State.bankWaits_slotOf (x : State) (p cause : Nat) : ((x.bankWaits p cause).slotOf p) = { x.slotOf p with
    bankWait := (x.slotOf p).bankWait || decide (cause = 9), rebuilt := ((x.bankWaits p cause).slotOf p).rebuilt } := by
  unfold State.bankWaits
  split
  · next h => rw [State.slotOf_updSlot_self]; simp [h]
  · next h => simp [h]

theorem State.bankWaits_frame (x : State) (p cause : Nat) : x.bankWaits p cause = { x with slot := (x.bankWaits p cause).slot } := by
  unfold State.bankWaits
  split <;> rfl

theorem State.registerMismatch_secondRegistered {s : State} {d : Side} {p : Nat} (hp : p < 48) (h : s.secondDue d p) (cause : Nat) :
    s.secondRegistered (s.registerMismatch d p cause) d p cause := by
  rw [State.registerMismatch_second h]
  have hslot : ((s.sideMismatch d p).bankWaits p cause).settle.slotOf p = ((s.sideMismatch d p).bankWaits p cause).slotOf p := rfl
  have hb := (s.sideMismatch d p).bankWaits_slotOf p cause
  rw [State.sideMismatch_slotOf] at hb
  have hf := (s.sideMismatch d p).bankWaits_frame p cause
  refine ⟨State.asserts_of hp rfl rfl rfl ?_ ?_ ?_ ?_ ?_ (State.settle_gatesSafe _), ?_, fun j hj => ?_, fun q hq => ?_, ?_, ?_, ?_⟩
  · exact (congrArg State.half hf :)
  · exact (congrArg State.coachSt hf :)
  · rw [hslot, hb]
    cases d <;> rfl
  · rw [hslot, hb]
    cases d <;> rfl
  · exact (congrArg State.mem hf :)
  · rw [State.settle, hf, State.sideMismatch_frame]
  · have hc : ((s.sideMismatch d p).bankWaits p cause).coachSt = (s.sideMismatch d p).coachSt := (congrArg State.coachSt hf :)
    show Tab.get {} ((s.sideMismatch d p).bankWaits p cause).coachSt j = s.cstOf j
    rw [hc]
    exact State.cstOf_updCst_other (s.updHalf d fun h => { h with mismatch := setBit h.mismatch p true }) hj fun c => { c with stopped := true }
  · have hq1 : (s.sideMismatch d p).slotOf q = s.slotOf q := State.slotOf_updSlot_other
      ((s.updHalf d fun h => { h with mismatch := setBit h.mismatch p true }).updCst (s.slotCoach d p) fun c => { c with stopped := true }) hq _
    show ((s.sideMismatch d p).bankWaits p cause).slotOf q = _
    unfold State.bankWaits
    split
    · rw [State.slotOf_updSlot_other _ hq, hq1]
    · exact hq1
  · rw [hslot, hb]
    cases d <;> exact h.1
  · rw [hslot, hb]
    cases d <;> rfl
  · rw [hslot, hb]
    cases d <;> rfl

/-- A row that registers a cause for a side: the first side's or the second's registration. -/
def State.registers (s : State) (i : Instr) (d : Side) (p cause : Nat) : Prop :=
  ∃ t, exec i s = .next t ∧ (s.firstDue p → s.firstRegistered t d p cause) ∧ (s.secondDue d p → s.secondRegistered t d p cause)

theorem State.registers_of_next {s : State} {i : Instr} {d : Side} {p cause : Nat} (hp : p < 48)
    (h : exec i s = .next (s.registerMismatch d p cause)) : s.registers i d p cause :=
  ⟨_, h, fun hd => State.registerMismatch_firstRegistered hp hd d cause, fun hd => State.registerMismatch_secondRegistered hp hd cause⟩

/-- Gates that settle once more leave the registration. -/
theorem State.asserts.settle {s t : State} {d : Side} {p : Nat} (h : s.asserts t d p) : s.asserts t.settle d p := by
  obtain ⟨h1, h2, h3, h4, h5, h6, h7, -⟩ := h
  exact ⟨h1, h2, h3, h4, h5, h6, h7, t.settle_gatesSafe⟩

theorem State.registers_of_settled {s : State} {i : Instr} {d : Side} {p cause : Nat} (hp : p < 48)
    (h : exec i s = settled (s.registerMismatch d p cause)) : s.registers i d p cause := by
  refine ⟨_, h, fun hd => ?_, fun hd => ?_⟩
  · obtain ⟨ha, hr⟩ := State.registerMismatch_firstRegistered hp hd d cause
    exact ⟨ha.settle, hr⟩
  · obtain ⟨ha, hf, hr⟩ := State.registerMismatch_secondRegistered hp hd cause
    exact ⟨ha.settle, by rw [State.settle, hf], hr⟩

/-! ### Verified couplings (R187, R188) -/

/-- A slot whose side has compared its oldest values (R187). -/
def Slot.compared (x : Slot) (d : Side) (v : CplVals) : Slot :=
  { x.setUnit d ⟨(x.unit d).a.tail, (x.unit d).b.tail⟩ with
    lastCpl := BitVec.ofNat 36 v.count, resumed := x.resumed.set false d }

/-- The regulated hold of the copy of side d (R190). -/
def cplHold (d : Side) (lag : Int) (noLag : Bool) : Nat :=
  match d with | .A => (lagHold lag).1 | .B => if noLag then 160 else (lagHold lag).2

theorem cplHold_A (lag : Int) : cplHold .A lag false = if lag ≤ 192 then 0 else (lag - 160).toNat := by
  have hA : cplHold .A lag false = (lagHold lag).1 := rfl
  rw [hA, lagHold]
  by_cases h : lag < 128
  · rw [if_pos h, if_pos (by omega)]
  · rw [if_neg h]
    split_ifs <;> rfl

theorem cplHold_B (lag : Int) : cplHold .B lag false = if lag < 128 then (160 - lag).toNat else 0 := by
  have hB : cplHold .B lag false = (lagHold lag).2 := rfl
  rw [hB, lagHold]
  split_ifs <;> rfl

/-- The state in which side d has compared equal values v. -/
def State.compared (s : State) (d : Side) (p : Nat) (v : CplVals) (lag : Int) (noLag : Bool) : State :=
  (s.updSlot p fun x => x.compared d v).updCst (s.slotCoach d p) fun c => { c with hold := cplHold d lag noLag }

theorem State.compared_slotOf (s : State) (d : Side) (p : Nat) (v : CplVals) (lag : Int) (noLag : Bool) :
    (s.compared d p v lag noLag).slotOf p = (s.slotOf p).compared d v := s.slotOf_updSlot_self p fun x => x.compared d v

theorem State.compared_cstOf (s : State) (d : Side) (p : Nat) (v : CplVals) (lag : Int) (noLag : Bool) (j : Nat) :
    (s.compared d p v lag noLag).cstOf j =
      if j = s.slotCoach d p then { s.cstOf (s.slotCoach d p) with hold := cplHold d lag noLag } else s.cstOf j :=
  (s.updSlot p fun x => x.compared d v).cstOf_updCst (s.slotCoach d p) (fun c => { c with hold := cplHold d lag noLag }) j

/-- A final coupling in time, which keeps the frame's writes (R187). -/
def State.finalInTime (s : State) (p : Nat) (v : CplVals) : Prop :=
  v.fin = true ∧ s.clock.tick ≤ s.clock.cdl ∧ (s.slotOf p).st ≠ .testing

theorem State.cplVerified_notFinal {s : State} {p : Nat} {v : CplVals} (h : ¬ s.finalInTime p v) (d : Side) (lag : Int) (noLag : Bool) :
    s.cplVerified d p v lag noLag = s.compared d p v lag noLag := by
  cases d <;> exact if_neg h

/-- The side's buffer becomes verified state, and the side has verified its final coupling. -/
def State.finalKept (y : State) (d : Side) (p : Nat) : State :=
  (y.keepWork d p).updSlot p fun x => { x with ver := x.ver.set true d }

theorem State.cplVerified_final {s : State} {p : Nat} {v : CplVals} (h : s.finalInTime p v) (d : Side) (lag : Int) (noLag : Bool) :
    s.cplVerified d p v lag noLag =
      let y := (s.compared d p v lag noLag).finalKept d p
      if (y.slotOf p).verified then
        (y.updSlot p fun x => { x with ovr := 0, outNow := some v.outp }).shadowCompare ((s.sourceOf p).getD p)
      else y := by
  cases d <;> exact if_pos h

theorem State.keepWork_frame (y : State) (d : Side) (p : Nat) :
    y.keepWork d p = { y with slot := (y.keepWork d p).slot, mem := (y.keepWork d p).mem } := by
  unfold State.keepWork
  dsimp only
  split <;> rfl

theorem State.keepWork_slotOf (y : State) (d : Side) (p : Nat) : (y.keepWork d p).slotOf p =
    { y.slotOf p with work := (y.slotOf p).work.set [] d, buf := ((y.keepWork d p).slotOf p).buf } := by
  unfold State.keepWork
  dsimp only
  split
  · rw [State.slotOf_updSlot_self, State.slotOf_updSlot_self]
  · have hm (z : State) (f : Mem → Mem) : (z.updMem d f).slotOf p = z.slotOf p := rfl
    rw [hm, State.slotOf_updSlot_self]

/-- The copy's frame writes, one after the other (R36). -/
def frameWrites (m : Tab Word) (w : Tab (Option Word)) : Tab Word := w.foldl (fun t e => Tab.set 0 t e.1 (e.2.getD 0)) m

theorem State.keepWork_mem_other (y : State) (d : Side) (p : Nat) : (y.keepWork d p).mem.get d.other = y.mem.get d.other := by
  unfold State.keepWork
  dsimp only
  split
  · rfl
  · cases d <;> rfl

theorem State.keepWork_frameMem {y : State} {d : Side} {p : Nat} (h : (y.slotOf p).st = .locked) :
    ((y.keepWork d p).mem.get d).frame = frameWrites (y.mem.get d).frame ((y.slotOf p).work.get d) := by
  unfold State.keepWork
  dsimp only
  rw [h]
  cases d <;> rfl

/-- A key below every key of a table reads the default. -/
theorem Tab.get_of_wfFrom {α : Type} [DecidableEq α] (d : α) (t : Tab α) {lo k : Nat} (h : Tab.wfFrom d lo t = true) (hk : k < lo) :
    Tab.get d t k = d := by
  induction t generalizing lo with
  | nil => rfl
  | cons e r ih =>
    obtain ⟨j, x⟩ := e
    simp only [Tab.wfFrom, Bool.and_eq_true, decide_eq_true_eq] at h
    rw [Tab.get, if_neg (by omega)]
    exact ih h.2 (by omega)

theorem frameWrites_get {w : Tab (Option Word)} {lo : Nat} (h : Tab.wfFrom none lo w = true) (m : Tab Word) (q : Nat) :
    Tab.get 0 (frameWrites m w) q = (Tab.get none w q).getD (Tab.get 0 m q) := by
  induction w generalizing lo m with
  | nil => rfl
  | cons e r ih =>
    obtain ⟨j, x⟩ := e
    simp only [Tab.wfFrom, Bool.and_eq_true, decide_eq_true_eq] at h
    obtain ⟨⟨-, hx⟩, hr⟩ := h
    obtain ⟨v, rfl⟩ := Option.ne_none_iff_exists'.mp hx
    have hrest := ih hr (Tab.set 0 m j v)
    show Tab.get 0 (frameWrites (Tab.set 0 m j v) r) q = _
    rw [hrest, Tab.get, Tab.get_set]
    by_cases hq : q = j
    · subst hq
      rw [Tab.get_of_wfFrom none r hr (by omega), if_pos rfl, if_pos rfl]
      rfl
    · rw [if_neg hq, if_neg hq]

/-- The slot after a final coupling: compared, without a buffer, verified on the side. -/
theorem State.finalKept_slotOf (y : State) (d : Side) (p : Nat) : (y.finalKept d p).slotOf p =
    { y.slotOf p with
      work := (y.slotOf p).work.set [] d, buf := ((y.keepWork d p).slotOf p).buf, ver := (y.slotOf p).ver.set true d } := by
  have hk := y.keepWork_slotOf d p
  rw [State.finalKept, State.slotOf_updSlot_self, hk]

/-- What the second side's final coupling adds: no overruns, and the frame's output signature (R187, R44). -/
def State.bothVerified (y : State) (p : Nat) (v : CplVals) : State :=
  if (y.slotOf p).verified then y.updSlot p fun x => { x with ovr := 0, outNow := some v.outp } else y

theorem State.bothVerified_slotOf (y : State) (p : Nat) (v : CplVals) : (y.bothVerified p v).slotOf p = { y.slotOf p with
    ovr := if (y.slotOf p).verified then 0 else (y.slotOf p).ovr
    outNow := if (y.slotOf p).verified then some v.outp else (y.slotOf p).outNow } := by
  unfold State.bothVerified
  split
  · rw [State.slotOf_updSlot_self]
  · rfl

theorem State.bothVerified_frame (y : State) (p : Nat) (v : CplVals) : y.bothVerified p v = { y with slot := (y.bothVerified p v).slot } := by
  unfold State.bothVerified
  split <;> rfl

/-- Neither rewrites copies, coaches or halves. -/
theorem State.bothVerified_keeps (y : State) (d : Side) (p : Nat) (v : CplVals) :
    let z := (y.finalKept d p).bothVerified p v
    z.coachSt = y.coachSt ∧ z.coach = y.coach ∧ z.half = y.half ∧ z.mem = (y.keepWork d p).mem := by
  have hk := y.keepWork_frame d p
  dsimp only
  rw [State.bothVerified_frame, State.finalKept]
  generalize y.keepWork d p = k at hk ⊢
  exact ⟨(congrArg State.coachSt hk :), (congrArg State.coach hk :), (congrArg State.half hk :), rfl⟩

/-- A final coupling in time: the buffer kept, what both sides' verification adds, and a hand-over's comparison. -/
theorem State.cplVerified_hands {s : State} {p : Nat} {v : CplVals} (h : s.finalInTime p v) (d : Side) (lag : Int) (noLag : Bool) :
    (((s.compared d p v lag noLag).finalKept d p).bothVerified p v).Hands (s.cplVerified d p v lag noLag) := by
  rw [State.cplVerified_final h, State.bothVerified]
  dsimp only
  split
  · exact (State.Hands.refl _).shadowCompare _
  · exact .refl _

/-- Whatever a verified coupling is, the slot has compared, the copy is held, and coaches and halves stand. -/
theorem State.cplVerified_compares (s : State) (d : Side) (p : Nat) (v : CplVals) (lag : Int) (noLag : Bool) :
    let r := s.cplVerified d p v lag noLag
    let x := (s.slotOf p).compared d v
    (r.slotOf p).lastCpl = x.lastCpl ∧ (r.slotOf p).resumed = x.resumed ∧ (r.slotOf p).cplA = x.cplA ∧ (r.slotOf p).cplB = x.cplB ∧
    r.coachSt = (s.compared d p v lag noLag).coachSt ∧ r.coach = s.coach ∧ r.half = s.half := by
  dsimp only
  by_cases h : s.finalInTime p v
  · have hh := State.cplVerified_hands h d lag noLag
    obtain ⟨hcst, hco, hha, -⟩ := (s.compared d p v lag noLag).bothVerified_keeps d p v
    have hs := hh.slot p
    rw [State.bothVerified_slotOf, State.finalKept_slotOf, State.compared_slotOf] at hs
    refine ⟨?_, ?_, ?_, ?_, hh.coachSt.trans hcst, hh.coach.trans hco, hh.half.trans hha⟩ <;> rw [hs] <;> rfl
  · rw [State.cplVerified_notFinal h, State.compared_slotOf]
    exact ⟨rfl, rfl, rfl, rfl, rfl, rfl, rfl⟩

/-- What a final coupling in time changes besides. -/
theorem State.cplVerified_keeps {s : State} {p : Nat} {v : CplVals} (h : s.finalInTime p v) (d : Side) (lag : Int) (noLag : Bool) :
    let r := s.cplVerified d p v lag noLag
    let x := s.slotOf p
    (r.slotOf p).ver = x.ver.set true d ∧ (r.slotOf p).work = x.work.set [] d ∧ r.mem.get d.other = s.mem.get d.other ∧
    (x.st = .locked → (r.mem.get d).frame = frameWrites (s.mem.get d).frame (x.work.get d)) ∧
    (x.ver.get d.other = true → (r.slotOf p).ovr = 0 ∧ (r.slotOf p).outNow = some v.outp) := by
  dsimp only
  have hh := State.cplVerified_hands h d lag noLag
  have hs := hh.slot p
  have hc := s.compared_slotOf d p v lag noLag
  have hm := hh.mem.trans ((s.compared d p v lag noLag).bothVerified_keeps d p v).2.2.2
  rw [State.bothVerified_slotOf, State.finalKept_slotOf, hc] at hs
  refine ⟨?_, ?_, ?_, fun hl => ?_, fun ho => ?_⟩
  · rw [hs]
    cases d <;> rfl
  · rw [hs]
    cases d <;> rfl
  · rw [hm, State.keepWork_mem_other]
    rfl
  · have hl' : ((s.compared d p v lag noLag).slotOf p).st = .locked := by
      rw [hc]
      cases d <;> exact hl
    rw [hm, State.keepWork_frameMem hl', hc]
    cases d <;> rfl
  · have hv : ((((s.compared d p v lag noLag).finalKept d p).slotOf p)).verified = true := by
      rw [State.finalKept_slotOf, hc]
      cases d
      · exact (Bool.true_and _).trans ho
      · exact (Bool.and_true _).trans ho
    rw [State.finalKept_slotOf, hc] at hv
    rw [hs, if_pos hv, if_pos hv]
    exact ⟨rfl, rfl⟩

/-! ### Reaching a coupling (R186) -/

theorem filter_contains_append_left (a b : List Nat) : (a.filter fun x => (a ++ b).contains x) = a := by
  rw [List.filter_eq_self]
  intro x hx
  simp [hx]

theorem filter_contains_append_right (a b : List Nat) : (b.filter fun x => (a ++ b).contains x) = b := by
  rw [List.filter_eq_self]
  intro x hx
  simp [hx]

theorem Two.set_get {α : Type} (x : Two α) (d : Side) : x.set (x.get d) d = x := by cases d <;> rfl

/-- An instruction that works on its registers alone changes its coach alone. -/
theorem State.putCpu_co (s : State) (c : CoachRef) (co : Coach) (cp : Option (Bool × Word × Nat)) (fe : Bool) :
    s.putCpu c { s.cpu c with co := co, couple := cp, fend := fe } = s.updCoach c.ix fun _ => co := by
  have hp := filter_contains_append_left (s.tests.poison.get c.side) (s.tests.ecc.get c.side)
  have he := filter_contains_append_right (s.tests.poison.get c.side) (s.tests.ecc.get c.side)
  have hm : s.mem.set { s.mem.get c.side with frame := (s.mem.get c.side).frame, device := (s.mem.get c.side).device } c.side = s.mem :=
    Two.set_get _ _
  unfold State.putCpu
  simp only [State.cpu, hp, he, hm, Two.set_get, if_true]
  rfl

/-- A running coach that reaches a coupling sends its values, and after FEND waits. -/
theorem State.isa_coupling {s : State} {c : CoachRef} (h : s.ready c) {f : Cpu → Cpu} {co : Coach} {v : Bool × Word × Nat} {fe : Bool}
    (hf : f (s.cpu c) = { s.cpu c with co := co, couple := some v, fend := fe }) :
    s.isa c f =
      let x := (s.updCoach c.ix fun _ => co).coupled c v
      if fe then x.updCst c.ix fun y => { y with waitFend := true } else x := by
  obtain ⟨h1, h2, h3, h4, h5, h6, h7, h8, -⟩ := h
  unfold State.isa
  simp only [h1, h2, h3, h4, h5, h6, h7, h8, hf, State.putCpu_co, Bool.false_eq_true, or_self, if_false, List.contains_nil]
  rfl

/-- The values that a coupling sends. -/
def State.cplVals (s : State) (c : CoachRef) (p : Nat) (v : Bool × Word × Nat) : CplVals :=
  ⟨v.2.1, v.2.2, v.1, if v.1 then s.outSig c.side p else 0⟩

theorem State.coupled_locked {s : State} {c : CoachRef} {p : Nat} (hp : s.slotOfCoach c.side c.coach.val = some p)
    (hs : (s.slotOf p).st ≠ .split) (v : Bool × Word × Nat) : s.coupled c v = s.sendCpl c.side p (s.cplVals c p v) := by
  rw [State.coupled, hp]
  exact if_neg hs

theorem State.coupled_split {s : State} {c : CoachRef} {p : Nat} (hp : s.slotOfCoach c.side c.coach.val = some p)
    (hs : (s.slotOf p).st = .split) (v : Bool × Word × Nat) : s.coupled c v = s := by
  rw [State.coupled, hp]
  exact if_pos hs

theorem State.coupled_frame (s : State) (c : CoachRef) (v : Bool × Word × Nat) : s.coupled c v = { s with slot := (s.coupled c v).slot } := by
  unfold State.coupled
  split
  · rfl
  · split <;> rfl

/-- What a coupling of the coach c answers. -/
def State.couples (s : State) (i : Instr) (c : CoachRef) (co : Coach) (v : Bool × Word × Nat) : Prop :=
  ∃ t, exec i s = .next t ∧ t.coachOf c.ix = co ∧ (t.cstOf c.ix).waitFend = v.1 ∧ t.gatesSafe ∧
    (∀ p, s.slotOfCoach c.side c.coach.val = some p → (s.slotOf p).st ≠ .split →
      (t.slotOf p).cplA.get c.side = (s.slotOf p).cplA.get c.side ++ [s.cplVals c p v] ∧
      (t.slotOf p).cplB.get c.side = (s.slotOf p).cplB.get c.side ++ [s.cplVals c p v] ∧
      (t.slotOf p).cplA.get c.side.other = (s.slotOf p).cplA.get c.side.other) ∧
    (∀ p, s.slotOfCoach c.side c.coach.val = some p → (s.slotOf p).st = .split → t.slot = s.slot)

/-- A coupling by an instruction that makes the coach wait exactly when it is FEND. -/
theorem State.couples_of {s : State} {i : Instr} {c : CoachRef} (h : s.ready c) {f : Cpu → Cpu} {co : Coach} {v : Bool × Word × Nat}
    (hi : exec i s = settled (s.isa c f)) (hf : f (s.cpu c) = { s.cpu c with co := co, couple := some v, fend := v.1 }) :
    s.couples i c co v := by
  have hx := State.isa_coupling h hf
  have hframe := (s.updCoach c.ix fun _ => co).coupled_frame c v
  have hco : ((s.updCoach c.ix fun _ => co).coupled c v).coach = (s.updCoach c.ix fun _ => co).coach := (congrArg State.coach hframe :)
  have hcst : ((s.updCoach c.ix fun _ => co).coupled c v).coachSt = s.coachSt := (congrArg State.coachSt hframe :)
  have hsent (p : Nat) (hp : s.slotOfCoach c.side c.coach.val = some p) (hs : (s.slotOf p).st ≠ .split) :
      (s.updCoach c.ix fun _ => co).coupled c v = (s.updCoach c.ix fun _ => co).sendCpl c.side p (s.cplVals c p v) :=
    State.coupled_locked (s := s.updCoach c.ix fun _ => co) hp hs v
  have hsplit (p : Nat) (hp : s.slotOfCoach c.side c.coach.val = some p) (hs : (s.slotOf p).st = .split) :
      (s.updCoach c.ix fun _ => co).coupled c v = s.updCoach c.ix fun _ => co :=
    State.coupled_split (s := s.updCoach c.ix fun _ => co) hp hs v
  generalize (s.updCoach c.ix fun _ => co).coupled c v = x at hx hco hcst hsent hsplit
  have hxc : (s.isa c f).coach = x.coach := by rw [hx]; cases v.1 <;> rfl
  have hxs : (s.isa c f).slot = x.slot := by rw [hx]; cases v.1 <;> rfl
  refine ⟨_, hi, ?_, ?_, State.settle_gatesSafe _, fun p hp hs => ?_, fun p hp hs => ?_⟩
  · rw [State.coachOf, State.settle_coach, hxc, hco]
    exact (s.coachOf_updCoach c.ix (fun _ => co) c.ix).trans (if_pos rfl)
  · show ((s.isa c f).cstOf c.ix).waitFend = v.1
    rw [hx]
    cases v.1
    · rw [State.cstOf]
      exact (congrArg (fun l => (Tab.get {} l c.ix : CoachSt).waitFend) hcst).trans h.2.2.1
    · exact congrArg CoachSt.waitFend (x.cstOf_updCst_self c.ix _)
  · have hs' : (s.isa c f).settle.slotOf p = (s.sendCpl c.side p (s.cplVals c p v)).slotOf p := by
      rw [State.slotOf, State.settle_slot, hxs, hsent p hp hs]
      rfl
    rw [hs', State.sendCpl, State.slotOf_updSlot_self]
    cases c.side <;> exact ⟨rfl, rfl, rfl⟩
  · rw [State.settle_slot, hxs, hsplit p hp hs]
    rfl

/-! ### The side link's rows and the comparison (R19, R187) -/

theorem State.exec_link_waits {s : State} {i : Instr} (hi : exec i s = done (s.linkSend i)) (ht : s.clock.tick < 3) :
    exec i s = .next { s with linkWait := linkInsert i s.linkWait } := by
  rw [hi, State.linkSend, State.linkTaken, if_pos (decide_eq_true ht)]
  rfl

theorem State.exec_link_runs {s : State} {i : Instr} (hi : exec i s = done (s.linkSend i)) (ht : 3 ≤ s.clock.tick) :
    exec i s = .next ((s.linkWait.foldl State.linkRun { s with linkWait := [] }).linkRun i) := by
  rw [hi, State.linkSend, State.linkTaken, if_neg (by simp [ht])]
  rfl

/-- Without transfers that wait a row of the side link arrives at once. -/
theorem State.exec_link_alone {s : State} {i : Instr} (hi : exec i s = done (s.linkSend i)) (ht : 3 ≤ s.clock.tick)
    (hw : s.linkWait = []) : exec i s = .next (s.linkRun i) := by
  have hs : ({ s with linkWait := [] } : State) = s := by rw [← hw]
  rw [State.exec_link_runs hi ht, hw, List.foldl_nil, hs]

/-- The side compares: no mismatch of the slot is registered, or only the other side's (R187, R189). -/
def State.comparing (s : State) (d : Side) (p : Nat) : Prop := s.firstDue p ∨ s.secondDue d p

section
variable {s : State} {d : Side} {p : Nat} {a b : CplVals} {ra rb : List CplVals} {lag : Int}

theorem State.couplingArrive_compares (ha : ((s.slotOf p).unit d).a = a :: ra) (hb : ((s.slotOf p).unit d).b = b :: rb)
    (hl : s.comparing d p) : s.couplingArrive d p lag =
      if cplCause a b lag ((s.slotOf p).resumed.get d) = 0 then
        (s.cplVerified d p a lag ((s.slotOf p).resumed.get d)).settle
      else s.registerMismatch d p (cplCause a b lag ((s.slotOf p).resumed.get d)) := by
  unfold State.couplingArrive
  dsimp only
  rw [ha, hb]
  dsimp only
  rw [if_pos]
  · split
    · next h0 => rw [if_pos h0]
    · next h0 => rw [if_neg h0]
  · obtain (h | h) | ⟨h, -, hr⟩ := hl <;> rw [h]
    exact congrArg not hr

end

theorem State.couplingArrive_idle {s : State} {d : Side} {p : Nat}
    (h : ((s.slotOf p).unit d).a = [] ∨ ((s.slotOf p).unit d).b = [] ∨
      (¬ s.firstDue p ∧ ((s.slotOf p).st = .testing → (s.slotOf p).reg.get d = true))) (lag : Int) :
    s.couplingArrive d p lag = s := by
  unfold State.couplingArrive
  dsimp only
  split
  · next a ra b rb ha hb =>
    rw [if_neg]
    obtain h | h | ⟨hf, ht⟩ := h
    · rw [ha] at h; cases h
    · rw [hb] at h; cases h
    · unfold State.firstDue at hf
      cases hst : (s.slotOf p).st <;> simp_all
  · rfl

/-! Causes, in the order of the model's own check (R188). -/
theorem cplCause_sig {a b : CplVals} (h : a.sig ≠ b.sig) (lag : Int) (n : Bool) : cplCause a b lag n = 1 := if_pos h

theorem cplCause_count {a b : CplVals} (hs : a.sig = b.sig) (h : a.count ≠ b.count ∨ a.fin ≠ b.fin) (lag : Int) (n : Bool) :
    cplCause a b lag n = 2 := by rw [cplCause, if_neg (not_not.mpr hs), if_pos h]

theorem cplCause_output {a b : CplVals} (hs : a.sig = b.sig) (hc : a.count = b.count) (ha : a.fin = true) (hb : b.fin = true)
    (h : a.outp ≠ b.outp) (lag : Int) (n : Bool) : cplCause a b lag n = 3 := by
  simp [cplCause, hs, hc, ha, hb, h]

theorem cplCause_lag (a : CplVals) {lag : Int} (h : lag < 0 ∨ 512 < lag) : cplCause a a lag false = 5 := by
  simp [cplCause, h]

theorem cplCause_none (a : CplVals) {lag : Int} {n : Bool} (h : n = true ∨ (0 ≤ lag ∧ lag ≤ 512)) : cplCause a a lag n = 0 := by
  have hl : ¬ (!n ∧ (lag < 0 ∨ 512 < lag)) := by
    rintro ⟨hn, hlag⟩
    obtain rfl | h := h
    · exact absurd hn (by decide)
    · omega
  rw [cplCause, if_neg (not_not.mpr rfl), if_neg (by simp), if_neg (by simp), if_neg hl]

/-- What a verified coupling answers, at every coupling (R187, R190). -/
def State.verifies (s t : State) (d : Side) (p : Nat) (lag : Int) (v : CplVals) : Prop :=
  let x := s.slotOf p
  (t.slotOf p).lastCpl = BitVec.ofNat 36 v.count ∧ (t.slotOf p).resumed.get d = false ∧
  (t.slotOf p).resumed.get d.other = x.resumed.get d.other ∧ (t.slotOf p).cplA = (x.compared d v).cplA ∧
  (t.slotOf p).cplB = (x.compared d v).cplB ∧ (t.cstOf (s.slotCoach d p)).hold = cplHold d lag (x.resumed.get d) ∧
  (∀ j, j ≠ s.slotCoach d p → t.cstOf j = s.cstOf j) ∧ t.coach = s.coach ∧ t.half = s.half

theorem State.verifies_cplVerified (s : State) (d : Side) (p : Nat) (lag : Int) (v : CplVals) :
    s.verifies (s.cplVerified d p v lag ((s.slotOf p).resumed.get d)) d p lag v := by
  obtain ⟨hl, hr, ha, hb, hc, hco, hh⟩ := s.cplVerified_compares d p v lag ((s.slotOf p).resumed.get d)
  have hcst := s.compared_cstOf d p v lag ((s.slotOf p).resumed.get d)
  generalize s.cplVerified d p v lag ((s.slotOf p).resumed.get d) = r at *
  have hcr (j : Nat) : r.cstOf j = (s.compared d p v lag ((s.slotOf p).resumed.get d)).cstOf j := by
    rw [State.cstOf, hc]
    rfl
  refine ⟨hl.trans ?_, ?_, ?_, ha, hb, ?_, fun j hj => ?_, hco, hh⟩
  · cases d <;> rfl
  · rw [hr]
    cases d <;> rfl
  · rw [hr]
    cases d <;> rfl
  · rw [hcr, hcst, if_pos rfl]
  · rw [hcr, hcst, if_neg hj]

/-- A coupling that is not final, or late, or of a testing slot, leaves the frame's work (R187). -/
theorem State.cplVerified_leaves {s : State} {p : Nat} {v : CplVals} (h : ¬ s.finalInTime p v) (d : Side) (lag : Int) (noLag : Bool) :
    let t := s.cplVerified d p v lag noLag
    (t.slotOf p).st = (s.slotOf p).st ∧ (t.slotOf p).ver = (s.slotOf p).ver ∧ (t.slotOf p).work = (s.slotOf p).work ∧
      t.mem = s.mem ∧ t.log = s.log := by
  dsimp only
  rw [State.cplVerified_notFinal h, State.compared_slotOf]
  cases d <;> exact ⟨rfl, rfl, rfl, rfl, rfl⟩

/-- The values that a side has compared leave its unit. -/
theorem Slot.compared_unit {x : Slot} {d : Side} {a b : CplVals} {ra rb : List CplVals} (ha : (x.unit d).a = a :: ra)
    (hb : (x.unit d).b = b :: rb) (v : CplVals) : (x.compared d v).unit d = ⟨ra, rb⟩ := by
  have h : (x.compared d v).unit d = ⟨(x.unit d).a.tail, (x.unit d).b.tail⟩ := by cases d <;> rfl
  rw [h, ha, hb]
  rfl

/-- CPL, FEND and the 4,096th instruction since the last coupling. -/
theorem couplings_spec {s : State} {c : CoachRef} (h : s.ready c) (ht : (s.coachOf c.ix).trapMode = false) :
    let k := s.coachOf c.ix
    let after : Coach := { k with pc := k.pc + 1, retcnt := k.retcnt + 1, cplcnt := 0 }
    s.couples (.cpl c) c after (false, k.sig, k.retcnt + 1) ∧ s.couples (.fend c) c after (true, k.sig, k.retcnt + 1) ∧
    (k.cplcnt = 4095 → s.couples (.nop c) c after (false, k.sig, k.retcnt + 1)) := by
  have hu : (s.cpu c).co.trapMode = false := ht
  refine ⟨State.couples_of h rfl ?_, State.couples_of h rfl ?_, fun h4 => State.couples_of h rfl ?_⟩
  · rw [hu]
    rfl
  · rw [hu]
    rfl
  · have hn : (s.cpu c).co.cplcnt + 1 = 4096 := congrArg Nat.succ h4
    show (s.cpu c).retire ((s.cpu c).co.pc + 1) = _
    rw [Cpu.retire]
    simp only [hn, if_true]
    rfl

theorem splitFendResume_goes {s : State} {c : CoachRef} (hl : s.lockedCoach c = false) (hw : (s.cstOf c.ix).waitFend = true) :
    ∃ t, exec (.splitFendResume c) s = .next t ∧ t.cstOf c.ix = { s.cstOf c.ix with waitFend := false } ∧
      (∀ j, j ≠ c.ix → t.cstOf j = s.cstOf j) ∧ t = { s with coachSt := t.coachSt, term := t.term } ∧ s.outsOnly t :=
  ⟨_, if_pos (by simp [hl, hw]), s.cstOf_updCst_self c.ix fun x => { x with waitFend := false },
    fun _ hj => s.cstOf_updCst_other hj fun x => { x with waitFend := false }, rfl, State.outsOnly_settle_of rfl⟩

theorem splitFendResume_stays {s : State} {c : CoachRef} (h : s.lockedCoach c = true ∨ (s.cstOf c.ix).waitFend = false) :
    s.ends (.splitFendResume c) s :=
  State.ends_of_settled (if_neg (by rintro ⟨hw, hl⟩; simp [hw] at h; simp [h] at hl))

theorem linkRows_exec (s : State) {i : Instr} (h : ∃ d p lag, i = .couplingSignature d p lag ∨ i = .derailNotice d p ∨ i = .bankNotice d p) :
    exec i s = done (s.linkSend i) := by
  obtain ⟨d, p, lag, rfl | rfl | rfl⟩ := h <;> rfl

/-- Settles O40: couplings and resumes by their instructions, the rows of the side link by what arrives, and each comparison by its
cause. -/
theorem couplingsAndMismatches : Obligations.CouplingsAndMismatches := by
  unfold Obligations.CouplingsAndMismatches
  refine ⟨fun s c h ht => couplings_spec h ht, fun s c => splitFendResume_goes, fun s c => splitFendResume_stays,
    fun s i hi => ⟨State.exec_link_waits (linkRows_exec s hi), State.exec_link_runs (linkRows_exec s hi)⟩, ?_⟩
  intro s d p lag a b ra rb ht hw x own held first second asserts registers
  have hheld : held = x.unit d := by cases d <;> rfl
  have alone {i : Instr} (hi : exec i s = done (s.linkSend i)) := State.exec_link_alone hi ht hw
  refine ⟨⟨fun h1 h2 => ?timeout, fun h => ?early⟩, ⟨fun h => ?derailed, fun h => ?onTrack⟩, ⟨fun h1 h2 => ?bank, fun h => ?noBank⟩,
    fun ha hb hc => ?compares, fun h => ?idle⟩
  case timeout =>
    rw [hheld] at h1 h2
    exact State.registers_of_settled p.isLt (if_pos ⟨h1, h2⟩)
  case early =>
    rw [hheld] at h
    exact State.ends_of_settled (if_neg fun ⟨h1, h2⟩ => h.elim h1 fun h3 => h3 h2)
  case derailed => exact State.registers_of_next p.isLt ((alone rfl).trans (congrArg done (if_pos h)))
  case onTrack => exact (alone rfl).trans (congrArg done (if_neg (by simp [h])))
  case bank => exact State.registers_of_next p.isLt ((alone rfl).trans (congrArg done (if_pos ⟨h1, h2⟩)))
  case noBank =>
    refine (alone rfl).trans (congrArg done (if_neg ?_))
    rintro ⟨h1, h2⟩
    exact h.elim (fun h3 => absurd (h1.symm.trans h3) (by decide)) fun h3 => h3 h2
  case idle =>
    rw [hheld] at h
    exact (alone rfl).trans (congrArg done (State.couplingArrive_idle h lag))
  case compares =>
    rw [hheld] at ha hb
    have hx : exec (.couplingSignature d p lag) s = .next (s.couplingArrive d p.val lag) := alone rfl
    rw [State.couplingArrive_compares ha hb hc] at hx
    have registersCause {cause : Nat} (hcause : cplCause a b lag ((s.slotOf p.val).resumed.get d) = cause) (h0 : cause ≠ 0) :
        registers (.couplingSignature d p lag) cause := by
      rw [hcause, if_neg h0] at hx
      exact State.registers_of_next p.isLt hx
    refine ⟨fun h1 => registersCause (cplCause_sig h1 _ _) (by decide), fun h1 h2 => registersCause (cplCause_count h1 h2 _ _) (by decide),
      fun h1 h2 h3 h4 h5 => registersCause (cplCause_output h1 h2 h3 h4 h5 _ _) (by decide), ?lag, ?verified⟩
    case lag =>
      rintro rfl hr hlag
      refine registersCause ?_ (by decide)
      rw [show (s.slotOf p.val).resumed.get d = false from hr]
      exact cplCause_lag a hlag
    case verified =>
      rintro rfl hlag
      rw [if_pos (cplCause_none a hlag)] at hx
      obtain ⟨v1, v2, v3, v4, v5, v6, v7, v8, v9⟩ := s.verifies_cplVerified d p.val lag a
      have leaves (h : ¬ s.finalInTime p.val a) := State.cplVerified_leaves h d lag ((s.slotOf p.val).resumed.get d)
      have keeps (h : s.finalInTime p.val a) := State.cplVerified_keeps h d lag ((s.slotOf p.val).resumed.get d)
      generalize s.cplVerified d p.val a lag ((s.slotOf p.val).resumed.get d) = r at *
      refine ⟨_, hx, v1, v2, v3, ?_, ?_, ?_, ?_, ?_, v7, v8, v9, State.settle_gatesSafe _, fun h => ?_, fun h1 h2 h3 => ?_⟩
      · rintro rfl
        exact ⟨v4.trans (Slot.compared_unit ha hb a), v5⟩
      · rintro rfl
        exact ⟨v5.trans (Slot.compared_unit ha hb a), v4⟩
      · rintro hr rfl
        refine v6.trans ?_
        rw [show (s.slotOf p.val).resumed.get .A = false from hr, cplHold_A]
      · rintro hr rfl
        refine v6.trans ?_
        rw [show (s.slotOf p.val).resumed.get .B = false from hr, cplHold_B]
      · rintro hr rfl
        refine v6.trans ?_
        rw [show (s.slotOf p.val).resumed.get .B = true from hr]
        rfl
      · refine leaves ?_
        rintro ⟨hf, ht', hst⟩
        obtain h | h | h := h
        · exact absurd (hf.symm.trans h) (by decide)
        · exact absurd h (Nat.not_lt.mpr ht')
        · exact hst h
      · obtain ⟨k1, k2, k3, k4, k5⟩ := keeps ⟨h1, h2, h3⟩
        refine ⟨k1, k2, k3, fun hl hwf q => ?_, k5⟩
        have hf := frameWrites_get hwf (s.mem.get d).frame q
        rw [← k4 hl] at hf
        exact hf

/-! ### What the image exchange leaves (R35) -/

/-- What the image exchange reads of a state to start frame work: clock, waiting transfers, slots, device and package. -/
def State.base (s : State) : Clock × List Instr × Tab Slot × Device × Pkg := (s.clock, s.linkWait, s.slot, s.dev, s.pkg)

section
variable (s : State)

/-! Terminals, channels, functions, monitors and events are none of it. -/
@[simp] theorem State.base_updTerm (t : Nat) (f : Terminal → Terminal) : (s.updTerm t f).base = s.base := rfl
@[simp] theorem State.base_updChan (t : Nat) (f : Channel → Channel) : (s.updChan t f).base = s.base := rfl
@[simp] theorem State.base_updFn (t : Nat) (f : Fn → Fn) : (s.updFn t f).base = s.base := rfl
@[simp] theorem State.base_updMon (t : Nat) (f : Mon → Mon) : (s.updMon t f).base = s.base := rfl
@[simp] theorem State.base_updMonx (t : Nat) (f : MonX → MonX) : (s.updMonx t f).base = s.base := rfl
@[simp] theorem State.base_postL (code : Nat) (src : Node) (sev detail : Nat) (l : Bool) :
    (s.postL code src sev detail l).base = s.base := rfl
@[simp] theorem State.base_post (code : Nat) (src : Node) (sev detail : Nat) : (s.post code src sev detail).base = s.base := rfl
@[simp] theorem State.base_drawn : s.drawn.base = s.base := rfl
@[simp] theorem State.base_diagAdd (i cause src : Nat) : (s.diagAdd i cause src).base = s.base := rfl
@[simp] theorem State.base_lowerCause (t cause : Nat) : (s.lowerCause t cause).base = s.base := rfl
@[simp] theorem State.base_endCondition (src : Node) (code : Nat) : (s.endCondition src code).base = s.base := rfl

theorem State.Books.base {s t : State} (h : s.Books t) : t.base = s.base := by
  unfold State.base
  rw [h.clock, h.linkWait, h.slot, h.dev, h.pkg]

theorem State.base_forEach {f : State → Nat → State} (h : ∀ x k, (f x k).base = x.base) (l : List Nat) : (s.forEach l f).base = s.base :=
  forEach_keeps State.base f h s l

/-! #### Causes and tests at a terminal -/

@[simp] theorem State.base_finalReply (port : Option Side) (queue opcode : Nat) (tag : BitVec 32) (status : Nat) (slots : List Nat) :
    (s.finalReply port queue opcode tag status slots).base = s.base := ((State.Books.refl s).finalReply _ _ _ _ _ _).base

@[simp] theorem State.base_concludeTest (q : Test) (v : Nat) : (s.concludeTest q v).base = s.base :=
  ((State.Books.refl s).concludeTest q v).base

@[simp] theorem State.base_testRelease (n : Node) : (s.testRelease n).base = s.base := by
  unfold State.testRelease State.unitTesting
  split_ifs <;> rfl

@[simp] theorem State.base_beginTest (n : Node) (cls : Nat) : (s.beginTest n cls).base = s.base :=
  ((State.Books.refl s).beginTest n cls).base

@[simp] theorem State.base_abortTest (q : Test) : (s.abortTest q).base = s.base := by simp [State.abortTest]

@[simp] theorem State.base_startTest (n : Node) (cls : Nat) : (s.startTest n cls).base = s.base := by
  unfold State.startTest
  split
  · rfl
  · split
    · exact s.base_beginTest n cls
    · split
      · simp
      · rfl

@[simp] theorem State.base_calAbort (t : Nat) : (s.calAbort t).base = s.base := by
  have hend (st : Nat) : (s.calEnd t st).base = s.base := by
    unfold State.calEnd
    dsimp only
    split <;> simp
  unfold State.calAbort
  split
  · exact hend _
  · rfl

@[simp] theorem State.base_raiseCause (t cause : Nat) : (s.raiseCause t cause).base = s.base := by
  unfold State.raiseCause State.raiseCauseD
  dsimp only
  split_ifs <;> simp

@[simp] theorem State.base_raiseFns (fs : List Nat) (cause detail term : Nat) : (s.raiseFns fs cause detail term).base = s.base :=
  s.base_forEach (fun x _ => x.base_updFn _ _) fs

/-! #### The inputs' checks (R116–R122) -/

@[simp] theorem State.base_termFaultNow (t cause : Nat) : (s.termFaultNow t cause).base = s.base :=
  s.base_forEach (fun x _ => x.base_updFn _ _) _

@[simp] theorem State.base_ne43 (t : Nat) : (s.ne43 t).base = s.base := by
  unfold State.ne43
  split
  · rfl
  · dsimp only
    split_ifs <;> simp

@[simp] theorem State.base_aiDisagree (ch : Nat) (now : Bool) : (s.aiDisagree ch now).base = s.base := by
  have hf (x : State) (l : List Nat) (d e : BitVec 8) (t : Nat) :
      (x.forEach l fun x f => x.updFn f fun y => y.faultInFrame d e t).base = x.base := x.base_forEach (fun y _ => y.base_updFn _ _) l
  unfold State.aiDisagree
  dsimp only
  split_ifs <;> simp [hf]

@[simp] theorem State.base_calGuard (t : Nat) : (s.calGuard t).base = s.base := by
  unfold State.calGuard
  dsimp only
  split_ifs <;> simp

@[simp] theorem State.base_aiChannel (ch : Nat) : (s.aiChannel ch).base = s.base := by
  unfold State.aiChannel
  dsimp only
  split_ifs <;> simp

@[simp] theorem State.base_aoChannel (ch : Nat) : (s.aoChannel ch).base = s.base := by
  unfold State.aoChannel
  dsimp only
  split
  · split_ifs <;> simp
  · rfl

@[simp] theorem State.base_lateFlag (t : Nat) : (s.lateFlag t).base = s.base := by
  unfold State.lateFlag
  split_ifs <;> simp

@[simp] theorem State.base_imageAnalog : s.imageAnalog.base = s.base := by
  unfold State.imageAnalog
  dsimp only
  rw [State.base_forEach _ State.base_aoChannel, State.base_forEach _ State.base_aiChannel, State.base_forEach _ State.base_lateFlag]

/-! #### Monitors and functions (R272–R300, R250) -/

@[simp] theorem State.base_monPost (m code sev detail : Nat) (l : Bool) : (s.monPost m code sev detail l).base = s.base := by
  unfold State.monPost
  split <;> rfl

@[simp] theorem State.base_monFault (m code : Nat) : (s.monFault m code).base = s.base := by
  have hf (x : State) (l : List Nat) (g : Nat → MonX → MonX) (e : Nat → Nat) :
      (x.forEach l fun z k => (z.updMonx m (g k)).monPost m 0x0503 0 (e k) false).base = x.base :=
    x.base_forEach (fun y k => by simp) l
  unfold State.monFault
  split
  · rfl
  · exact (hf _ _ (fun k y => { y with events := Tab.set {} y.events k { st := 1 } }) fun k => k * 2 ^ 25 + 2 ^ 23).trans (by simp)

@[simp] theorem State.base_monClear (m : Nat) : (s.monClear m).base = s.base := by
  unfold State.monClear
  dsimp only
  split
  · rfl
  · split <;> simp

@[simp] theorem State.base_monJudge (m : Nat) : (s.monJudge m).base = s.base := by
  unfold State.monJudge
  dsimp only
  split_ifs <;> simp

@[simp] theorem State.base_monNext (m : Nat) (req : Bool) (st : BitVec 4) : (s.monNext m req st).base = s.base := rfl

@[simp] theorem State.base_monRaise (m : Nat) (b : Bool) (r : Option (Byte × Byte)) : (s.monRaise m b r).base = s.base := by
  have hf (x : State) (l : List Nat) (c d : Byte) :
      (x.forEach l fun z f => z.updFn f fun y => y.faultInFrame c d 0x1FF).base = x.base := x.base_forEach (fun y _ => y.base_updFn _ _) l
  unfold State.monRaise
  dsimp only
  split
  · rfl
  · split_ifs <;> simp [hf]

@[simp] theorem State.base_monEvents (m : Nat) : (s.monEvents m).base = s.base := by
  unfold State.monEvents
  dsimp only
  split
  · split <;> rfl
  · split
    · rfl
    · rw [State.base_updMonx]
      refine s.base_forEach (fun z k => ?_) _
      split <;> simp

@[simp] theorem State.base_monRevReq (m : Nat) : (s.monRevReq m).base = s.base := s.base_forEach (fun z _ => z.base_updMonx _ _) _

@[simp] theorem State.base_monCapture (pd : Nat → Bool) (b : Bool) (m : Nat) : (s.monCapture pd b m).base = s.base := by
  have ht (x : State) : (x.monTake m).base = x.base := rfl
  have hj (x : State) : (x.monJudged m).base = x.base := rfl
  have hs (x : State) : (x.monSos m).base = x.base := rfl
  unfold State.monCapture
  dsimp only
  split_ifs <;> simp [ht, hj, hs]

@[simp] theorem State.base_imageMons : s.imageMons.base = s.base := by
  have hm : (s.monImages s.pdBit).base = s.base := by
    unfold State.monImages
    rw [State.base_forEach _ fun x k => x.base_monCapture _ _ k]
    unfold State.monBegin
    split <;> rfl
  unfold State.imageMons
  split
  · exact hm
  · exact hm
  · rfl

@[simp] theorem State.base_fnImages : s.fnImages.base = s.base := by
  refine s.base_forEach (fun x f => ?_) _
  unfold State.runFn
  split <;> rfl

end

/-! ### Connections at the tick-3 edge (R321–R323) -/

/-- t is s but for connections, lattice halves, memories, events with their journals, and streams; windows open below the device. -/
structure State.Conns (s t : State) : Prop where
  frame : t = { s with
    conn := t.conn, half := t.half, mem := t.mem, log := t.log, windows := t.windows, journal := t.journal, queue := t.queue }
  opens : s.opensAt (· ≠ nDevice) t

theorem State.Conns.refl (s : State) : s.Conns s := ⟨rfl, State.opensAt_of_eq rfl⟩

theorem State.Conns.trans {s t u : State} (h : s.Conns t) (g : t.Conns u) : s.Conns u := by
  refine ⟨?_, h.opens.trans g.opens⟩
  have hu := g.frame
  rw [h.frame] at hu
  exact hu

section
variable {s t : State} (h : s.Conns t)
include h

/-! What they leave. -/
theorem State.Conns.base : t.base = s.base := (congrArg State.base h.frame :)
theorem State.Conns.fn : t.fn = s.fn := (congrArg State.fn h.frame :)
theorem State.Conns.coach : t.coach = s.coach := (congrArg State.coach h.frame :)
theorem State.Conns.coachSt : t.coachSt = s.coachSt := (congrArg State.coachSt h.frame :)
theorem State.Conns.timeWord : t.timeWord = s.timeWord := (congrArg State.timeWord h.frame :)

end

section
variable {s x : State} (h : s.Conns x)
include h

theorem State.Conns.updConn (c : Nat) (f : Conn → Conn) : s.Conns (x.updConn c f) := h.trans ⟨rfl, State.opensAt_of_eq rfl⟩

/-- An event of a connection. -/
theorem State.Conns.postL (code c n sev detail : Nat) (l : Bool) : s.Conns (x.postL code (nConn c n) sev detail l) := by
  refine h.trans ⟨rfl, (x.opensAt_postL code (nConn c n) sev detail l).mono ?_⟩
  rintro m rfl hm
  exact absurd (congrArg Node.cls hm) (by simp [nConn, nDevice])

theorem State.Conns.endCondition (src : Node) (code : Nat) : s.Conns (x.endCondition src code) := by
  refine h.trans ⟨rfl, fun w hw => ?_⟩
  obtain ⟨v, hv, rfl⟩ := List.mem_map.mp hw
  refine .inl ⟨v, hv, ?_⟩
  split <;> rfl

theorem State.Conns.mramWrite (d : Side) (a : Nat) (w : Word) : s.Conns (x.mramWrite d a w) := by
  unfold State.mramWrite
  split
  · exact h.trans ⟨rfl, State.opensAt_of_eq rfl⟩
  · exact h

theorem State.Conns.connOpen (c : Nat) (e : BitVec 16) : s.Conns (x.connOpen c e) :=
  ((h.mramWrite _ _ _).mramWrite _ _ _).updConn _ _

theorem State.Conns.registerStop (d : Side) (g cid : Nat) : s.Conns (x.registerStop d g cid) :=
  h.trans ⟨rfl, State.opensAt_of_eq rfl⟩

theorem State.Conns.connLoss (c : Nat) (was now : LinkState) : s.Conns (x.connLoss c was now) := by
  unfold State.connLoss
  dsimp only
  refine State.Conns.postL ?_ _ _ _ _ _ _
  split
  · exact ((h.updConn _ _).registerStop _ _ _).registerStop _ _ _
  · exact h.updConn _ _

theorem State.Conns.connTake (c : Nat) (a : Accepted) : s.Conns (x.connTake c a) := by
  unfold State.connTake
  dsimp only
  split
  · exact h.updConn _ _
  · exact ((h.updConn _ _).endCondition _ _).endCondition _ _

theorem State.Conns.connTally (c : Nat) (z : Decided) : s.Conns (x.connTally c z) := by
  have hp (y : State) (hy : s.Conns y) (l : List Accepted) : s.Conns (y.postPayloads c l) := by
    unfold State.postPayloads
    dsimp only
    split
    · exact hy
    · exact hy.trans ⟨rfl, State.opensAt_of_eq rfl⟩
  unfold State.connTally
  dsimp only
  split
  · exact (hp _ (h.updConn _ _) _).postL _ _ _ _ _ _
  · exact hp _ (h.updConn _ _) _

theorem State.Conns.connStep (c : Nat) (z : Decided) : s.Conns (x.connStep c z) := by
  unfold State.connStep
  dsimp only
  split
  · exact h
  · split
    · split
      · exact h.connOpen _ _
      · exact h
    · split
      · exact h
      · split
        · exact h.connOpen _ _
        · exact h
  · split
    · exact h.connOpen _ _
    · split
      · exact h.connOpen _ _
      · exact h
  · split
    · exact h.connTake _ _
    · split
      · exact h.updConn _ _
      · exact h
  · split
    · exact (h.connLoss _ _ _).connOpen _ _
    · split
      · split
        · exact (h.connTake _ _).connLoss _ _ _
        · exact h.connTake _ _
      · split
        · exact h.connLoss _ _ _
        · exact h

theorem State.Conns.connLate (c : Nat) : s.Conns (x.connLate c) := by
  unfold State.connLate
  dsimp only
  split
  · exact h
  · split
    · exact h.connTally _ _
    · exact (((h.connTally _ _).updConn _ _).connStep _ _).updConn _ _

end

theorem State.Conns.connLates (s : State) : s.Conns s.connLates :=
  forEach_inv (fun y => s.Conns y) _ (fun _ c hy => hy.connLate c) s _ (.refl s)

/-! ### What an arriving transfer leaves (R19) -/

/-- t has the clock, the waiting transfers, the late marks and the events of s. -/
structure State.Arrives (s t : State) : Prop where
  clock : t.clock = s.clock
  linkWait : t.linkWait = s.linkWait
  late : ∀ d, (t.fstOf d).imgLate = (s.fstOf d).imgLate
  log : ∀ e ∈ s.log, e ∈ t.log

theorem State.Arrives.refl (s : State) : s.Arrives s := ⟨rfl, rfl, fun _ => rfl, fun _ h => h⟩

theorem State.Arrives.trans {s t u : State} (h : s.Arrives t) (g : t.Arrives u) : s.Arrives u :=
  ⟨g.clock.trans h.clock, g.linkWait.trans h.linkWait, fun d => (g.late d).trans (h.late d), fun e he => g.log e (h.log e he)⟩

theorem State.Hands.arrives {s t : State} (h : s.Hands t) : s.Arrives t :=
  ⟨h.clock, h.linkWait, fun d => by rw [State.fstOf, h.frameSt]; rfl, h.log⟩

theorem State.Marks.arrives {s t : State} (h : s.Marks t) : s.Arrives t :=
  ⟨h.clock, h.linkWait, fun d => by rw [State.fstOf, h.frameSt]; rfl, h.log⟩

section
variable {s x : State} (h : s.Arrives x)
include h

/-! Slots, copies, coaches, halves, functions, memories and gates are none of it. -/
theorem State.Arrives.updSlot (p : Nat) (f : Slot → Slot) : s.Arrives (x.updSlot p f) := h.trans ⟨rfl, rfl, fun _ => rfl, fun _ g => g⟩
theorem State.Arrives.updCst (p : Nat) (f : CoachSt → CoachSt) : s.Arrives (x.updCst p f) := h.trans ⟨rfl, rfl, fun _ => rfl, fun _ g => g⟩
theorem State.Arrives.updCoach (p : Nat) (f : Coach → Coach) : s.Arrives (x.updCoach p f) := h.trans ⟨rfl, rfl, fun _ => rfl, fun _ g => g⟩
theorem State.Arrives.updFn (p : Nat) (f : Fn → Fn) : s.Arrives (x.updFn p f) := h.trans ⟨rfl, rfl, fun _ => rfl, fun _ g => g⟩
theorem State.Arrives.updMem (d : Side) (f : Mem → Mem) : s.Arrives (x.updMem d f) := h.trans ⟨rfl, rfl, fun _ => rfl, fun _ g => g⟩
theorem State.Arrives.settle : s.Arrives x.settle := h.trans ⟨rfl, rfl, fun _ => rfl, fun _ g => g⟩
theorem State.Arrives.sideMismatch (d : Side) (p : Nat) : s.Arrives (x.sideMismatch d p) :=
  h.trans ⟨rfl, rfl, fun _ => rfl, fun _ g => g⟩

theorem State.Arrives.registerMismatch (d : Side) (p cause : Nat) : s.Arrives (x.registerMismatch d p cause) := by
  have first (hst : x.firstDue p) : s.Arrives (x.registerMismatch d p cause) := by
    rw [State.registerMismatch_first hst]
    have hb : s.Arrives (x.mismatchBegun d p cause) :=
      ((h.trans ((State.Hands.refl x).abortAround p).arrives).updSlot p _).sideMismatch d p
    exact ((hb.trans (State.Marks.slotFaults _ _ _ _).arrives).trans (State.Books.coachesTested _ _ _ _).hands.arrives).settle
  cases hst : (x.slotOf p).st with
  | locked => exact first (.inl hst)
  | shadow => exact first (.inr hst)
  | testing =>
    unfold State.registerMismatch
    rw [hst]
    dsimp only
    refine State.Arrives.settle ?_
    split_ifs
    · exact (h.sideMismatch d p).updSlot p _
    · exact h.updSlot p _
    · exact h.sideMismatch d p
    · exact h
  | _ =>
    unfold State.registerMismatch
    rw [hst]
    exact h

theorem State.Arrives.keepWork (d : Side) (p : Nat) : s.Arrives (x.keepWork d p) := by
  unfold State.keepWork
  dsimp only
  split
  · exact (h.updSlot _ _).updSlot _ _
  · exact (h.updSlot _ _).updMem _ _

theorem State.Arrives.cplVerified (d : Side) (p : Nat) (v : CplVals) (lag : Int) (noLag : Bool) :
    s.Arrives (x.cplVerified d p v lag noLag) := by
  have hc : s.Arrives (x.compared d p v lag noLag) := (h.updSlot p _).updCst _ _
  by_cases hf : x.finalInTime p v
  · refine State.Arrives.trans ?_ (State.cplVerified_hands hf d lag noLag).arrives
    have hk : s.Arrives ((x.compared d p v lag noLag).finalKept d p) := (hc.keepWork d p).updSlot p _
    unfold State.bothVerified
    split
    · exact hk.updSlot p _
    · exact hk
  · rw [State.cplVerified_notFinal hf]
    exact hc

theorem State.Arrives.couplingArrive (d : Side) (p : Nat) (lag : Int) : s.Arrives (x.couplingArrive d p lag) := by
  unfold State.couplingArrive
  dsimp only
  split
  · split_ifs
    · split
      · exact (h.cplVerified _ _ _ _ _).settle
      · exact h.registerMismatch _ _ _
    · exact h
  · exact h

theorem State.Arrives.alignArrive (d : Side) (skew : Int) : s.Arrives (x.alignArrive d skew) := by
  have hf (f : FrameStat → FrameStat) (hl : ∀ y, (f y).imgLate = y.imgLate) : s.Arrives (x.updFst d f) := by
    refine h.trans ⟨rfl, rfl, fun e => ?_, fun _ g => g⟩
    rw [State.fstOf_updFst]
    split
    · next he => rw [he]; exact hl _
    · rfl
  unfold State.alignArrive
  dsimp only
  refine State.Arrives.settle ?_
  split
  · refine State.Arrives.trans ?_ ((State.Books.refl _).post _ _ _ _).hands.arrives
    exact hf _ fun _ => rfl
  · exact hf _ fun _ => rfl

theorem State.Arrives.handoverCopyArrive (p : Nat) : s.Arrives (x.handoverCopyArrive p) := by
  unfold State.handoverCopyArrive
  split
  · exact h
  · dsimp only
    split
    · exact h
    · exact (h.updSlot _ _).updSlot _ _

theorem State.Arrives.rebuildArrive (p : Nat) (a b : Word) : s.Arrives (x.rebuildArrive p a b) := by
  unfold State.rebuildArrive
  dsimp only
  split
  · exact h
  · have h1 : s.Arrives (((x.clearScratch (x.slotCoach .A p)).clearScratch (x.slotCoach .B p)).updSlot p fun y =>
        { y with rebuilt := true, rebuiltAt := x.clock.count }) := ((h.updCoach _ _).updCoach _ _).updSlot _ _
    split
    · exact h1
    · exact (forEach_inv (fun y => s.Arrives y) _ (fun _ _ hy => hy.updFn _ _) _ _ h1).settle

theorem State.Arrives.debugStore (d : Side) (p pa : Nat) (w : Word) : s.Arrives (x.debugStore d p pa w) := by
  unfold State.debugStore
  split
  · exact h.updMem _ _
  · exact h.updSlot _ _

theorem State.Arrives.debugApply (d : Side) (p : Nat) (tgt : DebugTarget) (w : Word) : s.Arrives (x.debugApply d p tgt w) := by
  unfold State.debugApply
  dsimp only
  split
  · exact h.updCoach _ _
  · exact h.updCoach _ _
  · split
    · split
      · exact (h.debugStore _ _ _ _).updSlot _ _
      · exact h.updCoach _ _
    · exact h

theorem State.Arrives.replayArrive (p : Nat) : s.Arrives (x.replayArrive p) := by
  unfold State.replayArrive
  split
  · exact h
  · split
    · exact (h.debugApply _ _ _ _).updSlot _ _
    · exact h

theorem State.Arrives.linkRun (i : Instr) : s.Arrives (x.linkRun i) := by
  unfold State.linkRun
  split
  · exact h.couplingArrive _ _ _
  · unfold State.bankNoticeArrive
    split
    · exact h.registerMismatch _ _ _
    · exact h
  · unfold State.derailArrive
    split
    · exact h.registerMismatch _ _ _
    · exact h
  · exact h.alignArrive _ _
  · exact h.handoverCopyArrive _
  · exact h.rebuildArrive _ _ _
  · exact h.replayArrive _
  · exact h

end

/-- The transfers that wait run, and none waits afterwards. -/
theorem State.linkDrain_arrives (s : State) : ({ s with linkWait := [] } : State).Arrives s.linkDrain :=
  foldl_inv (fun y => ({ s with linkWait := [] } : State).Arrives y) _ (fun _ i hy => hy.linkRun i) _ _ (.refl _)

theorem State.linkDrain_none {s : State} (h : s.linkWait = []) : s.linkDrain = s := by
  have hs : ({ s with linkWait := [] } : State) = s := by rw [← h]
  rw [State.linkDrain, h, List.foldl_nil, hs]

/-! ### Frame work starts (R36, R199) -/

/-- Slots with work, their coaches and entries are read from the base alone. -/
theorem State.base_frameWork {s t : State} (h : t.base = s.base) : t.workSlots = s.workSlots ∧
    (∀ d p, t.slotCoach d p = s.slotCoach d p) ∧ ∀ p, t.slotEntry p = s.slotEntry p := by
  simp only [State.base, Prod.mk.injEq] at h
  obtain ⟨-, -, hs, hd, hp⟩ := h
  cases s
  cases t
  subst hs hd hp
  exact ⟨rfl, fun _ _ => rfl, fun _ => rfl⟩

/-- t is s but for coaches and their states and for the slots' working buffers. -/
structure State.Starts (s t : State) : Prop where
  frame : t = { s with coach := t.coach, coachSt := t.coachSt, slot := t.slot }
  slot : ∀ q, t.slotOf q = { s.slotOf q with work := (t.slotOf q).work }

theorem State.Starts.refl (s : State) : s.Starts s := ⟨rfl, fun _ => rfl⟩

theorem State.Starts.slotCoach {s t : State} (h : s.Starts t) (d : Side) (p : Nat) : t.slotCoach d p = s.slotCoach d p := by
  rw [State.slotCoach, h.slot p]
  cases d <;> rfl

theorem State.Starts.slotEntry {s t : State} (h : s.Starts t) (p : Nat) : t.slotEntry p = s.slotEntry p := by
  have hd : t.dev = s.dev := (congrArg State.dev h.frame :)
  have hp : t.pkg = s.pkg := (congrArg State.pkg h.frame :)
  unfold State.slotEntry State.slotWord State.runsNew State.workOf State.cw
  rw [h.slot p, hd, hp]

/-- A coach started at an entry runs there with S at SEED; every other coach is as before. -/
theorem State.startCoach_spec (s : State) (i p : Nat) (e : BitVec 41) (j : Nat) :
    (j = i → ((s.startCoach i p e).coachOf j).pc = e ∧ ((s.startCoach i p e).coachOf j).sig = seed ∧
      ((s.startCoach i p e).cstOf j).stopped = false) ∧
    (j ≠ i → (s.startCoach i p e).coachOf j = s.coachOf j ∧ (s.startCoach i p e).cstOf j = s.cstOf j) := by
  have hc : (s.startCoach i p e).coachOf j = if j = i then s.freshCore p e (s.coachOf i) else s.coachOf j :=
    s.coachOf_updCoach i (fun c => s.freshCore p e c) j
  have hs := (s.updCoach i fun c => s.freshCore p e c).cstOf_updCst i (fun c => { c with
    stopped := false, derailed := false, waitFend := false, powered := true }) j
  change (s.startCoach i p e).cstOf j = _ at hs
  rw [hc, hs]
  refine ⟨fun h => ?_, fun h => ?_⟩
  · rw [if_pos h, if_pos h]
    exact ⟨rfl, rfl, rfl⟩
  · rw [if_neg h, if_neg h]
    exact ⟨rfl, rfl⟩

theorem State.Starts.trans {s t u : State} (h : s.Starts t) (g : t.Starts u) : s.Starts u := by
  refine ⟨?_, fun q => ?_⟩
  · have hu := g.frame
    rw [h.frame] at hu
    exact hu
  · have hu := g.slot q
    rw [h.slot q] at hu
    exact hu

/-- Both coaches of slot p started at its entry (R36). -/
def State.coachesStarted (x : State) (p : Nat) : State :=
  (x.startCoach (x.slotCoach .A p) p (x.slotEntry p)).startCoach (x.slotCoach .B p) p (x.slotEntry p)

theorem State.startFrameWork_eq (x : State) (p : Nat) : x.startFrameWork p =
    ((x.coachesStarted p).updCst (x.slotCoach .B p) fun c => { c with hold := 160 }).updSlot p fun y => { y with work := ⟨[], []⟩ } := rfl

theorem State.slotOf_startCoach (x : State) (i p : Nat) (e : BitVec 41) (q : Nat) : (x.startCoach i p e).slotOf q = x.slotOf q := rfl

theorem State.Starts.startCoach {s x : State} (h : s.Starts x) (i p : Nat) (e : BitVec 41) : s.Starts (x.startCoach i p e) :=
  h.trans ⟨rfl, fun q => by rw [State.slotOf_startCoach]⟩

theorem State.Starts.coachesStarted {s x : State} (h : s.Starts x) (p : Nat) : s.Starts (x.coachesStarted p) :=
  (h.startCoach _ _ _).startCoach _ _ _

theorem State.Starts.startFrameWork {s x : State} (h : s.Starts x) (p : Nat) : s.Starts (x.startFrameWork p) := by
  have hy := h.coachesStarted p
  rw [State.startFrameWork_eq]
  generalize x.coachesStarted p = y at hy ⊢
  refine hy.trans ⟨rfl, fun q => ?_⟩
  rw [State.slotOf_updSlot]
  split
  · next hq => rw [hq]; rfl
  · rfl

/-- Slot p has started: no working buffer, both copies at their entry, the trail held (R36, R190). -/
def State.startedAt (s t : State) (p : Nat) : Prop :=
  (t.slotOf p).work = ⟨[], []⟩ ∧ (t.cstOf (s.slotCoach .B p)).hold = 160 ∧
  ∀ d, (t.coachOf (s.slotCoach d p)).pc = s.slotEntry p ∧ (t.coachOf (s.slotCoach d p)).sig = seed ∧
    (t.cstOf (s.slotCoach d p)).stopped = false

/-- Both started coaches run at the entry; every other coach is as before. -/
theorem State.coachesStarted_spec (x : State) (p j : Nat) :
    ((∃ d, j = x.slotCoach d p) → ((x.coachesStarted p).coachOf j).pc = x.slotEntry p ∧ ((x.coachesStarted p).coachOf j).sig = seed ∧
      ((x.coachesStarted p).cstOf j).stopped = false) ∧
    ((∀ d, j ≠ x.slotCoach d p) → (x.coachesStarted p).coachOf j = x.coachOf j ∧ (x.coachesStarted p).cstOf j = x.cstOf j) := by
  obtain ⟨ain, aout⟩ := x.startCoach_spec (x.slotCoach .A p) p (x.slotEntry p) j
  obtain ⟨bin, bout⟩ := (x.startCoach (x.slotCoach .A p) p (x.slotEntry p)).startCoach_spec (x.slotCoach .B p) p (x.slotEntry p) j
  unfold State.coachesStarted
  refine ⟨fun ⟨d, hd⟩ => ?_, fun h => ?_⟩
  · by_cases hb : j = x.slotCoach .B p
    · exact bin hb
    · have ha : j = x.slotCoach .A p := by
        cases d
        · exact hd
        · exact absurd hd hb
      rw [(bout hb).1, (bout hb).2]
      exact ain ha
  · exact ⟨(bout (h .B)).1.trans (aout (h .A)).1, (bout (h .B)).2.trans (aout (h .A)).2⟩

theorem State.coachOf_updCst (x : State) (i : Nat) (f : CoachSt → CoachSt) (j : Nat) : (x.updCst i f).coachOf j = x.coachOf j := rfl
theorem State.coachOf_updSlot (x : State) (p : Nat) (f : Slot → Slot) (j : Nat) : (x.updSlot p f).coachOf j = x.coachOf j := rfl
theorem State.cstOf_updSlot (x : State) (p : Nat) (f : Slot → Slot) (j : Nat) : (x.updSlot p f).cstOf j = x.cstOf j := rfl

theorem State.slotOf_updCst (x : State) (i : Nat) (f : CoachSt → CoachSt) (p : Nat) : (x.updCst i f).slotOf p = x.slotOf p := rfl

theorem State.startFrameWork_startedAt {s x : State} (h : s.Starts x) (p : Nat) : s.startedAt (x.startFrameWork p) p := by
  rw [State.startFrameWork_eq]
  refine ⟨?_, ?_, fun d => ?_⟩
  · rw [State.slotOf_updSlot_self]
  · rw [State.cstOf_updSlot, h.slotCoach, State.cstOf_updCst_self]
  · obtain ⟨hpc, hsig, hst⟩ := (x.coachesStarted_spec p (x.slotCoach d p)).1 ⟨d, rfl⟩
    rw [State.coachOf_updSlot, State.coachOf_updCst, State.cstOf_updSlot, ← h.slotCoach d, ← h.slotEntry]
    refine ⟨hpc, hsig, ?_⟩
    rw [State.cstOf_updCst]
    split
    · next he => rw [← he]; exact hst
    · exact hst

/-- Another slot's frame work leaves the coaches that it does not map. -/
theorem State.startedAt.startFrameWork {s x : State} {p q : Nat} (h : s.Starts x) (hp : s.startedAt x p) (hq : q ≠ p)
    (hc : ∀ d e, s.slotCoach e q ≠ s.slotCoach d p) : s.startedAt (x.startFrameWork q) p := by
  obtain ⟨hw, hh, hd⟩ := hp
  have hne (d : Side) (e : Side) : s.slotCoach d p ≠ x.slotCoach e q := by
    rw [h.slotCoach]
    exact (hc d e).symm
  have hkeep (d : Side) := (x.coachesStarted_spec q (s.slotCoach d p)).2 (hne d)
  rw [State.startFrameWork_eq]
  refine ⟨?_, ?_, fun d => ?_⟩
  · rw [State.slotOf_updSlot_other _ hq.symm, State.slotOf_updCst, State.coachesStarted, State.slotOf_startCoach, State.slotOf_startCoach]
    exact hw
  · rw [State.cstOf_updSlot, State.cstOf_updCst_other _ (hne .B .B), (hkeep .B).2]
    exact hh
  · rw [State.coachOf_updSlot, State.coachOf_updCst, State.cstOf_updSlot, State.cstOf_updCst_other _ (hne d .B), (hkeep d).1, (hkeep d).2]
    exact hd d

/-- Every slot of a list starts that shares no coach with another one. -/
theorem State.forEach_startedAt {s x : State} (h : s.Starts x) {l : List Nat} {p : Nat} (hp : s.startedAt x p ∨ p ∈ l)
    (hc : ∀ d, ∀ q ∈ l, ∀ e, s.slotCoach e q = s.slotCoach d p → q = p) : s.startedAt (x.forEach l State.startFrameWork) p := by
  induction l generalizing x with
  | nil => exact hp.resolve_right List.not_mem_nil
  | cons q r ih =>
    rw [State.forEach, List.foldl_cons]
    refine ih (h.startFrameWork q) ?_ fun d k hk => hc d k (List.mem_cons_of_mem _ hk)
    by_cases hq : q = p
    · rw [hq]
      exact .inl (State.startFrameWork_startedAt h p)
    · obtain hs | hm := hp
      · exact .inl (hs.startFrameWork h hq fun d e he => hq (hc d q List.mem_cons_self e he))
      · exact .inr ((List.mem_cons.mp hm).resolve_left (Ne.symm hq))

theorem State.Starts.forEach {s x : State} (h : s.Starts x) (l : List Nat) : s.Starts (x.forEach l State.startFrameWork) :=
  forEach_inv (fun y => s.Starts y) _ (fun _ p hy => hy.startFrameWork p) x l h

/-! ### The tick-3 edge (R35, R37) -/

/-- The edge of a later tick of the same frame. -/
theorem State.toTick_tick {s : State} {k : Nat} (hk : s.clock.tick ≤ k) (hf : k < s.clock.fl) : (s.toTick k).clock.tick = k := by
  have hn : s.clock.ticksTo k = k - s.clock.tick := if_pos hk
  show (s.clock.advance (s.clock.ticksTo k)).tick = k
  rw [hn, Clock.advance]
  by_cases h0 : k - s.clock.tick = 0
  · rw [if_pos h0]
    omega
  · rw [if_neg h0, if_pos (by omega)]
    exact Nat.add_sub_cancel' hk

/-- The state at the tick-3 edge whose complete image is taken. -/
def State.imageTaken (s : State) : State := (s.toTick 3).connLates.imageAnalog.imageMons.fnImages

theorem State.imageTaken_base (s : State) : s.imageTaken.base = (s.toTick 3).base := by
  rw [State.imageTaken, State.base_fnImages, State.base_imageMons, State.base_imageAnalog, (State.Conns.connLates _).base]

/-- What a state's base fixes. -/
theorem State.base_fields {s t : State} (h : t.base = s.base) : t.clock = s.clock ∧ t.linkWait = s.linkWait := by
  simp only [State.base, Prod.mk.injEq] at h
  exact ⟨h.1, h.2.1⟩

/-- Frame work with the slots of an image starts. -/
def State.imageStarted (s : State) : State := s.imageTaken.forEach s.imageTaken.workSlots State.startFrameWork

theorem imageExchange_complete (s : State) : exec (.imageExchangeComplete true) s = settled s.imageStarted.linkDrain := rfl

/-- The starts leave clock and waiting transfers. -/
theorem State.imageStarted_keeps (s : State) : s.imageStarted.clock = (s.toTick 3).clock ∧ s.imageStarted.linkWait = s.linkWait := by
  obtain ⟨hc, hl⟩ := State.base_fields s.imageTaken_base
  have hs := (State.Starts.refl s.imageTaken).forEach s.imageTaken.workSlots
  exact ⟨(congrArg State.clock hs.frame :).trans hc, (congrArg State.linkWait hs.frame :).trans hl⟩

/-- A slot with work whose coaches no other maps has started. -/
theorem State.imageStarted_startedAt {s : State} {p : Nat} (hp : p ∈ s.workSlots)
    (hc : ∀ d, ∀ q ∈ s.workSlots, ∀ e, s.slotCoach e q = s.slotCoach d p → q = p ∧ e = d) : s.startedAt s.imageStarted p := by
  obtain ⟨hw, hco, he⟩ := State.base_frameWork s.imageTaken_base
  have ht : (s.toTick 3).workSlots = s.workSlots ∧ (∀ d p, (s.toTick 3).slotCoach d p = s.slotCoach d p) ∧
      ∀ p, (s.toTick 3).slotEntry p = s.slotEntry p := ⟨rfl, fun _ _ => rfl, fun _ => rfl⟩
  obtain ⟨tw, tco, te⟩ := ht
  have h := State.forEach_startedAt (State.Starts.refl s.imageTaken) (l := s.imageTaken.workSlots) (p := p)
    (.inr (by rw [hw, tw]; exact hp)) fun d q hq e hqe => by
      rw [hw, tw] at hq
      rw [hco, hco, tco, tco] at hqe
      exact (hc d q hq e hqe).1
  unfold State.imageStarted
  unfold State.startedAt at h ⊢
  simpa only [hco, tco, he, te] using h

/-- The state at the tick-3 edge with a late image (R37). -/
def State.lateImage (s : State) : State := (s.toTick 3).connLates.imageLate

theorem imageExchange_late (s : State) : exec (.imageExchangeComplete false) s = settled s.lateImage.linkDrain := rfl

/-- Both sides are marked late; slots, functions, coaches and their states stand. -/
theorem State.lateImage_marks (s : State) : s.lateImage.clock = { (s.toTick 3).clock with late := true, halt0 := true } ∧
    (∀ d, (s.lateImage.fstOf d).imgLate = true) ∧ s.lateImage.linkWait = s.linkWait ∧
    (s.lateImage.slot = s.slot ∧ s.lateImage.fn = s.fn ∧ s.lateImage.coach = s.coach ∧ s.lateImage.coachSt = s.coachSt) := by
  have hc := State.Conns.connLates (s.toTick 3)
  obtain ⟨hclk, hw⟩ := State.base_fields hc.base
  have hslot : (s.toTick 3).connLates.slot = s.slot := (congrArg State.slot hc.frame :)
  have hfn := hc.fn
  have hco := hc.coach
  have hcst := hc.coachSt
  unfold State.lateImage
  generalize (s.toTick 3).connLates = x at *
  refine ⟨?_, fun d => by cases d <;> rfl, hw, hslot, hfn, hco, hcst⟩
  rw [← hclk]
  rfl

/-- The late image is reported, whatever the connections have posted. -/
theorem State.lateImage_reports (s : State) : (s.toTick 3).reports s.lateImage 0x0205 nLink 3 0 := by
  have hc := State.Conns.connLates (s.toTick 3)
  have ht := hc.timeWord
  have ho := hc.opens
  unfold State.lateImage
  generalize (s.toTick 3).connLates = x at ht ho ⊢
  exact State.reports_top nLink_top ht (ho.trans (State.opensAt_of_eq rfl)) 0x0205 3 0 false

/-- Settles O13: the chain to a complete image keeps what frame work reads, and each slot with coaches of its own starts. -/
theorem imageExchangeStartsFrameWork : Obligations.ImageExchangeStartsFrameWork := by
  unfold Obligations.ImageExchangeStartsFrameWork
  intro s ht hf
  have htick := State.toTick_tick ht hf
  refine ⟨?complete, ?late⟩
  case complete =>
    obtain ⟨hclk, hw⟩ := s.imageStarted_keeps
    have hx := imageExchange_complete s
    have hstart {p : Nat} (hp : p ∈ s.workSlots) := State.imageStarted_startedAt hp
    generalize s.imageStarted = x at *
    have ha := x.linkDrain_arrives
    refine ⟨_, hx, ?_, State.settle_gatesSafe _, ha.linkWait, fun hn p hp hc => ?_⟩
    · rw [State.settle_clock, ha.clock]
      exact (congrArg Clock.tick hclk).trans htick
    · rw [State.linkDrain_none (hw.trans hn)]
      exact hstart hp hc
  case late =>
    obtain ⟨hclk, hlate, hw, hkept⟩ := s.lateImage_marks
    have hx := imageExchange_late s
    have hposted := s.lateImage_reports
    generalize s.lateImage = x at *
    have ha := x.linkDrain_arrives
    have hr := State.reports_mono hposted ha.log
    refine ⟨_, hx, ?_, State.settle_gatesSafe _, ha.linkWait, ?_, ?_, fun d => ?_, hr, fun hn => ?_⟩
    · rw [State.settle_clock, ha.clock]
      exact (congrArg Clock.tick hclk).trans htick
    · rw [State.settle_clock, ha.clock]
      exact (congrArg Clock.late hclk :)
    · rw [State.settle_clock, ha.clock]
      exact (congrArg Clock.halt0 hclk :)
    · exact (ha.late d).trans (hlate d)
    · rw [State.linkDrain_none (hw.trans hn)]
      exact hkept

end Sys2Proof.Machine

/-! SUPPORT and PROOFS of the family 02_tick_and_frame: steps and ticks (O1, O2), supervision (O8), tick alignment (O9), capture
(O12), commit deadline (O14), commit (O15), functions (O43) and motion monitors (O46). -/

namespace Sys2Proof.Machine

/-- Settles O1: the step on a nonempty queue is the front command's execution by definition. -/
theorem stepRunsFrontCommand : Obligations.StepRunsFrontCommand := fun _ _ _ => rfl

theorem step_empty {s : State} (h : s.pending = []) : step s = .next s.idleTick := by
  unfold step
  rw [h]
  rfl

/-- Coach cycles add up to device time in half nanoseconds. -/
theorem Time.after_halfNs (x : Time) (n : Nat) :
    2 * (x.after n).tai + b2n (x.after n).half = 2 * x.tai + b2n x.half + n := by
  have hb : ∀ m : Nat, b2n (decide (m % 2 = 1)) = m % 2 := by
    intro m
    obtain h | h := Nat.mod_two_eq_zero_or_one m <;> simp [h, b2n]
  simp only [Time.after, hb]
  omega

theorem Clock.advance_within {c : Clock} {n : Nat} (hn : n ≠ 0) (h : c.tick + n < c.fl) :
    c.advance n = { c with tick := c.tick + n, count := c.count + n, committed := false, captured := false } := by
  simp [Clock.advance, hn, h]

/-- Settles O2. -/
theorem emptyQueueIsOneTick : Obligations.EmptyQueueIsOneTick := by
  unfold Obligations.EmptyQueueIsOneTick
  intro s hp
  rw [step_empty hp]
  constructor
  · intro hd
    rw [State.idleTick, hd]
  · intro hd ht
    have hi : s.idleTick = s.elapse 1 := by
      unfold State.idleTick
      split
      · exact absurd ‹_› hd
      · rfl
    have hc : (s.elapse 1).clock = _ := Clock.advance_within Nat.one_ne_zero ht
    refine ⟨s.elapse 1, congrArg _ hi, ?_, ?_, ?_, Time.after_halfNs _ _, ?_, rfl, rfl⟩
    · rw [hc]
    · rw [hc]
    · rw [hc]
    · intro d
      cases d <;> rfl

/-- In ticks 0–2 the image exchange has the side link, and an alignment word waits (R19). -/
theorem tickAlignment_waits {s : State} (h : s.clock.tick < 3) (d : Side) (skew : Int) :
    exec (.tickAlignment d skew) s = .next { s with linkWait := linkInsert (.tickAlignment d skew) s.linkWait } := by
  show done (s.linkSend _) = _
  have ht : s.linkTaken = true := decide_eq_true h
  rw [State.linkSend, if_pos ht]
  rfl

/-- Refutes O9: at tick 0 a word with a skew of 5 ns waits for the side link (R19), so FRAME_STAT still holds skew 0. -/
theorem not_tickAlignmentAndSideLink : ¬ Obligations.TickAlignmentAndSideLink := by
  unfold Obligations.TickAlignmentAndSideLink
  intro h
  obtain ⟨t, ht, hskew, -⟩ := h.1 State.reset .A 5
  rw [tickAlignment_waits (by decide)] at ht
  cases ht
  exact absurd hskew (by decide)

/-! ### What tests, hand-overs and functions leave of the device (R364, R371) -/

/-- The device without its activations, the memories, the supervisor signals and the networks. -/
def State.ground (s : State) : Device × Two Mem × (Bool × Bool) × Two Net :=
  ({ s.dev with cfgAct := none, fwAct := none }, s.mem, (s.half.a.supv, s.half.b.supv), s.net)

section
variable {s t : State}

theorem State.Books.ground (h : s.Books t) : t.ground = s.ground := by rw [h.frame]; rfl
theorem State.Hands.ground (h : s.Hands t) : t.ground = s.ground := by rw [h.frame]; rfl
theorem State.Marks.ground (h : s.Marks t) : t.ground = s.ground := by rw [h.frame]; rfl

/-! What equal grounds say. -/
section
variable (h : t.ground = s.ground)
include h
theorem State.ground_st : t.dev.st = s.dev.st := (congrArg (fun g => g.1.st) h :)
theorem State.ground_holders : t.dev.holders = s.dev.holders := (congrArg (fun g => g.1.holders) h :)
theorem State.ground_holdCause : t.dev.holdCause = s.dev.holdCause := (congrArg (fun g => g.1.holdCause) h :)
theorem State.ground_supv (d : Side) : (t.halfOf d).supv = (s.halfOf d).supv := by
  have hs : (t.half.a.supv, t.half.b.supv) = (s.half.a.supv, s.half.b.supv) := (congrArg (fun g => g.2.2.1) h :)
  cases d
  · exact congrArg Prod.fst hs
  · exact congrArg Prod.snd hs
theorem State.ground_net : t.net = s.net := (congrArg (fun g => g.2.2.2) h :)
theorem State.ground_retired (n : Node) (cls : Nat) : t.isRetired n cls = s.isRetired n cls :=
  State.retired_congr (congrArg (fun g => g.2.1) h :) (congrArg (fun g => g.1.otp) h :) (congrArg (fun g => g.1.otp1) h :) n cls
end

theorem State.ground_testRelease (s : State) (n : Node) : (s.testRelease n).ground = s.ground := by
  unfold State.testRelease State.unitTesting
  split_ifs <;> rfl

theorem State.ground_beginTest (s : State) (n : Node) (cls : Nat) : (s.beginTest n cls).ground = s.ground :=
  ((State.Books.refl s).beginTest n cls).ground

theorem State.ground_abortTest (s : State) (q : Test) : (s.abortTest q).ground = s.ground :=
  (State.ground_testRelease _ _).trans ((((State.Books.refl s).post 0x0A04 q.node 0 s.freeStatus).concludeTest q 2).drawn).ground

theorem State.ground_startTest (s : State) (n : Node) (cls : Nat) : (s.startTest n cls).ground = s.ground := by
  unfold State.startTest
  split
  · rfl
  · split
    · exact s.ground_beginTest n cls
    · split
      · exact (State.ground_beginTest _ n cls).trans (s.ground_abortTest _)
      · rfl

/-! ### HOLDING is entered (R371) -/

/-- A device that HOLDING is entered in from STANDBY or RUNNING, for a block (R371). -/
def Device.heldFor (x : Device) (n : Node) : Device := { x with st := .holding, holders := [n], holdCause := n.cls }

/-- The block joins those that hold the device (R371). -/
def Device.joinedBy (x : Device) (n : Node) : Device :=
  { x with holders := if x.holders.contains n then x.holders else x.holders ++ [n] }

theorem State.enterHolding_joins {s : State} (h : s.dev.st = .holding) (n : Node) :
    s.enterHolding n = { s with dev := s.dev.joinedBy n } := by rw [State.enterHolding, if_pos h]; rfl

theorem State.enterHolding_elsewhere {s : State} (h : s.dev.st ≠ .holding) (hs : s.dev.st.serves = false) (n : Node) :
    s.enterHolding n = s := by
  rw [State.enterHolding, if_neg h, if_pos (by rw [hs]; rfl)]

/-- HOLDING's event and the functions' fault (R371). -/
def State.holdFaulted (s : State) (n : Node) : State :=
  let x := ({ s with dev := s.dev.heldFor n } : State).postL 0x0A05 nDevice 6 n.cls true
  x.faultAll x.fns 0x18 0

/-- A testing slot's rebuild stops (R207). -/
def State.rebuildStopped (x : State) (p : Nat) : State :=
  x.updSlot p fun y => if y.st = .testing then { y with rebuilt := false } else y

theorem State.enterHolding_serves {s : State} (hs : s.dev.st.serves = true) (n : Node) :
    s.enterHolding n = ((List.range 48).foldl State.rebuildStopped ((List.range 48).foldl State.abortHandover
      (((s.holdFaulted n).tests.running.filter (·.requested)).foldl State.abortTest (s.holdFaulted n)))).settle := by
  have hst : s.dev.st ≠ .holding := fun h => absurd (h ▸ hs) (by decide)
  rw [State.enterHolding, if_neg hst, if_neg (by rw [hs]; decide)]
  rfl

/-- From STANDBY or RUNNING the device is held for the block; what else HOLDING does leaves the ground. -/
theorem State.enterHolding_ground {s : State} (hs : s.dev.st.serves = true) (n : Node) :
    (s.enterHolding n).ground = ({ s with dev := s.dev.heldFor n } : State).ground := by
  have hsettle (x : State) : x.settle.ground = x.ground := rfl
  rw [State.enterHolding_serves hs, hsettle, foldl_keeps State.ground State.rebuildStopped fun _ _ => rfl,
    foldl_keeps State.ground _ fun x p => ((State.Hands.refl x).abortHandover p).ground,
    foldl_keeps State.ground _ State.ground_abortTest]
  exact ((State.Marks.refl _).faultAll _ 0x18 0).ground

/-- The three ends of an entry to HOLDING: held, joined, or nothing (R371, R403). -/
theorem State.enterHolding_cases (s : State) (n : Node) :
    (s.dev.st.serves = true ∧ (s.enterHolding n).ground = ({ s with dev := s.dev.heldFor n } : State).ground) ∨
    (s.dev.st = .holding ∧ s.enterHolding n = { s with dev := s.dev.joinedBy n }) ∨
    (s.dev.st ≠ .holding ∧ s.dev.st.serves = false ∧ s.enterHolding n = s) := by
  by_cases hs : s.dev.st.serves = true
  · exact .inl ⟨hs, State.enterHolding_ground hs n⟩
  · by_cases hh : s.dev.st = .holding
    · exact .inr (.inl ⟨hh, State.enterHolding_joins hh n⟩)
    · have hs' : s.dev.st.serves = false := Bool.eq_false_iff.mpr hs
      exact .inr (.inr ⟨hh, hs', State.enterHolding_elsewhere hh hs' n⟩)

/-- Entering HOLDING retires no block. -/
theorem State.enterHolding_retired (s : State) (n m : Node) (cls : Nat) : (s.enterHolding n).isRetired m cls = s.isRetired m cls := by
  obtain ⟨_, h⟩ | ⟨_, h⟩ | ⟨_, _, h⟩ := s.enterHolding_cases n
  · exact (State.ground_retired h m cls :)
  · rw [h]; rfl
  · rw [h]

/-- It leaves the supervisor signals. -/
theorem State.enterHolding_supv (s : State) (n : Node) (d : Side) : ((s.enterHolding n).halfOf d).supv = (s.halfOf d).supv := by
  obtain ⟨_, h⟩ | ⟨_, h⟩ | ⟨_, _, h⟩ := s.enterHolding_cases n
  · exact (State.ground_supv h d :)
  · rw [h]; rfl
  · rw [h]

/-- From STANDBY or RUNNING the block is the one that holds the device. -/
theorem State.enterHolding_entered {s : State} (h : s.dev.st.serves = true) (n : Node) :
    (s.enterHolding n).dev.st = .holding ∧ (s.enterHolding n).dev.holders = [n] ∧ (s.enterHolding n).dev.holdCause = n.cls :=
  have hg := State.enterHolding_ground h n
  ⟨State.ground_st hg, State.ground_holders hg, State.ground_holdCause hg⟩

theorem State.enterHolding_joined {s : State} (h : s.dev.st = .holding) (n : Node) :
    (s.enterHolding n).dev.st = .holding ∧ n ∈ (s.enterHolding n).dev.holders ∧ ∀ m ∈ s.dev.holders, m ∈ (s.enterHolding n).dev.holders := by
  rw [State.enterHolding_joins h]
  refine ⟨h, ?_, fun m hm => ?_⟩
  · show n ∈ ite _ _ _
    split
    · next hc => exact List.contains_iff_mem.mp hc
    · exact List.mem_append_right _ (List.mem_singleton_self n)
  · show m ∈ ite _ _ _
    split
    · exact hm
    · exact List.mem_append_left _ hm

theorem State.enterHolding_st_elsewhere {s : State} (h : s.dev.st.serves = false) (n : Node) :
    (s.enterHolding n).dev.st = s.dev.st := by
  obtain ⟨hs, _⟩ | ⟨_, hj⟩ | ⟨_, _, he⟩ := s.enterHolding_cases n
  · rw [h] at hs; exact absurd hs (by decide)
  · rw [hj]; rfl
  · rw [he]

/-! ### Device-level supervision (R163, R370) -/

/-- A detection's outcome for its block, before gates settle: HOLDING where the device serves, and the block's test (R370, R371). -/
structure State.Detected (s t : State) (n : Node) : Prop where
  enters : s.dev.st.serves = true → t.dev.st = .holding ∧ n ∈ t.dev.holders
  joins : s.dev.st = .holding → t.dev.st = .holding ∧ n ∈ t.dev.holders
  stays : s.dev.st.serves = false → t.dev.st = s.dev.st
  tested : s.isRetired n 0 = false → (t.tests.find n 0).isSome = true

theorem State.detected_deviceFail (s : State) (n : Node) : s.Detected (s.deviceFail n 0) n := by
  have hg := State.ground_startTest (s.enterHolding n) n 0
  have hst : (s.deviceFail n 0).dev.st = (s.enterHolding n).dev.st := State.ground_st hg
  have hho : (s.deviceFail n 0).dev.holders = (s.enterHolding n).dev.holders := State.ground_holders hg
  refine ⟨fun h => ?_, fun h => ?_, fun h => ?_, fun h => ?_⟩
  · obtain ⟨h1, h2, _⟩ := State.enterHolding_entered h n
    rw [hst, hho, h1, h2]
    exact ⟨rfl, List.mem_singleton_self n⟩
  · obtain ⟨h1, h2, _⟩ := State.enterHolding_joined h n
    rw [hst, hho]
    exact ⟨h1, h2⟩
  · rw [hst, State.enterHolding_st_elsewhere h]
  · exact State.startTest_isSome _ n 0 n 0 (.inr ⟨(s.enterHolding_retired n n 0).trans h, rfl, rfl⟩)

/-- A detection retires no block, and leaves the supervisor signals. -/
theorem State.deviceFail_retired (s : State) (n : Node) (m : Node) : (s.deviceFail n 0).isRetired m 0 = s.isRetired m 0 :=
  (State.ground_retired (State.ground_startTest (s.enterHolding n) n 0) m 0).trans (s.enterHolding_retired n m 0)

theorem State.deviceFail_supv (s : State) (n : Node) (d : Side) : ((s.deviceFail n 0).halfOf d).supv = (s.halfOf d).supv :=
  (State.ground_supv (State.ground_startTest (s.enterHolding n) n 0) d).trans (s.enterHolding_supv n d)

/-- A first detection leaves a device that no longer serves. -/
theorem State.Detected.serves {s x : State} {n : Node} (h : s.Detected x n) : x.dev.st.serves = false := by
  by_cases hs : s.dev.st.serves = true
  · rw [(h.enters hs).1]; rfl
  · have hs' := Bool.eq_false_iff.mpr hs
    rw [h.stays hs', hs']

/-- A second detection leaves the first one's outcome standing. -/
theorem State.Detected.deviceFail {s x : State} {n : Node} (h : s.Detected x n) (m : Node) : s.Detected (x.deviceFail m 0) n := by
  have hg := State.ground_startTest (x.enterHolding m) m 0
  have hheld (hx : x.dev.st = .holding ∧ n ∈ x.dev.holders) :
      (x.deviceFail m 0).dev.st = .holding ∧ n ∈ (x.deviceFail m 0).dev.holders := by
    obtain ⟨h1, _, h3⟩ := State.enterHolding_joined hx.1 m
    exact ⟨(State.ground_st hg).trans h1, (State.ground_holders hg).symm ▸ h3 n hx.2⟩
  refine ⟨fun hs => hheld (h.enters hs), fun hs => hheld (h.joins hs), fun hs => ?_, fun hr => ?_⟩
  · exact (State.ground_st hg).trans ((State.enterHolding_st_elsewhere h.serves m).trans (h.stays hs))
  · have ht : (x.enterHolding m).tests = x.tests := by
      obtain ⟨hx, _⟩ | ⟨_, hj⟩ | ⟨_, _, he⟩ := x.enterHolding_cases m
      · rw [h.serves] at hx; exact absurd hx (by decide)
      · rw [hj]
      · rw [he]
    exact State.startTest_isSome _ m 0 n 0 (.inl (by rw [ht]; exact h.tested hr))

/-- The second detection has its own outcome. -/
theorem State.Detected.second {s x : State} {n : Node} (h : s.Detected x n) {m : Node} (hr : x.isRetired m 0 = s.isRetired m 0) :
    s.Detected (x.deviceFail m 0) m := by
  have hm := x.detected_deviceFail m
  exact ⟨fun hs => hm.joins (h.enters hs).1, fun hs => hm.joins (h.joins hs).1,
    fun hs => (hm.stays h.serves).trans (h.stays hs), fun hs => hm.tested (hr.trans hs)⟩

/-- What the statement asks of a detection's next state. -/
def State.holdsFor (s t : State) (n : Node) : Prop :=
  (s.dev.st.serves = true → t.dev.st = .holding ∧ n ∈ t.dev.holders) ∧
  (s.dev.st = .holding → t.dev.st = .holding ∧ n ∈ t.dev.holders) ∧
  (s.dev.st.serves = false → t.dev.st = s.dev.st) ∧
  (s.isRetired n 0 = false → (t.tests.find n 0).isSome = true) ∧ t.gatesSafe

theorem State.Detected.holdsFor {s x : State} {n : Node} (h : s.Detected x n) : s.holdsFor x.settle n :=
  ⟨h.enters, h.joins, h.stays, h.tested, x.settle_gatesSafe⟩

/-- A supervisor fault: the side's signal, and the detection of the block (R163, R370). -/
theorem State.supvFault_spec (s : State) (d : Side) (n : Node) :
    ((s.supvFault d n).settle.halfOf d).supv = true ∧ s.holdsFor (s.supvFault d n).settle n ∧
    (s.dev.st.serves = true → (s.supvFault d n).dev.holders = [n] ∧ (s.supvFault d n).dev.holdCause = n.cls) := by
  have hx := State.detected_deviceFail (s.updHalf d fun h => { h with supv := true }) n
  have hd : s.Detected (s.supvFault d n) n := ⟨hx.enters, hx.joins, hx.stays, hx.tested⟩
  refine ⟨?_, hd.holdsFor, fun hs => ?_⟩
  · rw [State.halfOf_settle, State.supvFault, State.deviceFail_supv, State.halfOf_updHalf_self]
  · have hg := State.ground_startTest ((s.updHalf d fun h => { h with supv := true }).enterHolding n) n 0
    obtain ⟨_, h2, h3⟩ := State.enterHolding_entered (s := s.updHalf d fun h => { h with supv := true }) hs n
    exact ⟨(State.ground_holders hg).trans h2, (State.ground_holdCause hg).trans h3⟩

/-- A row that leaves the state but for gates ends there. -/
theorem State.unchanged_of_settled {s : State} {i : Instr} (h : exec i s = settled s) :
    ∃ t, exec i s = .next t ∧ s.outsOnly t ∧ t = { s with term := t.term } :=
  ⟨s.settle, h, s.outsOnly_settle, rfl⟩

/-- Start-up states do not serve. -/
theorem startLimit_some {st : DevState} {n : Nat} (h : (st, n) ∈ [(DevState.proving, 1500000), (.boot, 1200000), (.loading, 1300000)]) :
    startLimit st = some n ∧ st.serves = false := by
  simp only [List.mem_cons, Prod.mk.injEq, List.not_mem_nil, or_false] at h
  obtain ⟨rfl, rfl⟩ | ⟨rfl, rfl⟩ | ⟨rfl, rfl⟩ := h <;> exact ⟨rfl, rfl⟩

theorem startSupervisorTimeout_due {s : State} {n : Nat} (hl : startLimit s.dev.st = some n) (hd : s.dev.enteredAt + 2 * n ≤ s.clock.count)
    (d : Side) : exec (.startSupervisorTimeout d) s = settled (s.supvFault d (nSupv d)) := by
  show execStartSupervisorTimeout d s = _
  rw [execStartSupervisorTimeout, hl]
  exact congrArg settled (if_pos hd)

theorem holdingNotice_spec (s : State) (d : Side) : ∃ t, exec (.holdingNotice d) s = .next t ∧ t.gatesSafe ∧
    (s.dev.st.serves = true → t.dev.st = .holding ∧ t.dev.holders = [⟨0x01, d.other.ix⟩]) ∧
    (s.dev.st.serves = false → t.dev = s.dev) := by
  refine ⟨_, rfl, State.settle_gatesSafe _, fun hs => ?_, fun hs => ?_⟩
  · have hne : s.dev.st ≠ .holding := fun h => absurd (h ▸ hs) (by decide)
    obtain ⟨h1, h2, _⟩ := State.enterHolding_entered hs ⟨0x01, d.other.ix⟩
    rw [if_neg hne]
    exact ⟨h1, h2⟩
  · split
    · rfl
    · next hne => rw [State.enterHolding_elsewhere hne hs]; rfl

/-- The side's telegrams are muted (R370). -/
def State.cryptoMuted (s : State) (d : Side) : State := s.updNet d fun n => { n with muted := true }

theorem cryptoKnownAnswerTest_fail (s : State) (d : Side) :
    ∃ t, exec (.cryptoKnownAnswerTest d false) s = .next t ∧ (t.netOf d).muted = true ∧ t.dev.st = s.dev.st ∧
      (s.isRetired (nCrypto d) 0 = false → (t.tests.find (nCrypto d) 0).isSome = true) := by
  have hg := State.ground_startTest (s.cryptoMuted d) (nCrypto d) 0
  refine ⟨((s.cryptoMuted d).startTest (nCrypto d) 0).settle, rfl, ?_, (State.ground_st hg :),
    fun hr => State.startTest_isSome (s.cryptoMuted d) _ 0 _ 0 (.inr ⟨hr, rfl, rfl⟩)⟩
  have hn : ((s.cryptoMuted d).startTest (nCrypto d) 0).settle.netOf d = (s.cryptoMuted d).netOf d :=
    congrArg (Two.get · d) (State.ground_net hg)
  rw [hn, State.cryptoMuted, State.netOf_updNet, if_pos rfl]

theorem skewFault_due {s : State} (h : ∃ d, 100 ≤ (s.fstOf d).over40) :
    ∃ t, exec .skewFault s = .next t ∧ s.holdsFor t (nClock .A) ∧ s.holdsFor t (nClock .B) := by
  have hsk : s.skewed = true := by
    obtain ⟨d, hd⟩ := h
    rw [State.skewed, Bool.or_eq_true, decide_eq_true_eq, decide_eq_true_eq]
    cases d
    · exact .inl hd
    · exact .inr hd
  have hA := s.detected_deviceFail (nClock .A)
  refine ⟨((s.deviceFail (nClock .A) 0).deviceFail (nClock .B) 0).settle, if_pos hsk, (hA.deviceFail _).holdsFor, ?_⟩
  exact (hA.second (s.deviceFail_retired _ _)).holdsFor

theorem skewFault_early {s : State} (h : ∀ d, (s.fstOf d).over40 < 100) : exec .skewFault s = settled s := by
  have hsk : ¬ s.skewed = true := by
    have hA := h .A
    have hB := h .B
    simp only [State.skewed, Bool.or_eq_true, decide_eq_true_eq]
    omega
  exact if_neg hsk

theorem State.unaligned_iff (s : State) : s.unaligned = true ↔ ∃ d, (s.fstOf d).lastAlign + 8 ≤ s.clock.count := by
  rw [State.unaligned, Bool.or_eq_true, decide_eq_true_eq, decide_eq_true_eq]
  exact ⟨fun h => h.elim (⟨.A, ·⟩) (⟨.B, ·⟩), fun ⟨d, hd⟩ => by cases d; exacts [.inl hd, .inr hd]⟩

theorem alignmentLoss_due {s : State} (h : ∃ d, (s.fstOf d).lastAlign + 8 ≤ s.clock.count) :
    ∃ t, exec .alignmentLoss s = .next t ∧ s.holdsFor t nLink := by
  refine ⟨(s.deviceFail nLink 0).settle, ?_, (s.detected_deviceFail nLink).holdsFor⟩
  exact congrArg settled (if_pos (s.unaligned_iff.mpr h))

theorem alignmentLoss_early {s : State} (h : ∀ d, s.clock.count < (s.fstOf d).lastAlign + 8) :
    exec .alignmentLoss s = settled s := by
  refine congrArg settled (if_neg fun hu => ?_)
  obtain ⟨d, hd⟩ := s.unaligned_iff.mp hu
  exact absurd (h d) (Nat.not_lt.mpr hd)

/-- Settles O8: each row is a detection of its block, or leaves the state but for gates. -/
theorem supervisionEntersHolding : Obligations.SupervisionEntersHolding := by
  unfold Obligations.SupervisionEntersHolding
  refine ⟨fun s d => ⟨fun k => ?fault, ?check, ?pass, ?thermal, fun n hn hd => ?start, holdingNotice_spec s d,
    cryptoKnownAnswerTest_fail s d, State.unchanged_of_settled rfl⟩, fun s => ⟨skewFault_due, fun h =>
    State.unchanged_of_settled (skewFault_early h), alignmentLoss_due, fun h => State.unchanged_of_settled (alignmentLoss_early h)⟩⟩
  case fault =>
    obtain ⟨h1, h2, h3⟩ := s.supvFault_spec d (supvNode d k)
    exact ⟨_, rfl, h1, h2, h3⟩
  case check =>
    obtain ⟨h1, h2, _⟩ := s.supvFault_spec d (nSupv d)
    exact ⟨_, rfl, h1, h2⟩
  case pass => exact ⟨s.settle, rfl, s.outsOnly_settle, s.settle_gatesSafe, rfl⟩
  case thermal =>
    obtain ⟨h1, h2, _⟩ := s.supvFault_spec d (nSupv d)
    exact ⟨_, rfl, h1, h2⟩
  case start =>
    obtain ⟨hl, hs⟩ := startLimit_some hn
    obtain ⟨h1, ⟨_, _, hstays, htest, _⟩, _⟩ := s.supvFault_spec d (nSupv d)
    exact ⟨_, startSupervisorTimeout_due hl hd d, h1, hstays hs, htest⟩

end

/-! ### Folds over listed numbers -/

/-- Steps at the numbers of a list that keep an invariant keep it. -/
theorem State.forEach_inv_mem (P : State → Prop) (f : State → Nat → State) {l : List Nat} (h : ∀ x, ∀ k ∈ l, P x → P (f x k)) {s : State}
    (hs : P s) : P (s.forEach l f) := by
  induction l generalizing s with
  | nil => exact hs
  | cons a r ih => exact ih (fun x k hk => h x k (List.mem_cons_of_mem a hk)) (h s a List.mem_cons_self hs)

/-- A fold over a list with k is a fold before it, the step at k, and a fold after it. -/
theorem State.forEach_split (s : State) (f : State → Nat → State) (l r : List Nat) (k : Nat) :
    s.forEach (l ++ k :: r) f = (f (s.forEach l f) k).forEach r f := by
  rw [State.forEach, List.foldl_append, List.foldl_cons]
  rfl

/-! ### The commit deadline (R42, R43, R201) -/

/-- t is s but for what the deadline of the slots of l may change: these slots, their functions and copies, hand-overs, the counts of
overruns, and the books. -/
structure State.Judged (l : Nat → Prop) (s t : State) : Prop where
  frame : t = { s with
    clock := { s.clock with halt0 := t.clock.halt0 }, frameSt := t.frameSt, tests := t.tests, view := t.view, log := t.log
    windows := t.windows, journal := t.journal, queue := t.queue, port := t.port, svc := t.svc, free := t.free, slot := t.slot
    coachSt := t.coachSt, fn := t.fn, armed := t.armed, ledger := t.ledger
    dev := { s.dev with cfgAct := t.dev.cfgAct, fwAct := t.dev.fwAct } }
  slot : ∀ p, ¬ l p → t.slotOf p = (s.slotOf p).hands (t.slotOf p)
  locked : ∀ p, (s.slotOf p).st = .locked → (t.slotOf p).st = .locked
  coach : ∀ d p, t.slotCoach d p = s.slotCoach d p
  fn : ∀ f, ¬ l (s.fSlot f) → t.fnOf f = s.fnOf f
  stopped : ∀ i, (s.cstOf i).stopped = true → (t.cstOf i).stopped = true
  log : ∀ e ∈ s.log, e ∈ t.log
  opens : s.opensAt (· ≠ nDevice) t

section
variable {l : Nat → Prop} {s t : State}

theorem State.Judged.refl (l : Nat → Prop) (s : State) : s.Judged l s :=
  ⟨rfl, fun _ _ => rfl, fun _ h => h, fun _ _ => rfl, fun _ _ => rfl, fun _ h => h, fun _ h => h, State.opensAt_of_eq rfl⟩

theorem State.Judged.fSlot (h : s.Judged l t) (f : Nat) : t.fSlot f = s.fSlot f := by rw [h.frame]; rfl
theorem State.Judged.tid (h : s.Judged l t) (f : Nat) : t.tid f = s.tid f := by rw [h.frame]; rfl
theorem State.Judged.fnsOfSlot (h : s.Judged l t) (p : Nat) : t.fnsOfSlot p = s.fnsOfSlot p := by rw [h.frame]; rfl
theorem State.Judged.hosts (h : s.Judged l t) (p : Nat) : t.hosts p = s.hosts p := by rw [h.frame]; rfl
theorem State.Judged.linkWait (h : s.Judged l t) : t.linkWait = s.linkWait := by rw [h.frame]
theorem State.Judged.tick (h : s.Judged l t) : t.clock.tick = s.clock.tick := by rw [h.frame]
theorem State.Judged.k (h : s.Judged l t) : t.clock.k = s.clock.k := by rw [h.frame]
theorem State.Judged.timeWord (h : s.Judged l t) : t.timeWord = s.timeWord := by rw [h.frame]; rfl

theorem State.Judged.trans {u : State} (h : s.Judged l t) (g : t.Judged l u) : s.Judged l u := by
  refine ⟨?_, fun p hp => ?_, fun p hp => g.locked p (h.locked p hp), fun d p => (g.coach d p).trans (h.coach d p), fun f hf => ?_,
    fun i hi => g.stopped i (h.stopped i hi), fun e he => g.log e (h.log e he), h.opens.trans g.opens⟩
  · have hu := g.frame
    rw [h.frame] at hu
    exact hu
  · have hu := g.slot p hp
    rw [h.slot p hp] at hu
    exact hu
  · exact (g.fn f (by rw [h.fSlot]; exact hf)).trans (h.fn f hf)

theorem State.Judged.mono {m : Nat → Prop} (h : s.Judged l t) (hm : ∀ p, l p → m p) : s.Judged m t :=
  ⟨h.frame, fun p hp => h.slot p fun hl => hp (hm p hl), h.locked, h.coach, fun f hf => h.fn f fun hl => hf (hm _ hl), h.stopped, h.log,
    h.opens⟩

/-- Steps that change none of the slots' and functions' fields. -/
theorem State.Judged.of_books (hf : t = { s with
      clock := { s.clock with halt0 := t.clock.halt0 }, frameSt := t.frameSt, tests := t.tests, view := t.view, log := t.log
      windows := t.windows, journal := t.journal, queue := t.queue, port := t.port, svc := t.svc, free := t.free
      dev := { s.dev with cfgAct := t.dev.cfgAct, fwAct := t.dev.fwAct } })
    (hl : ∀ e ∈ s.log, e ∈ t.log) (ho : s.opensAt (· ≠ nDevice) t) : s.Judged l t := by
  have hslot : t.slot = s.slot := by rw [hf]
  have hcst : t.coachSt = s.coachSt := by rw [hf]
  have hfn : t.fn = s.fn := by rw [hf]
  have harm : t.armed = s.armed := by rw [hf]
  have hled : t.ledger = s.ledger := by rw [hf]
  refine ⟨?_, fun p _ => ?_, fun p hp => ?_, fun d p => ?_, fun f _ => ?_, fun i hi => ?_, hl, ho⟩
  · rw [hslot, hcst, hfn, harm, hled]
    exact hf
  · rw [State.slotOf, hslot]; rfl
  · rw [State.slotOf, hslot]; exact hp
  · rw [State.slotCoach, State.slotOf, hslot]; rfl
  · rw [State.fnOf, hfn]; rfl
  · rw [State.cstOf, hcst]; exact hi

/-- An event below the device. -/
theorem State.opensAt_below (s : State) (code : Nat) {n : Node} (hn : n ≠ nDevice) (sev detail : Nat) (lasting : Bool) :
    s.opensAt (· ≠ nDevice) (s.postL code n sev detail lasting) :=
  (s.opensAt_postL code n sev detail lasting).mono fun _ h => h ▸ hn

theorem nSlot_ne_nDevice (p : Nat) : nSlot p ≠ nDevice := fun h => absurd (congrArg Node.cls h) (by simp [nSlot, nDevice])
theorem nFn_ne_nDevice (p : Nat) : nFn p ≠ nDevice := fun h => absurd (congrArg Node.cls h) (by simp [nFn, nDevice])
theorem nCoach_ne_nDevice (p : Nat) : nCoach p ≠ nDevice := fun h => absurd (congrArg Node.cls h) (by simp [nCoach, nDevice])

theorem State.Judged.postL (s : State) (code : Nat) {n : Node} (hn : n ≠ nDevice) (sev detail : Nat) (lasting : Bool) :
    s.Judged l (s.postL code n sev detail lasting) :=
  .of_books rfl (fun _ => List.mem_append_left _) (s.opensAt_below code hn sev detail lasting)

theorem State.windows_finalReply (s : State) (port : Option Side) (queue opcode : Nat) (tag : BitVec 32) (status : Nat)
    (slots : List Nat) : (s.finalReply port queue opcode tag status slots).windows = s.windows := by
  unfold State.finalReply State.addReply
  cases port <;> rfl

/-- What keeps the books keeps what the deadline judges. -/
theorem State.Books.judged (h : s.Books t) (ho : s.opensAt (· ≠ nDevice) t) : s.Judged l t := by
  refine .of_books ?_ h.log ho
  rw [h.frameSt, h.clock, h.dev]
  exact h.frame

theorem State.Judged.finalReply (s : State) (port : Option Side) (queue opcode : Nat) (tag : BitVec 32) (status : Nat)
    (slots : List Nat) : s.Judged l (s.finalReply port queue opcode tag status slots).drawn :=
  ((State.Books.refl s).finalReply port queue opcode tag status slots).drawn.judged
    (State.opensAt_of_eq (s.windows_finalReply port queue opcode tag status slots))

/-! The end of a hand-over. -/
theorem State.Judged.abortActivation (s : State) (p : Nat) : s.Judged l (s.abortActivation p) := by
  have ends (c f : Option Activation) (a : Activation) (op : Nat) :
      let y := { s with dev := { s.dev with cfgAct := c, fwAct := f } }
      s.Judged l ((y.finalReply (some a.port) a.queue op a.tag y.freeStatus []).drawn) :=
    State.Judged.trans (t := { s with dev := { s.dev with cfgAct := c, fwAct := f } })
      (.of_books rfl (fun _ he => he) (State.opensAt_of_eq rfl)) (.finalReply _ _ _ _ _ _ _)
  unfold State.abortActivation
  dsimp only
  split
  · split
    · exact ends _ _ _ _
    · exact .refl l s
  · split
    · exact ends _ _ _ _
    · exact .refl l s
  · exact .refl l s

theorem State.windows_concludeTest (s : State) (q : Test) (verdict : Nat) : (s.concludeTest q verdict).windows = s.windows := by
  unfold State.concludeTest
  split
  · rfl
  · rw [State.windows_finalReply]

theorem State.Judged.abortTest (s : State) {q : Test} (h : q.node.releasesNothing) (hn : q.node ≠ nDevice) :
    s.Judged l (s.abortTest q) := by
  refine ((State.Books.refl s).abortTest h).judged ?_
  rw [State.abortTest, State.testRelease_nothing h]
  exact (s.opensAt_below 0x0A04 hn 0 s.freeStatus false).trans (State.opensAt_of_eq (State.windows_concludeTest _ q 2))

theorem State.Judged.abortCoachTest (s : State) (p : Nat) : s.Judged l (s.abortCoachTest p) := by
  have keeps (r : List Test) (hr : ∀ q ∈ r, s.testsCoachOf p q = true) (y : State) : y.Judged l (r.foldl State.abortTest y) := by
    induction r generalizing y with
    | nil => exact .refl l y
    | cons q r ih =>
      have hq := hr q List.mem_cons_self
      refine State.Judged.trans (.abortTest y (State.testsCoachOf_releasesNothing hq) ?_)
        (ih (fun a ha => hr a (List.mem_cons_of_mem q ha)) _)
      simp only [State.testsCoachOf, Bool.and_eq_true, Bool.or_eq_true, decide_eq_true_eq] at hq
      obtain ⟨-, hq | hq⟩ := hq <;> rw [hq] <;> exact nCoach_ne_nDevice _
  exact keeps _ (fun q hq => (List.mem_filter.mp hq).2) s

/-- A slot's update, of the fields of a hand-over alone where the slot is not of l. -/
theorem State.Judged.updSlot (s : State) (p : Nat) (f : Slot → Slot) (hl : l p ∨ ∀ y, f y = y.hands (f y))
    (hs : ∀ y, y.st = .locked → (f y).st = .locked) (hc : ∀ y d, (f y).coachOn d = y.coachOn d) : s.Judged l (s.updSlot p f) := by
  refine ⟨rfl, fun q hq => ?_, fun q hq => ?_, fun d q => ?_, fun _ _ => rfl, fun _ h => h, fun _ h => h, State.opensAt_of_eq rfl⟩
  · rw [State.slotOf_updSlot]
    split
    · next h =>
      subst h
      exact hl.resolve_left hq (s.slotOf q)
    · rfl
  · rw [State.slotOf_updSlot]
    split
    · next h => exact hs _ (h ▸ hq)
    · exact hq
  · rw [State.slotCoach, State.slotOf_updSlot]
    split
    · next h => rw [hc, h]; rfl
    · rfl

theorem Slot.coachOn_congr {x y : Slot} (ha : y.mapA = x.mapA) (hb : y.mapB = x.mapB) (d : Side) : y.coachOn d = x.coachOn d := by
  cases d
  · exact ha
  · exact hb

theorem State.Judged.abortHandover (s : State) (p : Nat) : s.Judged l (s.abortHandover p) := by
  unfold State.abortHandover
  split
  · exact .refl l s
  · next g _ =>
    dsimp only
    have h1 : s.Judged l (s.updSlot p fun x => { x with hand := none }) :=
      .updSlot s p _ (.inr fun _ => rfl) (fun _ hy => hy) fun _ d => Slot.coachOn_congr rfl rfl d
    have h2 := h1.trans (.updSlot _ g.target (fun x => { x with
      cause := 7, shadowOk := 0, shadowOf := none, buf := ⟨[], []⟩, st := if x.st = .shadow then .locked else x.st })
      (.inr fun _ => rfl) (fun y hy => by rw [hy]; rfl) fun _ d => Slot.coachOn_congr rfl rfl d)
    have h3 := ((h2.trans (.postL _ 0x0306 (nSlot_ne_nDevice p) 3 g.target false)).trans (.abortActivation _ p)).trans
      (.abortCoachTest _ p)
    split
    · exact h3
    · exact h3.trans (.finalReply _ _ _ _ _ _ _)

/-! The marks of an overrun. -/
theorem State.Judged.updFn (s : State) (f : Nat) (g : Fn → Fn) (hl : l (s.fSlot f)) : s.Judged l (s.updFn f g) := by
  refine ⟨rfl, fun _ _ => rfl, fun _ h => h, fun _ _ => rfl, fun k hk => ?_, fun _ h => h, fun _ h => h, State.opensAt_of_eq rfl⟩
  rw [State.fnOf_updFn, if_neg]
  rintro rfl
  exact hk hl

theorem State.Judged.stops (s : State) (i : Nat) : s.Judged l (s.updCst i fun c => { c with stopped := true }) := by
  refine ⟨rfl, fun _ _ => rfl, fun _ h => h, fun _ _ => rfl, fun _ _ => rfl, fun k hk => ?_, fun _ h => h, State.opensAt_of_eq rfl⟩
  rw [State.cstOf_updCst]
  split
  · rfl
  · exact hk

theorem State.Judged.countOvr (s : State) : s.Judged l s.countOvr := .of_books rfl (fun _ h => h) (State.opensAt_of_eq rfl)

theorem State.Judged.forEach {f : State → Nat → State} {r : List Nat} (hf : ∀ x, s.Judged l x → ∀ k ∈ r, x.Judged l (f x k)) :
    s.Judged l (s.forEach r f) :=
  State.forEach_inv_mem (fun x => s.Judged l x) f (fun x k hk h => h.trans (hf x h k hk)) (.refl l s)

theorem State.fSlot_of_mem {f p : Nat} (h : f ∈ s.fnsOfSlot p) : s.fSlot f = p := by
  simpa using (List.mem_filter.mp h).2

theorem State.Judged.stopWork (s : State) {p : Nat} (hp : l p) : s.Judged l (s.stopWork p) := by
  have hd : s.Judged l (s.forEach (s.fnsOfSlot p) State.dropFn) := .forEach fun x hx f hf =>
    .updFn x f _ (by rw [hx.fSlot, State.fSlot_of_mem hf]; exact hp)
  exact ((hd.trans (.stops _ _)).trans (.stops _ _)).trans
    (.updSlot _ p _ (.inl hp) (fun _ h => h) fun _ d => Slot.coachOn_congr rfl rfl d)

end

/-- What is reported at a node directly below the device from a state that has opened windows below the device alone, is reported from
the state before. -/
theorem State.reports_before {n : Node} (h : n.top) {s x t : State} (ht : x.timeWord = s.timeWord) (hw : s.opensAt (· ≠ nDevice) x)
    {code sev detail : Nat} (hr : x.reports t code n sev detail) : s.reports t code n sev detail := by
  unfold State.reports at hr ⊢
  rw [ht] at hr
  refine hr.imp_left fun hx => ?_
  rw [State.folds_top h, List.any_eq_true] at hx ⊢
  obtain ⟨w, hm, hn⟩ := hx
  obtain ⟨v, hv, hvn⟩ | hne := hw w hm
  · exact ⟨v, hv, by rwa [hvn]⟩
  · exact absurd (of_decide_eq_true hn) hne

/-! Functions at an overrun. -/

/-- The record of a function that takes a state (R249). -/
def State.taking (s : State) (f : Nat) (st : FnState) (cause detail term : Nat) (x : Fn) : Fn :=
  { x with
    st := st, cause := BitVec.ofNat 8 cause, detail := BitVec.ofNat 8 detail, term := term
    chgFrame := BitVec.ofNat 32 s.clock.frame.toNat, next := none, parent := s.causeNode f cause detail term
    armedAt := (match st with | .armed => s.clock.count | _ => x.armedAt) }

theorem State.fnOf_setFn (s : State) (f : Nat) (st : FnState) (cause detail term k : Nat) :
    (s.setFn f st cause detail term).fnOf k = if k = f then s.taking f st cause detail term (s.fnOf f) else s.fnOf k := by
  rw [← State.fnOf_updFn s f (s.taking f st cause detail term) k]
  cases st <;> rfl

theorem State.fnOf_postFn (s : State) (f : Nat) (st : FnState) (cause detail k : Nat) :
    (s.postFn f st cause detail).fnOf k = s.fnOf k := rfl

theorem State.Judged.setFn {l : Nat → Prop} (s : State) (f : Nat) (st : FnState) (cause detail term : Nat) (hl : l (s.fSlot f)) :
    s.Judged l (s.setFn f st cause detail term) := by
  have hm := (State.Marks.refl s).setFn f st cause detail term
  obtain ⟨a, g, -, -, hw⟩ := s.setFn_fields f st cause detail term
  refine ⟨?_, fun p _ => ?_, fun p hp => ?_, fun d p => ?_, fun k hk => ?_, fun i hi => ?_, hm.log, ?_⟩
  · rw [hm.frameSt, hm.clock, hm.dev, hm.slot, hm.coachSt]
    exact hm.frame
  · rw [State.slotOf, hm.slot]; rfl
  · rw [State.slotOf, hm.slot]; exact hp
  · rw [State.slotCoach, State.slotOf, hm.slot]; rfl
  · rw [State.fnOf_setFn, if_neg]
    rintro rfl
    exact hk hl
  · rw [State.cstOf, hm.coachSt]; exact hi
  · rw [State.opensAt, hw]
    exact (State.opensAt_of_eq rfl).trans
      (State.opensAt_below (State.updFn { s with armed := a } f g) _ (nFn_ne_nDevice f) _ _ _)

theorem State.Judged.overrunFn {l : Nat → Prop} (s : State) (f : Nat) (hl : l (s.fSlot f)) : s.Judged l (s.overrunFn f) := by
  have hu (g : Fn → Fn) : s.Judged l (s.updFn f g) := .updFn s f g hl
  unfold State.overrunFn
  dsimp only
  split
  · exact .refl l s
  · split
    · exact (hu _).trans (.setFn _ f _ _ _ _ hl)
    · exact (hu _).trans (.setFn _ f _ _ _ _ hl)
    · exact (hu _).trans (.setFn _ f _ _ _ _ hl)
    · exact (hu _).trans (.postL _ _ (nFn_ne_nDevice f) _ _ _)
    · exact .refl l s

/-- The function is TRIPPED with cause 0x08 (R43). -/
def Fn.overran (x : Fn) : Prop := x.st = .tripped ∧ x.cause = 0x08

/-- The function trips at an overrun, or has tripped at one. -/
def Fn.trips (x : Fn) : Prop := x.st ∈ [FnState.locked, .armed, .run] ∨ x.overran

theorem State.overrunFn_other (s : State) {f k : Nat} (h : k ≠ f) : (s.overrunFn f).fnOf k = s.fnOf k := by
  have hu (g : Fn → Fn) : (s.updFn f g).fnOf k = s.fnOf k := by rw [State.fnOf_updFn, if_neg h]
  unfold State.overrunFn
  dsimp only
  split
  · rfl
  · split
    · rw [State.fnOf_setFn, if_neg h, hu]
    · rw [State.fnOf_setFn, if_neg h, hu]
    · rw [State.fnOf_setFn, if_neg h, hu]
    · rw [State.fnOf_postFn, hu]
    · rfl

theorem State.overrunFn_next (s : State) {f k : Nat} (h : (s.fnOf k).next = none) : ((s.overrunFn f).fnOf k).next = none := by
  by_cases hk : k = f
  · subst hk
    have hu (b : Fn → List FnCause) : ((s.updFn k fun x => { x with latched := b x }).fnOf k).next = none := by
      rw [State.fnOf_updFn, if_pos rfl]
      exact h
    unfold State.overrunFn
    dsimp only
    split
    · exact h
    · split
      · rw [State.fnOf_setFn, if_pos rfl]; rfl
      · rw [State.fnOf_setFn, if_pos rfl]; rfl
      · rw [State.fnOf_setFn, if_pos rfl]; rfl
      · rw [State.fnOf_postFn, hu]
      · exact h
  · rw [s.overrunFn_other hk]
    exact h

theorem State.overrunFn_trips (s : State) {f : Nat} (hm : isMode (s.tid f) = false) (h : (s.fnOf f).trips) :
    ((s.overrunFn f).fnOf f).overran := by
  have hs (x : State) : ((x.setFn f .tripped 0x08 0 0x1FF).fnOf f).overran := by
    rw [State.fnOf_setFn, if_pos rfl]
    exact ⟨rfl, rfl⟩
  unfold State.overrunFn
  dsimp only
  rw [if_neg (by rw [hm]; exact Bool.false_ne_true)]
  obtain hst | ⟨hst, hc⟩ := h
  · simp only [List.mem_cons, List.not_mem_nil, or_false] at hst
    obtain hst | hst | hst := hst <;> rw [hst] <;> exact hs _
  · rw [hst]
    have hu : ((s.updFn f fun x => { x with
        latched := if x.latched.contains (0x08, 0, 0x1FF) then x.latched else x.latched ++ [(0x08, 0, 0x1FF)] }).fnOf f).overran := by
      rw [State.fnOf_updFn, if_pos rfl]
      exact ⟨hst, hc⟩
    exact hu

/-! A locked pair that has overrun (R42, R43). -/

/-- The functions of the slot trip. -/
theorem State.forEach_overrunFn_trips (s : State) {l : List Nat} {f : Nat} (hf : f ∈ l) (hm : isMode (s.tid f) = false)
    (h : (s.fnOf f).trips) : ((s.forEach l State.overrunFn).fnOf f).overran := by
  have step (x : State) (k : Nat) (hx : isMode (x.tid f) = false ∧ (x.fnOf f).trips) :
      isMode ((x.overrunFn k).tid f) = false ∧ ((x.overrunFn k).fnOf f).trips := by
    refine ⟨by rw [(State.Judged.overrunFn (l := fun _ => True) x k trivial).tid]; exact hx.1, ?_⟩
    by_cases hk : f = k
    · subst hk
      exact .inr (x.overrunFn_trips hx.1 hx.2)
    · rw [x.overrunFn_other hk]
      exact hx.2
  obtain ⟨a, b, rfl⟩ := List.append_of_mem hf
  rw [State.forEach_split]
  obtain ⟨ham, hat⟩ := forEach_inv (fun x => isMode (x.tid f) = false ∧ (x.fnOf f).trips) State.overrunFn step s a ⟨hm, h⟩
  have hb := forEach_inv (fun x => isMode (x.tid f) = false ∧ (x.fnOf f).overran) State.overrunFn
    (fun x k hx => ⟨(step x k ⟨hx.1, .inr hx.2⟩).1, by
      by_cases hk : f = k
      · subst hk
        exact x.overrunFn_trips hx.1 (.inr hx.2)
      · rw [x.overrunFn_other hk]
        exact hx.2⟩)
    ((s.forEach a State.overrunFn).overrunFn f) b ⟨(step _ f ⟨ham, hat⟩).1, State.overrunFn_trips _ ham hat⟩
  exact hb.2

/-- The count of a slot's overruns in frame status, in the slot and in the event (R40, R42). -/
def State.overrunCounted (s : State) (p n : Nat) : State :=
  (s.countOvr.updSlot p fun x => { x with ovr := n }).postL 0x0302 (nSlot p) 3 n false

theorem State.overrunCounted_fn (s : State) (p n : Nat) : (s.overrunCounted p n).fn = s.fn := rfl
theorem State.overrunCounted_coachSt (s : State) (p n : Nat) : (s.overrunCounted p n).coachSt = s.coachSt := rfl
theorem State.overrunCounted_slotOf (s : State) (p n : Nat) : (s.overrunCounted p n).slotOf p = { s.slotOf p with ovr := n } :=
  State.slotOf_updSlot_self s.countOvr p fun x => { x with ovr := n }

/-- The overrun before its functions trip: stopped, counted, and pair 0's packets. -/
def State.overrunMarked (s : State) (p : Nat) : State :=
  let s1 := (s.stopWork p).overrunCounted p ((s.slotOf p).ovr + 1)
  if p = 0 then (({ s1 with clock := { s1.clock with halt0 := true } } : State).carryPackets .A).carryPackets .B else s1

theorem State.overrun_eq (s : State) (p : Nat) : s.overrun p =
    if s.clock.k ≤ (s.slotOf p).ovr + 1 then (s.overrunMarked p).forEach (s.fnsOfSlot p) State.overrunFn else s.overrunMarked p := rfl

/-- What an overrun posts is posted on what its slot's stopping leaves, and pair 0's packets change neither slots nor functions. -/
theorem State.overrunMarked_cases (s : State) (p : Nat) {β : Type} (π : State → β)
    (hc : ∀ (x : State) (b : Bool), π { x with clock := { x.clock with halt0 := b } } = π x)
    (hp : ∀ (x : State) (d : Side), π (x.carryPackets d) = π x) :
    π (s.overrunMarked p) = π ((s.stopWork p).overrunCounted p ((s.slotOf p).ovr + 1)) := by
  unfold State.overrunMarked
  dsimp only
  split
  · rw [hp, hp, hc]
  · rfl

section
variable {l : Nat → Prop} {s t : State}

/-- Pair 0's packets stay in their image. -/
theorem State.Judged.carried (s : State) :
    s.Judged l ((({ s with clock := { s.clock with halt0 := true } } : State).carryPackets .A).carryPackets .B) :=
  .of_books rfl (fun _ h => h) (State.opensAt_of_eq rfl)

theorem State.Judged.recounted (s : State) {p : Nat} (hp : l p) (n : Nat) :
    s.Judged l (s.countOvr.updSlot p fun x => { x with ovr := n }) :=
  (State.Judged.countOvr s).trans
    (.updSlot _ p (fun x => { x with ovr := n }) (.inl hp) (fun _ h => h) fun _ d => Slot.coachOn_congr rfl rfl d)

theorem State.Judged.overrunCounted (s : State) {p : Nat} (hp : l p) (n : Nat) : s.Judged l (s.overrunCounted p n) :=
  (State.Judged.recounted s hp n).trans (.postL _ _ (nSlot_ne_nDevice p) _ _ _)

theorem State.Judged.overrunMarked (s : State) {p : Nat} (hp : l p) : s.Judged l (s.overrunMarked p) := by
  have h1 := (State.Judged.stopWork s hp).trans (.overrunCounted _ hp ((s.slotOf p).ovr + 1))
  unfold State.overrunMarked
  dsimp only
  split
  · exact h1.trans (.carried _)
  · exact h1

theorem State.Judged.overrun (s : State) {p : Nat} (hp : l p) : s.Judged l (s.overrun p) := by
  rw [State.overrun_eq]
  have hm : s.Judged l (s.overrunMarked p) := .overrunMarked s hp
  split
  · exact hm.trans (.forEach fun x hx f hf => .overrunFn x f (by rw [hx.fSlot, hm.fSlot, State.fSlot_of_mem hf]; exact hp))
  · exact hm

theorem State.Judged.deadline (s : State) {p : Nat} (hp : l p) : s.Judged l (s.deadline p) := by
  have split1 (y : State) (d : Side) : y.Judged l (if (y.cstOf (y.slotCoach d p)).stopped ∨ (y.cstOf (y.slotCoach d p)).waitFend ∨
      (y.cstOf (y.slotCoach d p)).retired ∨ (y.cstOf (y.slotCoach d p)).testing then y
      else y.countOvr.postL 0x0302 (nCoach (y.slotCoach d p)) 3 1 false) := by
    split
    · exact .refl l y
    · exact (State.Judged.countOvr y).trans (.postL _ _ (nCoach_ne_nDevice _) _ _ _)
  unfold State.deadline
  dsimp only
  split
  · split
    · exact .refl l s
    · exact .overrun s hp
  · split
    · exact .refl l s
    · split
      · exact .stopWork s hp
      · exact (State.Judged.abortHandover s _).trans (.stopWork _ hp)
  · split
    · exact .countOvr s
    · exact .refl l s
  · exact (split1 s .A).trans (split1 _ .B)
  · exact .refl l s

end

theorem State.overrunFn_slot (s : State) (f : Nat) : (s.overrunFn f).slot = s.slot := by
  have hs (g : Fn → Fn) : ((s.updFn f g).setFn f .tripped 0x08 0 0x1FF).slot = s.slot :=
    (((State.Marks.refl s).updFn f g).setFn f .tripped 0x08 0 0x1FF).slot
  unfold State.overrunFn
  dsimp only
  split
  · rfl
  · split
    · exact hs _
    · exact hs _
    · exact hs _
    · rfl
    · rfl

/-- The slot of a pair that has overrun (R40, R42). -/
theorem State.slotOf_overrun (s : State) (p : Nat) :
    ((s.overrun p).slotOf p).ovr = (s.slotOf p).ovr + 1 ∧ ((s.overrun p).slotOf p).work = ⟨[], []⟩ := by
  have ht : (s.overrun p).slot = (s.overrunMarked p).slot := by
    rw [State.overrun_eq]
    split
    · exact forEach_keeps State.slot _ State.overrunFn_slot _ _
    · rfl
  have hm := s.overrunMarked_cases p (fun x => x.slotOf p) (fun _ _ => rfl) fun _ _ => rfl
  rw [State.slotOf, ht]
  refine ⟨(congrArg Slot.ovr hm).trans ?_, (congrArg Slot.work hm).trans ?_⟩
  · rw [State.overrunCounted_slotOf]
  · rw [State.overrunCounted_slotOf, State.stopWork, State.slotOf_updSlot_self]

/-- A slot's stopping leaves its map, stops both its copies and discards its functions' buffers (R36, R42). -/
theorem State.stopWork_stopped (s : State) (p : Nat) (d : Side) : ((s.stopWork p).cstOf (s.slotCoach d p)).stopped = true := by
  unfold State.stopWork
  dsimp only
  generalize s.forEach (s.fnsOfSlot p) State.dropFn = y
  show (((y.updCst (s.slotCoach .A p) fun c => { c with stopped := true }).updCst (s.slotCoach .B p) fun c =>
    { c with stopped := true }).cstOf (s.slotCoach d p)).stopped = true
  cases d
  · rw [State.cstOf_updCst]
    split
    · rfl
    · rw [State.cstOf_updCst_self]
  · rw [State.cstOf_updCst_self]

theorem State.fnOf_dropFn (s : State) (f k : Nat) : (k = f → ((s.dropFn f).fnOf k).next = none) ∧
    (k ≠ f → (s.dropFn f).fnOf k = s.fnOf k) := by
  refine ⟨?_, fun h => ?_⟩
  · rintro rfl
    rw [State.dropFn, State.fnOf_updFn, if_pos rfl]
  · rw [State.dropFn, State.fnOf_updFn, if_neg h]

theorem State.stopWork_fn (s : State) (p : Nat) : (s.stopWork p).fn = (s.forEach (s.fnsOfSlot p) State.dropFn).fn := by
  unfold State.stopWork
  dsimp only
  generalize s.forEach (s.fnsOfSlot p) State.dropFn = y
  rfl

theorem State.stopWork_dropped (s : State) {p f : Nat} (hf : f ∈ s.fnsOfSlot p) : ((s.stopWork p).fnOf f).next = none :=
by
  rw [State.fnOf, State.stopWork_fn]
  exact (State.forEach_fnOf (P := fun x => x.next = none) (fun x k => (x.fnOf_dropFn k k).1 rfl)
    (fun x i k => (x.fnOf_dropFn i k).2) s (s.fnsOfSlot p) f).1 hf

theorem State.stopWork_fnOf (s : State) (p f : Nat) : ((s.stopWork p).fnOf f).st = (s.fnOf f).st := by
  rw [State.fnOf, State.stopWork_fn]
  refine forEach_keeps (fun x => (x.fnOf f).st) State.dropFn (fun x k => ?_) s (s.fnsOfSlot p)
  show ((x.dropFn k).fnOf f).st = (x.fnOf f).st
  rw [State.dropFn, State.fnOf_updFn]
  split
  · next h => rw [h]
  · rfl

/-- The functions of a pair that has overrun: no working buffer, and at K they trip (R42, R43). -/
theorem State.fnOf_overrun (s : State) {p f : Nat} (hf : f ∈ s.fnsOfSlot p) : ((s.overrun p).fnOf f).next = none ∧
    (s.clock.k ≤ (s.slotOf p).ovr + 1 → isMode (s.tid f) = false → (s.fnOf f).st ∈ [FnState.locked, .armed, .run] →
      ((s.overrun p).fnOf f).overran) := by
  have hm : (s.overrunMarked p).fnOf f = (s.stopWork p).fnOf f := by
    rw [State.fnOf, s.overrunMarked_cases p State.fn (fun _ _ => rfl) (fun _ _ => rfl), State.overrunCounted_fn, State.fnOf]
  have hn : ((s.overrunMarked p).fnOf f).next = none := by
    rw [hm]
    exact s.stopWork_dropped hf
  rw [State.overrun_eq]
  refine ⟨?_, fun hk hmode hst => ?_⟩
  · split
    · exact forEach_inv (fun x => (x.fnOf f).next = none) State.overrunFn (fun x _ hx => x.overrunFn_next hx) _ _ hn
    · exact hn
  · rw [if_pos hk]
    refine State.forEach_overrunFn_trips _ hf ?_ (.inl ?_)
    · rw [(State.Judged.overrunMarked (l := fun _ => True) s trivial).tid]
      exact hmode
    · rw [hm, s.stopWork_fnOf p f]
      exact hst

/-- A pair that has overrun stops its copies and is reported (R40, R42). -/
theorem State.overrun_reported (s : State) (p : Nat) : (∀ d, ((s.overrun p).cstOf (s.slotCoach d p)).stopped = true) ∧
    s.reports (s.overrun p) 0x0302 (nSlot p) 3 ((s.slotOf p).ovr + 1) := by
  have hj : (s.overrunMarked p).Judged (fun _ => True) (s.overrun p) := by
    rw [State.overrun_eq]
    split
    · exact .forEach fun x _ f _ => .overrunFn x f trivial
    · exact .refl _ _
  refine ⟨fun d => hj.stopped _ ?_, State.reports_mono ?_ hj.log⟩
  · rw [State.cstOf, s.overrunMarked_cases p State.coachSt (fun _ _ => rfl) (fun _ _ => rfl), State.overrunCounted_coachSt]
    exact s.stopWork_stopped p d
  · have hw := (State.Judged.stopWork s (l := fun _ => True) (p := p) trivial).trans (.recounted _ (p := p) trivial ((s.slotOf p).ovr + 1))
    have hr := State.reports_top (nSlot_top p) hw.timeWord hw.opens 0x0302 3 ((s.slotOf p).ovr + 1) false
    unfold State.reports at hr ⊢
    rwa [s.overrunMarked_cases p State.log (fun _ _ => rfl) fun _ _ => rfl]

/-! The packets with an undefined opcode, answered before the deadline (R354). -/

theorem State.Books.answer {s x : State} (h : s.Books x) (hd : Hdr) (op status offset : Nat) (slots : List Nat) :
    s.Books (x.answer hd op status offset slots) := by
  refine (h.addReply { x.mkReply hd.port hd.queue.val op hd.tag status slots with offset := offset }).trans ?_
  unfold State.answer State.countReject
  dsimp only
  split
  · split
    · exact ⟨rfl, fun _ he => he⟩
    · exact .refl _
  · exact .refl _

theorem State.windows_addReply (s : State) (r : Reply) : (s.addReply r).windows = s.windows := by
  unfold State.addReply
  split <;> rfl

theorem State.windows_countReject (s : State) (port : Option Side) (status : Nat) :
    (s.countReject port status).windows = s.windows := by
  unfold State.countReject
  split
  · split <;> rfl
  · rfl

theorem State.windows_answer (s : State) (h : Hdr) (op status offset : Nat) (slots : List Nat) :
    (s.answer h op status offset slots).windows = s.windows := by
  rw [State.answer, State.windows_countReject, State.windows_addReply]

theorem State.Judged.answer {l : Nat → Prop} (s : State) (h : Hdr) (op status offset : Nat) (slots : List Nat) :
    s.Judged l (s.answer h op status offset slots) :=
  ((State.Books.refl s).answer h op status offset slots).judged (State.opensAt_of_eq (s.windows_answer h op status offset slots))

theorem State.Judged.unqueue {l : Nat → Prop} (s : State) (h : Hdr) (op : Nat) : s.Judged l (s.unqueue h op) := by
  unfold State.unqueue
  split
  · exact .of_books rfl (fun _ he => he) (State.opensAt_of_eq rfl)
  · split <;> exact .of_books rfl (fun _ he => he) (State.opensAt_of_eq rfl)

theorem State.Judged.advance {l : Nat → Prop} (s : State) (h : Hdr) : s.Judged l (s.advance h) := by
  unfold State.advance
  split
  · exact .of_books rfl (fun _ he => he) (State.opensAt_of_eq rfl)
  · exact .refl l s

theorem State.Judged.unknownPacket {l : Nat → Prop} (s : State) (k : Packet) : s.Judged l (s.unknownPacket k) := by
  unfold State.unknownPacket
  split
  · unfold State.serveNow
    dsimp only
    have hu := State.Judged.unqueue (l := l) s k.hdr (pktFld k.bytes 0 1)
    split
    · exact hu.trans (.answer _ _ _ _ _ _)
    · split
      · exact hu.trans (.answer _ _ _ _ _ _)
      · have ha := hu.trans (.advance _ k.hdr)
        split
        · exact ha.trans (.answer _ _ _ _ _ _)
        · exact ha.trans (.answer _ _ _ _ _ _)
  · exact .refl l s

theorem State.Judged.passUnknown {l : Nat → Prop} (n : Nat) (s : State) : s.Judged l (State.passUnknown n s) := by
  induction n generalizing s with
  | zero => exact .refl l s
  | succ n ih =>
    rw [State.passUnknown]
    split
    · exact .refl l s
    · split
      · exact .refl l s
      · exact (State.Judged.unknownPacket s _).trans (ih _)

/-! Every slot at the deadline (R42, R43). -/

/-- The slots' deadlines, one after another. -/
def State.deadlines (s : State) : State := s.forEach (List.range 48) State.deadline

/-- The state in which the slots meet the deadline. -/
def State.atDeadline (s : State) : State :=
  let s0 := (s.toTick s.clock.cdl).linkDrain
  if (s0.slotOf 0).verified then s0.unknownPackets else s0

theorem exec_commitDeadline (s : State) : exec .commitDeadline s = .next s.atDeadline.deadlines.settle := rfl

theorem State.judged_deadlines (s : State) : s.Judged (fun _ => True) s.deadlines := .forEach fun x _ _ _ => .deadline x trivial

theorem State.judged_atDeadline {l : Nat → Prop} (s : State) : (s.toTick s.clock.cdl).linkDrain.Judged l s.atDeadline := by
  unfold State.atDeadline
  dsimp only
  split
  · exact .passUnknown _ _
  · exact .refl _ _

theorem State.atDeadline_idle {l : Nat → Prop} {s : State} (h : s.linkWait = []) : (s.toTick s.clock.cdl).Judged l s.atDeadline := by
  have hd := s.judged_atDeadline (l := l)
  rwa [State.linkDrain_none (s := s.toTick s.clock.cdl) h] at hd

/-- A slot's deadline comes between those of the slots before and after it. -/
theorem State.deadlines_at (s : State) {p : Nat} (hp : p < 48) : ∃ x, s.Judged (· ≠ p) x ∧ (x.deadline p).Judged (· ≠ p) s.deadlines := by
  have hr : List.range 48 = List.range p ++ p :: (List.range (47 - p)).map (p + 1 + ·) := by
    have h48 : 48 = p + (47 - p + 1) := by omega
    rw [h48, List.range_add, List.range_succ_eq_map, List.map_cons, List.map_map]
    refine congrArg _ (congrArg₂ _ rfl (List.map_congr_left fun k _ => ?_))
    show p + (k + 1) = p + 1 + k
    omega
  refine ⟨s.forEach (List.range p) State.deadline, .forEach fun x _ k hk => .deadline x ?_, ?_⟩
  · exact (List.mem_range.mp hk).ne
  · rw [State.deadlines, hr, State.forEach_split]
    refine .forEach fun x _ k hk => .deadline x ?_
    obtain ⟨j, -, rfl⟩ := List.mem_map.mp hk
    omega

section
variable {s : State} {p : Nat} (hw : s.linkWait = []) (hp : p < 48) (hs : (s.slotOf p).st = .locked)
include hw hp hs

/-- A locked pair with work that has not verified: before the slots that follow are judged, it has overrun (R42). -/
theorem State.deadlines_overrun (hh : s.hosts p = true) (hv : (s.slotOf p).verified = false) :
    ∃ x, (s.toTick s.clock.cdl).Judged (· ≠ p) x ∧ (x.overrun p).Judged (· ≠ p) s.atDeadline.deadlines := by
  obtain ⟨x, hx, hd⟩ := s.atDeadline.deadlines_at hp
  have hj := (s.atDeadline_idle (l := (· ≠ p)) hw).trans hx
  refine ⟨x, hj, ?_⟩
  have hxs : x.slotOf p = (s.slotOf p).hands (x.slotOf p) := hj.slot p fun h => h rfl
  have hxv : (x.slotOf p).verified = false := by
    rw [hxs]
    exact hv
  have hxl : (x.slotOf p).st = .locked := hj.locked p hs
  have hxh : x.hosts p = true := (hj.hosts p).trans hh
  have he : x.deadline p = x.overrun p := by
    rw [State.deadline]
    simp [hxl, hxv, hxh]
  rwa [he] at hd

/-- A locked pair that has verified: its deadline leaves it (R36). -/
theorem State.deadlines_verified (hv : (s.slotOf p).verified = true) :
    (s.toTick s.clock.cdl).Judged (· ≠ p) s.atDeadline.deadlines := by
  obtain ⟨x, hx, hd⟩ := s.atDeadline.deadlines_at hp
  have hj := (s.atDeadline_idle (l := (· ≠ p)) hw).trans hx
  have hxs : x.slotOf p = (s.slotOf p).hands (x.slotOf p) := hj.slot p fun h => h rfl
  have hxv : (x.slotOf p).verified = true := by
    rw [hxs]
    exact hv
  have hxl : (x.slotOf p).st = .locked := hj.locked p hs
  have he : x.deadline p = x := by
    rw [State.deadline]
    simp [hxl, hxv]
  rw [he] at hd
  exact hj.trans hd

end

/-- What the deadlines leave of a pair that has overrun between them, before the gates settle. -/
theorem State.Judged.overran {s x t : State} {p : Nat} (hx : s.Judged (· ≠ p) x) (hd : (x.overrun p).Judged (· ≠ p) t) :
    (t.settle.slotOf p).ovr = (s.slotOf p).ovr + 1 ∧ (t.settle.slotOf p).work = ⟨[], []⟩ ∧
    (∀ d, (t.settle.cstOf (s.slotCoach d p)).stopped = true) ∧ (∀ f ∈ s.fnsOfSlot p, (t.settle.fnOf f).next = none) ∧
    s.reports t.settle 0x0302 (nSlot p) 3 ((s.slotOf p).ovr + 1) ∧
    (s.clock.k ≤ (s.slotOf p).ovr + 1 → ∀ f ∈ s.fnsOfSlot p, isMode (s.tid f) = false →
      (s.fnOf f).st ∈ [FnState.locked, .armed, .run] → (t.settle.fnOf f).overran) := by
  have hxs : x.slotOf p = (s.slotOf p).hands (x.slotOf p) := hx.slot p fun h => h rfl
  have hts := hd.slot p fun h => h rfl
  have hovr : (x.slotOf p).ovr = (s.slotOf p).ovr := by rw [hxs]; rfl
  obtain ⟨hso, hsw⟩ := x.slotOf_overrun p
  obtain ⟨hst, hrep⟩ := x.overrun_reported p
  have hown (f : Nat) (hf : f ∈ s.fnsOfSlot p) : f ∈ x.fnsOfSlot p ∧ x.fnOf f = s.fnOf f ∧ t.fnOf f = (x.overrun p).fnOf f := by
    have hs : s.fSlot f = p := State.fSlot_of_mem hf
    have ho : (x.overrun p).fSlot f = s.fSlot f :=
      ((State.Judged.overrun (l := fun _ => True) x (p := p) trivial).fSlot f).trans (hx.fSlot f)
    exact ⟨hx.fnsOfSlot p ▸ hf, hx.fn f fun h => h hs, hd.fn f fun h => h (ho.trans hs)⟩
  refine ⟨?_, ?_, fun d => hd.stopped _ (hx.coach d p ▸ hst d), fun f hf => ?_, ?_, fun hk f hf hm hfst => ?_⟩
  · rw [← hovr, ← hso]
    exact (congrArg Slot.ovr hts :)
  · rw [← hsw]
    exact (congrArg Slot.work hts :)
  · obtain ⟨hfx, -, hft⟩ := hown f hf
    exact (congrArg Fn.next hft).trans (x.fnOf_overrun hfx).1
  · rw [State.reports_settle, ← hovr]
    exact State.reports_mono (State.reports_before (nSlot_top p) hx.timeWord hx.opens hrep) hd.log
  · obtain ⟨hfx, hfe, hft⟩ := hown f hf
    show (t.fnOf f).overran
    rw [hft]
    refine (x.fnOf_overrun hfx).2 ?_ ?_ ?_
    · rw [hovr, hx.k]
      exact hk
    · rw [hx.tid]
      exact hm
    · rw [hfe]
      exact hfst

/-- What the deadlines leave of a pair whose own deadline leaves it. -/
theorem State.Judged.verified {s t : State} {p : Nat} (h : s.Judged (· ≠ p) t) :
    (t.settle.slotOf p).ovr = (s.slotOf p).ovr ∧ ∀ f ∈ s.fnsOfSlot p, (t.settle.fnOf f).next = (s.fnOf f).next := by
  have hs := h.slot p fun h => h rfl
  exact ⟨(congrArg Slot.ovr hs :), fun f hf => congrArg Fn.next (h.fn f fun hn => hn (State.fSlot_of_mem hf))⟩

theorem State.toTick_k (s : State) (n : Nat) : (s.toTick n).clock.k = s.clock.k := by
  show (s.clock.advance (s.clock.ticksTo n)).k = s.clock.k
  unfold Clock.advance
  dsimp only
  split_ifs <;> rfl

/-- Settles O14: the slots' deadlines follow one another, each judges its own slot and leaves the marks of the others; that of a locked
pair that has not verified is its overrun. -/
theorem deadlineCountsOverruns : Obligations.DeadlineCountsOverruns := by
  intro s htick hcdl
  have hall : (s.toTick s.clock.cdl).linkDrain.Judged (fun _ => True) s.atDeadline.deadlines :=
    s.judged_atDeadline.trans s.atDeadline.judged_deadlines
  have hdrain := (s.toTick s.clock.cdl).linkDrain_arrives
  refine ⟨_, exec_commitDeadline s, ?_, State.settle_gatesSafe _, ?_, fun hw p hp hs hh hv => ?_, fun hw p hp hs hv => ?_⟩
  · rw [State.settle_clock, hall.tick, hdrain.clock]
    exact State.toTick_tick htick hcdl
  · rw [State.settle_linkWait, hall.linkWait, hdrain.linkWait]
  · obtain ⟨x, hx, hd⟩ := State.deadlines_overrun hw hp hs hh hv
    have ht := hx.overran hd
    rw [State.toTick_k] at ht
    exact ht
  · exact (State.deadlines_verified hw hp hs hv).verified

/-! ### The evaluation of a function in ARMED (R250–R252) -/

/-- Among causes there is a lowest code (R252). -/
theorem lowest_of_ne_nil {l : List FnCause} (h : l ≠ []) : ∃ c ∈ l, (∀ e ∈ l, c.1.toNat ≤ e.1.toNat) ∧ lowest l = some c := by
  induction l with
  | nil => exact absurd rfl h
  | cons a r ih =>
    by_cases hr : r = []
    · subst hr
      exact ⟨a, List.mem_cons_self, by simp, rfl⟩
    · obtain ⟨d, hd, hmin, hl⟩ := ih hr
      rw [lowest, hl]
      by_cases hda : d.1.toNat < a.1.toNat
      · refine ⟨d, List.mem_cons_of_mem a hd, fun e he => ?_, if_pos hda⟩
        obtain rfl | he := List.mem_cons.mp he
        · exact hda.le
        · exact hmin e he
      · refine ⟨a, List.mem_cons_self, fun e he => ?_, if_neg hda⟩
        obtain rfl | he := List.mem_cons.mp he
        · exact le_rfl
        · exact (Nat.not_lt.mp hda).trans (hmin e he)

/-- ARM_S has run out in ARMED (R250). -/
theorem State.armExpired_iff (s : State) (f : Nat) : s.armExpired f = true ↔ (s.fnOf f).st = .armed ∧ fld (s.fcfg f) 19 10 ≠ 0 ∧
    (s.fnOf f).armedAt + fld (s.fcfg f) 19 10 * 1000000 ≤ s.clock.count - s.clock.tick := by
  simp only [State.armExpired, Bool.and_eq_true, decide_eq_true_eq, and_assoc]
  rfl

/-- Before ARM_S has run out nothing changes. -/
theorem armedTimeout_early {s : State} {f : FnIx} (h : s.armExpired f.val = false) : exec (.armedTimeout f) s = .next s := by
  show execArmedTimeout f s = .next s
  rw [execArmedTimeout, if_neg (by rw [h]; exact Bool.false_ne_true), done_eq]

/-- Once it has, the function is evaluated into its working buffer with the change that this brings. -/
theorem armedTimeout_due {s : State} {f : FnIx} (h : s.armExpired f.val = true) : exec (.armedTimeout f) s =
    .next (s.updFn f.val fun x => { x with next := some (s.evalFn f.val true) }) := by
  show execArmedTimeout f s = _
  rw [execArmedTimeout, if_pos h, done_eq, State.runFn, ((s.armExpired_iff f.val).mp h).1]

/-- The change of a function in ARMED for ARM_S (R250, R252): a fault before a demand, a demand before the expiry. -/
theorem State.fnChange_expired {s : State} {f : Nat} (h : (s.fnOf f).st = .armed) (faults demands : List FnCause) (accepted : Bool) :
    s.fnChange f faults demands accepted true = match lowest faults, lowest demands with
      | some c, _ => some (.fault, c)
      | none, some c => some (.tripped, c)
      | none, none => some (.locked, 0, 0, 0x1FF) := by
  rw [State.fnChange, h]
  cases lowest faults with
  | some c => exact if_neg (by decide)
  | none => cases lowest demands <;> rfl

/-- The fault causes present or raised at a capture (R250, R251). -/
def State.faultsAt (s : State) (f : Nat) : List FnCause :=
  s.presentFaults f ++ ((s.fnOf f).cur.filter fun c => isFaultCause c.1) ++ s.edmFails f ++
    (if s.tid f = 0x12 then [] else s.lastedCause f)

/-- The demands present or raised at a capture (R251). -/
def State.demandsAt (s : State) (f : Nat) : List FnCause :=
  s.inputDemands f ++ s.groupDemands f ++ s.templateDemands f ++ (s.fnOf f).cur.filter fun c => !isFaultCause c.1

/-- The change that a working buffer holds (R250, R257). -/
theorem State.evalFn_chg (s : State) (f : Nat) (expired : Bool) : ∃ accepted, (s.evalFn f expired).chg =
    if isMode (s.tid f) then s.modeChange f (s.faultsAt f)
    else s.fnChange f (s.faultsAt f) (s.demandsAt f) accepted (expired || s.armExpired f) := ⟨_, rfl⟩

/-- The same of the working buffer of a function of neither template RESET nor MODESEL. -/
theorem State.evalFn_expired {s : State} {f : Nat} (h : (s.fnOf f).st = .armed) (hm : isMode (s.tid f) = false) :
    (s.evalFn f true).chg = match lowest (s.faultsAt f), lowest (s.demandsAt f) with
      | some c, _ => some (.fault, c)
      | none, some c => some (.tripped, c)
      | none, none => some (.locked, 0, 0, 0x1FF) := by
  obtain ⟨accepted, hc⟩ := s.evalFn_chg f true
  rw [hc, if_neg (by rw [hm]; exact Bool.false_ne_true), Bool.true_or, State.fnChange_expired h]

/-- The change that the buffer holds is decided by the lowest fault, else by the lowest demand, else by the expiry (R252). -/
theorem State.evalFn_decided {s : State} {f : Nat} (h : (s.fnOf f).st = .armed) (hm : isMode (s.tid f) = false) :
    (s.faultsAt f ≠ [] → ∃ c ∈ s.faultsAt f, (∀ e ∈ s.faultsAt f, c.1.toNat ≤ e.1.toNat) ∧
      (s.evalFn f true).chg = some (.fault, c)) ∧
    (s.faultsAt f = [] → s.demandsAt f ≠ [] → ∃ c ∈ s.demandsAt f, (∀ e ∈ s.demandsAt f, c.1.toNat ≤ e.1.toNat) ∧
      (s.evalFn f true).chg = some (.tripped, c)) ∧
    (s.faultsAt f = [] → s.demandsAt f = [] → (s.evalFn f true).chg = some (.locked, 0, 0, 0x1FF)) := by
  rw [State.evalFn_expired h hm]
  refine ⟨fun hf => ?_, fun hf hd => ?_, fun hf hd => ?_⟩
  · obtain ⟨c, hc, hmin, hl⟩ := lowest_of_ne_nil hf
    exact ⟨c, hc, hmin, by rw [hl]⟩
  · obtain ⟨c, hc, hmin, hl⟩ := lowest_of_ne_nil hd
    exact ⟨c, hc, hmin, by rw [hf, hl]; rfl⟩
  · rw [hf, hd]
    rfl

/-- ARMED_TIMEOUT before ARM_S has run out in ARMED. -/
theorem armedTimeout_waits (s : State) (f : FnIx) : let n := fld (s.fcfg f.val) 19 10
    (s.fnOf f.val).st ≠ .armed ∨ n = 0 ∨ s.clock.count - s.clock.tick < (s.fnOf f.val).armedAt + n * 1000000 →
      exec (.armedTimeout f) s = .next s := by
  intro n h
  refine armedTimeout_early (Bool.eq_false_iff.mpr fun ha => ?_)
  obtain ⟨hst, hn, hc⟩ := (s.armExpired_iff f.val).mp ha
  obtain h | h | h := h
  · exact h hst
  · exact hn h
  · exact absurd hc (Nat.not_le.mpr h)

/-- ARMED_TIMEOUT once it has: the buffer alone changes. -/
theorem armedTimeout_evaluates (s : State) (f : FnIx) (h : s.armExpired f.val = true) :
    ∃ t, exec (.armedTimeout f) s = .next t ∧ t.fnOf f.val = { s.fnOf f.val with next := some (s.evalFn f.val true) } ∧
      (∀ g, g ≠ f.val → t.fnOf g = s.fnOf g) ∧ t = { s with fn := t.fn } := by
  refine ⟨_, armedTimeout_due h, ?_, fun g hg => ?_, rfl⟩
  · rw [State.fnOf_updFn, if_pos rfl]
  · rw [State.fnOf_updFn, if_neg hg]

/-! ### What the later steps of a capture and of a commit leave (R35)

A capture freezes an image and a commit makes a frame's results current; the steps that follow within the same command raise and end
causes, begin and abort tests, and count, but leave those results. The still picture of a state is what they leave. -/

/-- What a terminal's causes, filters, counters and calibration leave of it: its committed ON bit and its image. -/
def Terminal.still (x : Terminal) : Bool × Img × BitVec 18 × BitVec 13 := (x.out.on, x.img, x.ana.sample, x.ana.cnt)

/-- What a raised cause and a template variable leave of a function. -/
def Fn.still (x : Fn) : Fn := { x with vars := [], raised := [], cur := [], reset := false }

/-- The still picture of a state. -/
structure Still where
  clock   : Clock
  frameSt : Two FrameStat
  dev     : Device
  pkg     : Pkg
  slot    : Tab Slot
  pdNext  : List (Nat × BitVec 64)
  reqs    : List TokReq
  mon     : Tab Mon
  fn      : Nat → Fn
  term    : Nat → Bool × Img × BitVec 18 × BitVec 13
  on      : Nat → BitVec 16
  view    : Nat → Bool × Option Nat
  sl      : Side → BitVec 2 × BitVec 2
  fetched : Side → List Packet
  timer   : Nat → Word × Word

def State.still (s : State) : Still :=
  { clock := s.clock, frameSt := s.frameSt, dev := s.dev, pkg := s.pkg, slot := s.slot, pdNext := s.pdNext, reqs := s.token.reqs
    mon := s.mon, fn := fun f => (s.fnOf f).still, term := fun k => (s.termOf k).still, on := fun i => (s.chipOf i).on
    view := fun i => ((s.viewOf i).lost, (s.viewOf i).returnAt), sl := fun d => ((s.halfOf d).sl, (s.halfOf d).slImg)
    fetched := fun d => (s.portOf d).fetched, timer := fun i => ((s.timerOf i).value, (s.timerOf i).img) }

section
variable (s : State)

/-! What is none of it. -/
@[simp] theorem State.still_postL (code : Nat) (src : Node) (sev detail : Nat) (l : Bool) :
    (s.postL code src sev detail l).still = s.still := rfl
@[simp] theorem State.still_post (code : Nat) (src : Node) (sev detail : Nat) : (s.post code src sev detail).still = s.still := rfl
@[simp] theorem State.still_endCondition (src : Node) (code : Nat) : (s.endCondition src code).still = s.still := rfl
@[simp] theorem State.still_drawn : s.drawn.still = s.still := rfl
@[simp] theorem State.still_updChan (ch : Nat) (f : Channel → Channel) : (s.updChan ch f).still = s.still := rfl
@[simp] theorem State.still_updLanes (i : Nat) (f : Lanes → Lanes) : (s.updLanes i f).still = s.still := rfl
@[simp] theorem State.still_updEnc (i : Nat) (f : Enc → Enc) : (s.updEnc i f).still = s.still := rfl
@[simp] theorem State.still_updEng (i : Nat) (f : Engine → Engine) : (s.updEng i f).still = s.still := rfl
@[simp] theorem State.still_updMonx (m : Nat) (f : MonX → MonX) : (s.updMonx m f).still = s.still := rfl
@[simp] theorem State.still_updCst (i : Nat) (f : CoachSt → CoachSt) : (s.updCst i f).still = s.still := rfl
@[simp] theorem State.still_updCoach (i : Nat) (f : Coach → Coach) : (s.updCoach i f).still = s.still := rfl
@[simp] theorem State.still_updConn (c : Nat) (f : Conn → Conn) : (s.updConn c f).still = s.still := rfl

theorem State.still_tests (x : Tests) : ({ s with tests := x } : State).still = s.still := rfl

/-! An update that leaves the picture of its part. -/
theorem State.still_updTerm {t : Nat} {f : Terminal → Terminal} (h : ∀ x, (f x).still = x.still) : (s.updTerm t f).still = s.still := by
  have ht : (fun k => ((s.updTerm t f).termOf k).still) = fun k => (s.termOf k).still := by
    funext k
    rw [State.termOf_updTerm]
    split
    · next hk => rw [h, hk]
    · rfl
  exact congrArg (fun g => { s.still with term := g }) ht

theorem State.still_updFn {i : Nat} {f : Fn → Fn} (h : ∀ x, (f x).still = x.still) : (s.updFn i f).still = s.still := by
  have ht : (fun k => ((s.updFn i f).fnOf k).still) = fun k => (s.fnOf k).still := by
    funext k
    rw [State.fnOf_updFn]
    split
    · next hk => rw [h, hk]
    · rfl
  exact congrArg (fun g => { s.still with fn := g }) ht

theorem State.still_updChip {i : Nat} {f : Chip → Chip} (h : ∀ x, (f x).on = x.on) : (s.updChip i f).still = s.still := by
  have ht : (fun k => ((s.updChip i f).chipOf k).on) = fun k => (s.chipOf k).on := by
    funext k
    rw [State.chipOf_updChip]
    split
    · next hk => rw [h, hk]
    · rfl
  exact congrArg (fun g => { s.still with on := g }) ht

theorem State.still_updView {i : Nat} {f : View → View} (h : ∀ x, (f x).lost = x.lost) (hr : ∀ x, (f x).returnAt = x.returnAt) :
    (s.updView i f).still = s.still := by
  have ht : (fun k => (((s.updView i f).viewOf k).lost, ((s.updView i f).viewOf k).returnAt)) =
      fun k => ((s.viewOf k).lost, (s.viewOf k).returnAt) := by
    funext k
    rw [State.viewOf_updView]
    split
    · next hk => rw [h, hr, hk]
    · rfl
  exact congrArg (fun g => { s.still with view := g }) ht

theorem State.still_updHalf {d : Side} {f : Half → Half} (h : ∀ x, (f x).sl = x.sl) (hi : ∀ x, (f x).slImg = x.slImg) :
    (s.updHalf d f).still = s.still := by
  have ht : (fun k => (((s.updHalf d f).halfOf k).sl, ((s.updHalf d f).halfOf k).slImg)) =
      fun k => ((s.halfOf k).sl, (s.halfOf k).slImg) := by
    funext k
    rw [State.halfOf_updHalf]
    split
    · next hk => rw [h, hi, hk]
    · rfl
  exact congrArg (fun g => { s.still with sl := g }) ht

theorem State.still_updPort {d : Side} {f : Port → Port} (h : ∀ x, (f x).fetched = x.fetched) : (s.updPort d f).still = s.still := by
  have ht : (fun k => ((s.updPort d f).portOf k).fetched) = fun k => (s.portOf k).fetched := by
    funext k
    rw [State.portOf_updPort]
    split
    · next hk => rw [h, hk]
    · rfl
  exact congrArg (fun g => { s.still with fetched := g }) ht

theorem State.still_updTimer {i : Nat} {f : TimerU → TimerU} (h : ∀ x, (f x).value = x.value) (hi : ∀ x, (f x).img = x.img) :
    (s.updTimer i f).still = s.still := by
  have ht : (fun k => (((s.updTimer i f).timerOf k).value, ((s.updTimer i f).timerOf k).img)) =
      fun k => ((s.timerOf k).value, (s.timerOf k).img) := by
    funext k
    rw [State.timerOf_updTimer]
    split
    · next hk => rw [h, hi, hk]
    · rfl
  exact congrArg (fun g => { s.still with timer := g }) ht

theorem State.still_forEach {f : State → Nat → State} (h : ∀ x k, (f x k).still = x.still) (l : List Nat) :
    (s.forEach l f).still = s.still := forEach_keeps State.still f h s l

/-! #### Causes and tests (R55, R132, R364, R378, R473) -/

@[simp] theorem State.still_diagAdd (i cause src : Nat) : (s.diagAdd i cause src).still = s.still := by
  refine s.still_updChip fun x => ?_
  unfold Chip.diagAdd
  dsimp only
  split_ifs <;> rfl

@[simp] theorem State.still_lowerCause (t cause : Nat) : (s.lowerCause t cause).still = s.still := by
  rw [State.lowerCause, State.still_endCondition]
  exact s.still_updTerm fun _ => rfl

@[simp] theorem State.still_addReply (r : Reply) : (s.addReply r).still = s.still := by
  unfold State.addReply
  split
  · refine s.still_updPort fun x => ?_
    split <;> rfl
  · rfl

@[simp] theorem State.still_finalReply (port : Option Side) (queue opcode : Nat) (tag : BitVec 32) (status : Nat) (slots : List Nat) :
    (s.finalReply port queue opcode tag status slots).still = s.still := by
  unfold State.finalReply
  dsimp only
  split
  · refine (State.still_updPort _ ?_).trans (s.still_addReply _)
    exact fun _ => rfl
  · exact s.still_addReply _

@[simp] theorem State.still_concludeTest (q : Test) (v : Nat) : (s.concludeTest q v).still = s.still := by
  unfold State.concludeTest
  split
  · rfl
  · exact State.still_finalReply _ _ _ _ _ _ _

@[simp] theorem State.still_testRelease (n : Node) : (s.testRelease n).still = s.still := by
  unfold State.testRelease State.unitTesting
  split_ifs
  · rfl
  · exact s.still_updHalf (fun _ => rfl) fun _ => rfl
  · exact s.still_updHalf (fun _ => rfl) fun _ => rfl
  · exact s.still_updChip fun _ => rfl
  · rfl
  · exact s.still_updTimer (fun _ => rfl) fun _ => rfl
  · rfl

@[simp] theorem State.still_beginTest (n : Node) (cls : Nat) : (s.beginTest n cls).still = s.still := by
  unfold State.beginTest
  dsimp only
  rw [State.still_post, State.still_tests]
  split
  · exact s.still_updView (fun _ => rfl) fun _ => rfl
  · rfl

@[simp] theorem State.still_abortTest (q : Test) : (s.abortTest q).still = s.still := by simp [State.abortTest]

@[simp] theorem State.still_startTest (n : Node) (cls : Nat) : (s.startTest n cls).still = s.still := by
  unfold State.startTest
  split
  · rfl
  · split
    · exact s.still_beginTest n cls
    · split
      · simp
      · rfl

@[simp] theorem State.still_calEnd (t status : Nat) : (s.calEnd t status).still = s.still := by
  have h : (s.updTerm t fun x => { x with ana := { x.ana with cal := none, calDone := x.ana.calRun, calTag := none } }).still = s.still :=
    s.still_updTerm fun _ => rfl
  unfold State.calEnd
  dsimp only
  split
  · exact h
  · rw [State.still_finalReply, h]

@[simp] theorem State.still_calAbort (t : Nat) : (s.calAbort t).still = s.still := by
  unfold State.calAbort
  split
  · rw [State.still_drawn, State.still_calEnd]
  · rfl

@[simp] theorem State.still_raiseCauseD (t cause detail : Nat) : (s.raiseCauseD t cause detail).still = s.still := by
  have h : (s.updTerm t fun x => { x with tstat := x.tstat.raise cause s.clock.count }).still = s.still := s.still_updTerm fun _ => rfl
  unfold State.raiseCauseD
  dsimp only
  split_ifs <;> simp [h]

@[simp] theorem State.still_raiseCause (t cause : Nat) : (s.raiseCause t cause).still = s.still := s.still_raiseCauseD t cause 0

@[simp] theorem State.still_raiseFns (fs : List Nat) (cause detail term : Nat) : (s.raiseFns fs cause detail term).still = s.still := by
  refine s.still_forEach (fun x f => ?_) fs
  rw [State.raiseFn]
  exact x.still_updFn fun _ => rfl

@[simp] theorem State.still_forceChange (t : Nat) : (s.forceChange t).still = s.still := by
  unfold State.forceChange State.discrepancyClock
  dsimp only
  split_ifs <;> simp

@[simp] theorem State.still_restartFilter (t : Nat) : (s.restartFilter t).still = s.still := by
  unfold State.restartFilter
  split
  · rw [State.still_forceChange]
    exact s.still_updTerm fun _ => rfl
  · rfl

@[simp] theorem State.still_startTerm (t : Nat) : (s.startTerm t).still = s.still := by
  have h (b : Bool) : (s.updTerm t fun x => { x with tstat := { x.tstat with plug := b } }).still = s.still := s.still_updTerm fun _ => rfl
  unfold State.startTerm
  dsimp only
  split_ifs <;> simp [h]

@[simp] theorem State.still_settle : s.settle.still = s.still := by
  have h : (fun k => (s.settle.termOf k).still) = fun k => (s.termOf k).still := by
    funext k
    unfold Terminal.still
    rw [State.settle_img, State.settle_ana, State.settle_out]
    split
    · rw [show ((s.termOf k).out.settle (s.tripped k)).on = (s.termOf k).out.on by unfold Out.settle; split <;> rfl]
    · rfl
  exact congrArg (fun g => { s.still with term := g }) h

end

/-! ### The later steps of a commit (R35) -/

section
variable (s : State)

@[simp] theorem State.still_sampleOff (t : Nat) : (s.sampleOff t).still = s.still := by
  unfold State.sampleOff
  dsimp only
  split_ifs <;> simp

theorem State.still_lowerCause_if (p : Prop) [Decidable p] (t cause : Nat) : (if p then s.lowerCause t cause else s).still = s.still := by
  split
  · exact s.still_lowerCause t cause
  · rfl

theorem State.still_updTerm_if (p : Prop) [Decidable p] {t : Nat} {f : Terminal → Terminal} (h : ∀ x, (f x).still = x.still) :
    (if p then s.updTerm t f else s).still = s.still := by
  split
  · exact s.still_updTerm h
  · rfl

@[simp] theorem State.still_commitCauses (t : Nat) : (s.commitCauses t).still = s.still := by
  unfold State.commitCauses
  dsimp only
  by_cases h : (s.termOf t).out.on = true
  · rw [if_pos h]
  · rw [if_neg h]
    refine (State.still_updTerm_if _ _ ?_).trans ?_
    · exact fun _ => rfl
    · rw [State.still_lowerCause_if, State.still_sampleOff, State.still_lowerCause_if]

@[simp] theorem State.still_commitLatch (t : Nat) : (s.commitLatch t).still = s.still := by
  unfold State.commitLatch
  split
  · rfl
  · exact s.still_updTerm fun _ => rfl

@[simp] theorem State.still_commitEdm (f : Nat) (was : Bool) : (s.commitEdm f was).still = s.still := by
  unfold State.commitEdm
  dsimp only
  split
  · rfl
  · exact s.still_updFn fun _ => rfl

@[simp] theorem State.still_commitHalf (d : Side) : (s.commitHalf d).still = s.still := by
  unfold State.commitHalf
  exact s.still_updHalf (fun _ => rfl) fun _ => rfl

@[simp] theorem State.still_calUse (t : Nat) (wi wv : Word) : (s.calUse t wi wv).still = s.still := by
  have h (a b : Word) : (s.updTerm t fun x => { x with ana := { x.ana with tcalI := a, tcalV := b } }).still = s.still :=
    s.still_updTerm fun _ => rfl
  unfold State.calUse
  dsimp only
  split_ifs <;> simp [h]

@[simp] theorem State.still_commitBank (i : Nat) : (s.commitBank i).still = s.still := by
  have h : (s.updChip i fun y => { y with oldTerms := none }).still = s.still := s.still_updChip fun _ => rfl
  unfold State.commitBank
  dsimp only
  split
  · split
    · rw [State.still_forEach _ fun x _ => x.still_calUse _ _ _]
      refine (State.still_updView _ ?_ ?_).trans (s.still_updChip ?_) <;> exact fun _ => rfl
    · exact h
  · exact h

@[simp] theorem State.still_commitMode (ch : Nat) : (s.commitMode ch).still = s.still := by
  unfold State.commitMode
  dsimp only
  split
  · rfl
  · split
    · refine (State.still_forEach _ (fun x k => ?_) _).trans (s.still_updChan ch _)
      rw [State.still_startTerm]
      exact x.still_updTerm fun _ => rfl
    · exact s.still_updChan ch _

@[simp] theorem State.still_commitTerm (t : Nat) : (s.commitTerm t).still = s.still := by
  unfold State.commitTerm
  dsimp only
  split
  · exact State.still_updTerm _ fun _ => rfl
  · refine (State.still_updTerm _ ?_).trans (s.still_updChip ?_) <;> exact fun _ => rfl

@[simp] theorem State.still_commitCal (t : Nat) : (s.commitCal t).still = s.still := by
  unfold State.commitCal
  split <;> simp

@[simp] theorem State.still_testGuard : s.testGuard.still = s.still := foldl_keeps State.still _ State.still_abortTest _ s

@[simp] theorem State.still_commitBanks : s.commitBanks.still = s.still := by
  refine s.still_forEach (fun x i => ?_) _
  dsimp only
  split <;> rfl

@[simp] theorem State.still_drawPulse (t base : Nat) : (s.drawPulse t base).still = s.still := by
  rw [State.drawPulse, State.still_drawn]
  exact s.still_updTerm fun _ => rfl

@[simp] theorem State.still_grant (i : Nat) : (s.grant i).still = s.still := by
  unfold State.grant
  dsimp only
  refine s.still_forEach (fun x c => ?_) _
  split
  · rfl
  · rw [State.still_drawPulse]
    refine (State.still_updTerm _ ?_).trans (x.still_updLanes i _)
    exact fun _ => rfl

@[simp] theorem State.still_commitGrants : s.commitGrants.still = s.still := s.still_forEach State.still_grant _

@[simp] theorem State.still_newImage : s.newImage.still = s.still := by
  unfold State.newImage
  split <;> rfl

end

theorem State.still_dev (s : State) : s.still.dev = s.dev := rfl
theorem State.still_mon (s : State) : s.still.mon = s.mon := rfl

/-! #### What changes of the picture -/

/-- From s to t the picture changes in slots, process data, device, monitors and timers alone. -/
def State.Later (s t : State) : Prop :=
  t.still = { s.still with slot := t.slot, pdNext := t.pdNext, dev := t.dev, mon := t.mon, timer := t.still.timer }

theorem State.Later.trans {s t u : State} (h : s.Later t) (g : t.Later u) : s.Later u := by
  unfold State.Later at *
  rw [h] at g
  exact g

theorem State.Later.of_still {s t : State} (h : t.still = s.still) : s.Later t := by
  unfold State.Later
  rw [h]
  have hs : t.slot = s.slot := congrArg Still.slot h
  have hp : t.pdNext = s.pdNext := congrArg Still.pdNext h
  have hd : t.dev = s.dev := congrArg Still.dev h
  have hm : t.mon = s.mon := congrArg Still.mon h
  rw [hs, hp, hd, hm]
  rfl

theorem State.Later.refl (s : State) : s.Later s := .of_still rfl

theorem State.Later.forEach {s : State} {f : State → Nat → State} (h : ∀ (x : State) k, x.Later (f x k)) (l : List Nat) : s.Later (s.forEach l f) :=
  forEach_inv (fun y => s.Later y) f (fun y k hy => hy.trans (h y k)) s l (.refl s)

section
variable {s t : State} (h : s.Later t)
include h

theorem State.Later.clock : t.clock = s.clock := congrArg Still.clock h
theorem State.Later.frameSt : t.frameSt = s.frameSt := congrArg Still.frameSt h
theorem State.Later.fn (f : Nat) : (t.fnOf f).still = (s.fnOf f).still := congrFun (congrArg Still.fn h) f
theorem State.Later.on (i : Nat) : (t.chipOf i).on = (s.chipOf i).on := congrFun (congrArg Still.on h) i
theorem State.Later.outOn (k : Nat) : (t.termOf k).out.on = (s.termOf k).out.on :=
  congrArg Prod.fst (congrFun (congrArg Still.term h) k)

end

/-- A change of slots, device, monitors or process data alone. -/
theorem State.Later.updSlot (s : State) (p : Nat) (f : Slot → Slot) : s.Later (s.updSlot p f) := rfl
theorem State.Later.updMon (s : State) (m : Nat) (f : Mon → Mon) : s.Later (s.updMon m f) := rfl
theorem State.Later.updTimer (s : State) (i : Nat) (f : TimerU → TimerU) : s.Later (s.updTimer i f) := rfl
theorem State.Later.commitPd (s : State) : s.Later s.commitPd := rfl

/-- The end of a frame changes the slot's entry alone. -/
theorem State.still_commitSlot (s : State) (p : Nat) : (s.commitSlot p).still = { s.still with slot := (s.commitSlot p).slot } := by
  have hu {x y : State} (h : y.still = { x.still with slot := y.slot }) (f : Slot → Slot) :
      (y.updSlot p f).still = { x.still with slot := (y.updSlot p f).slot } :=
    congrArg (fun z : Still => { z with slot := (y.updSlot p f).slot }) h
  have hk {x y : State} (h : y.still = x.still) : y.still = { x.still with slot := y.slot } := by
    have hs : y.slot = x.slot := congrArg Still.slot h
    rw [h, hs]
    rfl
  have hj : (s.commitJoin p).still = { s.still with slot := (s.commitJoin p).slot } := by
    unfold State.commitJoin
    dsimp only
    split
    · refine hu ?_ _
      exact hk (by simp)
    · rfl
  have ht (x : State) : (x.commitTest p).still = { x.still with slot := (x.commitTest p).slot } := by
    unfold State.commitTest
    dsimp only
    split
    · refine hu ?_ _
      exact hk (by simp)
    · rfl
  unfold State.commitSlot
  refine hu ?_ _
  rw [ht, hj]

theorem State.Later.commitSlot (s : State) (p : Nat) : s.Later (s.commitSlot p) := by
  have h := s.still_commitSlot p
  have hp : (s.commitSlot p).pdNext = s.pdNext := (congrArg Still.pdNext h :)
  have hd : (s.commitSlot p).dev = s.dev := (congrArg Still.dev h :)
  have hm : (s.commitSlot p).mon = s.mon := (congrArg Still.mon h :)
  have ht : (s.commitSlot p).still.timer = s.still.timer := (congrArg Still.timer h :)
  unfold State.Later
  rw [hp, hd, hm, ht]
  exact h

/-- A frame's functions, monitors and connections have become current. -/
def State.commitRuled (s : State) : State := s.commitFns.monCommits.commitConns

/-- The field chips have applied their output images besides. -/
def State.commitChips (s : State) : State := s.commitRuled.forEach s.commitRuled.confChips State.commitChip

/-- Before the slots' marks are cleared: causes, latches, EDM and the lattice latches after the outputs. -/
theorem State.commitFrame_marks (s : State) : ∃ x : State, s.commitFrame = x.forEach (List.range 48) State.commitSlot ∧
    x.still = s.commitChips.still := by
  refine ⟨_, rfl, ?_⟩
  rw [State.still_commitHalf, State.still_commitHalf, State.still_forEach _ fun x f => x.still_commitEdm f _]
  unfold State.commitOutputs
  dsimp only
  rw [State.still_forEach _ State.still_commitLatch, State.still_forEach _ State.still_commitCauses]
  rfl

/-- Before the process-data bits are written: banks, modes, terminals, calibrations and tests. -/
theorem State.commitRest_marks (s : State) : ∃ x : State, s.commitRest = x.commitPd ∧ x.still = s.still := by
  refine ⟨_, rfl, ?_⟩
  rw [State.still_commitBanks, State.still_testGuard, State.still_forEach _ State.still_commitCal,
    State.still_forEach _ State.still_commitTerm, State.still_forEach _ State.still_commitMode, State.still_forEach _ State.still_commitBank]

theorem State.Later.commitRest (s : State) : s.Later s.commitRest := by
  obtain ⟨x, hx, hs⟩ := s.commitRest_marks
  rw [hx]
  exact (State.Later.of_still hs).trans (.commitPd x)

theorem State.Later.evtsStart (s : State) (m : Nat) : s.Later (s.evtsStart m) := .of_still (s.still_updMonx m _)

theorem State.Later.monRunning (s : State) : s.Later s.monRunning := by
  refine .forEach (fun x m => ?_) _
  refine State.Later.trans ?_ (.evtsStart _ m)
  refine State.Later.trans ?_ (.updMon _ m _)
  exact .of_still (x.still_updMonx m _)

/-- A state with another device entry. -/
theorem State.Later.setDev (s : State) (x : Device) : s.Later { s with dev := x } := rfl

theorem State.Later.enterRunning (s : State) : s.Later s.enterRunning := by
  unfold State.enterRunning
  dsimp only
  refine State.Later.trans ?_ (.monRunning _)
  refine State.Later.trans ?_ (.forEach (fun x i => .of_still ?_) _)
  · refine State.Later.trans ?_ (.forEach (fun x i => .of_still (x.still_updEnc i _)) _)
    refine State.Later.trans ?_ (.forEach (fun x i => .updTimer x i _) _)
    refine State.Later.trans (.setDev s _) (.forEach (fun x i => .of_still ?_) _)
    exact x.still_updTerm fun _ => rfl
  · exact x.still_updChip fun _ => rfl

theorem State.Later.enterService (s : State) : s.Later s.enterService := by
  unfold State.enterService State.zeroise
  split
  · exact rfl
  · exact rfl

theorem State.Later.commitDevice (s : State) : s.Later s.commitDevice := by
  unfold State.commitDevice
  split
  · exact .enterService s
  · split
    · split
      · have he : s.Later ((s.endCondition nDevice 0x0A05).post 0x0A06 nDevice 0 s.dev.holdCause) := .of_still (by simp)
        dsimp only
        split
        · exact he.trans (.enterRunning _)
        · exact he.trans (.setDev _ _)
      · exact .refl s
    · split
      · exact .enterRunning s
      · exact .refl s
    · exact .refl s

/-! #### Functions, monitors and connections at a commit -/

/-- t is s but for functions, monitors, encoder ports, connections, ledger and events. -/
def State.Ruled (s t : State) : Prop :=
  t = { s with
    fn := t.fn, armed := t.armed, ledger := t.ledger, mon := t.mon, monx := t.monx, monOld := t.monOld, enc := t.enc, conn := t.conn
    log := t.log, windows := t.windows, journal := t.journal, queue := t.queue }

theorem State.Ruled.refl (s : State) : s.Ruled s := rfl

theorem State.Ruled.trans {s t u : State} (h : s.Ruled t) (g : t.Ruled u) : s.Ruled u := by
  unfold State.Ruled at *
  rw [h] at g
  exact g

theorem State.Ruled.ite {s t u : State} {p : Prop} [Decidable p] (h : s.Ruled t) (g : s.Ruled u) : s.Ruled (if p then t else u) := by
  split
  · exact h
  · exact g

theorem State.Ruled.forEach {s : State} {f : State → Nat → State} (h : ∀ (x : State) k, x.Ruled (f x k)) (l : List Nat) :
    s.Ruled (s.forEach l f) := forEach_inv (fun y => s.Ruled y) f (fun y k hy => hy.trans (h y k)) s l (.refl s)

theorem State.Ruled.foldl {α : Type} {s : State} {f : State → α → State} (h : ∀ (x : State) a, x.Ruled (f x a)) (l : List α) :
    s.Ruled (l.foldl f s) := foldl_inv (fun y => s.Ruled y) f (fun y k hy => hy.trans (h y k)) l s (.refl s)

theorem State.Ruled.postL (s : State) (code : Nat) (src : Node) (sev detail : Nat) (l : Bool) : s.Ruled (s.postL code src sev detail l) := rfl
theorem State.Ruled.ledgerAdd (s : State) (kind inst ch ta tb old new : Nat) : s.Ruled (s.ledgerAdd kind inst ch ta tb old new) := rfl
theorem State.Ruled.setOld (s : State) (x : Option (Tab Mon × Tab MonX)) : s.Ruled { s with monOld := x } := rfl
theorem State.Ruled.updMon (s : State) (m : Nat) (f : Mon → Mon) : s.Ruled (s.updMon m f) := rfl
theorem State.Ruled.updMonx (s : State) (m : Nat) (f : MonX → MonX) : s.Ruled (s.updMonx m f) := rfl
theorem State.Ruled.updEnc (s : State) (i : Nat) (f : Enc → Enc) : s.Ruled (s.updEnc i f) := rfl

theorem State.Ruled.setFn (s : State) (f : Nat) (st : FnState) (cause detail term : Nat) : s.Ruled (s.setFn f st cause detail term) := by
  cases st <;> exact rfl

theorem State.Ruled.commitFn (s : State) (f : Nat) : s.Ruled (s.commitFn f) := by
  unfold State.commitFn
  split
  · exact .refl s
  · next w _ =>
    dsimp only
    refine State.Ruled.trans ?_ (.foldl (fun x k => .ledgerAdd x _ _ _ _ _ _ _) _)
    refine State.Ruled.trans ?_ (.foldl (fun x e => .postL x _ _ _ _ _) _)
    split
    · exact rfl
    · exact State.Ruled.trans (t := s.updFn f _) rfl (.setFn _ f _ _ _ _)

theorem State.Ruled.commitFns (s : State) : s.Ruled s.commitFns := by
  refine .forEach (fun x f => ?_) _
  split
  · exact .commitFn x f
  · split
    · exact .refl x
    · exact rfl

theorem State.Ruled.monKeep (s : State) (m : Nat) : s.Ruled (s.monKeep m) := by
  unfold State.monKeep
  split
  · exact .refl s
  · split
    · dsimp only
      refine State.Ruled.trans ?_ (.foldl (fun x e => .postL x _ _ _ _ _) _)
      split <;> exact rfl
    · exact rfl

theorem State.Ruled.monArm (s : State) (m : Nat) : s.Ruled (s.monArm m) := by
  unfold State.monArm
  dsimp only
  split
  · exact .refl s
  · exact ((State.Ruled.updEnc s _ _).trans (.updEnc _ _ _)).trans (.updMon _ m _)

theorem State.Ruled.monCommit (s : State) (m : Nat) : s.Ruled (s.monCommit m) := by
  unfold State.monCommit
  dsimp only
  have ha (f : Mon → Mon) (g : MonX → MonX) : s.Ruled (((s.updMon m f).updMonx m g).monArm m) :=
    ((State.Ruled.updMon s m f).trans (.updMonx _ m g)).trans (.monArm _ m)
  exact .ite (.refl s) (.ite (((ha _ _).trans (.updEnc _ _ _)).trans (.updEnc _ _ _)) (ha _ _))

theorem State.Ruled.monCommits (s : State) : s.Ruled s.monCommits := by
  have hk : s.Ruled s.monKeeps := State.Ruled.trans (.forEach State.Ruled.monKeep _) (.setOld _ none)
  exact hk.trans (.forEach State.Ruled.monCommit _)

theorem State.Ruled.commitConns (s : State) : s.Ruled s.commitConns := by
  refine .forEach (fun x c => ?_) _
  exact rfl

theorem State.Ruled.commitRuled (s : State) : s.Ruled s.commitRuled :=
  ((State.Ruled.commitFns s).trans (.monCommits _)).trans (.commitConns _)

section
variable {s t : State} (h : s.Ruled t)
include h

theorem State.Ruled.still : t.still = { s.still with mon := t.mon, fn := t.still.fn } := by
  rw [h]
  rfl
theorem State.Ruled.dev : t.dev = s.dev := (congrArg State.dev h :)
theorem State.Ruled.pkg : t.pkg = s.pkg := (congrArg State.pkg h :)
theorem State.Ruled.slot : t.slot = s.slot := (congrArg State.slot h :)
theorem State.Ruled.chip : t.chip = s.chip := (congrArg State.chip h :)
theorem State.Ruled.view : t.view = s.view := (congrArg State.view h :)
theorem State.Ruled.clock : t.clock = s.clock := (congrArg State.clock h :)
theorem State.Ruled.frameSt : t.frameSt = s.frameSt := (congrArg State.frameSt h :)
theorem State.Ruled.chan : t.chan = s.chan := (congrArg State.chan h :)

end

/-! #### The field chips' outputs -/

/-- From s to t the picture changes in committed ON bits alone. -/
def State.Outs (s t : State) : Prop := t.still = { s.still with on := t.still.on, term := t.still.term }

theorem State.Outs.trans {s t u : State} (h : s.Outs t) (g : t.Outs u) : s.Outs u := by
  unfold State.Outs at *
  rw [h] at g
  exact g

theorem State.Outs.clock {s t : State} (h : s.Outs t) : t.clock = s.clock := congrArg Still.clock h
theorem State.Outs.frameSt {s t : State} (h : s.Outs t) : t.frameSt = s.frameSt := congrArg Still.frameSt h

theorem State.Outs.forEach {s : State} {f : State → Nat → State} (h : ∀ (x : State) k, x.Outs (f x k)) (l : List Nat) :
    s.Outs (s.forEach l f) := forEach_inv (fun y => s.Outs y) f (fun y k hy => hy.trans (h y k)) s l rfl

theorem State.Outs.updTerm (s : State) (t : Nat) (f : Terminal → Terminal) : s.Outs (s.updTerm t f) := rfl
theorem State.Outs.updChip (s : State) (i : Nat) (f : Chip → Chip) : s.Outs (s.updChip i f) := rfl

theorem State.Outs.commitChip (s : State) (i : Nat) : s.Outs (s.commitChip i) := by
  unfold State.commitChip
  split
  · exact State.Outs.trans (.updChip s i _) (.forEach (fun x t => .updTerm x t _) _)
  · exact State.Outs.trans (.updChip s i _) rfl

theorem State.Outs.commitChips (s : State) : s.commitRuled.Outs s.commitChips := .forEach State.Outs.commitChip _

/-! #### The commit as a whole -/

/-- The commit's edge, frame status and parameters (R35, R40). -/
def State.commitStart (s : State) : State := s.toCommit.commitClock

/-- What stands at a commit before the device's own changes. -/
def State.committing (s : State) : State := s.commitStart.commitFrame.commitRest

/-- The end of a commit: the package that applies, start tokens, gates, and the sides' image. -/
def State.commitEnd (s : State) : State := s.commitPkg.commitGrants.settle.newImage

theorem exec_commit (s : State) : exec .commit s = .next s.committing.commitDevice.commitEnd := rfl

theorem State.gatesSafe_newImage {s : State} (h : s.gatesSafe) : s.newImage.gatesSafe := by
  unfold State.newImage
  split
  · exact fun k hk ht => h k hk ht
  · exact h

theorem State.commitEnd_gatesSafe (s : State) : s.commitEnd.gatesSafe := State.gatesSafe_newImage (State.settle_gatesSafe _)

theorem State.commitEnd_still {s : State} (h : s.dev.applyPkg = false) : s.commitEnd.still = s.still := by
  rw [State.commitEnd, State.still_newImage, State.still_settle, State.still_commitGrants, State.commitPkg, h]
  rfl

theorem State.committing_later (s : State) : s.commitStart.commitChips.Later s.committing := by
  obtain ⟨x, hx, hs⟩ := s.commitStart.commitFrame_marks
  refine State.Later.trans (State.Later.of_still hs) (State.Later.trans ?_ (.commitRest _))
  rw [hx]
  exact .forEach State.Later.commitSlot _

/-- Up to the device's own changes, the steps after the functions and monitors leave all but outputs, slots and process data. -/
theorem State.committing_keeps (s : State) {β : Type} (g : Still → β) (hs : ∀ x l, g { x with slot := l } = g x)
    (hp : ∀ x l, g { x with pdNext := l } = g x) (ho : ∀ x a b, g { x with on := a, term := b } = g x) :
    g s.committing.still = g s.commitStart.commitRuled.still := by
  obtain ⟨x, hx, hxs⟩ := s.commitStart.commitFrame_marks
  obtain ⟨y, hy, hys⟩ := s.commitStart.commitFrame.commitRest_marks
  have hpd : y.commitPd.still = { y.still with pdNext := [] } := rfl
  have hc : g s.commitStart.commitChips.still = g s.commitStart.commitRuled.still :=
    forEach_keeps (fun z => g z.still) _ (fun z i => by
      rw [State.Outs.commitChip z i, ho]) _ _
  have hl : g (x.forEach (List.range 48) State.commitSlot).still = g x.still :=
    forEach_keeps (fun z => g z.still) _ (fun z i => by
      rw [State.still_commitSlot z i, hs]) _ _
  rw [State.committing, hy, hpd, hp, hys, hx, hl, hxs, hc]

theorem State.committing_dev (s : State) : s.committing.dev = s.dev :=
by
  have hk := s.committing_keeps Still.dev (fun _ _ => rfl) (fun _ _ => rfl) fun _ _ _ => rfl
  rw [State.still_dev, State.still_dev] at hk
  rw [hk, (State.Ruled.commitRuled s.commitStart).dev]
  rfl

/-! #### The device's own changes -/

theorem State.monRunning_dev (s : State) : s.monRunning.dev = s.dev := by
  have he (x : State) (m : Nat) : (x.evtsStart m).dev = x.dev := rfl
  unfold State.monRunning
  refine forEach_keeps State.dev _ ?_ _ _
  intro x m
  rw [he]
  rfl

theorem State.enterRunning_dev (s : State) : s.enterRunning.dev = { s.dev with st := .running } := by
  have keep (f : State → Nat → State) (h : ∀ x k, (f x k).dev = x.dev) (x : State) (l : List Nat) : (x.forEach l f).dev = x.dev :=
    forEach_keeps State.dev f h x l
  unfold State.enterRunning
  dsimp only
  rw [State.monRunning_dev]
  refine (keep _ ?_ _ _).trans ((keep _ ?_ _ _).trans ((keep _ ?_ _ _).trans ((keep _ ?_ _ _).trans rfl)))
  · exact fun _ _ => rfl
  · exact fun _ _ => rfl
  · exact fun _ _ => rfl
  · exact fun _ _ => rfl

theorem State.enterService_dev (s : State) : s.enterService.dev.applyPkg = s.dev.applyPkg ∧ s.enterService.dev.st = .service := by
  unfold State.enterService State.zeroise
  split <;> exact ⟨rfl, rfl⟩

theorem State.commitDevice_applyPkg (s : State) : s.commitDevice.dev.applyPkg = s.dev.applyPkg := by
  unfold State.commitDevice
  split
  · exact s.enterService_dev.1
  · split
    · split
      · dsimp only
        split
        · rw [State.enterRunning_dev]
          rfl
        · rfl
      · rfl
    · split
      · rw [State.enterRunning_dev]
      · rfl
    · rfl

/-- A commit without a package ends in the picture that the device's own changes leave. -/
theorem State.commit_still {s : State} (h : s.dev.applyPkg = false) :
    s.committing.commitDevice.commitEnd.still = s.committing.commitDevice.still :=
  State.commitEnd_still (by rw [State.commitDevice_applyPkg, State.committing_dev, h])

/-- Its later steps leave what it makes current. -/
theorem State.commit_later {s : State} (h : s.dev.applyPkg = false) :
    s.commitStart.commitChips.Later s.committing.commitDevice.commitEnd :=
  (s.committing_later.trans (.commitDevice _)).trans (.of_still (State.commit_still h))

/-! ### Working buffers of functions at a commit (R36, R250) -/

/-- A working buffer has taken function x to y. -/
def FnWork.ruled (w : FnWork) (x y : Fn) : Prop :=
  y.next = none ∧ y.latched = w.latched ∧ y.dem = w.dem ∧ y.pres = w.pres ∧ y.cond = w.cond ∧
  (w.chg = none → y.st = x.st ∧ y.cause = x.cause) ∧
  (∀ st c d k, w.chg = some (st, c, d, k) → y.st = st ∧ y.cause = c ∧ y.detail = d ∧ y.term = k)

/-- The discard of a working buffer has taken function x to y. -/
def Fn.discarded (x y : Fn) : Prop := y.st = x.st ∧ y.cause = x.cause ∧ y.next = none

/-- Both are read from the still picture. -/
theorem FnWork.ruled_congr {w : FnWork} {x y z : Fn} (h : z.still = y.still) (g : w.ruled x y) : w.ruled x z := by
  obtain ⟨h1, h2, h3, h4, h5, h6, h7⟩ := g
  have e1 : z.next = y.next := (congrArg Fn.next h :)
  have e2 : z.latched = y.latched := (congrArg Fn.latched h :)
  have e3 : z.dem = y.dem := (congrArg Fn.dem h :)
  have e4 : z.pres = y.pres := (congrArg Fn.pres h :)
  have e5 : z.cond = y.cond := (congrArg Fn.cond h :)
  have e6 : z.st = y.st := (congrArg Fn.st h :)
  have e7 : z.cause = y.cause := (congrArg Fn.cause h :)
  have e8 : z.detail = y.detail := (congrArg Fn.detail h :)
  have e9 : z.term = y.term := (congrArg Fn.term h :)
  unfold FnWork.ruled
  rw [e1, e2, e3, e4, e5, e6, e7, e8, e9]
  exact ⟨h1, h2, h3, h4, h5, h6, h7⟩

theorem Fn.discarded_congr {x y z : Fn} (h : z.still = y.still) (g : x.discarded y) : x.discarded z := by
  have e1 : z.next = y.next := (congrArg Fn.next h :)
  have e6 : z.st = y.st := (congrArg Fn.st h :)
  have e7 : z.cause = y.cause := (congrArg Fn.cause h :)
  unfold Fn.discarded
  rw [e1, e6, e7]
  exact g

/-- A function without a working buffer stays. -/
theorem State.commitFn_none {s : State} {f : Nat} (h : (s.fnOf f).next = none) : s.commitFn f = s := by
  rw [State.commitFn, h]

/-- The record with a working buffer's values, before its change of state. -/
def FnWork.taken (w : FnWork) (x : Fn) : Fn :=
  { x with
    next := none, cur := [], latched := w.latched, was := w.was, dem := w.dem, pres := w.pres, cond := w.cond
    startPrev := w.startPrev, vars := w.sets.foldl (fun (v : Tab Nat) (e : Nat × Nat) => Tab.set 0 v e.1 e.2) x.vars }

/-- The functions' records once a buffer is committed. -/
theorem State.commitFn_fn {s : State} {f : Nat} {w : FnWork} (h : (s.fnOf f).next = some w) : (s.commitFn f).fn =
    (match w.chg with
      | none => s.updFn f w.taken
      | some (st, c, d, t) => (s.updFn f w.taken).setFn f st c.toNat d.toNat t : State).fn := by
  rw [State.commitFn, h]
  dsimp only
  refine (foldl_keeps State.fn _ ?_ _ _).trans ((foldl_keeps State.fn _ ?_ _ _).trans ?_)
  · exact fun _ _ => rfl
  · exact fun _ _ => rfl
  · rfl

theorem State.commitFn_fnOf {s : State} {f : Nat} {w : FnWork} (h : (s.fnOf f).next = some w) (k : Nat) :
    (k = f → w.ruled (s.fnOf f) ((s.commitFn f).fnOf k)) ∧ (k ≠ f → (s.commitFn f).fnOf k = s.fnOf k) := by
  have hfn := State.commitFn_fn h
  have hu : (s.updFn f w.taken).fnOf f = w.taken (s.fnOf f) := by rw [State.fnOf_updFn, if_pos rfl]
  have ho (hk : k ≠ f) : (s.updFn f w.taken).fnOf k = s.fnOf k := by rw [State.fnOf_updFn, if_neg hk]
  cases hc : w.chg with
  | none =>
    rw [hc] at hfn
    have hx : (s.commitFn f).fnOf k = (s.updFn f w.taken).fnOf k := by rw [State.fnOf, hfn]; rfl
    rw [hx]
    refine ⟨?_, ho⟩
    rintro rfl
    rw [hu]
    refine ⟨rfl, rfl, rfl, rfl, rfl, fun _ => ⟨rfl, rfl⟩, fun st c d t h => ?_⟩
    rw [hc] at h
    cases h
  | some e =>
    obtain ⟨st, c, d, t⟩ := e
    rw [hc] at hfn
    have hx : (s.commitFn f).fnOf k = ((s.updFn f w.taken).setFn f st c.toNat d.toNat t).fnOf k := by rw [State.fnOf, hfn]; rfl
    rw [hx, State.fnOf_setFn]
    refine ⟨fun hk => ?_, fun hk => by rw [if_neg hk, ho hk]⟩
    rw [if_pos hk, hu]
    refine ⟨rfl, rfl, rfl, rfl, rfl, fun h => ?_, fun st' c' d' t' h => ?_⟩
    · rw [hc] at h
      cases h
    · rw [hc] at h
      cases h
      exact ⟨rfl, BitVec.ofNat_toNat .., BitVec.ofNat_toNat .., rfl⟩

/-- One function's turn at a commit of the frame that s ends. -/
def State.commitTurn (s x : State) (f : Nat) : State :=
  if (s.slotOf (s.fSlot f)).verified then x.commitFn f
  else match (x.fnOf f).next with
    | none => x
    | some _ => x.dropFn f

theorem State.commitFns_eq (s : State) : s.commitFns = s.forEach s.fns s.commitTurn := rfl

theorem State.dropFn_discarded (x : State) (f : Nat) : (x.fnOf f).discarded ((x.dropFn f).fnOf f) := by
  rw [State.dropFn, State.fnOf_updFn, if_pos rfl]
  exact ⟨rfl, rfl, rfl⟩

theorem State.commitTurn_other (s x : State) {f k : Nat} (h : k ≠ f) : (s.commitTurn x f).fnOf k = x.fnOf k := by
  unfold State.commitTurn
  split
  · cases hn : (x.fnOf f).next with
    | none => rw [State.commitFn_none hn]
    | some w => exact (State.commitFn_fnOf hn k).2 h
  · split
    · rfl
    · exact (x.fnOf_dropFn f k).2 h

/-- The turn of a function whose slot has verified. -/
theorem State.commitTurn_verified {s x : State} {f : Nat} (hv : (s.slotOf (s.fSlot f)).verified = true) {w : FnWork} :
    ((x.fnOf f).next = some w → w.ruled (x.fnOf f) ((s.commitTurn x f).fnOf f)) ∧
    ((x.fnOf f).next = none → (s.commitTurn x f).fnOf f = x.fnOf f) := by
  rw [State.commitTurn, if_pos hv]
  exact ⟨fun h => (State.commitFn_fnOf h f).1 rfl, fun h => by rw [State.commitFn_none h]⟩

/-- The turn of a function whose slot has not. -/
theorem State.commitTurn_unverified {s x : State} {f : Nat} (hv : (s.slotOf (s.fSlot f)).verified = false) :
    (x.fnOf f).discarded ((s.commitTurn x f).fnOf f) := by
  rw [State.commitTurn, if_neg (by rw [hv]; exact Bool.false_ne_true)]
  split
  · next hn => exact ⟨rfl, rfl, hn⟩
  · exact x.dropFn_discarded f

/-- A commit applies the working buffer of a function whose slot has verified: its turns leave the others, and a later turn of its own
finds no buffer. -/
theorem State.commitFns_verified {s : State} {f : Nat} (hf : f ∈ s.fns) (hv : (s.slotOf (s.fSlot f)).verified = true) {w : FnWork}
    (hw : (s.fnOf f).next = some w) : w.ruled (s.fnOf f) (s.commitFns.fnOf f) := by
  have kept (y : State) (k : Nat) (hy : w.ruled (s.fnOf f) (y.fnOf f)) : w.ruled (s.fnOf f) ((s.commitTurn y k).fnOf f) := by
    by_cases hk : f = k
    · subst hk
      rw [(s.commitTurn_verified hv (w := w)).2 hy.1]
      exact hy
    · rw [s.commitTurn_other y hk]
      exact hy
  have turn (y : State) (hy : y.fnOf f = s.fnOf f ∨ w.ruled (s.fnOf f) (y.fnOf f)) : w.ruled (s.fnOf f) ((s.commitTurn y f).fnOf f) := by
    obtain hy | hy := hy
    · have ht := (s.commitTurn_verified (x := y) hv (w := w)).1 (by rw [hy, hw])
      rwa [hy] at ht
    · exact kept y f hy
  obtain ⟨a, b, hab⟩ := List.append_of_mem hf
  rw [State.commitFns_eq, hab, State.forEach_split]
  refine forEach_inv (fun y => w.ruled (s.fnOf f) (y.fnOf f)) _ kept _ b (turn _ ?_)
  refine forEach_inv (fun y => y.fnOf f = s.fnOf f ∨ w.ruled (s.fnOf f) (y.fnOf f)) _ (fun y k hy => ?_) s a (.inl rfl)
  by_cases hk : f = k
  · exact .inr (hk ▸ turn y hy)
  · rwa [s.commitTurn_other y hk]

/-- It discards that of a function whose slot has not. -/
theorem State.commitFns_unverified {s : State} {f : Nat} (hf : f ∈ s.fns) (hv : (s.slotOf (s.fSlot f)).verified = false) :
    (s.fnOf f).discarded (s.commitFns.fnOf f) := by
  have turn (y : State) (hy : (y.fnOf f).st = (s.fnOf f).st ∧ (y.fnOf f).cause = (s.fnOf f).cause) :
      (s.fnOf f).discarded ((s.commitTurn y f).fnOf f) := by
    obtain ⟨hst, hc, hn⟩ := s.commitTurn_unverified (x := y) hv
    exact ⟨hst.trans hy.1, hc.trans hy.2, hn⟩
  have step (y : State) (k : Nat) (P : Fn → Prop) (h : P (y.fnOf f)) (hs : P ((s.commitTurn y f).fnOf f)) :
      P ((s.commitTurn y k).fnOf f) := by
    by_cases hk : f = k
    · exact hk ▸ hs
    · rwa [s.commitTurn_other y hk]
  obtain ⟨a, b, hab⟩ := List.append_of_mem hf
  rw [State.commitFns_eq, hab, State.forEach_split]
  refine forEach_inv (fun y => (s.fnOf f).discarded (y.fnOf f)) _ (fun y k hy => step y k _ hy (turn y ⟨hy.1, hy.2.1⟩)) _ b (turn _ ?_)
  refine forEach_inv (fun y => (y.fnOf f).st = (s.fnOf f).st ∧ (y.fnOf f).cause = (s.fnOf f).cause) _ (fun y k hy => ?_) s a ⟨rfl, rfl⟩
  obtain ⟨hst, hc, -⟩ := turn y hy
  exact step y k (fun z => z.st = (s.fnOf f).st ∧ z.cause = (s.fnOf f).cause) hy ⟨hst, hc⟩

/-! Monitors and connections leave the functions. -/

theorem State.monKeep_fn (s : State) (m : Nat) : (s.monKeep m).fn = s.fn := by
  unfold State.monKeep
  split
  · rfl
  · split
    · dsimp only
      refine (foldl_keeps State.fn _ ?_ _ _).trans ?_
      · exact fun _ _ => rfl
      · split <;> rfl
    · rfl

theorem State.monArm_fn (s : State) (m : Nat) : (s.monArm m).fn = s.fn := by
  unfold State.monArm
  dsimp only
  split
  · rfl
  · rw [State.updMon_fn, State.updEnc_fn, State.updEnc_fn]

/-- A monitor at a commit keeps its position, counts and speeds, and in HOLDING it stops (R298). -/
theorem State.monCommit_of {s : State} {m : Nat} (h : s.msrc m ≠ 0) {β : Type} (π : State → β)
    (he : ∀ (x : State) i f, π (x.updEnc i f) = π x) : ∃ (f : Mon → Mon) (g : MonX → MonX),
    (∀ x, (f x).pos = x.pos ∧ (f x).cntA = x.cntA ∧ (f x).cntB = x.cntB ∧ (f x).va = x.va ∧ (f x).vb = x.vb) ∧
    (s.dev.st = .holding → (s.monOf m).sstate ≠ 0 → ∀ x, (f x).sstate = 3) ∧
    π (s.monCommit m) = π (((s.updMon m f).updMonx m g).monArm m) := by
  unfold State.monCommit
  dsimp only
  rw [if_neg h]
  refine ⟨_, _, ?_, ?_, (apply_ite π _ _ _).trans ((if_congr Iff.rfl ((he _ _ _).trans (he _ _ _)) rfl).trans (ite_self _))⟩
  · exact fun _ => ⟨rfl, rfl, rfl, rfl, rfl⟩
  · exact fun hd hs _ => if_pos ⟨hd, hs⟩

theorem State.monCommit_unused {s : State} {m : Nat} (h : s.msrc m = 0) : s.monCommit m = s := if_pos h

theorem State.monCommit_fn (s : State) (m : Nat) : (s.monCommit m).fn = s.fn := by
  by_cases h : s.msrc m = 0
  · rw [State.monCommit_unused h]
  · obtain ⟨f, g, -, -, hf⟩ := State.monCommit_of h State.fn fun _ _ _ => rfl
    rw [hf]
    exact State.monArm_fn _ m

theorem State.commitRuled_fn (s : State) : s.commitRuled.fn = s.commitFns.fn := by
  have hk (x : State) : x.monKeeps.fn = x.fn := forEach_keeps State.fn _ State.monKeep_fn _ _
  have hm (x : State) : x.monCommits.fn = x.monKeeps.fn := forEach_keeps State.fn _ State.monCommit_fn _ _
  have hc (x : State) : x.commitConns.fn = x.fn := by
    refine forEach_keeps State.fn _ ?_ _ _
    exact fun _ _ => rfl
  rw [State.commitRuled, hc, hm, hk]

/-! ### Functions at the end of a commit without a package (R36) -/

theorem State.commit_fn {s : State} (h : s.dev.applyPkg = false) (f : Nat) :
    (s.committing.commitDevice.commitEnd.fnOf f).still = (s.commitStart.commitFns.fnOf f).still := by
  have hc : s.commitStart.commitChips.still.fn f = s.commitStart.commitRuled.still.fn f :=
    congrFun (forEach_keeps (fun x => x.still.fn) State.commitChip (fun x i => by rw [State.Outs.commitChip x i]) _ _) f
  rw [(State.commit_later h).fn f]
  refine hc.trans ?_
  show (s.commitStart.commitRuled.fnOf f).still = _
  rw [State.fnOf, State.commitRuled_fn]
  rfl

/-- Settles O43: ARMED_TIMEOUT evaluates into the working buffer, a commit applies the buffers of verified slots and discards the others,
and its later steps leave the functions' states. -/
theorem functionEvaluationAndCommit : Obligations.FunctionEvaluationAndCommit := by
  refine ⟨armedTimeout_waits, fun s f => ?_, fun s _ hp => ⟨_, exec_commit s, fun f hf => ⟨fun hv w hw => ?_, fun hv => ?_⟩⟩⟩
  · intro n hst hn hc
    obtain ⟨t, ht, hf, hg, hx⟩ := armedTimeout_evaluates s f ((s.armExpired_iff f.val).mpr ⟨hst, hn, hc⟩)
    exact ⟨t, _, ht, hf, hg, hx, fun hm => State.evalFn_decided hst hm⟩
  · exact FnWork.ruled_congr (State.commit_fn hp f) (State.commitFns_verified (s := s.commitStart) hf hv hw)
  · exact Fn.discarded_congr (State.commit_fn hp f) (State.commitFns_unverified (s := s.commitStart) hf hv)

/-! ### What happens at one monitor (R278, R296) -/

/-- A slot stands above the monitor, and the device above the slot (R362): a monitor is not above itself. -/
theorem State.ancestors_nMon (s : State) (m : Nat) : s.ancestors (nMon m) = [nSlot (s.fSlot (fld (s.cw cMON m 3) 71 59)), nDevice] := rfl

theorem State.nMon_not_ancestor (s : State) (m : Nat) : nMon m ∉ s.ancestors (nMon m) := by
  rw [State.ancestors_nMon]
  intro h
  simp [nMon, nSlot, nDevice] at h

/-- From s to t monitor m alone has changed, and its events were posted, or kept for the commit while a frame computes (R36). -/
structure State.Watch (m : Nat) (s t : State) : Prop where
  frame : t = { s.takeEvents t with mon := t.mon, monx := t.monx }
  other : ∀ j, j ≠ m → t.monOf j = s.monOf j ∧ t.monxOf j = s.monxOf j
  log   : ∀ e ∈ s.log, e ∈ t.log
  posts : ∀ e ∈ (s.monxOf m).posts, e ∈ (t.monxOf m).posts
  opens : s.opensAt (· = nMon m) t
  quiet : s.monOld ≠ none → s.takeEvents t = s

section
variable {m : Nat} {s t : State}

theorem State.Watch.refl (m : Nat) (s : State) : s.Watch m s :=
  ⟨rfl, fun _ _ => ⟨rfl, rfl⟩, fun _ h => h, fun _ h => h, State.opensAt_of_eq rfl, fun _ => rfl⟩

theorem State.Watch.monOld (h : s.Watch m t) : t.monOld = s.monOld := (congrArg State.monOld h.frame :)
theorem State.Watch.timeWord (h : s.Watch m t) : t.timeWord = s.timeWord := by rw [h.frame]; rfl
theorem State.Watch.ancestors (h : s.Watch m t) (n : Node) : t.ancestors n = s.ancestors n := by
  have hp : ∀ n, t.parent n = s.parent n := by
    intro n
    rw [h.frame]
    rfl
  exact State.ancestorsF_congr hp 10 n

theorem State.Watch.trans {u : State} (h : s.Watch m t) (g : t.Watch m u) : s.Watch m u := by
  refine ⟨?_, fun j hj => ?_, fun e he => g.log e (h.log e he), fun e he => g.posts e (h.posts e he), h.opens.trans g.opens, fun ho => ?_⟩
  · have hu := g.frame
    rw [h.frame] at hu
    exact hu
  · obtain ⟨h1, h2⟩ := h.other j hj
    obtain ⟨g1, g2⟩ := g.other j hj
    exact ⟨g1.trans h1, g2.trans h2⟩
  · have hq := h.quiet ho
    have gq := g.quiet (by rw [h.monOld]; exact ho)
    have e1 : t.log = s.log := (congrArg State.log hq :)
    have e2 : t.windows = s.windows := (congrArg State.windows hq :)
    have e3 : t.journal = s.journal := (congrArg State.journal hq :)
    have e4 : t.queue = s.queue := (congrArg State.queue hq :)
    have g1 : u.log = t.log := (congrArg State.log gq :)
    have g2 : u.windows = t.windows := (congrArg State.windows gq :)
    have g3 : u.journal = t.journal := (congrArg State.journal gq :)
    have g4 : u.queue = t.queue := (congrArg State.queue gq :)
    rw [State.takeEvents, g1, g2, g3, g4, e1, e2, e3, e4]

theorem State.Watch.updMon (s : State) (m : Nat) (f : Mon → Mon) : s.Watch m (s.updMon m f) := by
  refine ⟨rfl, fun j hj => ⟨?_, rfl⟩, fun _ h => h, fun _ h => h, State.opensAt_of_eq rfl, fun _ => rfl⟩
  rw [State.monOf_updMon, if_neg hj]

theorem State.Watch.updMonx (s : State) (m : Nat) (f : MonX → MonX) (hf : ∀ x, ∀ e ∈ x.posts, e ∈ (f x).posts) :
    s.Watch m (s.updMonx m f) := by
  refine ⟨rfl, fun j hj => ⟨rfl, ?_⟩, fun _ h => h, fun e he => ?_, State.opensAt_of_eq rfl, fun _ => rfl⟩
  · rw [State.monxOf_updMonx, if_neg hj]
  · rw [State.monxOf_updMonx, if_pos rfl]
    exact hf _ e he

theorem State.Watch.monPost (s : State) (m code sev detail : Nat) (l : Bool) : s.Watch m (s.monPost m code sev detail l) := by
  unfold State.monPost
  split
  · next hn =>
    exact ⟨rfl, fun _ _ => ⟨rfl, rfl⟩, fun _ => List.mem_append_left _, fun _ h => h, s.opensAt_postL code (nMon m) sev detail l,
      fun h => absurd hn h⟩
  · exact .updMonx s m _ fun _ _ => List.mem_append_left _

/-- From s to t monitor m has told an event: reported at once outside a frame's evaluation, and kept for the commit otherwise. -/
def State.told (s t : State) (m code sev detail : Nat) (l : Bool) : Prop :=
  (s.monOld = none → s.reports t code (nMon m) sev detail) ∧ (s.monOld ≠ none → (code, sev, detail, l) ∈ (t.monxOf m).posts)

theorem State.told_mono {u : State} {code sev detail : Nat} {l : Bool} (h : s.told t m code sev detail l) (g : t.Watch m u) :
    s.told u m code sev detail l :=
  ⟨fun ho => State.reports_mono (h.1 ho) g.log, fun ho => g.posts _ (h.2 ho)⟩

/-- Windows that the monitor itself has opened fold no event of it. -/
theorem State.Watch.folds (h : s.Watch m t) (hf : t.folds (nMon m) = true) : s.folds (nMon m) = true := by
  unfold State.folds at *
  rw [List.any_eq_true] at *
  obtain ⟨w, hw, hc⟩ := hf
  rw [h.ancestors] at hc
  obtain ⟨v, hv, hn⟩ | hn := h.opens w hw
  · exact ⟨v, hv, by rwa [hn]⟩
  · rw [hn] at hc
    exact absurd (List.contains_iff_mem.mp hc) (s.nMon_not_ancestor m)

theorem State.Watch.told (h : s.Watch m t) (code sev detail : Nat) (l : Bool) :
    s.told (t.monPost m code sev detail l) m code sev detail l := by
  have ho := h.monOld
  unfold State.monPost
  refine ⟨fun hs => ?_, fun hs => ?_⟩
  · rw [ho, hs]
    have hr := t.reports_postL code (nMon m) sev detail l
    unfold State.reports at hr ⊢
    rw [h.timeWord] at hr
    exact hr.imp_left h.folds
  · rw [ho]
    split
    · next hn => exact absurd hn hs
    · rw [State.monxOf_updMonx, if_pos rfl]
      exact List.mem_append_right _ List.mem_cons_self

end

/-! #### A fault (R278) -/

/-- One pending event of a monitor in fault is withdrawn (R296). -/
def State.withdraw (m : Nat) (z : State) (k : Nat) : State :=
  (z.updMonx m fun y => { y with events := Tab.set {} y.events k { st := 1 } }).monPost m 0x0503 0 (k * 2 ^ 25 + 2 ^ 23) false

/-- The monitor is in fault. -/
def State.fault (s : State) (m code : Nat) : State :=
  (s.updMon m fun x => { x with mflt := BitVec.ofNat 4 code, valid := false, still := false }).updMonx m fun y => { y with agree := 0 }

/-- Its event is told, and its events are not yet withdrawn. -/
def State.faulted (s : State) (m code : Nat) : State := (s.fault m code).monPost m 0x0501 3 code true

/-- The events of a monitor that pend. -/
def State.pending_ (s : State) (m : Nat) : List Nat := (List.range 8).filter fun k => (Tab.get ({} : PosEvent) (s.monxOf m).events k).st = 2

theorem State.monFault_eq {s : State} {m : Nat} (h : (s.monOf m).mflt = 0) (code : Nat) :
    s.monFault m code = (s.faulted m code).forEach (s.pending_ m) (State.withdraw m) := by
  rw [State.monFault, if_neg (not_not.mpr h)]
  rfl

theorem State.monPost_mon (s : State) (m code sev detail : Nat) (l : Bool) : (s.monPost m code sev detail l).mon = s.mon := by
  unfold State.monPost
  split <;> rfl

/-- Posting leaves a monitor's events and counts. -/
theorem State.monPost_events (s : State) (m code sev detail : Nat) (l : Bool) (j : Nat) :
    ((s.monPost m code sev detail l).monxOf j).events = (s.monxOf j).events ∧
    ((s.monPost m code sev detail l).monxOf j).agree = (s.monxOf j).agree := by
  unfold State.monPost
  split
  · exact ⟨rfl, rfl⟩
  · rw [State.monxOf_updMonx]
    split
    · next h => rw [h]; exact ⟨rfl, rfl⟩
    · exact ⟨rfl, rfl⟩

theorem State.Watch.fault (s : State) (m code : Nat) : s.Watch m (s.fault m code) := by
  refine State.Watch.trans (.updMon s m _) (.updMonx _ m _ ?_)
  exact fun _ _ h => h

theorem State.Watch.faulted (s : State) (m code : Nat) : s.Watch m (s.faulted m code) := (State.Watch.fault s m code).trans (.monPost _ m _ _ _ _)

theorem State.Watch.withdraw (z : State) (m k : Nat) : z.Watch m (z.withdraw m k) := by
  refine State.Watch.trans (.updMonx z m _ ?_) (.monPost _ m _ _ _ _)
  exact fun _ _ h => h

theorem State.Watch.withdrawn (s : State) (m : Nat) (l : List Nat) : s.Watch m (s.forEach l (State.withdraw m)) :=
  forEach_inv (fun z => s.Watch m z) _ (fun z k h => h.trans (.withdraw z m k)) s l (.refl m s)

/-- The withdrawal of an event leaves the others, the monitor and its count. -/
theorem State.withdraw_events (z : State) (m k j : Nat) : Tab.get {} ((z.withdraw m k).monxOf m).events j =
    if j = k then ({ st := 1 } : PosEvent) else Tab.get {} (z.monxOf m).events j := by
  rw [State.withdraw, (State.monPost_events _ _ _ _ _ _ _).1, State.monxOf_updMonx, if_pos rfl]
  exact Tab.get_set ({} : PosEvent) { st := 1 } (z.monxOf m).events k j

theorem State.withdraw_agree (z : State) (m k : Nat) : ((z.withdraw m k).monxOf m).agree = (z.monxOf m).agree := by
  rw [State.withdraw, (State.monPost_events _ _ _ _ _ _ _).2, State.monxOf_updMonx, if_pos rfl]

theorem State.withdraw_mon (z : State) (m k : Nat) : (z.withdraw m k).mon = z.mon := by
  rw [State.withdraw, State.monPost_mon]
  rfl

/-- Every listed event is IDLE afterwards, and every other as it was. -/
theorem State.withdrawn_events (s : State) (m : Nat) (l : List Nat) (j : Nat) :
    Tab.get {} ((s.forEach l (State.withdraw m)).monxOf m).events j =
      if j ∈ l then ({ st := 1 } : PosEvent) else Tab.get {} (s.monxOf m).events j := by
  induction l generalizing s with
  | nil => rfl
  | cons k r ih =>
    refine (ih (s.withdraw m k)).trans ?_
    rw [State.withdraw_events]
    by_cases hr : j ∈ r
    · rw [if_pos hr, if_pos (List.mem_cons_of_mem k hr)]
    · rw [if_neg hr]
      by_cases hk : j = k
      · rw [if_pos hk, if_pos (hk ▸ List.mem_cons_self)]
      · rw [if_neg hk, if_neg]
        rintro (_ | ⟨_, h⟩)
        · exact hk rfl
        · exact hr h

/-- Every listed event is told. -/
theorem State.withdrawn_told {s x : State} {m : Nat} (h : s.Watch m x) {l : List Nat} {k : Nat} (hk : k ∈ l) :
    s.told (x.forEach l (State.withdraw m)) m 0x0503 0 (k * 2 ^ 25 + 2 ^ 23) false := by
  obtain ⟨a, b, rfl⟩ := List.append_of_mem hk
  rw [State.forEach_split]
  refine State.told_mono ?_ (.withdrawn _ m b)
  refine State.Watch.told ((h.trans (.withdrawn x m a)).trans (.updMonx _ m _ ?_)) _ _ _ _
  exact fun _ _ hp => hp

/-- A fault of a monitor without one. -/
theorem State.monFault_spec {s : State} {m : Nat} (h : (s.monOf m).mflt = 0) (code : Nat) : let t := s.monFault m code
    s.Watch m t ∧ t.monOf m = { s.monOf m with mflt := BitVec.ofNat 4 code, valid := false, still := false } ∧
    (t.monxOf m).agree = 0 ∧ s.told t m 0x0501 3 code true ∧
    (∀ k ∈ s.pending_ m, s.told t m 0x0503 0 (k * 2 ^ 25 + 2 ^ 23) false) ∧
    ∀ k, Tab.get {} (t.monxOf m).events k = if k ∈ s.pending_ m then ({ st := 1 } : PosEvent) else Tab.get {} (s.monxOf m).events k := by
  rw [State.monFault_eq h]
  have hf := State.Watch.faulted s m code
  have hmon : ((s.faulted m code).forEach (s.pending_ m) (State.withdraw m)).mon = (s.faulted m code).mon :=
    forEach_keeps State.mon _ (fun z k => z.withdraw_mon m k) _ _
  have hagree := forEach_keeps (fun z => (z.monxOf m).agree) _ (fun z k => z.withdraw_agree m k) (s.faulted m code) (s.pending_ m)
  refine ⟨hf.trans (.withdrawn _ m _), ?_, hagree.trans ?_, State.told_mono ?_ (.withdrawn _ m _), fun k hk => State.withdrawn_told hf hk,
    fun k => ?_⟩
  · rw [State.monOf, hmon, State.faulted, State.monPost_mon]
    exact (State.monOf_updMon s m (fun x => { x with mflt := BitVec.ofNat 4 code, valid := false, still := false }) m).trans (if_pos rfl)
  · rw [State.faulted, (State.monPost_events _ _ _ _ _ _ _).2, State.fault, State.monxOf_updMonx, if_pos rfl]
  · exact (State.Watch.fault s m code).told _ _ _ _
  · rw [State.withdrawn_events, State.faulted, (State.monPost_events _ _ _ _ _ _ _).1, State.fault, State.monxOf_updMonx, if_pos rfl]
    rfl

/-- The clauses of MONITOR_DISAGREEMENT with a fault due. -/
theorem State.Watch.sets {s t : State} {m : Nat} (h : s.Watch m t) : t = { s.takeEvents t with mon := t.mon, monx := t.monx } ∧
    ∀ j, j ≠ m → t.monOf j = s.monOf j ∧ t.monxOf j = s.monxOf j := ⟨h.frame, h.other⟩

/-- A fault is due (R278). -/
def State.disagreementDue (s : State) (m : Nat) : Prop :=
  s.msrc m ≠ 0 ∧ (s.monOf m).mflt = 0 ∧ (s.monxOf m).disagree ≠ 0 ∧ fld (s.mbind m) 11 4 ≤ (s.monxOf m).disagree

theorem State.monFaultNow_one (s : State) (m : Nat) :
    s.monFaultNow m = 1 ↔ (s.monxOf m).disagree ≠ 0 ∧ fld (s.mbind m) 11 4 ≤ (s.monxOf m).disagree := by
  unfold State.monFaultNow
  dsimp only
  split_ifs with h
  · exact iff_of_true rfl h.symm
  all_goals exact iff_of_false (by decide) fun hd => h hd.symm

theorem monitorDisagreement_due {s : State} {m : MonIx} (h : s.disagreementDue m.val) :
    exec (.monitorDisagreement m) s = .next (s.monFault m.val 1) := by
  obtain ⟨hs, -, hd⟩ := h
  show execMonitorDisagreement m s = _
  rw [execMonitorDisagreement, if_pos ⟨hs, (s.monFaultNow_one m.val).mpr hd⟩, done_eq]

theorem monitorDisagreement_early {s : State} {m : MonIx} (h : ¬ s.disagreementDue m.val) :
    exec (.monitorDisagreement m) s = .next s := by
  show execMonitorDisagreement m s = _
  rw [execMonitorDisagreement]
  split
  · next hc =>
    have hf : (s.monOf m.val).mflt ≠ 0 := fun hf => h ⟨hc.1, hf, (s.monFaultNow_one m.val).mp hc.2⟩
    rw [State.monFault, if_pos hf, done_eq]
  · rfl

/-- After a condition has ended no window of its node lists it (R379). -/
theorem State.endCondition_ended (s : State) (n : Node) (code : Nat) (w : Window) (hw : w ∈ (s.endCondition n code).windows)
    (hn : w.node = n) : code ∉ w.conds := by
  obtain ⟨v, -, rfl⟩ := List.mem_map.mp hw
  by_cases hc : v.node = n ∧ v.conds.contains code = true
  · rw [if_pos hc]
    simp
  · rw [if_neg hc] at hn ⊢
    exact fun hm => hc ⟨hn, List.contains_iff_mem.mpr hm⟩

/-- The monitor's fault has ended, and its speed becomes valid anew. -/
def State.cleared (s : State) (m : Nat) : State :=
  (s.updMon m fun x => { x with mflt := 0, valid := false, still := false, hist := x.hist.take 1, histT := x.histT.take 1 }).updMonx m
    fun y => { y with agree := 0, disagree := 0 }

theorem State.cleared_monOf (s : State) (m : Nat) : (s.cleared m).monOf m = { s.monOf m with
    mflt := 0, valid := false, still := false, hist := (s.monOf m).hist.take 1, histT := (s.monOf m).histT.take 1 } :=
  (State.monOf_updMon s m (fun x => { x with
    mflt := 0, valid := false, still := false, hist := x.hist.take 1, histT := x.histT.take 1 }) m).trans (if_pos rfl)

theorem State.monClear_none {s : State} {m : Nat} (hf : (s.monOf m).mflt ≠ 0) (ho : s.monOld = none) :
    s.monClear m = (s.cleared m).endCondition (nMon m) 0x0501 := by
  rw [State.monClear, if_neg hf, ho]
  rfl

theorem State.monClear_some {s : State} {m : Nat} (hf : (s.monOf m).mflt ≠ 0) {p : Tab Mon × Tab MonX} (ho : s.monOld = some p) :
    s.monClear m = (s.cleared m).updMonx m fun y => { y with cleared := true } := by
  rw [State.monClear, if_neg hf, ho]
  rfl

/-- The end of a fault (R278). -/
theorem monitorFaultClear_due {s : State} {m : MonIx} (hf : (s.monOf m.val).mflt ≠ 0) (ha : 64 ≤ (s.monxOf m.val).agree) :
    ∃ t, exec (.monitorFaultClear m) s = .next t ∧
      t.monOf m.val = { s.monOf m.val with
        mflt := 0, valid := false, still := false, hist := (s.monOf m.val).hist.take 1, histT := (s.monOf m.val).histT.take 1 } ∧
      (t.monxOf m.val).agree = 0 ∧ (t.monxOf m.val).disagree = 0 ∧ t = { s with mon := t.mon, monx := t.monx, windows := t.windows } ∧
      (s.monOld = none → ∀ w ∈ t.windows, w.node = nMon m.val → 0x0501 ∉ w.conds) ∧
      (s.monOld ≠ none → (t.monxOf m.val).cleared = true ∧ t.windows = s.windows) := by
  have he : exec (.monitorFaultClear m) s = .next (s.monClear m.val) := by
    show execMonitorFaultClear m s = _
    rw [execMonitorFaultClear, if_pos ha, done_eq]
  refine ⟨_, he, ?_⟩
  have ha0 : ((s.cleared m.val).monxOf m.val).agree = 0 ∧ ((s.cleared m.val).monxOf m.val).disagree = 0 := by
    rw [State.cleared, State.monxOf_updMonx, if_pos rfl]
    exact ⟨rfl, rfl⟩
  have hm := s.cleared_monOf m.val
  obtain ho | ⟨p, ho⟩ := Option.eq_none_or_eq_some s.monOld
  · rw [State.monClear_none hf ho]
    exact ⟨hm, ha0.1, ha0.2, rfl, fun _ w hw hn => State.endCondition_ended _ _ _ w hw hn, fun h => absurd ho h⟩
  · rw [State.monClear_some hf ho]
    have hx : ((s.cleared m.val).updMonx m.val fun y => { y with cleared := true }).monxOf m.val =
        { (s.cleared m.val).monxOf m.val with cleared := true } := (State.monxOf_updMonx _ _ _ _).trans (if_pos rfl)
    have hw (x : State) (f : MonX → MonX) : (x.updMonx m.val f).windows = x.windows := rfl
    rw [hx]
    exact ⟨hm, ha0.1, ha0.2, rfl, fun h => absurd (ho.symm.trans h) (Option.some_ne_none p), fun _ => ⟨rfl, hw _ _⟩⟩

theorem monitorFaultClear_early {s : State} {m : MonIx} (h : (s.monOf m.val).mflt = 0 ∨ (s.monxOf m.val).agree < 64) :
    exec (.monitorFaultClear m) s = .next s := by
  show execMonitorFaultClear m s = _
  rw [execMonitorFaultClear]
  split
  · next ha =>
    rw [State.monClear, if_pos (h.resolve_right (Nat.not_lt.mpr ha)), done_eq]
  · rfl

/-! #### A pulse's end (R295, R296) -/

theorem PosEvent.pulsed_ends {e : PosEvent} (h : e.st = 3) (hl : e.left = 0) : e.pulsed = { st := 4 } := if_pos ⟨h, hl⟩
theorem PosEvent.pulsed_stays {e : PosEvent} (h : e.st ≠ 3 ∨ e.left ≠ 0) : e.pulsed = e := if_neg fun ⟨h3, h0⟩ => h.elim (· h3) (· h0)

/-- EVENT_PULSE_END touches the event alone. -/
theorem eventPulseEnd_spec (s : State) (m : MonIx) (k : Fin 8) : ∃ t, exec (.eventPulseEnd m k) s = .next t ∧
    t = { s with monx := t.monx } ∧ (∀ j, j ≠ m.val → t.monxOf j = s.monxOf j) ∧
    t.monxOf m.val = { s.monxOf m.val with events := (t.monxOf m.val).events } ∧
    ∀ j, (Tab.get {} (t.monxOf m.val).events j : PosEvent) =
      if j = k.val then (Tab.get ({} : PosEvent) (s.monxOf m.val).events k.val).pulsed else Tab.get {} (s.monxOf m.val).events j := by
  refine ⟨_, rfl, rfl, fun j hj => ?_, ?_, fun j => ?_⟩
  · rw [State.monxOf_updMonx, if_neg hj]
  · rw [State.monxOf_updMonx, if_pos rfl]
  · rw [State.monxOf_updMonx, if_pos rfl]
    exact Tab.get_set ({} : PosEvent) _ _ _ _

/-! #### An event after a capture (R295) -/

theorem evtStep_spec (e : PosEvent) (p0 fire p q : Int) (rearm : Bool) (pulse : Nat) :
    let r := evtStep e p0 fire p q rearm pulse
    (q < fire → r.1.st = 3 → e.st = 3) ∧ (e.st = 3 → e.left ≠ 0 → r = (e, none)) ∧ (e.st = 3 → e.left = 0 → r = ({ st := 4 }, none)) ∧
    (e.st = 1 → q < p0 → p0 ≤ fire → r = (e, none)) ∧ (e.st = 2 → q < p0 → p0 ≤ fire → r = ({ st := 1 }, some 1)) ∧
    (e.st = 0 → p0 ≤ q → r = (e, none)) ∧ (e.st = 4 → rearm = false → r = (e, none)) := by
  intro r
  have hr : r = evtStep e p0 fire p q rearm pulse := rfl
  have h13 : q < fire → r.1.st = 3 → e.st = 3 := by
    intro hq h
    by_contra h3
    have hf : ¬ fire ≤ q := by omega
    rw [hr, evtStep, PosEvent.pulsed_stays (.inl h3)] at h
    simp only [hf, false_and, if_false] at h
    split_ifs at h <;> simp_all
  rw [evtStep] at hr
  refine ⟨h13, fun h hl => ?_, fun h hl => ?_, fun h hq hp => ?_, fun h hq hp => ?_, fun h hq => ?_, fun h hre => ?_⟩
  · simpa [h, PosEvent.pulsed_stays (.inr hl)] using hr
  · simpa [h, PosEvent.pulsed_ends h hl] using hr
  · have h1 : ¬ (fire ≤ q) := by omega
    have h2 : ¬ (p0 ≤ q) := by omega
    simpa [h, h1, h2] using hr
  · have h1 : ¬ (fire ≤ q) := by omega
    simpa [h, h1, hq] using hr
  · have h1 : ¬ (q < p0) := by omega
    simpa [h, h1] using hr
  · simpa [h, hre] using hr

/-! ### Monitors at a commit (R36, R298) -/

/-- A monitor's motion: position, counts and speeds. -/
def Mon.motion (x : Mon) : Int × Int × Int × Int × Int := (x.pos, x.cntA, x.cntB, x.va, x.vb)

/-- The monitor that a commit makes current: that of the frame when the slot has verified, else its last verified state. -/
def State.monKept (s : State) (m : Nat) : Mon := if s.monVerified m then s.monOf m else s.monNow m

/-- What function records, events and ledger leave, the functions' commit leaves. -/
theorem State.commitFns_keeps (s : State) {β : Type} (π : State → β) (hu : ∀ (x : State) f g, π (x.updFn f g) = π x)
    (hs : ∀ (x : State) f st c d t, π (x.setFn f st c d t) = π x) (hp : ∀ (x : State) c n e d, π (x.post c n e d) = π x)
    (hl : ∀ (x : State) a b c d e f g, π (x.ledgerAdd a b c d e f g) = π x) : π s.commitFns = π s := by
  have hc (x : State) (f : Nat) : π (x.commitFn f) = π x := by
    unfold State.commitFn
    split
    · rfl
    · dsimp only
      refine (foldl_keeps π _ (fun x k => hl x _ _ _ _ _ _ _) _ _).trans ((foldl_keeps π _ (fun x e => hp x _ _ _ _) _ _).trans ?_)
      split
      · exact hu x f _
      · exact (hs _ _ _ _ _ _).trans (hu x f _)
  refine forEach_keeps π _ (fun x f => ?_) s _
  split
  · exact hc x f
  · split
    · rfl
    · exact hu x f _

theorem State.setFn_mon (s : State) (f : Nat) (st : FnState) (c d t : Nat) : (s.setFn f st c d t).mon = s.mon := by cases st <;> rfl
theorem State.setFn_monOld (s : State) (f : Nat) (st : FnState) (c d t : Nat) : (s.setFn f st c d t).monOld = s.monOld := by
  cases st <;> rfl

theorem State.commitFns_mon (s : State) : s.commitFns.mon = s.mon :=
  s.commitFns_keeps State.mon (fun _ _ _ => rfl) State.setFn_mon (fun _ _ _ _ _ => rfl) fun _ _ _ _ _ _ _ _ => rfl
theorem State.commitFns_monOld (s : State) : s.commitFns.monOld = s.monOld :=
  s.commitFns_keeps State.monOld (fun _ _ _ => rfl) State.setFn_monOld (fun _ _ _ _ _ => rfl) fun _ _ _ _ _ _ _ _ => rfl

/-- A working buffer at the commit. -/
theorem State.monKeep_monOf (s : State) (k m : Nat) : (s.monKeep k).monOf m = if m = k then s.monKept k else s.monOf m := by
  unfold State.monKept State.monNow State.monKeep
  split
  · next ho =>
    rw [ite_self]
    split
    · next h => rw [h]
    · rfl
  · next p ho =>
    by_cases hv : s.monVerified k = true
    · rw [if_pos hv, if_pos hv]
      dsimp only
      have hm : (s.monOf m : Mon) = if m = k then s.monOf k else s.monOf m := by
        split
        · next h => rw [h]
        · rfl
      refine Eq.trans ?_ hm
      refine (foldl_keeps (fun x => State.monOf x m) _ ?_ _ _).trans ?_
      · exact fun _ _ => rfl
      · split <;> rfl
    · rw [if_neg hv, if_neg hv]
      exact State.monOf_updMon s k (fun _ => Tab.get {} p.1 k) m

theorem State.monKeep_monOld (s : State) (k : Nat) : (s.monKeep k).monOld = s.monOld := by
  unfold State.monKeep
  split
  · next ho => rfl
  · split
    · dsimp only
      refine (foldl_keeps State.monOld _ ?_ _ _).trans ?_
      · exact fun _ _ => rfl
      · split <;> rfl
    · rfl

theorem State.monOf_setOld (s : State) (x : Option (Tab Mon × Tab MonX)) (m : Nat) :
    ({ s with monOld := x } : State).monOf m = s.monOf m := rfl

/-- Every monitor's working buffer has been kept or discarded. -/
theorem State.monKeeps_monOf (s : State) {m : Nat} (hm : m < 64) : s.monKeeps.monOf m = s.monKept m := by
  have step (y : State) (k : Nat) (hy : s.Ruled y ∧ y.monOld = s.monOld ∧ (y.monOf m = s.monOf m ∨ y.monOf m = s.monKept m)) :
      (s.Ruled (y.monKeep k) ∧ (y.monKeep k).monOld = s.monOld ∧
        ((y.monKeep k).monOf m = s.monOf m ∨ (y.monKeep k).monOf m = s.monKept m)) ∧ (k = m → (y.monKeep k).monOf m = s.monKept m) ∧
        (y.monOf m = s.monKept m → (y.monKeep k).monOf m = s.monKept m) := by
    obtain ⟨hr, ho, hy⟩ := hy
    have hv : y.monVerified m = s.monVerified m := by
      rw [hr]
      rfl
    have hk : y.monKept m = s.monKept m := by
      unfold State.monKept State.monNow at *
      rw [hv, ho]
      split
      · next h =>
        rw [if_pos h] at hy
        exact hy.elim id id
      · next h =>
        split
        · next hn =>
          rw [if_neg h, hn] at hy
          exact hy.elim id id
        · rfl
    have hn := y.monKeep_monOf k m
    refine ⟨⟨hr.trans (.monKeep y k), (y.monKeep_monOld k).trans ho, ?_⟩, ?_, fun hm => ?_⟩
    · rw [hn]
      split
      · next h => exact .inr (h ▸ hk)
      · exact hy
    · rintro rfl
      rw [hn, if_pos rfl, hk]
    · rw [hn]
      split
      · next h => exact h ▸ hk
      · exact hm
  obtain ⟨a, b, hab⟩ := List.append_of_mem (List.mem_range.mpr hm)
  rw [State.monKeeps, State.monOf_setOld, hab, State.forEach_split]
  have h1 := forEach_inv _ State.monKeep (fun y k hy => (step y k hy).1) s a ⟨.refl s, rfl, .inl rfl⟩
  have h2 := step _ m h1
  exact (forEach_inv (fun y => (s.Ruled y ∧ y.monOld = s.monOld ∧ (y.monOf m = s.monOf m ∨ y.monOf m = s.monKept m)) ∧
    y.monOf m = s.monKept m) State.monKeep (fun y k hy => ⟨(step y k hy.1).1, (step y k hy.1).2.2 hy.2⟩) _ b ⟨h2.1, h2.2.1 rfl⟩).2

theorem State.monOf_revarm (s : State) (k m : Nat) (b : Bool) :
    ((s.updMon k fun x => { x with revarm := b }).monOf m).motion = (s.monOf m).motion ∧
    ((s.updMon k fun x => { x with revarm := b }).monOf m).sstate = (s.monOf m).sstate := by
  rw [State.monOf_updMon]
  split
  · next h => rw [h]; exact ⟨rfl, rfl⟩
  · exact ⟨rfl, rfl⟩

/-- Arming changes a monitor's REVARM alone. -/
theorem State.monArm_monOf (s : State) (k m : Nat) : ((s.monArm k).monOf m).motion = (s.monOf m).motion ∧
    ((s.monArm k).monOf m).sstate = (s.monOf m).sstate := by
  have he (x : State) (i : Nat) (f : Enc → Enc) : (x.updEnc i f).monOf m = x.monOf m := rfl
  unfold State.monArm
  dsimp only
  split
  · exact ⟨rfl, rfl⟩
  · obtain ⟨hm, hs⟩ := State.monOf_revarm _ k m _
    exact ⟨hm.trans (by rw [he, he]), hs.trans (by rw [he, he])⟩

/-- A monitor at the commit keeps its motion, and in HOLDING it is STOPPED unless it is NONE. -/
theorem State.monCommit_monOf (s : State) (k m : Nat) : ((s.monCommit k).monOf m).motion = (s.monOf m).motion ∧
    (k ≠ m → ((s.monCommit k).monOf m).sstate = (s.monOf m).sstate) ∧
    (k = m → s.msrc m ≠ 0 → s.dev.st = .holding → (s.monOf m).sstate ≠ 0 → ((s.monCommit k).monOf m).sstate = 3) := by
  by_cases hk : s.msrc k = 0
  · rw [State.monCommit_unused hk]
    exact ⟨rfl, fun _ => rfl, fun h hs => absurd (h ▸ hk) hs⟩
  · obtain ⟨f, g, hf, hst, hmon⟩ := State.monCommit_of hk State.mon fun _ _ _ => rfl
    have hm : (s.monCommit k).monOf m = (((s.updMon k f).updMonx k g).monArm k).monOf m := by
      rw [State.monOf, hmon]
      rfl
    have hu : ((s.updMon k f).updMonx k g).monOf m = if m = k then f (s.monOf k) else s.monOf m := State.monOf_updMon s k f m
    obtain ⟨ha, hs⟩ := ((s.updMon k f).updMonx k g).monArm_monOf k m
    rw [hm]
    rw [hu] at ha hs
    refine ⟨ha.trans ?_, fun h => hs.trans (by rw [if_neg (Ne.symm h)]), fun h _ hd hn => hs.trans ?_⟩
    · split
      · next h =>
        obtain ⟨h1, h2, h3, h4, h5⟩ := hf (s.monOf k)
        rw [h, Mon.motion, h1, h2, h3, h4, h5]
        rfl
      · rfl
    · subst h
      rw [if_pos rfl]
      exact hst hd hn _

/-- Every monitor at a commit: its motion is that of the buffer kept. -/
theorem State.monCommits_motion (s : State) {m : Nat} (hm : m < 64) : (s.monCommits.monOf m).motion = (s.monKept m).motion := by
  refine (forEach_keeps (fun x => (State.monOf x m).motion) State.monCommit (fun x k => (x.monCommit_monOf k m).1) _ _).trans ?_
  rw [s.monKeeps_monOf hm]

/-- In HOLDING a used monitor that is not NONE is STOPPED (R298). -/
theorem State.monCommits_stopped {s : State} {m : Nat} (hm : m < 64) (hd : s.dev.st = .holding) (hs : s.msrc m ≠ 0)
    (hk : (s.monKept m).sstate ≠ 0) : (s.monCommits.monOf m).sstate = 3 := by
  have hkeeps : s.Ruled s.monKeeps := (State.Ruled.forEach State.Ruled.monKeep _).trans (.setOld _ none)
  have step (y : State) (k : Nat) (hr : s.Ruled y) (hy : (y.monOf m).sstate ≠ 0) :
      (k = m → ((y.monCommit k).monOf m).sstate = 3) ∧ (k ≠ m → ((y.monCommit k).monOf m).sstate = (y.monOf m).sstate) := by
    obtain ⟨-, ho, hi⟩ := y.monCommit_monOf k m
    have hys : y.msrc m = s.msrc m := by
      rw [hr]
      rfl
    exact ⟨fun h => hi h (by rw [hys]; exact hs) (by rw [hr.dev]; exact hd) hy, ho⟩
  have inv (P : BitVec 4 → Prop) (h3 : P 3) (h0 : ∀ x, P x → x ≠ 0) (y : State) (k : Nat) (hy : s.Ruled y ∧ P (y.monOf m).sstate) :
      s.Ruled (y.monCommit k) ∧ P ((y.monCommit k).monOf m).sstate := by
    refine ⟨hy.1.trans (.monCommit y k), ?_⟩
    obtain ⟨hi, ho⟩ := step y k hy.1 (h0 _ hy.2)
    by_cases h : k = m
    · rw [hi h]
      exact h3
    · rw [ho h]
      exact hy.2
  obtain ⟨a, b, hab⟩ := List.append_of_mem (List.mem_range.mpr hm)
  rw [State.monCommits, hab, State.forEach_split]
  obtain ⟨hr, hn⟩ := forEach_inv (fun y => s.Ruled y ∧ (y.monOf m).sstate ≠ 0) State.monCommit
    (inv (· ≠ 0) (by decide) fun _ h => h) s.monKeeps a ⟨hkeeps, by rw [s.monKeeps_monOf hm]; exact hk⟩
  exact (forEach_inv (fun y => s.Ruled y ∧ (y.monOf m).sstate = 3) State.monCommit
    (inv (· = 3) rfl fun x h => by rw [h]; decide) _ b ⟨hr.trans (.monCommit _ m), (step _ m hr hn).1 rfl⟩).2

/-! #### The commit as a whole -/

theorem State.commitFns_monKept (s : State) (m : Nat) : s.commitFns.monKept m = s.monKept m := by
  have hr := State.Ruled.commitFns s
  have hv : s.commitFns.monVerified m = s.monVerified m := by
    rw [hr]
    rfl
  unfold State.monKept State.monNow
  rw [hv, s.commitFns_monOld, State.monOf, s.commitFns_mon]
  rfl

/-- The monitors that a commit has made current before the device's own changes. -/
theorem State.committing_mon (s : State) : s.committing.mon = s.commitStart.commitFns.monCommits.mon := by
  have hk := s.committing_keeps Still.mon (fun _ _ => rfl) (fun _ _ => rfl) fun _ _ _ => rfl
  have hc (x : State) : x.commitConns.mon = x.mon := by
    refine forEach_keeps State.mon _ ?_ _ _
    exact fun _ _ => rfl
  rw [State.still_mon, State.still_mon] at hk
  rw [hk, State.commitRuled, hc]

theorem State.monKept_commitStart (s : State) (m : Nat) : s.commitStart.monKept m = s.monKept m := rfl

theorem State.committing_motion (s : State) {m : Nat} (hm : m < 64) : (s.committing.monOf m).motion = (s.monKept m).motion := by
  rw [State.monOf, s.committing_mon]
  refine (State.monCommits_motion _ hm).trans ?_
  rw [State.commitFns_monKept, State.monKept_commitStart]

theorem State.committing_stopped {s : State} {m : Nat} (hm : m < 64) (hd : s.dev.st = .holding) (hs : s.msrc m ≠ 0)
    (hk : (s.monKept m).sstate ≠ 0) : (s.committing.monOf m).sstate = 3 := by
  have hr := State.Ruled.commitFns s.commitStart
  have hms : s.commitStart.commitFns.msrc m = s.msrc m := by
    rw [hr]
    rfl
  have hdev : s.commitStart.commitFns.dev.st = .holding := by
    rw [hr.dev]
    exact hd
  rw [State.monOf, s.committing_mon]
  refine State.monCommits_stopped hm hdev (by rw [hms]; exact hs) ?_
  rw [State.commitFns_monKept, State.monKept_commitStart]
  exact hk

/-- In RUNNING a commit without a request for SERVICE leaves the device. -/
theorem State.commitDevice_running {s : State} (h : s.dev.st = .running) (hs : s.dev.toService = false) : s.commitDevice = s := by
  rw [State.commitDevice, hs, h]
  rfl

theorem State.monRunning_sstate (s : State) (m : Nat) : (s.monRunning.monOf m).sstate = (s.monOf m).sstate := by
  have he (x : State) (k : Nat) : (x.evtsStart k).monOf m = x.monOf m := rfl
  have hx (x : State) (k : Nat) (f : MonX → MonX) : (x.updMonx k f).monOf m = x.monOf m := rfl
  unfold State.monRunning
  refine forEach_keeps (fun x => (State.monOf x m).sstate) _ (fun x k => ?_) _ _
  rw [he, State.monOf_updMon, hx]
  split
  · next h => rw [h]; rfl
  · rfl

theorem State.enterRunning_sstate (s : State) (m : Nat) : (s.enterRunning.monOf m).sstate = (s.monOf m).sstate := by
  have keep (f : State → Nat → State) (h : ∀ x k, (f x k).mon = x.mon) (x : State) (l : List Nat) : (x.forEach l f).mon = x.mon :=
    forEach_keeps State.mon f h x l
  unfold State.enterRunning
  dsimp only
  rw [State.monRunning_sstate]
  unfold State.monOf
  refine congrArg (fun x : Tab Mon => (Tab.get {} x m).sstate) ?_
  refine (keep _ ?_ _ _).trans ((keep _ ?_ _ _).trans ((keep _ ?_ _ _).trans ((keep _ ?_ _ _).trans rfl)))
  · exact fun _ _ => rfl
  · exact fun _ _ => rfl
  · exact fun _ _ => rfl
  · exact fun _ _ => rfl

theorem State.enterService_mon (s : State) : s.enterService.mon = s.mon := by
  unfold State.enterService State.zeroise
  split <;> rfl

/-- The device's own changes leave the monitors' stop states. -/
theorem State.commitDevice_sstate (s : State) (m : Nat) : (s.commitDevice.monOf m).sstate = (s.monOf m).sstate := by
  unfold State.commitDevice
  split
  · rw [State.monOf, State.enterService_mon]
    rfl
  · split
    · split
      · dsimp only
        split
        · rw [State.enterRunning_sstate]
          rfl
        · rfl
      · rfl
    · split
      · exact s.enterRunning_sstate m
      · rfl
    · rfl

theorem State.commit_mon {s : State} (h : s.dev.applyPkg = false) (m : Nat) :
    s.committing.commitDevice.commitEnd.monOf m = s.committing.commitDevice.monOf m := by
  have hm := congrArg Still.mon (State.commit_still h)
  rw [State.still_mon, State.still_mon] at hm
  rw [State.monOf, hm]
  rfl

/-- Settles O46: a fault withdraws the pending events and tells each, its clearing and a pulse's end touch the monitor alone, no event
fires backward, and a commit keeps the motion of the verified state and stops the monitors in HOLDING. -/
theorem motionMonitors : Obligations.MotionMonitors := by
  refine ⟨fun s m => ?_, evtStep_spec, fun s _ hp => ⟨_, exec_commit s, fun hst hsv m hm => ?_, fun hst m hm hs hn ho => ?_⟩⟩
  · intro x ev due
    refine ⟨fun hd => ?_, fun hd => monitorDisagreement_early hd, fun hf ha => monitorFaultClear_due hf ha,
      fun h => monitorFaultClear_early h, fun k => ?_⟩
    · obtain ⟨hw, hmon, hag, htold, hgone, hev⟩ := State.monFault_spec hd.2.1 1
      have hpend (k : Nat) (hk : k < 8) (h2 : (ev s k).st = 2) : k ∈ s.pending_ m.val :=
        List.mem_filter.mpr ⟨List.mem_range.mpr hk, decide_eq_true h2⟩
      refine ⟨_, monitorDisagreement_due hd, hmon, hag, fun k hk h2 => ?_, fun k h2 => ?_,
        fun ho => ⟨htold.1 ho, fun k hk h2 => (hgone k (hpend k hk h2)).1 ho⟩,
        fun ho => ⟨htold.2 ho, hw.quiet ho, fun k hk h2 => (hgone k (hpend k hk h2)).2 ho⟩, hw.frame, hw.other⟩
      · exact (congrArg PosEvent.st (hev k)).trans (by rw [if_pos (hpend k hk h2)])
      · refine (hev k).trans (if_neg fun hk => h2 ?_)
        exact of_decide_eq_true (List.mem_filter.mp hk).2
    · obtain ⟨t, ht, hf, ho, hx, he⟩ := eventPulseEnd_spec s m k
      refine ⟨fun h3 h0 => ⟨t, ht, ?_, fun j hj => ?_, hf, ho, hx⟩, fun h => ⟨t, ht, hf, fun j => ?_, ho, hx⟩⟩
      · exact (he k.val).trans (by rw [if_pos rfl, PosEvent.pulsed_ends h3 h0])
      · exact (he j).trans (if_neg hj)
      · refine (he j).trans ?_
        split
        · next hj => rw [PosEvent.pulsed_stays h, hj]
        · rfl
  · have hmot := s.committing_motion hm
    have hdev := s.committing_dev
    rw [State.commit_mon hp, State.commitDevice_running (by rw [hdev]; exact hst) (by rw [hdev]; exact hsv)]
    simp only [Mon.motion, Prod.mk.injEq] at hmot
    obtain ⟨h1, h2, h3, h4, h5⟩ := hmot
    exact ⟨h1, h2, h3, h4, h5⟩
  · rw [State.commit_mon hp, State.commitDevice_sstate]
    refine State.committing_stopped hm hst hs ?_
    unfold State.monKept
    split
    · exact hn
    · exact ho

/-! ### A package that applies at a commit (R50, R257, R470) -/

/-- What a package leaves of the commit's edge: its tick, frame status and process data. -/
def State.edge (s : State) : Nat × Bool × Two FrameStat × List (Nat × BitVec 64) := (s.clock.tick, s.clock.committed, s.frameSt, s.pdNext)

theorem State.edge_of_still {s t : State} (h : t.still = s.still) : t.edge = s.edge := by
  have hc : t.clock = s.clock := congrArg Still.clock h
  have hf : t.frameSt = s.frameSt := congrArg Still.frameSt h
  have hp : t.pdNext = s.pdNext := congrArg Still.pdNext h
  rw [State.edge, hc, hf, hp]
  rfl

theorem State.edge_forEach {f : State → Nat → State} (h : ∀ (x : State) k, (f x k).edge = x.edge) (s : State) (l : List Nat) :
    (s.forEach l f).edge = s.edge := forEach_keeps State.edge f h s l

section
variable (s : State)

theorem State.edge_setFn (f : Nat) (st : FnState) (c d t : Nat) : (s.setFn f st c d t).edge = s.edge := by cases st <;> rfl

theorem State.edge_startFn (f : Nat) : (s.startFn f).edge = s.edge := by
  unfold State.startFn
  split
  · exact s.edge_setFn _ _ _ _ _
  · split
    · exact s.edge_setFn _ _ _ _ _
    · split
      · exact s.edge_setFn _ _ _ _ _
      · exact s.edge_setFn _ _ _ _ _

theorem State.edge_freshFn (f : Nat) : (s.freshFn f).edge = s.edge := State.edge_startFn _ f

theorem State.edge_loadCal (t : Nat) : (s.loadCal t).edge = s.edge := State.edge_of_still (s.still_calUse t _ _)

@[simp] theorem State.edge_updTerm (t : Nat) (f : Terminal → Terminal) : (s.updTerm t f).edge = s.edge := rfl
@[simp] theorem State.edge_updChip (i : Nat) (f : Chip → Chip) : (s.updChip i f).edge = s.edge := rfl
@[simp] theorem State.edge_updChan (i : Nat) (f : Channel → Channel) : (s.updChan i f).edge = s.edge := rfl
@[simp] theorem State.edge_updLanes (i : Nat) (f : Lanes → Lanes) : (s.updLanes i f).edge = s.edge := rfl
@[simp] theorem State.edge_updHalf (d : Side) (f : Half → Half) : (s.updHalf d f).edge = s.edge := rfl
@[simp] theorem State.edge_updFn (i : Nat) (f : Fn → Fn) : (s.updFn i f).edge = s.edge := rfl
@[simp] theorem State.edge_updMon (i : Nat) (f : Mon → Mon) : (s.updMon i f).edge = s.edge := rfl
@[simp] theorem State.edge_updMonx (i : Nat) (f : MonX → MonX) : (s.updMonx i f).edge = s.edge := rfl
@[simp] theorem State.edge_updConn (c : Nat) (f : Conn → Conn) : (s.updConn c f).edge = s.edge := rfl
@[simp] theorem State.edge_lowerCause (t c : Nat) : (s.lowerCause t c).edge = s.edge := rfl
@[simp] theorem State.edge_postL (code : Nat) (src : Node) (sev detail : Nat) (l : Bool) : (s.postL code src sev detail l).edge = s.edge := rfl
@[simp] theorem State.edge_post (code : Nat) (src : Node) (sev detail : Nat) : (s.post code src sev detail).edge = s.edge := rfl
@[simp] theorem State.edge_ledgerAdd (kind inst ch ta tb old new : Nat) : (s.ledgerAdd kind inst ch ta tb old new).edge = s.edge := rfl
@[simp] theorem State.edge_registerStop (d : Side) (g c : Nat) : (s.registerStop d g c).edge = s.edge := rfl
@[simp] theorem State.edge_finalReply (port : Option Side) (queue opcode : Nat) (tag : BitVec 32) (status : Nat) (slots : List Nat) :
    (s.finalReply port queue opcode tag status slots).edge = s.edge := State.edge_of_still (s.still_finalReply _ _ _ _ _ _)

theorem State.edge_changeMode (ch : Nat) : (s.changeMode ch).edge = s.edge := by
  unfold State.changeMode
  have hl (x : State) (t : Nat) (l : List Nat) : (x.forEach l fun z c => z.lowerCause t c).edge = x.edge :=
    State.edge_forEach (fun z c => z.edge_lowerCause t c) x l
  dsimp only [List.foldl_cons, List.foldl_nil]
  simp only [State.edge_updChan, State.edge_updChip, State.edge_updTerm, hl]

theorem State.edge_switchChip (old : Pkg) (i : Nat) : (s.switchChip old i).edge = s.edge := by
  unfold State.switchChip
  dsimp only
  split <;> split <;> simp

theorem State.edge_connLoss (c : Nat) (was now : LinkState) : (s.connLoss c was now).edge = s.edge := by
  unfold State.connLoss
  dsimp only
  rw [State.edge_postL]
  split <;> simp

theorem State.edge_endConn (c : Nat) : (s.endConn c).edge = s.edge := by rw [State.endConn, State.edge_updConn, State.edge_connLoss]

theorem State.edge_startConn (c : Nat) : (s.startConn c).edge = s.edge := rfl

theorem State.edge_changeConn (old : Pkg) (c : Nat) : (s.changeConn old c).edge = s.edge := by
  unfold State.changeConn
  dsimp only
  split
  · exact s.edge_connLoss c _ _
  · split <;> rfl

theorem State.edge_install (p : Pkg) : (s.install p false).edge = s.edge := by
  have hp : (s.withPkg (some p)).edge = s.edge := rfl
  have ho (x : State) (m : Option (Tab Mon × Tab MonX)) : ({ x with monOld := m } : State).edge = x.edge := rfl
  unfold State.install
  dsimp only
  rw [State.edge_forEach fun x m => ?_, ho, State.edge_forEach fun x c => x.edge_changeConn _ c,
    State.edge_forEach State.edge_startConn, State.edge_forEach State.edge_endConn, if_neg Bool.false_ne_true,
    State.edge_forEach State.edge_freshFn, State.edge_forEach fun x f => x.edge_updFn f _, State.edge_updHalf, State.edge_updHalf,
    State.edge_forEach fun x i => x.edge_switchChip _ i, State.edge_forEach fun x t => ?_, State.edge_forEach State.edge_changeMode, hp]
  · rw [State.edge_loadCal, State.edge_loadCal]
  · split
    · simp
    · split <;> simp

theorem State.edge_activatePkg (p : Pkg) : (s.activatePkg p false).edge = s.edge := by
  unfold State.activatePkg State.cfgRecord
  rw [State.edge_ledgerAdd, State.edge_post, State.edge_install]
  rfl

theorem State.edge_cfgActDone : s.cfgActDone.edge = s.edge := by
  unfold State.cfgActDone
  dsimp only
  split
  · rfl
  · rw [State.edge_finalReply]
    rfl

theorem State.edge_commitPkg : s.commitPkg.edge = s.edge := by
  unfold State.commitPkg
  split
  · rfl
  · split
    · rw [State.edge_cfgActDone, State.edge_activatePkg]
    · rfl

theorem State.edge_commitEnd : s.commitEnd.edge = s.edge := by
  rw [State.commitEnd, State.edge_of_still (State.still_newImage _), State.edge_of_still (State.still_settle _),
    State.edge_of_still (State.still_commitGrants _), State.edge_commitPkg]

end

/-! ### The edge of a commit (R35, R40) -/

/-- Time that passes to the tick-0 edge ends at tick 0. -/
theorem Clock.advance_toEdge {c : Clock} (h : c.tick < c.fl) (used : Bool) : (c.advance (c.ticksToEdge used)).tick = 0 := by
  have hw : (c.advance (c.fl - c.tick)).tick = 0 := by
    unfold Clock.advance
    dsimp only
    rw [if_neg (by omega), if_neg (by omega)]
    have h0 : c.tick + (c.fl - c.tick) - c.fl = 0 := by omega
    show (c.tick + (c.fl - c.tick) - c.fl) % _ = 0
    rw [h0, Nat.zero_mod]
  unfold Clock.ticksToEdge Clock.ticksTo
  split
  · next hu => rwa [hu.2, Nat.sub_zero] at hw
  · split
    · next ht =>
      have h0 : c.tick = 0 := by omega
      rw [h0]
      exact h0
    · exact hw

theorem State.toCommit_tick {s : State} (h : s.clock.tick < s.clock.fl) : s.toCommit.clock.tick = 0 := Clock.advance_toEdge h _

/-- The commit's frame status, and the parameters that come into force. -/
theorem State.commitClock_clock (s : State) : s.commitClock.clock.tick = s.clock.tick ∧ s.commitClock.clock.committed = true ∧
    s.commitClock.clock.frame = s.clock.frame := by
  have hc : s.commitClock.clock = match s.clock.pend with
    | none => { s.clock with committed := true }
    | some (fl, cdl, k) => { s.clock with committed := true, fl := fl, cdl := cdl, k := k, pend := none } := rfl
  rw [hc]
  split <;> exact ⟨rfl, rfl, rfl⟩

theorem State.commitClock_frameNo (s : State) (d : Side) :
    (s.commitClock.fstOf d).frameNo = BitVec.ofNat 32 (s.clock.frame.toNat - 1) := by
  cases d <;> rfl

theorem State.edge_enterRunning (s : State) : s.enterRunning.edge = s.edge := by
  have hs : (s.withSt .running).edge = s.edge := rfl
  have he (x : State) (i : Nat) (f : Enc → Enc) : (x.updEnc i f).edge = x.edge := rfl
  have ht (x : State) (i : Nat) (f : TimerU → TimerU) : (x.updTimer i f).edge = x.edge := rfl
  have hm (x : State) (m : Nat) : (x.evtsStart m).edge = x.edge := rfl
  unfold State.enterRunning State.monRunning
  dsimp only
  rw [State.edge_forEach fun x m => ?_, State.edge_forEach fun x i => x.edge_updChip i _, State.edge_forEach fun x i => he x i _,
    State.edge_forEach fun x i => ht x i _, State.edge_forEach fun x t => x.edge_updTerm t _, hs]
  rw [hm, State.edge_updMon, State.edge_updMonx]

theorem State.edge_enterService (s : State) : s.enterService.edge = s.edge := by
  unfold State.enterService State.zeroise
  split <;> rfl

theorem State.edge_commitDevice (s : State) : s.commitDevice.edge = s.edge := by
  unfold State.commitDevice
  split
  · exact s.edge_enterService
  · split
    · split
      · dsimp only
        split
        · rw [State.edge_enterRunning]
          rfl
        · rfl
      · rfl
    · split
      · exact s.edge_enterRunning
      · rfl
    · rfl

/-- The edge that a commit ends at: tick 0, committed, the frame just ended in FRAME_NO, and no process data waiting. -/
theorem State.commit_edge {s : State} (h : s.clock.tick < s.clock.fl) : let t := s.committing.commitDevice.commitEnd
    t.clock.tick = 0 ∧ t.clock.committed = true ∧ t.pdNext = [] ∧
    ∀ d, (t.fstOf d).frameNo = BitVec.ofNat 32 (s.toCommit.clock.frame.toNat - 1) := by
  intro t
  have hpd : s.committing.pdNext = [] := by
    obtain ⟨x, hx, -⟩ := s.commitStart.commitFrame.commitRest_marks
    rw [State.committing, hx]
    rfl
  have ht : t.edge = s.committing.edge := (State.edge_commitEnd _).trans (State.edge_commitDevice _)
  have hr := State.Ruled.commitRuled s.commitStart
  have ho : s.commitStart.commitRuled.Outs s.commitStart.commitChips := .commitChips s.commitStart
  have hc : s.committing.clock = s.commitStart.clock := by
    rw [s.committing_later.clock, ho.clock, hr.clock]
  have hf : s.committing.frameSt = s.commitStart.frameSt := by
    rw [s.committing_later.frameSt, ho.frameSt, hr.frameSt]
  rw [State.edge, State.edge, hc, hf, hpd] at ht
  simp only [Prod.mk.injEq] at ht
  obtain ⟨h1, h2, h3, h4⟩ := ht
  obtain ⟨k1, k2, -⟩ := s.toCommit.commitClock_clock
  refine ⟨h1.trans (k1.trans (State.toCommit_tick h)), h2.trans k2, h4, fun d => ?_⟩
  rw [State.fstOf, h3]
  exact s.toCommit.commitClock_frameNo d

/-! ### The slots' marks at a commit -/

/-- The frame's marks of a slot are cleared. -/
def Slot.unmarked (x : Slot) : Prop := x.verified = false ∧ x.mismatched = false

theorem State.slotOf_updCoach (s : State) (i q : Nat) (f : Coach → Coach) : (s.updCoach i f).slotOf q = s.slotOf q := rfl

theorem State.commitJoin_other (s : State) {p q : Nat} (h : q ≠ p) : (s.commitJoin p).slotOf q = s.slotOf q := by
  unfold State.commitJoin
  dsimp only
  split
  · rw [State.slotOf_updSlot, if_neg h, State.slotOf_updCoach, State.slotOf_updCoach, State.slotOf_updCst, State.slotOf_updCst]
  · rfl

theorem State.commitTest_other (s : State) {p q : Nat} (h : q ≠ p) : (s.commitTest p).slotOf q = s.slotOf q := by
  unfold State.commitTest
  dsimp only
  split
  · rw [State.slotOf_updSlot, if_neg h, State.slotOf_updCst, State.slotOf_updCst]
  · rfl

theorem State.commitSlot_unmarked (s : State) (p q : Nat) : (q = p → ((s.commitSlot p).slotOf q).unmarked) ∧
    ((s.slotOf q).unmarked → ((s.commitSlot p).slotOf q).unmarked) := by
  have hself (h : q = p) : ((s.commitSlot p).slotOf q).unmarked := by
    subst h
    rw [State.commitSlot, State.slotOf_updSlot, if_pos rfl]
    generalize State.slotOf _ q = y
    exact ⟨rfl, rfl⟩
  refine ⟨hself, fun hq => ?_⟩
  by_cases h : q = p
  · exact hself h
  · rw [State.commitSlot, State.slotOf_updSlot, if_neg h, State.commitTest_other _ h, State.commitJoin_other _ h]
    exact hq

theorem State.commitFrame_unmarked (s : State) {p : Nat} (hp : p < 48) : (s.commitFrame.slotOf p).unmarked := by
  obtain ⟨x, hx, -⟩ := s.commitFrame_marks
  obtain ⟨a, b, hab⟩ := List.append_of_mem (List.mem_range.mpr hp)
  rw [hx, hab, State.forEach_split]
  exact forEach_inv (fun y => (State.slotOf y p).unmarked) _ (fun y q hy => (y.commitSlot_unmarked q p).2 hy) _ b
    ((State.commitSlot_unmarked _ p p).1 rfl)

theorem State.still_slot (s : State) : s.still.slot = s.slot := rfl

theorem State.commitRest_slot (s : State) : s.commitRest.slot = s.slot := by
  obtain ⟨x, hx, hs⟩ := s.commitRest_marks
  rw [hx]
  exact congrArg Still.slot hs

theorem State.enterRunning_slot (s : State) : s.enterRunning.slot = s.slot := by
  have keep (f : State → Nat → State) (h : ∀ x k, (f x k).slot = x.slot) (x : State) (l : List Nat) : (x.forEach l f).slot = x.slot :=
    forEach_keeps State.slot f h x l
  have hm (x : State) (m : Nat) : (x.evtsStart m).slot = x.slot := rfl
  unfold State.enterRunning State.monRunning
  dsimp only
  refine (keep _ ?_ _ _).trans ((keep _ ?_ _ _).trans ((keep _ ?_ _ _).trans ((keep _ ?_ _ _).trans ((keep _ ?_ _ _).trans rfl))))
  · intro x m
    rw [hm]
    rfl
  · exact fun _ _ => rfl
  · exact fun _ _ => rfl
  · exact fun _ _ => rfl
  · exact fun _ _ => rfl

theorem State.commitDevice_slot (s : State) : s.commitDevice.slot = s.slot := by
  have hv : s.enterService.slot = s.slot := by
    unfold State.enterService State.zeroise
    split <;> rfl
  unfold State.commitDevice
  split
  · exact hv
  · split
    · split
      · dsimp only
        split
        · rw [State.enterRunning_slot]
          rfl
        · rfl
      · rfl
    · split
      · exact s.enterRunning_slot
      · rfl
    · rfl

/-- A commit without a package clears the marks of every slot. -/
theorem State.commit_unmarked {s : State} (h : s.dev.applyPkg = false) {p : Nat} (hp : p < 48) :
    (s.committing.commitDevice.commitEnd.slotOf p).unmarked := by
  have hs := congrArg Still.slot (State.commit_still h)
  have hu := s.commitStart.commitFrame_unmarked hp
  rw [State.still_slot, State.still_slot] at hs
  rw [State.slotOf] at hu
  rw [State.slotOf, hs, State.commitDevice_slot, State.committing, State.commitRest_slot]
  exact hu

/-! ### The device's state at a commit (R371, R402, R403) -/

theorem State.commit_dev {s : State} (h : s.dev.applyPkg = false) : s.committing.commitDevice.commitEnd.dev = s.committing.commitDevice.dev := by
  have hd := congrArg Still.dev (State.commit_still h)
  rwa [State.still_dev, State.still_dev] at hd

/-- The sessions of the ports and of the service port. -/
def State.ports (s : State) : Two Port × Service := (s.port, s.svc)

/-- Start tokens, gates and the sides' image leave the sessions. -/
theorem State.commitEnd_ports {s : State} (h : s.dev.applyPkg = false) : s.commitEnd.ports = s.ports := by
  have hd (x : State) (t base : Nat) : (x.drawPulse t base).ports = x.ports := rfl
  have hg (x : State) (i : Nat) : (x.grant i).ports = x.ports := by
    unfold State.grant
    dsimp only
    refine forEach_keeps State.ports _ (fun y c => ?_) _ _
    split
    · rfl
    · rw [hd]
      rfl
  have hn (x : State) : x.newImage.ports = x.ports := by
    unfold State.newImage
    split <;> rfl
  have hs (x : State) : x.settle.ports = x.ports := rfl
  rw [State.commitEnd, hn, hs, State.commitGrants, forEach_keeps State.ports State.grant hg, State.commitPkg, h]
  rfl

theorem State.debugS_congr {s t : State} (hp : t.ports = s.ports) (hd : t.dev = s.dev) : t.debugS = s.debugS := by
  have hport : t.port = s.port := congrArg Prod.fst hp
  have hsvc : t.svc = s.svc := congrArg Prod.snd hp
  unfold State.debugS State.hasRole State.portOf
  rw [hport, hsvc, hd]

/-- A commit that a request for SERVICE stands for enters it, the secret zeroised where level S is then enabled (R402, R428). -/
theorem State.enterService_secret (s : State) : s.enterService.dev.st = .service ∧
    (s.enterService.debugS = true → s.enterService.dev.secretOk = false) := by
  refine ⟨s.enterService_dev.2, ?_⟩
  unfold State.enterService State.zeroise
  split
  · exact fun _ => rfl
  · next h => exact fun hd => absurd hd h

/-- The states that HOLDING and STANDBY are left for. -/
def State.servesIn (s : State) : DevState := if s.dev.pkgActive then .running else .standby

theorem State.commitDevice_st {s : State} (hs : s.dev.toService = false) :
    (s.dev.st = .holding → s.dev.holders = [] → s.dev.responder = false → s.commitDevice.dev.st = s.servesIn) ∧
    (s.dev.st = .holding → s.dev.holders ≠ [] → s.commitDevice.dev.st = .holding) ∧
    (s.dev.st = .standby → s.commitDevice.dev.st = s.servesIn) := by
  unfold State.commitDevice State.servesIn
  rw [if_neg (by rw [hs]; exact Bool.false_ne_true)]
  refine ⟨fun hst hh hr => ?_, fun hst hh => ?_, fun hst => ?_⟩
  · have hp : ((s.endCondition nDevice 0x0A05).post 0x0A06 nDevice 0 s.dev.holdCause).dev.pkgActive = s.dev.pkgActive := rfl
    simp only [hst, hh, hr, Bool.not_false, and_self, if_true, hp]
    split
    · rw [State.enterRunning_dev]
    · rfl
  · simp only [hst, hh, false_and, if_false]
  · simp only [hst]
    split
    · rw [State.enterRunning_dev]
    · exact hst

/-! ### The output image that a commit applies (R35, R43, R91, R110, R402) -/

/-- A field of a fold whose every element sets the field to its own value, or leaves it: read after the fold. -/
theorem read_foldl {β γ : Type} (rd : β → γ) (step : β → Nat → β) (Q : Nat → Prop) [DecidablePred Q] (v : γ) (c : Nat)
    (h : ∀ m a, rd (step m a) = if c = a ∧ Q c then v else rd m) (l : List Nat) (m : β) :
    rd (l.foldl step m) = if c ∈ l ∧ Q c then v else rd m := by
  induction l generalizing m with
  | nil => simp
  | cons a l ih =>
    rw [List.foldl_cons, ih, h]
    by_cases hq : Q c <;> by_cases hl : c ∈ l <;> simp [hq, hl]

/-- The bit sent for a local channel: that of the previous committed image while a pair holds it, else the copy's. -/
theorem State.bit_sentImage (s : State) (i : Nat) (on : BitVec 16) (ao : BitVec 224) {c : Nat} (hc : c < 16) :
    bit (s.sentImage i on ao).1 c = if s.heldOut (chipTerm i c) then bit (s.chipOf i).on c else bit on c := by
  rw [State.sentImage]
  refine (read_foldl (fun m : BitVec 16 × BitVec 224 => bit m.1 c) _ (fun a => s.heldOut (chipTerm i a) = true) (bit (s.chipOf i).on c) c
    (fun m a => ?_) _ _).trans (if_congr (and_iff_right (List.mem_range.mpr hc)) rfl rfl)
  by_cases hh : s.heldOut (chipTerm i a) = true
  · rw [if_pos hh, bit_setBit]
    by_cases ha : c = a
    · subst ha
      rw [if_pos ⟨rfl, hc⟩, if_pos ⟨rfl, hh⟩]
    · rw [if_neg fun h => ha h.1, if_neg fun h => ha h.1]
  · rw [if_neg hh, if_neg]
    rintro ⟨rfl, hc⟩
    exact hh hc

/-- A committed ON bit is one sent to a field chip in touch, for a terminal with an output. -/
theorem State.bit_onBits {s : State} {i c : Nat} {on : BitVec 16} (hc : c < 16) (h : bit (s.onBits i on) c = true) :
    (s.viewOf i).lost = false ∧ hasOutput (s.mode (tChan (chipTerm i c))) = true ∧ bit on c = true := by
  unfold State.onBits at h
  split at h
  · exact absurd h (by simp [bit])
  · next hs =>
    have hl : (s.viewOf i).lost = false := Bool.eq_false_iff.mpr fun hl => hs (.inr hl)
    rw [read_foldl (bit · c) _ (fun _ => True) (bit on c && hasOutput (s.mode (tChan (chipTerm i c))) && s.permitted (chipTerm i c)) c
      (fun m a => ?_), if_pos ⟨List.mem_range.mpr hc, trivial⟩] at h
    · simp only [Bool.and_eq_true] at h
      exact ⟨hl, h.1.2, h.1.1⟩
    · rw [bit_setBit]
      by_cases ha : c = a
      · subst ha
        rw [if_pos ⟨rfl, hc⟩, if_pos ⟨rfl, trivial⟩]
      · rw [if_neg fun h => ha h.1, if_neg fun h => ha h.1]

/-- Outside RUNNING no ON bit is committed (R402). -/
theorem State.onBits_idle {s : State} (h : s.dev.st ≠ .running) (i : Nat) (on : BitVec 16) : s.onBits i on = 0 := if_pos (.inl h)

/-! #### What the turns of other field chips leave -/

/-- What permission apart decides on a field chip's ON bits: device, package, slots, views, channels, and the chips' banks. -/
structure Basis where
  dev  : Device
  pkg  : Pkg
  slot : Tab Slot
  view : Tab View
  chan : Tab Channel
  bank : Nat → Bool × Tab Word

def State.basis (s : State) : Basis :=
  ⟨s.dev, s.pkg, s.slot, s.view, s.chan, fun j => ((s.chipOf j).linked, (s.chipOf j).active)⟩

section
variable {s t : State} (h : t.basis = s.basis)
include h

theorem State.basis_dev : t.dev = s.dev := congrArg Basis.dev h
theorem State.basis_pkg : t.pkg = s.pkg := congrArg Basis.pkg h
theorem State.basis_slot (p : Nat) : t.slotOf p = s.slotOf p := congrArg (fun g : Basis => Tab.get ({} : Slot) g.slot p) h
theorem State.basis_view (i : Nat) : t.viewOf i = s.viewOf i := congrArg (fun g : Basis => Tab.get ({} : View) g.view i) h
theorem State.basis_chan (c : Nat) : t.chanOf c = s.chanOf c := congrArg (fun g : Basis => Tab.get ({} : Channel) g.chan c) h
theorem State.basis_linked (i : Nat) : (t.chipOf i).linked = (s.chipOf i).linked := congrArg (fun g : Basis => (g.bank i).1) h
theorem State.basis_active (i : Nat) : (t.chipOf i).active = (s.chipOf i).active := congrArg (fun g : Basis => (g.bank i).2) h

theorem State.basis_cw (cls idx w : Nat) : t.cw cls idx w = s.cw cls idx w := by
  rw [State.cw, State.cw, State.basis_dev h, State.basis_pkg h]

theorem State.basis_ccfg (c : Nat) : t.ccfg c = s.ccfg c := by
  unfold State.ccfg State.chipWord
  rw [State.basis_cw h, State.basis_dev h, State.basis_linked h, State.basis_active h]

theorem State.basis_mode (c : Nat) : t.mode c = s.mode c := by rw [State.mode, State.mode, State.basis_chan h, State.basis_ccfg h]

theorem State.basis_confChips : t.confChips = s.confChips := by
  simp only [State.confChips, State.confTerms, State.basis_dev h, State.basis_ccfg h]

theorem State.basis_chipOuts (i : Nat) : t.chipOuts i = s.chipOuts i := by simp only [State.chipOuts, State.basis_mode h]

theorem State.basis_fnsOfOut (k : Nat) : t.fnsOfOut k = s.fnsOfOut k := by
  have hf : t.fns = s.fns := by rw [State.fns, State.fns, State.basis_dev h, State.basis_pkg h]
  have ho (f : Nat) : t.outsOf f = s.outsOf f := by rw [State.outsOf, State.outsOf, State.basis_dev h, State.basis_pkg h]
  rw [State.fnsOfOut, State.fnsOfOut, State.basis_dev h, State.basis_pkg h, hf]
  simp only [ho]

theorem State.basis_fSlot (f : Nat) : t.fSlot f = s.fSlot f := by
  rw [State.fSlot, State.fSlot, State.fcfg, State.fcfg, State.basis_cw h]

theorem State.basis_heldOut (k : Nat) : t.heldOut k = s.heldOut k := by
  simp only [State.heldOut, State.basis_fnsOfOut h, State.basis_fSlot h, State.basis_slot h]

end

theorem State.basis_updTerm (s : State) (t : Nat) (f : Terminal → Terminal) : (s.updTerm t f).basis = s.basis := rfl

theorem State.basis_updChip (s : State) (i : Nat) {f : Chip → Chip} (h : ∀ x, ((f x).linked, (f x).active) = (x.linked, x.active)) :
    (s.updChip i f).basis = s.basis := by
  have hc : (fun j => (((s.updChip i f).chipOf j).linked, ((s.updChip i f).chipOf j).active)) =
      fun j => ((s.chipOf j).linked, (s.chipOf j).active) := by
    funext j
    rw [State.chipOf_updChip]
    split
    · next hj => rw [h, hj]
    · rfl
  exact congrArg (Basis.mk s.dev s.pkg s.slot s.view s.chan) hc

theorem State.basis_postL (s : State) (code : Nat) (src : Node) (sev detail : Nat) (l : Bool) :
    (s.postL code src sev detail l).basis = s.basis := rfl

theorem State.basis_commitChip (s : State) (i : Nat) : (s.commitChip i).basis = s.basis := by
  unfold State.commitChip
  split
  · refine (forEach_keeps State.basis _ ?_ _ _).trans (s.basis_updChip i fun _ => rfl)
    exact fun x t => x.basis_updTerm t _
  · rw [State.basis_postL]
    exact s.basis_updChip i fun _ => rfl

theorem State.basis_commitChips (s : State) (l : List Nat) : (s.forEach l State.commitChip).basis = s.basis :=
  forEach_keeps State.basis _ State.basis_commitChip s l

theorem State.Ruled.basis {s t : State} (h : s.Ruled t) : t.basis = s.basis := by
  rw [State.basis, h]
  rfl

theorem State.chipOf_commitOut (s : State) (t : Nat) (on : Bool) (ao : BitVec 14) (i : Nat) :
    (s.commitOut t on ao).chipOf i = s.chipOf i := rfl

theorem State.chipOf_postL (s : State) (code : Nat) (src : Node) (sev detail : Nat) (l : Bool) (i : Nat) :
    (s.postL code src sev detail l).chipOf i = s.chipOf i := rfl

theorem State.chipOf_commitChip_other (s : State) {i j : Nat} (h : j ≠ i) : (s.commitChip i).chipOf j = s.chipOf j := by
  unfold State.commitChip
  split
  · refine (forEach_keeps (fun x => x.chipOf j) _ (fun x t => ?_) _ _).trans ?_
    · exact x.chipOf_commitOut t _ _ j
    · rw [State.chipOf_updChip, if_neg h]
  · refine (State.chipOf_postL _ _ _ _ _ _ j).trans ?_
    rw [State.chipOf_updChip, if_neg h]

theorem State.termOf_commitOut_other (s : State) {t k : Nat} (h : k ≠ t) (on : Bool) (ao : BitVec 14) :
    (s.commitOut t on ao).termOf k = s.termOf k := by rw [State.commitOut, State.termOf_updTerm, if_neg h]

/-- Every output terminal of a field chip is its own. -/
theorem State.tChip_of_chipOuts {s : State} {i k : Nat} (h : k ∈ s.chipOuts i) : tChip k = i := by
  obtain ⟨c, hc, rfl⟩ := List.mem_map.mp (List.mem_of_mem_filter h)
  exact tChip_chipTerm i (List.mem_range.mp hc)

theorem State.termOf_commitChip_other (s : State) {i k : Nat} (h : tChip k ≠ i) : (s.commitChip i).termOf k = s.termOf k := by
  unfold State.commitChip
  split
  · refine State.forEach_inv_mem (fun x => x.termOf k = s.termOf k) _ (fun x t ht hx => ?_) rfl
    have hk : k ≠ t := fun hk => h (by rw [hk, State.tChip_of_chipOuts ht])
    rw [State.termOf_commitOut_other _ hk, hx]
  · rfl

/-! #### A field chip's own turn -/

/-- A field chip with a valid copy commits the ON bits that its sent image allows. -/
theorem State.on_commitChip {s : State} {i : Nat} {on : BitVec 16} {ao : BitVec 224} (h : s.copyNow i = some (on, ao)) :
    ((s.commitChip i).chipOf i).on = s.onBits i (s.sentImage i on ao).1 := by
  unfold State.commitChip
  rw [h]
  refine (forEach_keeps (fun x => (x.chipOf i).on) _ (fun x t => ?_) _ _).trans ?_
  · exact congrArg Chip.on (x.chipOf_commitOut t _ _ i)
  · rw [State.chipOf_updChip, if_pos rfl]

theorem State.outOn_commitOut (s : State) (t k : Nat) (ao : BitVec 14) :
    (k = t → ((s.commitOut t false ao).termOf k).out.on = false) ∧
    ((s.termOf k).out.on = false → ((s.commitOut t false ao).termOf k).out.on = false) := by
  have hself (h : k = t) : ((s.commitOut t false ao).termOf k).out.on = false := by
    rw [State.commitOut, State.termOf_updTerm, if_pos h]
    rfl
  refine ⟨hself, fun hk => ?_⟩
  by_cases h : k = t
  · exact hself h
  · rw [s.termOf_commitOut_other h, hk]

/-- Outside RUNNING a field chip with a valid copy switches its output terminals off. -/
theorem State.outOn_commitChip {s : State} {i k : Nat} {on : BitVec 16} {ao : BitVec 224} (h : s.copyNow i = some (on, ao))
    (hs : s.dev.st ≠ .running) (hk : k ∈ s.chipOuts i) : ((s.commitChip i).termOf k).out.on = false := by
  have hb (c : Nat) : bit (0 : BitVec 16) c = false := by simp [bit]
  unfold State.commitChip
  rw [h]
  dsimp only
  rw [State.onBits_idle hs]
  simp only [hb]
  obtain ⟨a, b, hab⟩ := List.append_of_mem hk
  rw [hab, State.forEach_split]
  exact forEach_inv (fun y => (y.termOf k).out.on = false) _ (fun y t hy => (y.outOn_commitOut t k _).2 hy) _ b
    ((State.outOn_commitOut _ k k _).1 rfl)

/-! #### All field chips -/

/-- What the commit does to a field chip is what its own turn does. -/
theorem State.commitChips_turn {s : State} {i : Nat} (h : i ∈ s.confChips) : ∃ y : State, y.basis = s.basis ∧
    y.chipOf i = s.chipOf i ∧ y.clock = s.clock ∧ ((s.forEach s.confChips State.commitChip).chipOf i) = (y.commitChip i).chipOf i ∧
    ∀ k, tChip k = i → (s.forEach s.confChips State.commitChip).termOf k = (y.commitChip i).termOf k := by
  have hn : s.confChips.Nodup := List.nodup_range.filter _
  obtain ⟨a, b, hab⟩ := List.append_of_mem h
  rw [hab] at hn
  obtain ⟨-, hb, hd⟩ := List.nodup_append.mp hn
  have hia : i ∉ a := fun hi => hd i hi i List.mem_cons_self rfl
  have hib : i ∉ b := (List.nodup_cons.mp hb).1
  have hchip (x : State) (l : List Nat) (hl : i ∉ l) : (x.forEach l State.commitChip).chipOf i = x.chipOf i :=
    State.forEach_inv_mem (fun y => y.chipOf i = x.chipOf i) _ (fun y j hj hy => by
      have hj : i ≠ j := fun e => hl (by rwa [e])
      rw [y.chipOf_commitChip_other hj, hy]) rfl
  have ho : s.Outs (s.forEach a State.commitChip) := .forEach State.Outs.commitChip a
  refine ⟨s.forEach a State.commitChip, s.basis_commitChips a, hchip s a hia, ho.clock, ?_, fun k hk => ?_⟩
  · rw [hab, State.forEach_split, hchip _ b hib]
  · rw [hab, State.forEach_split]
    refine State.forEach_inv_mem (fun y => y.termOf k = (State.commitChip _ i).termOf k) _ (fun y j hj hy => ?_) rfl
    have hj : tChip k ≠ j := fun e => hib (by rwa [← hk, e])
    rw [y.termOf_commitChip_other hj, hy]

theorem State.commitStart_basis (s : State) : s.commitStart.basis = s.basis := rfl

theorem State.copyNow_congr {s t : State} {i : Nat} (hc : t.chipOf i = s.chipOf i) (hf : t.clock.frame = s.clock.frame) :
    t.copyNow i = s.copyNow i := by rw [State.copyNow, State.copyNow, hc, hf]

/-- At a commit without a package a field chip with a valid copy commits no other ON bit than the copy's, or the previous image's
for a terminal that a pair holds. -/
theorem State.commit_chip {s : State} (ha : s.dev.applyPkg = false) {i : Nat} (hi : i ∈ s.confChips) {on : BitVec 16} {ao : BitVec 224}
    (hco : s.toCommit.copyNow i = some (on, ao)) : let t := s.committing.commitDevice.commitEnd
    (∀ c < 16, bit (t.chipOf i).on c = true → (s.viewOf i).lost = false ∧ hasOutput (s.mode (tChan (chipTerm i c))) = true ∧
      (if s.heldOut (chipTerm i c) then bit (s.chipOf i).on c else bit on c) = true) ∧
    (s.dev.st ≠ .running → (t.chipOf i).on = 0 ∧ ∀ k ∈ s.chipOuts i, (t.termOf k).out.on = false) := by
  intro t
  have hl := State.commit_later ha
  have hr := State.Ruled.commitRuled s.commitStart
  have hx : s.commitStart.commitRuled.basis = s.basis := hr.basis.trans s.commitStart_basis
  have hxi : i ∈ s.commitStart.commitRuled.confChips := by rwa [State.basis_confChips hx]
  obtain ⟨y, hy, hyi, hyc, hchip, hterm⟩ := State.commitChips_turn hxi
  replace hy : y.basis = s.basis := hy.trans hx
  have hxc : s.commitStart.commitRuled.chipOf i = s.chipOf i := congrArg (fun c => Tab.get ({} : Chip) c i) hr.chip
  replace hyi : y.chipOf i = s.chipOf i := hyi.trans hxc
  have hyo : y.copyNow i = some (on, ao) := by
    rw [← hco]
    refine State.copyNow_congr hyi ?_
    rw [hyc, hr.clock]
    exact s.toCommit.commitClock_clock.2.2
  have hon : (t.chipOf i).on = y.onBits i (y.sentImage i on ao).1 := by
    rw [← State.on_commitChip hyo, ← hchip]
    exact hl.on i
  refine ⟨fun c hc hb => ?_, fun hs => ⟨?_, fun k hk => ?_⟩⟩
  · rw [hon] at hb
    obtain ⟨h1, h2, h3⟩ := State.bit_onBits hc hb
    rw [State.basis_view hy] at h1
    rw [State.basis_mode hy] at h2
    rw [State.bit_sentImage _ _ _ _ hc, State.basis_heldOut hy, hyi] at h3
    exact ⟨h1, h2, h3⟩
  · rw [hon, State.onBits_idle (by rwa [State.basis_dev hy])]
  · have hky : k ∈ y.chipOuts i := by rwa [State.basis_chipOuts hy]
    rw [hl.outOn k, State.commitChips, hterm k (State.tChip_of_chipOuts hk)]
    exact State.outOn_commitChip hyo (by rwa [State.basis_dev hy]) hky

/-! ### The commit -/

/-- A request for SERVICE is answered at a commit without a package (R402, R428). -/
theorem State.commit_service {s : State} (ha : s.dev.applyPkg = false) (hs : s.dev.toService = true) :
    let t := s.committing.commitDevice.commitEnd
    t.dev.st = .service ∧ (t.debugS = true → t.dev.secretOk = false) := by
  intro t
  have hd : s.committing.commitDevice = s.committing.enterService := if_pos (by rw [State.committing_dev]; exact hs)
  have hdev : t.dev = s.committing.enterService.dev := by rw [← hd]; exact State.commit_dev ha
  have hp : t.ports = s.committing.enterService.ports := by
    rw [← hd]
    refine State.commitEnd_ports ?_
    rw [State.commitDevice_applyPkg, State.committing_dev, ha]
  obtain ⟨hst, hsec⟩ := s.committing.enterService_secret
  rw [State.debugS_congr hp hdev, hdev]
  exact ⟨hst, hsec⟩

/-- Settles O15. The picture of the commit's start passes through the functions, monitors, connections and field chips, whose own turns
give the ON bits; the device's own changes come after, and the later steps leave both. -/
theorem commitAppliesTheFrame : Obligations.CommitAppliesTheFrame := by
  intro s hf
  obtain ⟨htick, hcom, hpd, hno⟩ := State.commit_edge hf
  refine ⟨_, exec_commit s, htick, hcom, State.commitEnd_gatesSafe _, hpd, hno, fun ha p hp => State.commit_unmarked ha hp,
    fun ha i hi on ao hco => State.commit_chip ha hi hco, fun ha hs => State.commit_service ha hs, fun ha hs => ?_⟩
  rw [State.commit_dev ha]
  have h := State.commitDevice_st (s := s.committing) (by rw [State.committing_dev]; exact hs)
  rw [State.servesIn, State.committing_dev] at h
  exact h

/-! ### What a capture freezes (R35)

The evaluations that follow the capture of the image change tokens, connections, monitors and functions; what has been frozen stays. -/

/-- What a capture freezes, and what it leaves. -/
structure Frozen where
  clock   : Clock
  st      : DevState
  otp     : Two (BitVec 4096)
  pkg     : Pkg
  reqs    : List TokReq
  term    : Nat → Bool × Img × BitVec 18 × BitVec 13
  sl      : Side → BitVec 2
  fetched : Side → List Packet
  timer   : Nat → Word × Word

def Still.frozen (x : Still) : Frozen :=
  ⟨x.clock, x.dev.st, x.dev.otp, x.pkg, x.reqs, x.term, fun d => (x.sl d).2, x.fetched, x.timer⟩

def State.frozen (s : State) : Frozen := s.still.frozen

theorem State.frozen_of_still {s t : State} (h : t.still = s.still) : t.frozen = s.frozen := congrArg Still.frozen h

theorem State.frozen_forEach {f : State → Nat → State} (h : ∀ (x : State) k, (f x k).frozen = x.frozen) (s : State) (l : List Nat) :
    (s.forEach l f).frozen = s.frozen := forEach_keeps State.frozen f h s l

theorem State.frozen_foldl {α : Type} {f : State → α → State} (h : ∀ (x : State) a, (f x a).frozen = x.frozen) (s : State) (l : List α) :
    (l.foldl f s).frozen = s.frozen := foldl_keeps State.frozen f h l s

theorem State.frozen_ite {s t u : State} {p : Prop} [Decidable p] (ht : t.frozen = s.frozen) (hu : u.frozen = s.frozen) :
    (if p then t else u).frozen = s.frozen := by
  split
  · exact ht
  · exact hu

section
variable (s : State)

@[simp] theorem State.frozen_postL (code : Nat) (src : Node) (sev detail : Nat) (l : Bool) :
    (s.postL code src sev detail l).frozen = s.frozen := rfl
@[simp] theorem State.frozen_post (code : Nat) (src : Node) (sev detail : Nat) : (s.post code src sev detail).frozen = s.frozen := rfl
@[simp] theorem State.frozen_endCondition (n : Node) (code : Nat) : (s.endCondition n code).frozen = s.frozen := rfl
@[simp] theorem State.frozen_updFn (f : Nat) (g : Fn → Fn) : (s.updFn f g).frozen = s.frozen := rfl
@[simp] theorem State.frozen_updMon (m : Nat) (g : Mon → Mon) : (s.updMon m g).frozen = s.frozen := rfl
@[simp] theorem State.frozen_updMonx (m : Nat) (g : MonX → MonX) : (s.updMonx m g).frozen = s.frozen := rfl
@[simp] theorem State.frozen_updConn (c : Nat) (g : Conn → Conn) : (s.updConn c g).frozen = s.frozen := rfl
@[simp] theorem State.frozen_ledgerAdd (kind inst ch ta tb old new : Nat) : (s.ledgerAdd kind inst ch ta tb old new).frozen = s.frozen := rfl
@[simp] theorem State.frozen_raiseFns (fs : List Nat) (cause detail term : Nat) : (s.raiseFns fs cause detail term).frozen = s.frozen :=
  State.frozen_of_still (s.still_raiseFns fs cause detail term)
@[simp] theorem State.frozen_addReply (r : Reply) : (s.addReply r).frozen = s.frozen := State.frozen_of_still (s.still_addReply r)

@[simp] theorem State.frozen_setFn (f : Nat) (st : FnState) (cause detail term : Nat) : (s.setFn f st cause detail term).frozen = s.frozen := by
  have hp (x : State) : (x.postFn f st cause detail).frozen = x.frozen := rfl
  have ha (v : Option Armed) : ({ s with armed := v } : State).frozen = s.frozen := rfl
  unfold State.setFn
  dsimp only
  split
  · rw [State.frozen_ledgerAdd, hp, State.frozen_updFn, ha]
  · rw [hp, State.frozen_updFn, ha]

/-- A port's update that leaves what it has fetched. -/
theorem State.frozen_updPort {d : Side} {f : Port → Port} (h : ∀ x, (f x).fetched = x.fetched) : (s.updPort d f).frozen = s.frozen :=
  State.frozen_of_still (s.still_updPort h)

theorem State.frozen_registerStop (d : Side) (g c : Nat) : (s.registerStop d g c).frozen = s.frozen :=
  State.frozen_of_still (s.still_updHalf (fun _ => rfl) fun _ => rfl)

/-! #### The token and the semaphores (R350–R353) -/

theorem State.frozen_countReject (port : Option Side) (status : Nat) : (s.countReject port status).frozen = s.frozen := by
  unfold State.countReject
  split
  · split
    · exact s.frozen_updPort fun _ => rfl
    · rfl
  · rfl

theorem State.frozen_tokReply (r : TokReq) (status : Nat) : (s.tokReply r status).frozen = s.frozen := by
  unfold State.tokReply
  rw [State.frozen_countReject, State.frozen_addReply]

theorem State.frozen_lease (p : Side) (ms : Nat) : (s.lease p ms).frozen = s.frozen := by
  unfold State.lease
  dsimp only
  split <;> rfl

theorem State.frozen_leaveComm (f : Nat) : (s.leaveComm f).frozen = s.frozen := by
  unfold State.leaveComm
  split
  · rfl
  · dsimp only
    rw [State.frozen_ledgerAdd]
    split <;> simp

theorem State.frozen_tokenFreed : s.tokenFreed.frozen = s.frozen := by
  unfold State.tokenFreed
  dsimp only
  rw [State.frozen_forEach State.frozen_leaveComm]
  split <;> rfl

theorem State.frozen_tokStep (r : TokReq) : (s.tokStep r).frozen = s.frozen := by
  unfold State.tokStep
  dsimp only
  cases r.kind with
  | release =>
    dsimp only
    split
    · rw [State.frozen_tokReply, State.frozen_tokenFreed]
    · exact s.frozen_tokReply r _
  | renew ms =>
    dsimp only
    split
    · rw [State.frozen_tokReply, State.frozen_lease]
    · exact s.frozen_tokReply r _
  | acquire ms =>
    dsimp only
    split
    · rw [State.frozen_tokReply, State.frozen_lease]
    · exact s.frozen_tokReply r _

/-- The token's decision leaves no request waiting. -/
theorem State.frozen_decideToken : s.decideToken.frozen = { s.frozen with reqs := [] } := by
  have hr (x : State) : ({ x with token := { x.token with reqs := [] } } : State).frozen = { x.frozen with reqs := [] } := rfl
  have hg (p : Bool) : (if p then s.tokenFreed else s).frozen = s.frozen := by
    split
    · exact s.frozen_tokenFreed
    · rfl
  unfold State.decideToken
  dsimp only
  rw [State.frozen_foldl State.frozen_tokStep, State.frozen_foldl State.frozen_tokStep, State.frozen_foldl State.frozen_tokStep, hr, hg]

theorem State.frozen_decideSems : s.decideSems.frozen = s.frozen := by
  have hk (x : State) (k : Nat) : (x.decideSem k).frozen = x.frozen := rfl
  unfold State.decideSems
  dsimp only
  rw [State.frozen_updPort, State.frozen_updPort, State.frozen_forEach hk]
  · exact fun _ => rfl
  · exact fun _ => rfl

/-! #### The packets (R341) -/

theorem State.frozen_badWords (p : Side) : (s.badWords p).frozen = s.frozen := by
  unfold State.badWords
  dsimp only
  split
  · rfl
  · rw [State.frozen_post]
    exact s.frozen_updPort fun _ => rfl

/-- What a port has fetched leaves for its image. -/
theorem State.frozen_takePackets (p : Side) :
    (s.takePackets p).frozen = { s.frozen with fetched := fun d => if d = p then [] else s.frozen.fetched d } := by
  have ht : (fun d => ((s.takePackets p).portOf d).fetched) = fun d => if d = p then [] else (s.portOf d).fetched := by
    funext d
    cases p <;> cases d <;> rfl
  have hs : (s.takePackets p).frozen = { s.frozen with fetched := fun d => ((s.takePackets p).portOf d).fetched } := by cases p <;> rfl
  rw [hs, ht]
  rfl

/-- The host side of a capture: no fetched packet and no token request waits. -/
theorem State.frozen_captureHost : s.captureHost.frozen = { s.frozen with reqs := [], fetched := fun _ => [] } := by
  have hf (g : Side → List Packet) : (fun d => if d = Side.B then [] else if d = Side.A then [] else g d) = fun _ => [] := by
    funext d
    cases d <;> rfl
  rw [State.captureHost, State.frozen_decideSems, State.frozen_decideToken, State.frozen_takePackets, State.frozen_takePackets,
    State.frozen_badWords, State.frozen_badWords]
  dsimp only
  rw [hf]

/-! #### Connections (R321–R326) -/

theorem State.frozen_connOpen (c : Nat) (e : BitVec 16) : (s.connOpen c e).frozen = s.frozen := by
  have hw (x : State) (d : Side) (k : Nat) (w : Word) : (x.recWrite d k w).frozen = x.frozen := State.frozen_ite rfl rfl
  unfold State.connOpen State.epochWrite
  dsimp only
  rw [State.frozen_updConn, hw, hw]

theorem State.frozen_connTake (c : Nat) (a : Accepted) : (s.connTake c a).frozen = s.frozen := by
  unfold State.connTake
  dsimp only
  split
  · exact s.frozen_updConn c _
  · rw [State.frozen_endCondition, State.frozen_endCondition, State.frozen_updConn]

theorem State.frozen_connLoss (c : Nat) (was now : LinkState) : (s.connLoss c was now).frozen = s.frozen := by
  unfold State.connLoss
  dsimp only
  rw [State.frozen_postL]
  split
  · rw [State.frozen_registerStop, State.frozen_registerStop, State.frozen_updConn]
  · rfl

theorem State.frozen_connTally (c : Nat) (z : Decided) : (s.connTally c z).frozen = s.frozen := by
  have hp (x : State) (l : List Accepted) : (x.postPayloads c l).frozen = x.frozen := by
    unfold State.postPayloads
    dsimp only
    split <;> rfl
  unfold State.connTally
  dsimp only
  split
  · rw [State.frozen_postL, hp, State.frozen_updConn]
  · rw [hp, State.frozen_updConn]

theorem State.frozen_connStep (c : Nat) (z : Decided) : (s.connStep c z).frozen = s.frozen := by
  have hlate (x : State) (p : Prop) [Decidable p] (hx : x.frozen = s.frozen) :
      (if p then x.connLoss c (s.connOf c).st .lost else x).frozen = s.frozen :=
    State.frozen_ite ((x.frozen_connLoss c _ _).trans hx) hx
  have hopen (x : State) (o : Option Accepted) : (match o with | some a => x.connOpen c a.r.epoch | none => x).frozen = x.frozen := by
    cases o with
    | none => rfl
    | some a => exact x.frozen_connOpen c _
  unfold State.connStep
  dsimp only
  split
  · rfl
  · split
    · split
      · exact s.frozen_connOpen c _
      · rfl
    · split
      · rfl
      · exact hopen s _
  · split
    · exact s.frozen_connOpen c _
    · exact hopen s _
  · split
    · exact s.frozen_connTake c _
    · split
      · exact s.frozen_updConn c _
      · rfl
  · split
    · rw [State.frozen_connOpen, State.frozen_connLoss]
    · split
      · exact hlate _ _ (s.frozen_connTake c _)
      · exact hlate s _ rfl

theorem State.frozen_connCaptures : s.connCaptures.frozen = s.frozen := by
  refine State.frozen_forEach (fun x c => ?_) s _
  unfold State.connCapture
  dsimp only
  rw [State.frozen_connStep, State.frozen_connTally]

/-! #### Monitors (R272–R298) -/

theorem State.frozen_monPost (m code sev detail : Nat) (l : Bool) : (s.monPost m code sev detail l).frozen = s.frozen := by
  unfold State.monPost
  split <;> rfl

theorem State.frozen_monJudge (m : Nat) : (s.monJudge m).frozen = s.frozen := by
  have hfault (x : State) (code : Nat) : (x.monFault m code).frozen = x.frozen := by
    unfold State.monFault
    split
    · rfl
    · dsimp only
      rw [State.frozen_forEach, State.frozen_monPost, State.frozen_updMonx, State.frozen_updMon]
      intro z k
      rw [State.frozen_monPost, State.frozen_updMonx]
  have hclear (x : State) : (x.monClear m).frozen = x.frozen := by
    unfold State.monClear
    split
    · rfl
    · dsimp only
      split
      · rw [State.frozen_endCondition, State.frozen_updMonx, State.frozen_updMon]
      · rw [State.frozen_updMonx, State.frozen_updMonx, State.frozen_updMon]
  have hcount (f g : MonX → MonX) : ((s.updMonx m f).updMonx m g).frozen = s.frozen := by rw [State.frozen_updMonx, State.frozen_updMonx]
  unfold State.monJudge
  exact State.frozen_ite ((hfault _ _).trans (hcount _ _)) (State.frozen_ite ((hclear _).trans (hcount _ _)) (hcount _ _))

theorem State.frozen_monRaise (m : Nat) (inFrame : Bool) (r : Option (Byte × Byte)) : (s.monRaise m inFrame r).frozen = s.frozen := by
  unfold State.monRaise
  dsimp only
  split
  · rfl
  · next c d =>
    have hb (x : State) : (if inFrame then x.forEach (x.bound m) fun z f => z.updFn f fun y => y.faultInFrame c d 0x1FF
        else x.raiseFns (x.bound m) c.toNat d.toNat 0x1FF).frozen = x.frozen := by
      split
      · exact State.frozen_forEach (fun z f => z.frozen_updFn f _) x _
      · exact x.frozen_raiseFns _ _ _ _
    have hr (f : MonX → MonX) (g : Mon → Mon) : ((s.updMonx m f).updMon m g).frozen = s.frozen := by
      rw [State.frozen_updMon, State.frozen_updMonx]
    split
    · exact (hb _).trans (hr _ _)
    · exact (State.frozen_monPost _ _ _ _ _ _).trans ((hb _).trans (hr _ _))

theorem State.frozen_monEvents (m : Nat) : (s.monEvents m).frozen = s.frozen := by
  have he (x : State) : (x.evtsStart m).frozen = x.frozen := rfl
  unfold State.monEvents
  dsimp only
  split
  · split
    · rw [he, State.frozen_updMonx]
    · rfl
  · split
    · rfl
    · rw [State.frozen_updMonx, State.frozen_forEach]
      intro z k
      split
      · rfl
      · rw [State.frozen_monPost, State.frozen_updMonx]

theorem State.frozen_monCapture (pdBit : Nat → Bool) (inFrame : Bool) (m : Nat) : (s.monCapture pdBit inFrame m).frozen = s.frozen := by
  have htake (x : State) : (x.monTake m).frozen = x.frozen := rfl
  have hjudged (x : State) : (x.monJudged m).frozen = x.frozen := rfl
  have hnext (x : State) (req : Bool) (st : BitVec 4) : (x.monNext m req st).frozen = x.frozen := rfl
  have hsos (x : State) : (x.monSos m).frozen = x.frozen := rfl
  have hrev (x : State) : (x.monRevReq m).frozen = x.frozen := State.frozen_forEach (fun z f => z.frozen_updMonx m _) x _
  unfold State.monCapture
  split
  · rfl
  · dsimp only
    rw [hrev, State.frozen_monEvents, hsos, State.frozen_monRaise]
    split
    · rw [State.frozen_updMon, hnext, State.frozen_monJudge, hjudged, htake]
    · rw [hnext, State.frozen_monJudge, hjudged, htake]

theorem State.frozen_captureMons : s.captureMons.frozen = s.frozen := by
  have hbegin (x : State) : x.monBegin.frozen = x.frozen := by
    unfold State.monBegin
    split <;> rfl
  have hall : (s.monCaptures s.pdBit).frozen = s.frozen := by
    unfold State.monCaptures
    rw [State.frozen_forEach fun x m => x.frozen_monCapture _ _ m, hbegin]
  unfold State.captureMons
  split
  · exact hall
  · exact hall
  · rfl

/-! #### Functions (R250) -/

theorem State.frozen_fnCaptures : s.fnCaptures.frozen = s.frozen := by
  have htake (x : State) (f : Nat) : (x.takeCauses f).frozen = x.frozen := rfl
  have hrun (x : State) (f : Nat) : (x.runFn f false).frozen = x.frozen := by
    unfold State.runFn
    split <;> rfl
  have hend (x : State) (f : Nat) : (x.endFnCondition f).frozen = x.frozen := by
    unfold State.endFnCondition
    dsimp only
    split <;> rfl
  unfold State.fnCaptures
  dsimp only
  rw [State.frozen_forEach hrun, State.frozen_forEach hend, State.frozen_forEach htake]

/-! #### The evaluations together -/

/-- What follows the capture of the image. -/
def State.captureEnd (s : State) : State := s.captureHost.connCaptures.captureMons.fnCaptures.settle

theorem State.frozen_captureEnd : s.captureEnd.frozen = { s.frozen with reqs := [], fetched := fun _ => [] } := by
  rw [State.captureEnd, State.frozen_of_still (State.still_settle _), State.frozen_fnCaptures, State.frozen_captureMons,
    State.frozen_connCaptures, State.frozen_captureHost]

end

/-! ### What a terminal's image is taken from (R35, R54, R95) -/

/-- What QUAL, FSAFE and the edge stamp of a terminal rest on in the terminal itself. -/
def Terminal.seen (x : Terminal) : Bool × Bool × BitVec 32 × Nat := (x.forced, x.tstat.qual, x.tstat.causes &&& fsafeCauses, x.dig.stamp)

/-- What the image of terminal k rests on: package and banks, channels that a mode change holds off, holds of the field chips, the
terminal, and whether its own field chip is lost. -/
structure Sensed where
  loaded : Bool
  pkg    : Pkg
  off    : Nat → Nat
  bank   : Nat → Bool × Tab Word
  holds  : Nat → Bool × BitVec 16 × BitVec 16
  lost   : Bool × Option Nat
  seen   : Bool × Bool × BitVec 32 × Nat

def State.sensed (s : State) (k : Nat) : Sensed :=
  { loaded := s.dev.loaded, pkg := s.pkg, off := fun c => (s.chanOf c).offLeft
    bank := fun i => ((s.chipOf i).linked, (s.chipOf i).active)
    holds := fun i => ((s.lanesOf i).fsafeAll, (s.lanesOf i).latHold, (s.lanesOf i).pairHold)
    lost := ((s.viewOf (tChip k)).lost, (s.viewOf (tChip k)).returnAt), seen := (s.termOf k).seen }

section
variable {s t : State} {k : Nat} (h : t.sensed k = s.sensed k)
include h

theorem State.sensed_loaded : t.dev.loaded = s.dev.loaded := congrArg Sensed.loaded h
theorem State.sensed_pkg : t.pkg = s.pkg := congrArg Sensed.pkg h
theorem State.sensed_off (c : Nat) : (t.chanOf c).offLeft = (s.chanOf c).offLeft := congrFun (congrArg Sensed.off h) c
theorem State.sensed_linked (i : Nat) : (t.chipOf i).linked = (s.chipOf i).linked := congrArg (fun x : Sensed => (x.bank i).1) h
theorem State.sensed_active (i : Nat) : (t.chipOf i).active = (s.chipOf i).active := congrArg (fun x : Sensed => (x.bank i).2) h
theorem State.sensed_fsafeAll (i : Nat) : (t.lanesOf i).fsafeAll = (s.lanesOf i).fsafeAll := congrArg (fun x : Sensed => (x.holds i).1) h
theorem State.sensed_latHold (i : Nat) : (t.lanesOf i).latHold = (s.lanesOf i).latHold := congrArg (fun x : Sensed => (x.holds i).2.1) h
theorem State.sensed_pairHold (i : Nat) : (t.lanesOf i).pairHold = (s.lanesOf i).pairHold := congrArg (fun x : Sensed => (x.holds i).2.2) h
theorem State.sensed_lost : (t.viewOf (tChip k)).lost = (s.viewOf (tChip k)).lost := congrArg (fun x : Sensed => x.lost.1) h
theorem State.sensed_returnAt : (t.viewOf (tChip k)).returnAt = (s.viewOf (tChip k)).returnAt := congrArg (fun x : Sensed => x.lost.2) h
theorem State.sensed_forced : (t.termOf k).forced = (s.termOf k).forced := congrArg (fun x : Sensed => x.seen.1) h
theorem State.sensed_qual : (t.termOf k).tstat.qual = (s.termOf k).tstat.qual := congrArg (fun x : Sensed => x.seen.2.1) h
theorem State.sensed_causes : (t.termOf k).tstat.causes &&& fsafeCauses = (s.termOf k).tstat.causes &&& fsafeCauses :=
  congrArg (fun x : Sensed => x.seen.2.2.1) h
theorem State.sensed_stamp : (t.termOf k).dig.stamp = (s.termOf k).dig.stamp := congrArg (fun x : Sensed => x.seen.2.2.2) h

theorem State.sensed_chipWord (i obj idx cls n : Nat) : t.chipWord i obj idx cls n = s.chipWord i obj idx cls n := by
  rw [State.chipWord, State.chipWord, State.cw, State.cw, State.sensed_loaded h, State.sensed_pkg h, State.sensed_linked h,
    State.sensed_active h]

theorem State.sensed_ccfg (c : Nat) : t.ccfg c = s.ccfg c := State.sensed_chipWord h _ _ _ _ _

theorem State.sensed_mode (c : Nat) : t.mode c = s.mode c := by rw [State.mode, State.mode, State.sensed_off h, State.sensed_ccfg h]

theorem State.sensed_confTerms : t.confTerms = s.confTerms := by
  simp only [State.confTerms, State.sensed_loaded h, State.sensed_ccfg h]

theorem State.sensed_demVal (j : Nat) : t.demVal j = s.demVal j := by
  rw [State.demVal, State.demVal, State.sensed_ccfg h, State.tin, State.tin, State.tin, State.tin, State.sensed_chipWord h,
    State.sensed_chipWord h]

theorem State.sensed_qualOf : t.qualOf k = s.qualOf k := by
  rw [State.qualOf, State.qualOf, State.sensed_forced h, State.sensed_qual h, State.sensed_mode h, State.sensed_demVal h]

theorem State.sensed_fsafe : t.fsafe k = s.fsafe k := by
  rw [State.fsafe, State.fsafe, State.sensed_mode h, State.sensed_causes h, State.sensed_forced h, State.sensed_fsafeAll h,
    State.sensed_latHold h, State.sensed_pairHold h]

end

/-! #### What leaves it -/

/-- An update of a table's entry that leaves what is read of every entry. -/
theorem Tab.read_upd {α β : Type} [DecidableEq α] (d : α) (t : Tab α) (i : Nat) (f : α → α) (π : α → β) (h : π (f (Tab.get d t i)) = π (Tab.get d t i))
    (j : Nat) : π (Tab.get d (Tab.upd d t i f) j) = π (Tab.get d t j) := by
  rw [Tab.get_upd]
  split
  · next hj => rw [h, hj]
  · rfl

theorem State.sensed_ite {s t u : State} {k : Nat} {p : Prop} [Decidable p] (ht : t.sensed k = s.sensed k) (hu : u.sensed k = s.sensed k) :
    (if p then t else u).sensed k = s.sensed k := by
  split
  · exact ht
  · exact hu

section
variable (s : State) (k : Nat)

theorem State.sensed_forEach {f : State → Nat → State} {l : List Nat} (h : ∀ x : State, ∀ i ∈ l, (f x i).sensed k = x.sensed k) :
    (s.forEach l f).sensed k = s.sensed k :=
  State.forEach_inv_mem (fun y => y.sensed k = s.sensed k) f (fun x i hi hx => (h x i hi).trans hx) rfl

@[simp] theorem State.sensed_postL (code : Nat) (src : Node) (sev detail : Nat) (l : Bool) :
    (s.postL code src sev detail l).sensed k = s.sensed k := rfl
@[simp] theorem State.sensed_endCondition (n : Node) (code : Nat) : (s.endCondition n code).sensed k = s.sensed k := rfl
@[simp] theorem State.sensed_drawn : s.drawn.sensed k = s.sensed k := rfl
@[simp] theorem State.sensed_updPort (d : Side) (f : Port → Port) : (s.updPort d f).sensed k = s.sensed k := rfl

theorem State.sensed_updTerm {t : Nat} {f : Terminal → Terminal} (h : k ≠ t ∨ ∀ x, (f x).seen = x.seen) :
    (s.updTerm t f).sensed k = s.sensed k := by
  have hs : ((s.updTerm t f).termOf k).seen = (s.termOf k).seen := by
    rw [State.termOf_updTerm]
    split
    · next hk => rw [h.resolve_left fun hn => hn hk, hk]
    · rfl
  exact congrArg (fun x => { s.sensed k with seen := x }) hs

theorem State.sensed_updChan {c : Nat} {f : Channel → Channel} (h : ∀ x, (f x).offLeft = x.offLeft) : (s.updChan c f).sensed k = s.sensed k := by
  have hs : (fun j => ((s.updChan c f).chanOf j).offLeft) = fun j => (s.chanOf j).offLeft :=
    funext (Tab.read_upd _ s.chan c f Channel.offLeft (h _))
  exact congrArg (fun x => { s.sensed k with off := x }) hs

theorem State.sensed_updChip {i : Nat} {f : Chip → Chip} (h : ∀ x, ((f x).linked, (f x).active) = (x.linked, x.active)) :
    (s.updChip i f).sensed k = s.sensed k := by
  have hs : (fun j => (((s.updChip i f).chipOf j).linked, ((s.updChip i f).chipOf j).active)) =
      fun j => ((s.chipOf j).linked, (s.chipOf j).active) :=
    funext (Tab.read_upd _ s.chip i f (fun x => (x.linked, x.active)) (h _))
  exact congrArg (fun x => { s.sensed k with bank := x }) hs

theorem State.sensed_updLanes {i : Nat} {f : Lanes → Lanes}
    (h : ∀ x, ((f x).fsafeAll, (f x).latHold, (f x).pairHold) = (x.fsafeAll, x.latHold, x.pairHold)) :
    (s.updLanes i f).sensed k = s.sensed k := by
  have hs : (fun j => (((s.updLanes i f).lanesOf j).fsafeAll, ((s.updLanes i f).lanesOf j).latHold, ((s.updLanes i f).lanesOf j).pairHold)) =
      fun j => ((s.lanesOf j).fsafeAll, (s.lanesOf j).latHold, (s.lanesOf j).pairHold) :=
    funext (Tab.read_upd _ s.lanes i f (fun x => (x.fsafeAll, x.latHold, x.pairHold)) (h _))
  exact congrArg (fun x => { s.sensed k with holds := x }) hs

theorem State.sensed_updView {i : Nat} {f : View → View} (h : tChip k ≠ i ∨ ∀ x, ((f x).lost, (f x).returnAt) = (x.lost, x.returnAt)) :
    (s.updView i f).sensed k = s.sensed k := by
  have hs : (((s.updView i f).viewOf (tChip k)).lost, ((s.updView i f).viewOf (tChip k)).returnAt) =
      ((s.viewOf (tChip k)).lost, (s.viewOf (tChip k)).returnAt) := by
    rw [State.viewOf_updView]
    split
    · next hk => rw [h.resolve_left fun hn => hn hk, hk]
    · rfl
  exact congrArg (fun x => { s.sensed k with lost := x }) hs

/-! #### The cause of a discrepancy alone is no FSAFE (R62, R95) -/

/-- Setting a bit that a mask leaves out leaves what the mask reads. -/
theorem and_setBit {n : Nat} {m : BitVec n} {i : Nat} (h : m.getLsbD i = false) (w : BitVec n) (b : Bool) : setBit w i b &&& m = w &&& m := by
  apply BitVec.eq_of_getLsbD_eq
  intro j hj
  have hb := bit_setBit w i j b
  rw [bit, bit] at hb
  rw [BitVec.getLsbD_and, BitVec.getLsbD_and, hb]
  split
  · next hi => rw [hi.1, h, Bool.and_false, Bool.and_false]
  · rfl

theorem Terminal.seen_lower8 (x : Terminal) : ({ x with tstat := x.tstat.lower 8 } : Terminal).seen = x.seen := by
  have hc : (x.tstat.lower 8).causes &&& fsafeCauses = x.tstat.causes &&& fsafeCauses := and_setBit (by decide) _ _
  have hf : (x.tstat.lower 8).causes.getLsbD 9 = x.tstat.causes.getLsbD 9 := bit_setBit x.tstat.causes 8 9 false
  have hq : (x.tstat.lower 8).qual = x.tstat.qual := rfl
  simp only [Terminal.seen, Terminal.forced, hc, hf, hq]

theorem State.sensed_lower8 (t : Nat) : (s.lowerCause t 8).sensed k = s.sensed k := by
  rw [State.lowerCause, State.sensed_endCondition]
  exact s.sensed_updTerm k (.inr Terminal.seen_lower8)

theorem State.sensed_forceChange (t : Nat) : (s.forceChange t).sensed k = s.sensed k := by
  unfold State.forceChange State.discrepancyClock
  dsimp only
  split
  · rfl
  · split
    · refine s.sensed_updChan k fun x => ?_
      split <;> rfl
    · rw [State.sensed_lower8, State.sensed_lower8]
      exact s.sensed_updChan k fun _ => rfl

variable {k}

theorem State.sensed_restartFilter {t : Nat} (h : k ≠ t) : (s.restartFilter t).sensed k = s.sensed k := by
  unfold State.restartFilter
  split
  · rw [State.sensed_forceChange]
    exact s.sensed_updTerm k (.inl h)
  · rfl

/-! #### Causes at other terminals (R81, R132) -/

theorem State.sensed_calAbort (t : Nat) : (s.calAbort t).sensed k = s.sensed k := by
  have hrep (x : State) (r : Reply) : (x.addReply r).sensed k = x.sensed k := by
    unfold State.addReply
    split <;> rfl
  have hfin (x : State) (port : Option Side) (queue opcode : Nat) (tag : BitVec 32) (status : Nat) (slots : List Nat) :
      (x.finalReply port queue opcode tag status slots).sensed k = x.sensed k := by
    unfold State.finalReply
    dsimp only
    split
    · rw [State.sensed_updPort, hrep]
    · exact hrep x _
  have hend (status : Nat) : (s.calEnd t status).sensed k = s.sensed k := by
    have hu : (s.updTerm t fun x => { x with ana := { x.ana with cal := none, calDone := x.ana.calRun, calTag := none } }).sensed k =
        s.sensed k := s.sensed_updTerm k (.inr fun _ => rfl)
    unfold State.calEnd
    dsimp only
    split
    · exact hu
    · rw [hfin, hu]
  unfold State.calAbort
  split
  · rw [State.sensed_drawn, hend]
  · rfl

theorem State.sensed_raiseCause {t : Nat} (h : k ≠ t) (cause : Nat) : (s.raiseCause t cause).sensed k = s.sensed k := by
  have hd (x : State) (i c src : Nat) : (x.diagAdd i c src).sensed k = x.sensed k := by
    refine x.sensed_updChip k fun y => ?_
    unfold Chip.diagAdd
    dsimp only
    split_ifs <;> rfl
  have hr : (((s.updTerm t fun x => { x with tstat := x.tstat.raise cause s.clock.count }).diagAdd (tChip t) cause (tLocal t)).postL
      (0x0100 + cause) (nTerm t) 3 0 true).sensed k = s.sensed k := by
    rw [State.sensed_postL, hd]
    exact s.sensed_updTerm k (.inl h)
  unfold State.raiseCause State.raiseCauseD
  split
  · rfl
  · split
    · exact hd s _ _ _
    · dsimp only
      split
      · rw [State.sensed_calAbort, hr]
      · exact hr

/-! ### The capture of the image (R35, R97, R99, R107, R111, R136) -/

/-- A field chip that is in touch, or whose return no time is set for, stays so; the return of another leaves the terminal. -/
theorem State.sensed_captureChip {i : Nat} (h : (s.viewOf (tChip k)).lost = false ∨ (s.viewOf (tChip k)).returnAt = none) :
    (s.captureChip i).sensed k = s.sensed k := by
  have hview : (s.updView i fun x => { x with
      missBoth := x.loBad && x.hiBad, missLo := x.loBad, missHi := x.hiBad, loOk := false, hiOk := false, loBad := false, hiBad := false
      }).sensed k = s.sensed k := s.sensed_updView k (.inr fun _ => rfl)
  unfold State.captureChip
  dsimp only
  by_cases hi : tChip k = i
  · subst hi
    rw [if_neg]
    · exact hview
    · obtain hl | hr := h
      · simp [hl]
      · simp [hr]
  · refine State.sensed_ite ?_ hview
    rw [State.sensed_endCondition, State.sensed_forEach, State.sensed_updLanes, State.sensed_updView _ k (.inl hi), hview]
    · exact fun _ => rfl
    · intro x t ht
      obtain ⟨c, hc, rfl⟩ := List.mem_map.mp ht
      refine x.sensed_restartFilter ?_
      rintro rfl
      exact hi (tChip_chipTerm i (List.mem_range.mp hc))

theorem State.sensed_captureTerm {t : Nat} (h : k ≠ t) : (s.captureTerm t).sensed k = s.sensed k := by
  have hu (x : State) (f : Terminal → Terminal) : (x.updTerm t f).sensed k = x.sensed k := x.sensed_updTerm k (.inl h)
  have hcount (x : State) : (x.captureCount t).sensed k = x.sensed k := by
    unfold State.captureCount
    dsimp only
    split
    · rw [State.sensed_raiseCause _ h, hu, hu]
    · exact hu x _
  have hfreeze : (s.freezeTerm t).sensed k = s.sensed k := hu s _
  unfold State.captureTerm
  dsimp only
  split
  · rw [hu, hcount, hfreeze]
  · split
    · rw [hu, State.sensed_drawn, hu, hcount, hfreeze]
    · rw [State.sensed_drawn, hu, hcount, hfreeze]

/-- The capture of another terminal leaves a terminal's image and count. -/
theorem State.termStill_captureTerm {t : Nat} (h : k ≠ t) : ((s.captureTerm t).termOf k).still = (s.termOf k).still := by
  have hu (x : State) (f : Terminal → Terminal) : ((x.updTerm t f).termOf k).still = (x.termOf k).still := by
    rw [State.termOf_updTerm, if_neg h]
  have hraise (x : State) : ((x.raiseCause t 0x10).termOf k).still = (x.termOf k).still :=
    congrFun (congrArg Still.term (x.still_raiseCause t 0x10)) k
  have hcount (x : State) : ((x.captureCount t).termOf k).still = (x.termOf k).still := by
    unfold State.captureCount
    dsimp only
    split
    · rw [hraise, hu, hu]
    · exact hu x _
  have hfreeze : ((s.freezeTerm t).termOf k).still = (s.termOf k).still := hu s _
  have hdrawn (x : State) : (x.drawn.termOf k).still = (x.termOf k).still := rfl
  unfold State.captureTerm
  dsimp only
  split
  · rw [hu, hcount, hfreeze]
  · split
    · rw [hu, hdrawn, hu, hcount, hfreeze]
    · rw [hdrawn, hu, hcount, hfreeze]

/-- The counter of a terminal freezes beside its image. -/
theorem State.img_captureCount (t : Nat) : ((s.captureCount t).termOf t).img = (s.termOf t).img := by
  have hu (x : State) (f : Terminal → Terminal) (hf : ∀ y, (f y).img = y.img) : ((x.updTerm t f).termOf t).img = (x.termOf t).img := by
    rw [State.termOf_updTerm, if_pos rfl, hf]
  have hraise (x : State) : ((x.raiseCause t 0x10).termOf t).img = (x.termOf t).img :=
    congrArg (fun y : Still => (y.term t).2.1) (x.still_raiseCause t 0x10)
  unfold State.captureCount
  dsimp only
  split
  · rw [hraise, hu, hu]
    · exact fun _ => rfl
    · exact fun _ => rfl
  · exact hu _ _ fun _ => rfl

/-- A terminal of a field chip in touch: its image is its state as its side sees it. -/
theorem State.captureTerm_live {t : Nat} (h : (s.viewOf (tChip t)).lost = false) : let x := ((s.captureTerm t).termOf t).img
    x.qual = s.qualOf t ∧ x.fsafe = s.fsafe t ∧ x.stamp = (s.termOf t).dig.stamp := by
  have hu (x : State) (f : Terminal → Terminal) (hf : ∀ y, (f y).img = y.img) : ((x.updTerm t f).termOf t).img = (x.termOf t).img := by
    rw [State.termOf_updTerm, if_pos rfl, hf]
  have hdrawn (x : State) : (x.drawn.termOf t).img = (x.termOf t).img := rfl
  have hi : ((s.captureTerm t).termOf t).img = ((s.freezeTerm t).termOf t).img := by
    unfold State.captureTerm
    rw [h, if_neg Bool.false_ne_true]
    dsimp only
    split
    · rw [hu, hdrawn, hu, State.img_captureCount]
      · exact fun _ => rfl
      · exact fun _ => rfl
    · rw [hdrawn, hu, State.img_captureCount]
      exact fun _ => rfl
  intro x
  have hx : x = ((s.freezeTerm t).termOf t).img := hi
  rw [hx, State.freezeTerm, State.termOf_updTerm, if_pos rfl]
  exact ⟨rfl, rfl, rfl⟩

/-- A terminal of a lost field chip: its demand value, an invalid sample and count 0. -/
theorem State.captureTerm_lost {t : Nat} (h : (s.viewOf (tChip t)).lost = true) : let x := (s.captureTerm t).termOf t
    x.img.qual = s.demVal t ∧ x.ana.sample = 0x20000 ∧ x.ana.cnt = 0 := by
  intro x
  have hx : x = (s.captureTerm t).termOf t := rfl
  rw [hx, State.captureTerm, h, if_pos rfl, State.termOf_updTerm, if_pos rfl]
  exact ⟨rfl, rfl, rfl⟩

end

/-! ### The image as a whole -/

/-- From s to t the picture changes in terminals and views alone. -/
def State.Imaged (s t : State) : Prop := t.still = { s.still with term := t.still.term, view := t.still.view }

theorem State.Imaged.trans {s t u : State} (h : s.Imaged t) (g : t.Imaged u) : s.Imaged u := by
  unfold State.Imaged at *
  rw [h] at g
  exact g

theorem State.Imaged.of_still {s t : State} (h : t.still = s.still) : s.Imaged t := by
  unfold State.Imaged
  rw [h]

theorem State.Imaged.refl (s : State) : s.Imaged s := .of_still rfl

theorem State.Imaged.forEach {f : State → Nat → State} (h : ∀ (x : State) k, x.Imaged (f x k)) (s : State) (l : List Nat) :
    s.Imaged (s.forEach l f) := forEach_inv (fun y => s.Imaged y) f (fun y k hy => hy.trans (h y k)) s l (.refl s)

theorem State.Imaged.updTerm (s : State) (t : Nat) (f : Terminal → Terminal) : s.Imaged (s.updTerm t f) := rfl
theorem State.Imaged.updView (s : State) (i : Nat) (f : View → View) : s.Imaged (s.updView i f) := rfl
theorem State.Imaged.drawn (s : State) : s.Imaged s.drawn := rfl

theorem State.Imaged.captureChip (s : State) (i : Nat) : s.Imaged (s.captureChip i) := by
  have hv := State.Imaged.updView s i fun x => { x with
    missBoth := x.loBad && x.hiBad, missLo := x.loBad, missHi := x.hiBad, loOk := false, hiOk := false, loBad := false, hiBad := false }
  have hr (x : State) (l : List Nat) : x.Imaged (x.forEach l State.restartFilter) := .of_still (x.still_forEach State.still_restartFilter l)
  have hl (x : State) (j : Nat) (f : Lanes → Lanes) : x.Imaged (x.updLanes j f) := .of_still rfl
  have he (x : State) (n : Node) (c : Nat) : x.Imaged (x.endCondition n c) := .of_still rfl
  have hite (p : Prop) [Decidable p] (x y : State) (hx : s.Imaged x) (hy : s.Imaged y) : s.Imaged (if p then x else y) := by
    split
    · exact hx
    · exact hy
  unfold State.captureChip
  exact hite _ _ _ ((((hv.trans (.updView _ i _)).trans (hl _ _ _)).trans (hr _ _)).trans (he _ _ _)) hv

theorem State.Imaged.captureTerm (s : State) (t : Nat) : s.Imaged (s.captureTerm t) := by
  have hcount (x : State) : x.Imaged (x.captureCount t) := by
    unfold State.captureCount
    dsimp only
    split
    · exact ((State.Imaged.updTerm x t _).trans (.updTerm _ t _)).trans (.of_still (State.still_raiseCause _ t 0x10))
    · exact .updTerm x t _
  have hbase : s.Imaged ((s.freezeTerm t).captureCount t) := (State.Imaged.updTerm s t _).trans (hcount _)
  unfold State.captureTerm
  dsimp only
  split
  · exact hbase.trans (.updTerm _ t _)
  · split
    · exact ((hbase.trans (.updTerm _ t _)).trans (.drawn _)).trans (.updTerm _ t _)
    · exact (hbase.trans (.updTerm _ t _)).trans (.drawn _)

/-- The terminals' part of the capture. -/
def State.captureTerms (s : State) : State :=
  let s1 := s.forEach s.confChips State.captureChip
  s1.forEach s1.confTerms State.captureTerm

theorem State.Imaged.captureTerms (s : State) : s.Imaged s.captureTerms :=
  (State.Imaged.forEach State.Imaged.captureChip s _).trans (.forEach State.Imaged.captureTerm _ _)

/-- A terminal with a configured mode takes its turn in a state that shows it as the capture's start does, and no other turn changes
what it has captured. -/
theorem State.captureTerms_turn {s : State} {k : Nat} (hk : k ∈ s.confTerms)
    (hl : (s.viewOf (tChip k)).lost = false ∨ (s.viewOf (tChip k)).returnAt = none) :
    ∃ y : State, y.sensed k = s.sensed k ∧ (s.captureTerms.termOf k).still = ((y.captureTerm k).termOf k).still := by
  unfold State.captureTerms
  dsimp only
  generalize hx : s.forEach s.confChips State.captureChip = x
  have hxs : x.sensed k = s.sensed k := by
    rw [← hx]
    refine forEach_inv (fun z => z.sensed k = s.sensed k) _ (fun z i hz => ?_) s _ rfl
    rw [z.sensed_captureChip, hz]
    rwa [State.sensed_lost hz, State.sensed_returnAt hz]
  have hkx : k ∈ x.confTerms := by rwa [State.sensed_confTerms hxs]
  have hn : x.confTerms.Nodup := by
    unfold State.confTerms
    split
    · exact List.nodup_range.filter _
    · exact List.nodup_nil
  obtain ⟨a, b, hab⟩ := List.append_of_mem hkx
  rw [hab] at hn
  obtain ⟨-, hb, hd⟩ := List.nodup_append.mp hn
  refine ⟨x.forEach a State.captureTerm, ?_, ?_⟩
  · rw [← hxs]
    exact x.sensed_forEach k fun z t ht => z.sensed_captureTerm fun e => hd t ht k List.mem_cons_self e.symm
  · rw [hab, State.forEach_split]
    refine State.forEach_inv_mem (fun z => (z.termOf k).still = ((State.captureTerm _ k).termOf k).still) _ (fun z t ht hz => ?_) rfl
    have hkt : k ≠ t := fun e => (List.nodup_cons.mp hb).1 (by rwa [e])
    rw [z.termStill_captureTerm hkt, hz]

/-! #### Units, stop lines and causes after the terminals -/

/-- Every timer's value in its image. -/
def State.unitsImaged (s : State) : State := { s with timer := s.timer.map fun (e : Nat × TimerU) => (e.1, { e.2 with img := e.2.value }) }

theorem State.timerOf_unitsImaged (s : State) (i : Nat) :
    s.unitsImaged.timerOf i = { s.timerOf i with img := (s.timerOf i).value } :=
  Tab.get_map ({} : TimerU) (fun e => (e.1, { e.2 with img := e.2.value })) (fun _ => rfl) (fun _ => rfl) s.timer i

/-- Every timer's image is its value. -/
theorem State.still_captureUnits (s : State) :
    s.captureUnits.still = { s.still with timer := fun i => ((s.timerOf i).value, (s.timerOf i).value) } := by
  have ht : (fun i => ((s.unitsImaged.timerOf i).value, (s.unitsImaged.timerOf i).img)) =
      fun i => ((s.timerOf i).value, (s.timerOf i).value) := by
    funext i
    rw [State.timerOf_unitsImaged]
  have hs : s.captureUnits.still = s.unitsImaged.still := State.still_forEach _ (fun x i => x.still_updEnc i _) _
  rw [hs]
  exact congrArg (fun g => { s.still with timer := g }) ht

/-- Both stop-line images are the qualified stop lines. -/
theorem State.still_freezeSides (s : State) :
    s.freezeSides.still = { s.still with sl := fun d => ((s.halfOf d).sl, (s.halfOf d).sl) } := by
  have hs : s.freezeSides.still = ((s.updHalf .A Half.freeze).updHalf .B Half.freeze).still := by
    refine State.still_forEach _ (fun x i => x.still_updView ?_ ?_) _
    · exact fun _ => rfl
    · exact fun _ => rfl
  have hsl : (fun d => ((((s.updHalf .A Half.freeze).updHalf .B Half.freeze).halfOf d).sl,
      (((s.updHalf .A Half.freeze).updHalf .B Half.freeze).halfOf d).slImg)) = fun d => ((s.halfOf d).sl, (s.halfOf d).sl) := by
    funext d
    cases d <;> rfl
  rw [hs]
  exact congrArg (fun g => { s.still with sl := g }) hsl

theorem State.still_captureDisc (s : State) (ch : Nat) : (s.captureDisc ch).still = s.still := by
  have hd (x : State) : (x.discFault ch).still = x.still := by
    unfold State.discFault
    split
    · rfl
    · rw [State.still_raiseFns, State.still_raiseCause, State.still_raiseCause]
  unfold State.captureDisc
  dsimp only
  split
  · split
    · exact hd s
    · rfl
  · rfl

theorem State.still_tsRelease (s : State) (t : Nat) : (s.tsRelease t).still = s.still := by
  unfold State.tsRelease
  dsimp only
  refine s.still_forEach (fun x u => ?_) _
  split
  · rfl
  · split
    · rw [State.still_forceChange, State.still_lowerCause, State.still_lowerCause, State.still_lowerCause, State.still_lowerCause]
      exact x.still_updTerm fun _ => rfl
    · rfl

/-- What the capture of the image leaves frozen: the terminals as captured, units and stop lines at their values. -/
theorem State.frozen_captureImage (s : State) : s.captureImage.frozen = { s.frozen with
    term := fun k => (s.captureTerms.termOf k).still, sl := fun d => (s.halfOf d).sl
    timer := fun i => ((s.timerOf i).value, (s.timerOf i).value) } := by
  have hi := State.Imaged.captureTerms s
  have hs : s.captureImage.still = { s.captureTerms.still with
      timer := fun i => ((s.captureTerms.still.timer i).1, (s.captureTerms.still.timer i).1)
      sl := fun d => ((s.captureTerms.still.sl d).1, (s.captureTerms.still.sl d).1) } := by
    have hd (l : List Nat) : (s.captureTerms.forEach l State.captureDisc).still = s.captureTerms.still :=
      State.still_forEach _ State.still_captureDisc l
    have ht (x : State) : (fun i => ((x.timerOf i).value, (x.timerOf i).value)) = fun i => ((x.still.timer i).1, (x.still.timer i).1) := rfl
    have hsl (x : State) : (fun d => ((x.halfOf d).sl, (x.halfOf d).sl)) = fun d => ((x.still.sl d).1, (x.still.sl d).1) := rfl
    unfold State.captureImage
    dsimp only
    rw [State.still_forEach _ State.still_tsRelease, State.still_freezeSides, hsl, State.still_captureUnits, ht]
    exact congrArg (fun x : Still => { x with
      timer := fun i => ((x.timer i).1, (x.timer i).1), sl := fun d => ((x.sl d).1, (x.sl d).1) }) (hd _)
  rw [State.frozen, hs, hi]
  rfl

/-! ### The capture as a whole -/

/-- The tick-0 edge that a capture stands at, its image not yet taken. -/
def State.captureStart (s : State) : State :=
  { s.toCapture with clock := { s.toCapture.clock with captured := true }, time := { s.toCapture.time with capTai := s.toCapture.time.tai } }

theorem exec_capture (s : State) : exec .capture s = .next s.captureStart.captureImage.captureEnd := rfl

theorem State.captureEnd_gatesSafe (s : State) : s.captureEnd.gatesSafe := State.settle_gatesSafe _

theorem State.sensed_captureStart (s : State) (k : Nat) : s.captureStart.sensed k = s.sensed k := rfl

/-- A terminal with a configured mode is one that a capture takes. -/
theorem State.mem_confTerms {s : State} {k : Nat} (hk : k < 384) (hm : fld (s.ccfg (tChan k)) 71 68 ≠ 0) : k ∈ s.confTerms := by
  have hl : s.dev.loaded = true := by
    by_contra hl
    refine hm ?_
    rw [State.ccfg, State.chipWord, if_neg fun h => hl h.1, State.cw, if_neg hl]
    rfl
  rw [State.confTerms, if_pos hl, List.mem_filter]
  exact ⟨List.mem_range.mpr hk, decide_eq_true hm⟩

section
variable {x y : Terminal} (h : x.still = y.still)
include h

theorem Terminal.img_of_still : x.img = y.img := congrArg (fun z => z.2.1) h
theorem Terminal.sample_of_still : x.ana.sample = y.ana.sample := congrArg (fun z => z.2.2.1) h
theorem Terminal.cnt_of_still : x.ana.cnt = y.ana.cnt := congrArg (fun z => z.2.2.2) h

end

/-- What a capture holds of a terminal is what its turn took. -/
theorem State.capture_turn {s : State} {k : Nat} (hk : k < 384) (hm : fld (s.ccfg (tChan k)) 71 68 ≠ 0)
    (hl : (s.viewOf (tChip k)).lost = false ∨ (s.viewOf (tChip k)).returnAt = none) : ∃ y : State, y.sensed k = s.sensed k ∧
    ((s.captureStart.captureImage.captureEnd).termOf k).still = ((y.captureTerm k).termOf k).still := by
  have hs := s.sensed_captureStart k
  have hc : k ∈ s.captureStart.confTerms := by
    rw [State.sensed_confTerms hs]
    exact State.mem_confTerms hk hm
  obtain ⟨y, hy, ht⟩ := State.captureTerms_turn hc hl
  refine ⟨y, hy.trans hs, Eq.trans ?_ ht⟩
  have hf := s.captureStart.captureImage.frozen_captureEnd
  rw [State.frozen_captureImage] at hf
  exact congrFun (congrArg Frozen.term hf) k

/-- What else a capture freezes and leaves, of any later state that shows it. -/
theorem State.capture_edge {s t : State} (hf : s.clock.tick < s.clock.fl)
    (h : t.frozen = { s.captureStart.captureImage.frozen with reqs := [], fetched := fun _ => [] }) :
    t.clock.tick = 0 ∧ t.clock.captured = true ∧ (∀ d, (t.halfOf d).slImg = (s.halfOf d).sl) ∧
    (∀ i, (t.timerOf i).img = (t.timerOf i).value) ∧ t.token.reqs = [] ∧ (∀ d, (t.portOf d).fetched = []) ∧
    t.dev.st = s.dev.st ∧ t.dev.otp = s.dev.otp ∧ t.pkg = s.pkg := by
  rw [State.frozen_captureImage] at h
  have hclock : t.clock = s.captureStart.clock := congrArg Frozen.clock h
  have htimer (i : Nat) : ((t.timerOf i).value, (t.timerOf i).img) = ((s.captureStart.timerOf i).value, (s.captureStart.timerOf i).value) :=
    congrFun (congrArg Frozen.timer h) i
  refine ⟨?_, by rw [hclock]; rfl, fun d => congrFun (congrArg Frozen.sl h) d, fun i => ?_, congrArg Frozen.reqs h,
    fun d => congrFun (congrArg Frozen.fetched h) d, congrArg Frozen.st h, congrArg Frozen.otp h, congrArg Frozen.pkg h⟩
  · rw [hclock]
    exact Clock.advance_toEdge hf s.clock.captured
  · obtain ⟨hv, hi⟩ := Prod.mk.inj (htimer i)
    rw [hv, hi]

/-- Settles O12. Each terminal takes its turn in a state that shows it as the capture's start does; the evaluations that follow leave
what was frozen. -/
theorem captureFreezesTheImage : Obligations.CaptureFreezesTheImage := by
  intro s hf
  obtain ⟨htick, hcap, hsl, htimer, hreqs, hfetched, hst, hotp, hpkg⟩ :=
    State.capture_edge hf s.captureStart.captureImage.frozen_captureEnd
  refine ⟨_, exec_capture s, htick, hcap, fun k hk hm hl => ?_, fun k hk hm hl hr => ?_, hsl, htimer, hreqs, hfetched, hst, hotp, hpkg,
    State.captureEnd_gatesSafe _⟩
  · obtain ⟨y, hy, ht⟩ := State.capture_turn hk hm (.inl hl)
    obtain ⟨hq, hs, hst⟩ := y.captureTerm_live (t := k) (by rwa [State.sensed_lost hy])
    rw [Terminal.img_of_still ht, hq, hs, hst, State.sensed_qualOf hy, State.sensed_fsafe hy, State.sensed_stamp hy]
    exact ⟨rfl, rfl, rfl⟩
  · obtain ⟨y, hy, ht⟩ := State.capture_turn hk hm (.inr hr)
    obtain ⟨hq, hs, hc⟩ := y.captureTerm_lost (t := k) (by rwa [State.sensed_lost hy])
    rw [Terminal.img_of_still ht, Terminal.sample_of_still ht, Terminal.cnt_of_still ht, hq, hs, hc, State.sensed_demVal hy]
    exact ⟨rfl, rfl, rfl⟩

end Sys2Proof.Machine

/-! SUPPORT and PROOFS of the family 03_universal_channels: cages and PTP (O49), plug and field supply (O23), digital inputs
(O21), output checks (O22), commands to a field chip (O17). -/

namespace Sys2Proof.Machine

/-! ### Reports beside events that open no window (R379) -/

/-- Whether an event is folded depends on its ancestors and on the nodes of the open windows alone (R379). -/
theorem State.folds_of_nodes {s t : State} {n : Node} (ha : t.ancestors n = s.ancestors n)
    (hw : t.windows.map Window.node = s.windows.map Window.node) : t.folds n = s.folds n := by
  have h (x : State) : x.folds n = (x.windows.map Window.node).any fun m => (x.ancestors n).contains m := by
    rw [List.any_map]; rfl
  rw [h, h, ha, hw]

/-- An event that opens no window leaves the nodes of those that are open. -/
theorem State.post_nodes {sev : Nat} (ho : opensWindow sev = false) (s : State) (code : Nat) (src : Node) (detail : Nat) :
    (s.post code src sev detail).windows.map Window.node = s.windows.map Window.node := by
  change (s.posting code src sev detail false).windows.map Window.node = _
  unfold State.posting
  dsimp only
  rw [ho]
  split
  · rw [List.map_map]
    refine List.map_congr_left fun w _ => ?_
    rw [Function.comp_apply]
    split <;> rfl
  · rfl

/-! ### Cages (R300, R303, R78) -/

@[simp] theorem State.cageOf_updCage_self (s : State) (c : Nat) (f : Cage → Cage) : (s.updCage c f).cageOf c = f (s.cageOf c) := by
  rw [State.cageOf_updCage, if_pos rfl]

theorem State.cageOf_updCage_other (s : State) {c j : Nat} (h : j ≠ c) (f : Cage → Cage) : (s.updCage c f).cageOf j = s.cageOf j := by
  rw [State.cageOf_updCage, if_neg h]

@[simp] theorem State.netOf_updNet_self (s : State) (d : Side) (f : Net → Net) : (s.updNet d f).netOf d = f (s.netOf d) := by
  rw [State.netOf_updNet, if_pos rfl]

@[simp] theorem State.netOf_updNet_other (s : State) (d : Side) (f : Net → Net) : (s.updNet d f).netOf d.other = s.netOf d.other := by
  rw [State.netOf_updNet, if_neg (side_other_ne d)]

/-- The ancestors of a cage and of a network are fixed (R362). -/
theorem nCage_ancestors (s t : State) (c : Nat) : t.ancestors (nCage c) = s.ancestors (nCage c) := rfl
theorem nNet_ancestors (s t : State) (d : Side) : t.ancestors (nNet d) = s.ancestors (nNet d) := rfl

/-- A report at a cage, posted with the time and the window nodes of s. -/
theorem State.reports_cage {s x : State} (ht : x.timeWord = s.timeWord) (hw : x.windows.map Window.node = s.windows.map Window.node)
    (code c sev detail : Nat) : s.reports (x.post code (nCage c) sev detail) code (nCage c) sev detail :=
  State.reports_post ht (State.folds_of_nodes (nCage_ancestors s x c) hw)

/-- A report at a network, posted with the time and the window nodes of s. -/
theorem State.reports_net {s x : State} (ht : x.timeWord = s.timeWord) (hw : x.windows.map Window.node = s.windows.map Window.node)
    (d : Side) (code sev detail : Nat) : s.reports (x.post code (nNet d) sev detail) code (nNet d) sev detail :=
  State.reports_post ht (State.folds_of_nodes (nNet_ancestors s x d) hw)

theorem State.useCage_active (s : State) (d : Side) (k : Nat) : ((s.useCage d k).netOf d).active = k := by
  unfold State.useCage
  rw [State.netOf_updNet_self]
  split
  · assumption
  · rfl

theorem State.useCage_other (s : State) (d : Side) (k : Nat) : (s.useCage d k).netOf d.other = s.netOf d.other :=
  s.netOf_updNet_other d _

/-- What the loss of a cage does to the networks: the other cage is the active one when the lost one was, in active/standby mode. -/
theorem State.switchCage_spec (s : State) (c : Nat) : s.switchCage c = { s with net := (s.switchCage c).net } ∧
    ((s.switchCage c).netOf (cageNet c)).active = (if fld (s.ncfg (cageNet c)) 55 54 = 1 ∧ (s.netOf (cageNet c)).active = c % 2 then 1 - c % 2
      else (s.netOf (cageNet c)).active) ∧
    (s.switchCage c).netOf (cageNet c).other = s.netOf (cageNet c).other := by
  unfold State.switchCage
  dsimp only
  split
  · exact ⟨rfl, s.useCage_active _ _, s.useCage_other _ _⟩
  · exact ⟨rfl, rfl, rfl⟩

section
variable (s : State) (c : CageIx)

/-- t has the cage c as x, and the others as in s. -/
def State.cageTo (s t : State) (c : CageIx) (x : Cage) : Prop := t.cageOf c.val = x ∧ ∀ j, j ≠ c.val → t.cageOf j = s.cageOf j

theorem State.cageTo_of {s t : State} {c : CageIx} (f : Cage → Cage) (h : t.cage = (s.updCage c.val f).cage) :
    s.cageTo t c (f (s.cageOf c.val)) := by
  have hc (j : Nat) : t.cageOf j = (s.updCage c.val f).cageOf j := congrArg (fun x : Tab Cage => Tab.get ({} : Cage) x j) h
  exact ⟨(hc _).trans (s.cageOf_updCage_self _ _), fun j hj => (hc j).trans (s.cageOf_updCage_other hj _)⟩

/-! What the rows make of a cage: it takes a module, has alarm flags, is down or up. -/
def Cage.holding (ok : Bool) (m : ModuleInfo) (x : Cage) : Cage := { x with present := true, accepted := ok, ident := some m }
def Cage.alarmed (flags : Byte) (x : Cage) : Cage := { x with alarms := flags }
def Cage.linked (up : Bool) (x : Cage) : Cage := { x with up := up }

/-- A module inserted, accepted or not: what it makes of s before the second event. -/
def State.moduleIn (ok : Bool) (m : ModuleInfo) : State :=
  ((s.updCage c.val (Cage.holding ok m)).post 0x0605 (nCage c.val) 0 0).ledgerAdd 6 noFn noChan 0 0 0 0

theorem State.moduleIn_frame (ok : Bool) (m : ModuleInfo) : let t := s.moduleIn c ok m
    s.cageTo t c ((s.cageOf c.val).holding ok m) ∧ s.reports t 0x0605 (nCage c.val) 0 0 ∧
    (∃ e : LedgerEntry, e.kind = 6 ∧ t.ledger.waiting = s.ledger.waiting ++ [e]) ∧ t = { s.takeEvents t with cage := t.cage, ledger := t.ledger } :=
  ⟨State.cageTo_of (Cage.holding ok m) rfl, State.reports_cage (x := s.updCage c.val (Cage.holding ok m)) rfl rfl 0x0605 c.val 0 0,
    ⟨_, rfl, rfl⟩, rfl⟩

theorem moduleInserted_spec (m : ModuleInfo) : let ok := s.moduleOk (cageNet c.val) m
    ∃ t, exec (.moduleInserted c m) s = .next t ∧ s.cageTo t c ((s.cageOf c.val).holding ok m) ∧ s.reports t 0x0605 (nCage c.val) 0 0 ∧
    (ok = false → s.reports t 0x0606 (nCage c.val) 1 0) ∧
    (∃ e : LedgerEntry, e.kind = 6 ∧ t.ledger.waiting = s.ledger.waiting ++ [e]) ∧ t = { s.takeEvents t with cage := t.cage, ledger := t.ledger } := by
  intro ok
  have he : exec (.moduleInserted c m) s = .next (if ok then s.moduleIn c ok m else (s.moduleIn c ok m).post 0x0606 (nCage c.val) 1 0) := rfl
  obtain ⟨hcage, hrep, hled, hframe⟩ := s.moduleIn_frame c ok m
  cases hok : ok
  · rw [hok] at he hcage hrep hled hframe
    rw [if_neg Bool.false_ne_true] at he
    refine ⟨_, he, hcage, State.reports_mono hrep fun e he => State.mem_log_post he _ _ _ _, fun _ => ?_, hled, ?_⟩
    · have hn := State.post_nodes (sev := 0) rfl (s.updCage c.val (Cage.holding false m)) 0x0605 (nCage c.val) 0
      exact State.reports_cage (s := s) (x := s.moduleIn c false m) rfl hn _ _ _ _
    · rfl
  · rw [hok] at he hcage hrep hled hframe
    exact ⟨_, he, hcage, hrep, fun h => absurd h (by simp), hled, hframe⟩

theorem moduleRemoved_spec : ∃ t, exec (.moduleRemoved c) s = .next t ∧ s.cageTo t c {} ∧ s.reports t 0x0604 (nCage c.val) 1 0 ∧
    (∃ e : LedgerEntry, e.kind = 6 ∧ t.ledger.waiting = s.ledger.waiting ++ [e]) ∧
    (fld (s.ncfg (cageNet c.val)) 55 54 = 1 → (s.netOf (cageNet c.val)).active = c.val % 2 →
      (t.netOf (cageNet c.val)).active = 1 - c.val % 2) ∧ t.netOf (cageNet c.val).other = s.netOf (cageNet c.val).other := by
  have first := State.reports_cage (s := s) (x := s.updCage c.val fun _ => {}) rfl rfl 0x0604 c.val 1 0
  refine ⟨_, rfl, ?_⟩
  obtain ⟨hf, hact, hoth⟩ := State.switchCage_spec
    (((s.updCage c.val fun _ => {}).post 0x0604 (nCage c.val) 1 0).ledgerAdd 6 noFn noChan 0 0 0 0) c.val
  refine ⟨State.cageTo_of (fun _ => {}) (congrArg State.cage hf :), ?_, ?_, fun h1 h2 => hact.trans (if_pos ⟨h1, h2⟩), hoth⟩
  · exact State.reports_mono first fun e he => congrArg State.log hf ▸ he
  · exact ⟨_, rfl, congrArg (fun x : State => x.ledger.waiting) hf⟩

theorem moduleAlarmPoll_spec (h : (s.cageOf c.val).present = true) (flags : Byte) : ∃ t, exec (.moduleAlarmPoll c flags) s = .next t ∧
    s.cageTo t c ((s.cageOf c.val).alarmed flags) ∧
    (flags ≠ 0 → s.reports t 0x0606 (nCage c.val) 1 flags.toNat) ∧ (flags = 0 → t.log = s.log) := by
  have he : exec (.moduleAlarmPoll c flags) s = done (if flags = 0 then s.updCage c.val (Cage.alarmed flags)
      else (s.updCage c.val (Cage.alarmed flags)).post 0x0606 (nCage c.val) 1 flags.toNat) :=
    if_neg (by simp [h])
  refine ⟨_, he, ?_⟩
  split
  · next hz => exact ⟨State.cageTo_of (Cage.alarmed flags) rfl, fun hn => absurd hz hn, fun _ => rfl⟩
  · next hz => exact ⟨State.cageTo_of (Cage.alarmed flags) rfl, fun _ => State.reports_cage rfl rfl _ _ _ _, fun hz' => absurd hz' hz⟩

theorem moduleAlarmPoll_absent (h : (s.cageOf c.val).present = false) (flags : Byte) : exec (.moduleAlarmPoll c flags) s = .next s :=
  if_pos (by simp [h])

theorem cageDown_spec (cause : CageCause) : ∃ t, exec (.cageDown c cause) s = .next t ∧ s.cageTo t c ((s.cageOf c.val).linked false) ∧
    s.reports t 0x0603 (nCage c.val) 3 (cageCause cause) ∧
    (t.netOf (cageNet c.val)).active = (if fld (s.ncfg (cageNet c.val)) 55 54 = 1 ∧ (s.netOf (cageNet c.val)).active = c.val % 2
      then 1 - c.val % 2 else (s.netOf (cageNet c.val)).active) ∧
    t.netOf (cageNet c.val).other = s.netOf (cageNet c.val).other := by
  have first : s.reports ((s.updCage c.val (Cage.linked false)).postL 0x0603 (nCage c.val) 3 (cageCause cause) true)
      0x0603 (nCage c.val) 3 (cageCause cause) := State.reports_of_postL true rfl rfl rfl rfl rfl rfl rfl
  refine ⟨_, rfl, ?_⟩
  obtain ⟨hf, hact, hoth⟩ := State.switchCage_spec
    ((s.updCage c.val (Cage.linked false)).postL 0x0603 (nCage c.val) 3 (cageCause cause) true) c.val
  exact ⟨State.cageTo_of (Cage.linked false) (congrArg State.cage hf :),
    State.reports_mono first fun e he => congrArg State.log hf ▸ he, hact, hoth⟩

theorem cageUp_spec : ∃ t, exec (.cageUp c) s = .next t ∧ s.cageTo t c ((s.cageOf c.val).linked true) ∧ t.log = s.log ∧
    let d := cageNet c.val
    let takes := c.val % 2 = 0 ∨ (s.cageOf (2 * d.ix + (s.netOf d).active)).up = false
    (fld (s.ncfg d) 55 54 = 1 → takes → (t.netOf d).active = c.val % 2) ∧
    (¬ fld (s.ncfg d) 55 54 = 1 ∨ ¬ takes → t.netOf d = s.netOf d) ∧ t.netOf d.other = s.netOf d.other := by
  rw [show exec (.cageUp c) s = execCageUp c s from rfl]
  unfold execCageUp
  dsimp only
  split
  · next h =>
    obtain ⟨hm, ht⟩ := h
    rw [Bool.not_eq_true'] at ht
    refine ⟨_, rfl, State.cageTo_of (Cage.linked true) rfl, rfl, fun _ _ => State.useCage_active _ _ _, fun hn => ?_, State.useCage_other _ _ _⟩
    exact absurd hn (by simp only [hm, ht, not_true_eq_false, or_self, not_false_eq_true])
  · next h =>
    rw [Bool.not_eq_true'] at h
    exact ⟨_, rfl, State.cageTo_of (Cage.linked true) rfl, rfl, fun hm ht => absurd ⟨hm, ht⟩ h, fun _ => rfl, rfl⟩

end

/-! ### PTP (R328, R329, R398) -/

section
variable (s : State) (d : Side)

/-- t is s but for what PTP keeps of network d. -/
def State.netTo (s t : State) (d : Side) (x : Net) : Prop := t = { s with net := t.net } ∧ t.netOf d = x ∧ t.netOf d.other = s.netOf d.other

theorem State.netTo_of (f : Net → Net) : s.netTo (s.updNet d f) d (f (s.netOf d)) :=
  ⟨rfl, s.netOf_updNet_self d f, s.netOf_updNet_other d f⟩

/-- With PTP off a received message is discarded and counted, and nothing else happens. -/
theorem ptp_off (h : fld (s.ncfg d) 51 50 = 0) (off delay : Int) (tai : Nat) (better : Bool) (gm : BitVec 64) :
    (∀ i ∈ [Instr.ptpAnnounceTimeout d, .ptpMessageInterval d], exec i s = .next s) ∧
    ∀ i ∈ [Instr.ptpSync d off tai, .ptpAnnounce d better gm, .ptpDelayResponse d delay], exec i s = .next (s.netDiscard d) := by
  simp only [List.forall_mem_cons, List.not_mem_nil, false_implies, implies_true, and_true]
  exact ⟨⟨if_pos h, if_pos h⟩, if_pos h, if_pos h, if_pos h⟩

/-- A network's counts of a Sync at an offset. -/
def Net.sampled (off : Int) (tai good bad diff : Nat) (n : Net) : Net :=
  { n with offset := off, time := tai, good := good, bad := bad, diff := diff }

/-- What every Sync leaves before the lock is decided: the counts of its network, with the disagreement reported or not. -/
structure State.Sampled (s t : State) (d : Side) (off : Int) (good bad : Nat) : Prop where
  net    : ∃ diff tai, t.netOf d = (s.netOf d).sampled off tai good bad diff
  other  : t.netOf d.other = s.netOf d.other
  time   : t.time = s.time
  clock  : t.clock = s.clock
  nodes  : t.windows.map Window.node = s.windows.map Window.node

/-! A network that locks, and one that unlocks. -/
def Net.lock (n : Net) : Net := { n with locked := true }
def Net.unlock (n : Net) : Net := { n with locked := false, good := 0, bad := 0 }

/-! How many Syncs in a row are good, and how many are bad, after one at an offset. -/
def Net.goodRun (off : Int) (n : Net) : Nat := if off.natAbs ≤ 100 then n.good + 1 else 0
def Net.badRun (off : Int) (n : Net) : Nat := if 1000 < off.natAbs then n.bad + 1 else 0

/-- A Sync counts, then locks at the eighth good one, unlocks at the third bad one, or changes nothing more. -/
theorem ptpSync_cases (h : fld (s.ncfg d) 51 50 ≠ 0) (off : Int) (tai : Nat) :
    let n := s.netOf d
    ∃ x, s.Sampled x d off (n.goodRun off) (n.badRun off) ∧
      (n.locked = false → 8 ≤ n.goodRun off → exec (.ptpSync d off tai) s =
        .next (((x.updNet d Net.lock).post 0x0607 (nNet d) 0 1).setTime tai (2 + d.ix))) ∧
      (n.locked = true → 3 ≤ n.badRun off → exec (.ptpSync d off tai) s = .next (x.ptpUnlock d)) ∧
      (n.goodRun off < 8 ∨ n.locked = true → n.badRun off < 3 ∨ n.locked = false → exec (.ptpSync d off tai) s = .next x) := by
  intro n
  let gap := (off + (s.netOf d.other).offset.neg).natAbs
  let apart := n.locked && (s.netOf d.other).locked && 1000 < gap
  let diff := if d = .B then (if apart then n.diff + 1 else 0) else n.diff
  let s1 := s.updNet d (Net.sampled off tai (n.goodRun off) (n.badRun off) diff)
  have hs1 : s.Sampled s1 d off (n.goodRun off) (n.badRun off) :=
    ⟨⟨diff, tai, s.netOf_updNet_self d _⟩, s.netOf_updNet_other d _, rfl, rfl, rfl⟩
  refine ⟨if d = .B ∧ diff = 8 then s1.post 0x0608 nDevice 1 (Nat.min gap (2 ^ 28 - 1)) else s1, ?_, fun hl hg => ?_, fun hl hb => ?_,
    fun hg hb => ?_⟩
  · split
    · exact ⟨hs1.net, hs1.other, hs1.time, hs1.clock, (State.post_nodes rfl s1 _ _ _).trans hs1.nodes⟩
    · exact hs1
  · exact (if_neg h).trans (if_pos ⟨by rw [show (s.netOf d).locked = false from hl]; rfl, hg⟩)
  · exact (if_neg h).trans ((if_neg (by rw [show (s.netOf d).locked = true from hl]; simp)).trans (if_pos ⟨hl, hb⟩))
  · refine (if_neg h).trans ((if_neg ?_).trans (if_neg ?_))
    · rintro ⟨hl, hg8⟩
      rw [Bool.not_eq_true'] at hl
      exact hg.elim (fun hlt => absurd hg8 (Nat.not_le.mpr hlt)) fun ht => Bool.noConfusion (ht.symm.trans hl)
    · rintro ⟨hl, hb3⟩
      exact hb.elim (fun hlt => absurd hb3 (Nat.not_le.mpr hlt)) fun hf => Bool.noConfusion (hf.symm.trans hl)

/-- Rewritten stamps are words of MRAM (R396). -/
theorem State.rewriteStamps_keeps : s.rewriteStamps.time = s.time ∧ s.rewriteStamps.net = s.net ∧ s.rewriteStamps.log = s.log := by
  have h := (State.keepsRetire_rewriteStamps s).1
  exact ⟨(congrArg State.time h :), (congrArg State.net h :), (congrArg State.log h :)⟩

/-- Device time of a network, with its source. -/
def Time.from (tai cap src : Nat) (x : Time) : Time := { x with tai := tai, capTai := cap, valid := true, tsrc := BitVec.ofNat 4 src }

/-- Device time set: valid, with its source; networks stay and the log only grows. -/
theorem State.setTime_spec (tai src : Nat) : let t := s.setTime tai src
    t.time.valid = true ∧ t.time.tai = tai ∧ t.time.tsrc = BitVec.ofNat 4 src ∧ t.net = s.net ∧ ∀ e ∈ s.log, e ∈ t.log := by
  obtain ⟨x, hx⟩ : ∃ x : State, x = { s with time := s.time.from tai (tai - 1000 * s.clock.tick) src } := ⟨_, rfl⟩
  have he : s.setTime tai src = if s.time.valid then x else x.rewriteStamps.post 0x0906 nDevice 0 0 := by rw [hx]; rfl
  have hxt : x.time = s.time.from tai (tai - 1000 * s.clock.tick) src := by rw [hx]
  have hxn : x.net = s.net := by rw [hx]
  have hxl : x.log = s.log := by rw [hx]
  rw [he]
  dsimp only
  split
  · rw [hxt, hxn, hxl]
    exact ⟨rfl, rfl, rfl, rfl, fun _ h => h⟩
  · obtain ⟨ht, hn, hl⟩ := x.rewriteStamps_keeps
    rw [State.post_time, ht, hxt, State.post_net, hn, hxn]
    exact ⟨rfl, rfl, rfl, rfl, fun e he => State.mem_log_post (by rw [hl, hxl]; exact he) _ _ _ _⟩

/-- A network that locks, with the time of its master. -/
theorem State.lock_spec {x : State} (ht : x.timeWord = s.timeWord) (hw : x.windows.map Window.node = s.windows.map Window.node) (tai : Nat) :
    let t := ((x.updNet d Net.lock).post 0x0607 (nNet d) 0 1).setTime tai (2 + d.ix)
    t.netOf d = (x.netOf d).lock ∧ t.netOf d.other = x.netOf d.other ∧ t.time.valid = true ∧ t.time.tai = tai ∧
    t.time.tsrc = BitVec.ofNat 4 (2 + d.ix) ∧ s.reports t 0x0607 (nNet d) 0 1 := by
  obtain ⟨hv, htai, hsrc, hnet, hlog⟩ :=
    State.setTime_spec ((x.updNet d Net.lock).post 0x0607 (nNet d) 0 1) tai (2 + d.ix)
  have hn (e : Side) := congrArg (fun n : Two Net => n.get e) hnet
  exact ⟨(hn d).trans (x.netOf_updNet_self d Net.lock), (hn d.other).trans (x.netOf_updNet_other d Net.lock), hv, htai, hsrc,
    State.reports_mono (State.reports_net (x := x.updNet d Net.lock) ht hw d 0x0607 0 1) hlog⟩

/-- A network that is locked unlocks: device time stays, in holdover when the other network is not locked. -/
theorem State.ptpUnlock_spec {x : State} (hl : (x.netOf d).locked = true) (ht : x.timeWord = s.timeWord)
    (hw : x.windows.map Window.node = s.windows.map Window.node) : let t := x.ptpUnlock d
    t.netOf d = (x.netOf d).unlock ∧ t.netOf d.other = x.netOf d.other ∧
    t.time.valid = x.time.valid ∧ t.time.tai = x.time.tai ∧ s.reports t 0x0607 (nNet d) 0 0 ∧
    (x.time.valid = true → (x.netOf d.other).locked = false → t.time.tsrc = 5) := by
  unfold State.ptpUnlock
  rw [if_pos hl]
  refine ⟨x.netOf_updNet_self d Net.unlock, x.netOf_updNet_other d Net.unlock, rfl, rfl, ?_, fun hv ho => ?_⟩
  · exact State.reports_net (s := s) (x := x.updNet d Net.unlock) ht hw d 0x0607 0 0
  · exact (if_pos hv).trans (if_neg (by rw [ho]; exact Bool.false_ne_true))

theorem State.ptpUnlock_unlocked (hl : (s.netOf d).locked = false) : s.ptpUnlock d = s := if_neg (by rw [hl]; exact Bool.false_ne_true)

/-- A Sync with PTP on (R329). -/
theorem ptpSync_spec (h : fld (s.ncfg d) 51 50 ≠ 0) (off : Int) (tai : Nat) : let n := s.netOf d
    ∃ t, exec (.ptpSync d off tai) s = .next t ∧ (t.netOf d).offset = off ∧ t.netOf d.other = s.netOf d.other ∧
        (n.locked = false → n.good = 7 → off.natAbs ≤ 100 → (t.netOf d).locked = true ∧ t.time.valid = true ∧ t.time.tai = tai ∧
          t.time.tsrc = BitVec.ofNat 4 (2 + d.ix) ∧ s.reports t 0x0607 (nNet d) 0 1) ∧
        (n.locked = true → n.bad = 2 → 1000 < off.natAbs → (t.netOf d).locked = false ∧ (t.netOf d).good = 0 ∧
          t.time.valid = s.time.valid ∧ t.time.tai = s.time.tai ∧ s.reports t 0x0607 (nNet d) 0 0 ∧
          (s.time.valid = true → (s.netOf d.other).locked = false → t.time.tsrc = 5)) ∧
        (n.good < 7 → n.bad < 2 → (t.netOf d).locked = n.locked ∧ t.time = s.time ∧
          (t.netOf d).good = n.goodRun off ∧ (t.netOf d).bad = n.badRun off) := by
  intro n
  obtain ⟨x, hx, hlock, hunlock, hstay⟩ := ptpSync_cases s d h off tai
  obtain ⟨⟨diff, tai', hnet⟩, hother, htime, hclock, hnodes⟩ := hx
  have hword := State.timeWord_congr hclock htime
  have hgood : n.good < 7 → n.goodRun off < 8 := fun hg => by unfold Net.goodRun; split <;> omega
  have hbad : n.bad < 2 → n.badRun off < 3 := fun hb => by unfold Net.badRun; split <;> omega
  by_cases hL : n.locked = false ∧ 8 ≤ n.goodRun off
  · obtain ⟨hl, hg⟩ := hL
    obtain ⟨hd, ho, hv, htai, hsrc, hrep⟩ := s.lock_spec d hword hnodes tai
    refine ⟨_, hlock hl hg, by rw [hd, hnet]; rfl, ho.trans hother, fun _ _ _ => ⟨by rw [hd]; rfl, hv, htai, hsrc, hrep⟩,
      fun hl' => Bool.noConfusion (hl'.symm.trans hl), fun hg' => absurd hg (Nat.not_le.mpr (hgood hg'))⟩
  · by_cases hU : n.locked = true ∧ 3 ≤ n.badRun off
    · obtain ⟨hl, hb⟩ := hU
      obtain ⟨hd, ho, hv, htai, hrep, hsrc⟩ := s.ptpUnlock_spec d (x := x) (by rw [hnet]; exact hl) hword hnodes
      rw [htime] at hv htai hsrc
      rw [hother] at hsrc
      refine ⟨_, hunlock hl hb, by rw [hd, hnet]; rfl, ho.trans hother, fun hl' => Bool.noConfusion (hl'.symm.trans hl),
        fun _ _ _ => ⟨by rw [hd]; rfl, by rw [hd]; rfl, hv, htai, hrep, hsrc⟩, fun _ hb' => absurd hb (Nat.not_le.mpr (hbad hb'))⟩
    · refine ⟨x, hstay ?_ ?_, by rw [hnet]; rfl, hother, fun hl hg ho => ?_, fun hl hb ho => ?_, fun _ _ => ?_⟩
      · rw [not_and_or, Bool.not_eq_false, Nat.not_le] at hL
        exact hL.symm
      · rw [not_and_or, Bool.not_eq_true, Nat.not_le] at hU
        exact hU.symm
      · exact absurd ⟨hl, by rw [Net.goodRun, if_pos ho, hg]⟩ hL
      · exact absurd ⟨hl, by rw [Net.badRun, if_pos ho, hb]⟩ hU
      · rw [hnet, htime]
        exact ⟨rfl, rfl, rfl, rfl⟩

/-- An announce timeout with PTP on (R328, R329). -/
theorem ptpAnnounceTimeout_spec (h : fld (s.ncfg d) 51 50 ≠ 0) : ∃ t, exec (.ptpAnnounceTimeout d) s = .next t ∧
    (t.netOf d).locked = false ∧ (t.netOf d).master = !bit (s.ncfg d) 49 ∧
    ((s.netOf d).locked = true → s.reports t 0x0607 (nNet d) 0 0) ∧ t.time.valid = s.time.valid ∧ t.time.tai = s.time.tai := by
  have he : exec (.ptpAnnounceTimeout d) s = .next ((s.ptpUnlock d).updNet d fun n => { n with master := !(bit (s.ncfg d) 49) }) := if_neg h
  refine ⟨_, he, ?_⟩
  rw [State.netOf_updNet_self]
  by_cases hl : (s.netOf d).locked = true
  · obtain ⟨hd, -, hv, htai, hrep, -⟩ := s.ptpUnlock_spec d hl rfl rfl
    exact ⟨by rw [hd]; rfl, rfl, fun _ => hrep, hv, htai⟩
  · rw [State.ptpUnlock_unlocked s d (Bool.not_eq_true _ ▸ hl)]
    exact ⟨Bool.not_eq_true _ ▸ hl, rfl, fun h' => absurd h' hl, rfl, rfl⟩

end

/-- Settles O49. -/
theorem cagesAndPtp : Obligations.CagesAndPtp := by
  refine ⟨fun s c m flags cause => ?_, fun s d off delay tai better gm => ⟨fun h => ?_, fun h => ?_⟩⟩
  · refine ⟨?inserted, ?removed, fun h => ?polled, fun h => moduleAlarmPoll_absent s c h flags, ?down, ?up⟩
    case inserted =>
      obtain ⟨t, he, ⟨hc, hoth⟩, h5, h6, hled, hf⟩ := moduleInserted_spec s c m
      exact ⟨t, he, hc, hoth, h5, h6, hled, hf⟩
    case removed =>
      obtain ⟨t, he, ⟨hc, hoth⟩, hr, hled, hact, hnet⟩ := moduleRemoved_spec s c
      exact ⟨t, he, hc, hoth, hr, hled, hact, hnet⟩
    case polled =>
      obtain ⟨t, he, ⟨hc, hoth⟩, hset, hclear⟩ := moduleAlarmPoll_spec s c h flags
      exact ⟨t, he, hc, hoth, hset, hclear⟩
    case down =>
      obtain ⟨t, he, ⟨hc, hoth⟩, hr, hact, hnet⟩ := cageDown_spec s c cause
      exact ⟨t, he, hc, hoth, hr, hact, hnet⟩
    case up =>
      obtain ⟨t, he, ⟨hc, hoth⟩, hlog, htakes, hstays, hnet⟩ := cageUp_spec s c
      exact ⟨t, he, hc, hoth, hlog, htakes, hstays, hnet⟩
  · obtain ⟨hquiet, hcounted⟩ := ptp_off s d h off delay tai better gm
    exact ⟨hquiet, fun i hi => ⟨_, hcounted i hi, s.netTo_of d fun n => { n with discard := n.discard + 1 }⟩⟩
  · refine ⟨ptpSync_spec s d h off tai, ptpAnnounceTimeout_spec s d h, ?announce, ?delay, ?interval⟩
    case announce =>
      refine ⟨_, if_neg h, rfl, s.netOf_updNet_other d _, fun hb => ?_, fun hb hs => ?_⟩
      · exact (s.netOf_updNet_self d _).trans (if_pos hb)
      · exact (s.netOf_updNet_self d _).trans (if_neg (by simp [hb, hs]))
    case delay =>
      obtain ⟨hf, hd, ho⟩ := s.netTo_of d fun n => { n with delay := delay }
      exact ⟨_, if_neg h, hf, hd, ho⟩
    case interval =>
      obtain ⟨hf, hd, ho⟩ := s.netTo_of d fun n => { n with sentMsgs := n.sentMsgs + 1 }
      exact ⟨_, if_neg h, hf, hd, ho⟩

end Sys2Proof.Machine

namespace Sys2Proof.Machine

/-! ### What the causes of terminals leave (R55, R81, R132, R364, R473)

A cause that arises or ends at a terminal changes what is known of causes: the causes of terminals with their diagnosis records,
discrepancy clocks, calibrations, functions' raised causes, tests, events and replies. The calm picture of a state is what is left. -/

/-- A terminal without its causes and its calibration. -/
def Terminal.bare (x : Terminal) : Terminal := { x with tstat := { x.tstat with causes := 0, fault := 0, faultAt := 0 }, ana := {} }

/-- A field chip without its diagnosis buffer and the tests of its front-ends. -/
def Chip.bare (x : Chip) : Chip := { x with diag := [], full := 0, injTest := 0, refTest := 0 }

/-- The calm picture of a state, but for its terminals. -/
structure Calm where
  clock  : Clock
  time   : Time
  dev    : Device
  pkg    : Pkg
  lanes  : Tab Lanes
  net    : Two Net
  ledger : Ledger
  mem    : Two Mem
  off    : Nat → Nat
  chip   : Nat → Chip

def State.calm (s : State) : Calm :=
  { clock := s.clock, time := s.time, dev := s.dev, pkg := s.pkg, lanes := s.lanes, net := s.net, ledger := s.ledger, mem := s.mem
    off := fun c => (s.chanOf c).offLeft, chip := fun i => (s.chipOf i).bare }

/-- From s to t only causes change, and the log grows. -/
structure State.Causing (s t : State) : Prop where
  calm : t.calm = s.calm
  term : ∀ k, (t.termOf k).bare = (s.termOf k).bare
  log  : ∀ e ∈ s.log, e ∈ t.log

theorem State.Causing.refl (s : State) : s.Causing s := ⟨rfl, fun _ => rfl, fun _ h => h⟩

theorem State.Causing.trans {s t u : State} (h : s.Causing t) (g : t.Causing u) : s.Causing u :=
  ⟨g.calm.trans h.calm, fun k => (g.term k).trans (h.term k), fun e he => g.log e (h.log e he)⟩

theorem State.Books.causing {s t : State} (h : s.Books t) : s.Causing t := by
  refine ⟨?_, fun k => ?_, h.log⟩
  · rw [h.frame]; rfl
  · rw [State.termOf, h.term]; rfl

section
variable {s t : State} (h : s.Causing t)
include h

/-! What is left of a terminal. -/
theorem State.Causing.dig (k : Nat) : (t.termOf k).dig = (s.termOf k).dig := (congrArg Terminal.dig (h.term k) :)
theorem State.Causing.out (k : Nat) : (t.termOf k).out = (s.termOf k).out := (congrArg Terminal.out (h.term k) :)
theorem State.Causing.ctr (k : Nat) : (t.termOf k).ctr = (s.termOf k).ctr := (congrArg Terminal.ctr (h.term k) :)
theorem State.Causing.plug (k : Nat) : (t.termOf k).tstat.plug = (s.termOf k).tstat.plug := (congrArg (fun x => x.tstat.plug) (h.term k) :)
theorem State.Causing.qual (k : Nat) : (t.termOf k).tstat.qual = (s.termOf k).tstat.qual := (congrArg (fun x => x.tstat.qual) (h.term k) :)

end

section
variable {s t : State} (h : t.calm = s.calm)
include h

/-! What a calm picture shows. -/
theorem State.calm_clock : t.clock = s.clock := congrArg Calm.clock h
theorem State.calm_time : t.time = s.time := congrArg Calm.time h
theorem State.calm_lanesOf (i : Nat) : t.lanesOf i = s.lanesOf i := congrArg (fun x : Calm => Tab.get ({} : Lanes) x.lanes i) h
theorem State.calm_ledger : t.ledger = s.ledger := congrArg Calm.ledger h
theorem State.calm_chip (i : Nat) : (t.chipOf i).bare = (s.chipOf i).bare := congrFun (congrArg Calm.chip h) i
theorem State.calm_timeWord : t.timeWord = s.timeWord := State.timeWord_congr (State.calm_clock h) (State.calm_time h)

theorem State.calm_isRetired (n : Node) (cls : Nat) : t.isRetired n cls = s.isRetired n cls :=
  State.retired_congr (congrArg Calm.mem h) (congrArg (fun x : Calm => x.dev.otp) h) (congrArg (fun x : Calm => x.dev.otp1) h) n cls

end

/-- A change of terminals leaves the calm picture. -/
theorem State.calm_updTerm (s : State) (k : Nat) (f : Terminal → Terminal) : (s.updTerm k f).calm = s.calm := rfl

/-! #### The configuration in force (R49–R53, R92) -/

/-- What the words of channels and terminals rest on. -/
structure Setup where
  loaded : Bool
  pkg    : Pkg
  off    : Nat → Nat
  bank   : Nat → Bool × Tab Word

def State.setup (s : State) : Setup :=
  { loaded := s.dev.loaded, pkg := s.pkg, off := fun c => (s.chanOf c).offLeft, bank := fun i => ((s.chipOf i).linked, (s.chipOf i).active) }

theorem State.calm_setup {s t : State} (h : t.calm = s.calm) : t.setup = s.setup :=
  congrArg (fun x : Calm => Setup.mk x.dev.loaded x.pkg x.off fun i => ((x.chip i).linked, (x.chip i).active)) h

section
variable {s t : State} (h : t.setup = s.setup)
include h

theorem State.setup_chipWord (i obj idx cls n : Nat) : t.chipWord i obj idx cls n = s.chipWord i obj idx cls n := by
  have hload : t.dev.loaded = s.dev.loaded := congrArg Setup.loaded h
  have hpkg : t.pkg = s.pkg := congrArg Setup.pkg h
  have hbank : ((t.chipOf i).linked, (t.chipOf i).active) = ((s.chipOf i).linked, (s.chipOf i).active) := congrArg (fun x : Setup => x.bank i) h
  obtain ⟨hlink, hact⟩ := Prod.mk.inj hbank
  rw [State.chipWord, State.chipWord, State.cw, State.cw, hload, hpkg, hlink, hact]

theorem State.setup_ccfg (c : Nat) : t.ccfg c = s.ccfg c := State.setup_chipWord h _ _ _ _ _
theorem State.setup_tin (k : Nat) : t.tin k = s.tin k := State.setup_chipWord h _ _ _ _ _
theorem State.setup_tout (k : Nat) : t.tout k = s.tout k := State.setup_chipWord h _ _ _ _ _

theorem State.setup_mode (c : Nat) : t.mode c = s.mode c := by
  have hoff : (t.chanOf c).offLeft = (s.chanOf c).offLeft := congrArg (fun x : Setup => x.off c) h
  rw [State.mode, State.mode, hoff, State.setup_ccfg h]

theorem State.setup_demVal (k : Nat) : t.demVal k = s.demVal k := by
  rw [State.demVal, State.demVal, State.setup_ccfg h, State.setup_tin h, State.setup_tin h]

end

/-! #### What causes change -/

theorem State.calm_updChip {s : State} {i : Nat} {f : Chip → Chip} (h : ∀ x, (f x).bare = x.bare) : (s.updChip i f).calm = s.calm := by
  have hc : (fun j => ((s.updChip i f).chipOf j).bare) = fun j => (s.chipOf j).bare :=
    funext fun j => Tab.read_upd ({} : Chip) s.chip i f Chip.bare (h _) j
  exact congrArg (fun c => { s.calm with chip := c }) hc

theorem State.calm_updChan {s : State} {c : Nat} {f : Channel → Channel} (h : ∀ x, (f x).offLeft = x.offLeft) :
    (s.updChan c f).calm = s.calm := by
  have hc : (fun j => ((s.updChan c f).chanOf j).offLeft) = fun j => (s.chanOf j).offLeft :=
    funext fun j => Tab.read_upd ({} : Channel) s.chan c f Channel.offLeft (h _) j
  exact congrArg (fun o => { s.calm with off := o }) hc

theorem Chip.diagAdd_bare (x : Chip) (cause src tick : Nat) : (x.diagAdd cause src tick).bare = x.bare := by
  unfold Chip.diagAdd
  dsimp only
  split_ifs <;> rfl

theorem Tstat.raise_bare (x : Tstat) (cause now : Nat) :
    { x.raise cause now with causes := 0, fault := 0, faultAt := 0 } = { x with causes := 0, fault := 0, faultAt := 0 } := by
  unfold Tstat.raise
  split <;> rfl

section
variable {s x : State} (h : s.Causing x)
include h

/-! Each of these changes causes alone. -/
theorem State.Causing.postL (code : Nat) (src : Node) (sev detail : Nat) (l : Bool) : s.Causing (x.postL code src sev detail l) :=
  h.trans ((State.Books.refl x).postL code src sev detail l).causing

theorem State.Causing.post (code : Nat) (src : Node) (sev detail : Nat) : s.Causing (x.post code src sev detail) :=
  h.postL code src sev detail false

theorem State.Causing.endCondition (src : Node) (code : Nat) : s.Causing (x.endCondition src code) := h.trans ⟨rfl, fun _ => rfl, fun _ he => he⟩

theorem State.Causing.updChip (i : Nat) {f : Chip → Chip} (hf : ∀ y, (f y).bare = y.bare) : s.Causing (x.updChip i f) :=
  h.trans ⟨State.calm_updChip hf, fun _ => rfl, fun _ he => he⟩

theorem State.Causing.updTerm (k : Nat) {f : Terminal → Terminal} (hf : ∀ y, (f y).bare = y.bare) : s.Causing (x.updTerm k f) :=
  h.trans ⟨rfl, Tab.read_upd ({} : Terminal) x.term k f Terminal.bare (hf _), fun _ he => he⟩

theorem State.Causing.updChan (c : Nat) {f : Channel → Channel} (hf : ∀ y, (f y).offLeft = y.offLeft) : s.Causing (x.updChan c f) :=
  h.trans ⟨State.calm_updChan hf, fun _ => rfl, fun _ he => he⟩

theorem State.Causing.updFn (f : Nat) (g : Fn → Fn) : s.Causing (x.updFn f g) := h.trans ⟨rfl, fun _ => rfl, fun _ he => he⟩

theorem State.Causing.ite {p : Prop} [Decidable p] {y : State} (g : s.Causing y) : s.Causing (if p then x else y) := by
  split
  · exact h
  · exact g

theorem State.Causing.forEach {f : State → Nat → State} (hf : ∀ (y : State) k, y.Causing (f y k)) (l : List Nat) : s.Causing (x.forEach l f) :=
  forEach_inv s.Causing f (fun y k hy => hy.trans (hf y k)) x l h

theorem State.Causing.diagAdd (i cause src : Nat) : s.Causing (x.diagAdd i cause src) :=
  h.updChip i fun y => y.diagAdd_bare cause src _

theorem State.Causing.chipCause (i cause src count : Nat) : s.Causing (x.chipCause i cause src count) :=
  (h.diagAdd i cause src).post _ _ _ _

theorem State.Causing.lowerCause (k cause : Nat) : s.Causing (x.lowerCause k cause) :=
  (h.updTerm k (f := fun y => { y with tstat := y.tstat.lower cause }) fun _ => rfl).endCondition _ _

theorem State.Causing.calEnd (k status : Nat) : s.Causing (x.calEnd k status) := by
  have hu := h.updTerm k (f := fun y => { y with ana := { y.ana with cal := none, calDone := y.ana.calRun, calTag := none } }) fun _ => rfl
  unfold State.calEnd
  dsimp only
  split
  · exact hu
  · exact hu.trans ((State.Books.refl _).finalReply _ _ _ _ _ _).causing

theorem State.Causing.calAbort (k : Nat) : s.Causing (x.calAbort k) := by
  unfold State.calAbort
  split
  · exact (h.calEnd k _).trans (State.Books.refl _).drawn.causing
  · exact h

theorem State.Causing.calAbortChip (i : Nat) : s.Causing (x.calAbortChip i) :=
  h.forEach (fun y k => (State.Causing.refl y).calAbort k) _

theorem State.Causing.raiseCauseD (k cause detail : Nat) : s.Causing (x.raiseCauseD k cause detail) := by
  have hr := ((h.updTerm k (f := fun y => { y with tstat := y.tstat.raise cause x.clock.count })
    fun y => congrArg (fun z => { y with tstat := z, ana := {} }) (y.tstat.raise_bare cause _)).diagAdd (tChip k) cause (tLocal k)).postL
      (0x0100 + cause) (nTerm k) 3 detail true
  unfold State.raiseCauseD
  dsimp only
  split_ifs
  · exact h
  · exact h.diagAdd _ _ _
  · exact hr.calAbort _
  · exact hr

theorem State.Causing.raiseCause (k cause : Nat) : s.Causing (x.raiseCause k cause) := h.raiseCauseD k cause 0

theorem State.Causing.raiseFns (fs : List Nat) (cause detail term : Nat) : s.Causing (x.raiseFns fs cause detail term) :=
  h.forEach (fun y f => (State.Causing.refl y).updFn f _) fs

theorem State.Causing.discrepancyClock (k stamp : Nat) : s.Causing (x.discrepancyClock k stamp) := by
  unfold State.discrepancyClock
  dsimp only
  split
  · exact h
  · split
    · refine h.updChan _ fun y => ?_
      split <;> rfl
    · exact ((h.updChan _ (f := fun c => { c with discAt := none }) fun _ => rfl).lowerCause _ _).lowerCause _ _

theorem State.Causing.forceChange (k : Nat) : s.Causing (x.forceChange k) := h.discrepancyClock k _

theorem State.Causing.testRelease (n : Node) : s.Causing (x.testRelease n) := by
  have hunit : s.Causing (x.unitTesting n false) := by
    unfold State.unitTesting
    refine State.Causing.ite ?_ (State.Causing.ite ?_ h)
    · exact h.trans ⟨rfl, fun _ => rfl, fun _ he => he⟩
    · exact h.trans ⟨rfl, fun _ => rfl, fun _ he => he⟩
  unfold State.testRelease
  refine State.Causing.ite ?_ (State.Causing.ite ?_ (State.Causing.ite ?_ hunit))
  · exact h.trans ⟨rfl, fun _ => rfl, fun _ he => he⟩
  · exact h.trans ⟨rfl, fun _ => rfl, fun _ he => he⟩
  · exact h.updChip _ fun _ => rfl

theorem State.Causing.startTest (n : Node) (cls : Nat) : s.Causing (x.startTest n cls) := by
  unfold State.startTest
  split
  · exact h
  · split
    · exact h.trans ((State.Books.refl x).beginTest n cls).causing
    · next q hq =>
      split
      · have ha := h.trans ((((State.Books.refl x).post 0x0A04 q.node 0 x.freeStatus).concludeTest q 2).drawn).causing
        exact (ha.testRelease q.node).trans ((State.Books.refl _).beginTest n cls).causing
      · exact h.trans ⟨rfl, fun _ => rfl, fun _ he => he⟩

theorem State.Causing.raiseFront (k cause : Nat) : s.Causing (x.raiseFront k cause) := (h.raiseCause k cause).startTest _ _

end

end Sys2Proof.Machine

namespace Sys2Proof.Machine

/-! ### The causes of a terminal (R55, R81, R473) -/

/-- Cause c is present at terminal k. -/
def State.hasCause (s : State) (k c : Nat) : Bool := (s.termOf k).tstat.causes.getLsbD c

theorem State.hasCause_of_tstat {s t : State} {k : Nat} (h : (t.termOf k).tstat = (s.termOf k).tstat) (c : Nat) :
    t.hasCause k c = s.hasCause k c := congrArg (fun x : Tstat => x.causes.getLsbD c) h

/-- An update of a terminal leaves what it leaves of that terminal. -/
theorem State.termOf_updTerm_keeps {β : Type} (π : Terminal → β) {f : Terminal → Terminal} (h : ∀ x, π (f x) = π x) (s : State) (t k : Nat) :
    π ((s.updTerm t f).termOf k) = π (s.termOf k) := Tab.read_upd ({} : Terminal) s.term t f π (h _) k

@[simp] theorem State.termOf_updTerm_self (s : State) (t : Nat) (f : Terminal → Terminal) : (s.updTerm t f).termOf t = f (s.termOf t) := by
  rw [State.termOf_updTerm, if_pos rfl]

theorem State.termOf_updTerm_other (s : State) {t k : Nat} (h : k ≠ t) (f : Terminal → Terminal) : (s.updTerm t f).termOf k = s.termOf k := by
  rw [State.termOf_updTerm, if_neg h]

theorem getLsbD_setBit (w : BitVec 32) (i : Nat) {j : Nat} (hj : j < 32) (b : Bool) :
    (setBit w i b).getLsbD j = if j = i then b else w.getLsbD j := by
  have h := bit_setBit w i j b
  by_cases hi : j = i
  · rw [if_pos ⟨hi, hi ▸ hj⟩] at h
    rw [if_pos hi]; exact h
  · rw [if_neg fun hc => hi hc.1] at h
    rw [if_neg hi]; exact h

theorem Tstat.raise_causes (x : Tstat) (cause now : Nat) : (x.raise cause now).causes = setBit x.causes cause true := by
  unfold Tstat.raise
  split <;> rfl

/-! #### A cause arises -/

/-- A cause leaves what TSTAT is of every other terminal. -/
theorem State.tstat_raiseCause_other (s : State) {t k : Nat} (h : k ≠ t) (cause : Nat) :
    ((s.raiseCause t cause).termOf k).tstat = (s.termOf k).tstat := by
  have hu : ((s.updTerm t fun x => { x with tstat := x.tstat.raise cause s.clock.count }).termOf k).tstat = (s.termOf k).tstat :=
    congrArg Terminal.tstat (s.termOf_updTerm_other h _)
  unfold State.raiseCause State.raiseCauseD
  dsimp only
  split_ifs
  · rfl
  · rfl
  · rw [State.calAbort_tstat]; exact hu
  · exact hu

/-- What a cause makes of the causes of its terminal. -/
theorem State.causes_raiseCause (s : State) {t : Nat} (hm : s.mode (tChan t) ≠ mOFF) (cause : Nat) {c : Nat} (hc : c < 32) :
    (s.raiseCause t cause).hasCause t c = (s.hasCause t c || decide (c = cause)) := by
  have hr : ((s.updTerm t fun x => { x with tstat := x.tstat.raise cause s.clock.count }).termOf t).tstat.causes.getLsbD c =
      (s.hasCause t c || decide (c = cause)) := by
    rw [State.termOf_updTerm_self, Tstat.raise_causes, getLsbD_setBit _ _ hc, State.hasCause]
    by_cases h : c = cause <;> simp [h]
  unfold State.raiseCause State.raiseCauseD
  rw [if_neg hm]
  split
  · next h =>
    have hs : (s.diagAdd (tChip t) cause (tLocal t)).hasCause t c = s.hasCause t c := rfl
    rw [hs]
    by_cases hcc : c = cause
    · rw [hcc]; simp [State.hasCause, h]
    · simp [hcc]
  · dsimp only
    split
    · rw [State.hasCause, State.calAbort_tstat]; exact hr
    · exact hr

theorem State.raiseCause_off (s : State) {t : Nat} (hm : s.mode (tChan t) = mOFF) (cause : Nat) : s.raiseCause t cause = s := if_pos hm

/-- A cause ends none. -/
theorem State.hasCause_raiseCause_of (s : State) (t cause : Nat) {k c : Nat} (hc : c < 32) (h : s.hasCause k c = true) :
    (s.raiseCause t cause).hasCause k c = true := by
  by_cases hk : k = t
  · subst hk
    by_cases hm : s.mode (tChan k) = mOFF
    · rw [s.raiseCause_off hm]; exact h
    · rw [s.causes_raiseCause hm cause hc, h]; rfl
  · rw [State.hasCause_of_tstat (s.tstat_raiseCause_other hk cause)]; exact h

theorem State.hasCause_raiseCause_self (s : State) {t : Nat} (hm : s.mode (tChan t) ≠ mOFF) {cause : Nat} (hc : cause < 32) :
    (s.raiseCause t cause).hasCause t cause = true := s.raiseCause_causes hm hc

/-! #### A cause ends -/

theorem State.tstat_lowerCause_other (s : State) {t k : Nat} (h : k ≠ t) (cause : Nat) :
    ((s.lowerCause t cause).termOf k).tstat = (s.termOf k).tstat :=
  (congrArg Terminal.tstat (s.termOf_updTerm_other h fun x => { x with tstat := x.tstat.lower cause }) :)

/-- The end of a cause ends it alone. -/
theorem State.hasCause_lowerCause (s : State) (t cause k : Nat) {c : Nat} (hc : c < 32) :
    (s.lowerCause t cause).hasCause k c = (s.hasCause k c && !decide (k = t ∧ c = cause)) := by
  by_cases hk : k = t
  · subst hk
    have hs : (s.lowerCause k cause).hasCause k c = ((s.updTerm k fun x => { x with tstat := x.tstat.lower cause }).termOf k).tstat.causes.getLsbD c := rfl
    rw [hs, State.termOf_updTerm_self]
    change (setBit (s.termOf k).tstat.causes cause false).getLsbD c = _
    rw [getLsbD_setBit _ _ hc, State.hasCause]
    by_cases h : c = cause <;> simp [h]
  · rw [State.hasCause_of_tstat (s.tstat_lowerCause_other hk cause)]
    simp [hk]

/-! #### Discrepancy clocks and calibrations (R62, R132) -/

/-- A discrepancy clock ends no cause but 0x08, and that in its own channel alone. -/
theorem State.hasCause_discrepancyClock (s : State) (t stamp k : Nat) {c : Nat} (hc : c < 32) (h : c ≠ 8) :
    (s.discrepancyClock t stamp).hasCause k c = s.hasCause k c := by
  have hlow (x : State) (j : Nat) : (x.lowerCause j 8).hasCause k c = x.hasCause k c := by
    rw [State.hasCause_lowerCause _ _ _ _ hc, decide_eq_false fun hj => h hj.2, Bool.not_false, Bool.and_true]
  unfold State.discrepancyClock
  dsimp only
  split
  · rfl
  · split
    · rfl
    · rw [hlow, hlow]; rfl

theorem State.tstat_discrepancyClock_other (s : State) {t k : Nat} (h : tChan k ≠ tChan t) (stamp : Nat) :
    ((s.discrepancyClock t stamp).termOf k).tstat = (s.termOf k).tstat := by
  unfold tChan at h
  unfold State.discrepancyClock
  dsimp only
  split
  · rfl
  · split
    · rfl
    · rw [State.tstat_lowerCause_other _ (by unfold tChan; omega), State.tstat_lowerCause_other _ (by unfold tChan; omega)]; rfl

theorem State.hasCause_forceChange (s : State) (t k : Nat) {c : Nat} (hc : c < 32) (h : c ≠ 8) : (s.forceChange t).hasCause k c = s.hasCause k c :=
  s.hasCause_discrepancyClock t _ k hc h

theorem State.tstat_forceChange_other (s : State) {t k : Nat} (h : tChan k ≠ tChan t) : ((s.forceChange t).termOf k).tstat = (s.termOf k).tstat :=
  s.tstat_discrepancyClock_other h _

theorem State.tstat_calAbortChip (s : State) (i k : Nat) : ((s.calAbortChip i).termOf k).tstat = (s.termOf k).tstat :=
  forEach_keeps (fun x : State => (x.termOf k).tstat) State.calAbort (fun x j => x.calAbort_tstat j k) s (chipTerms i)

/-! #### Tests (R364) -/

/-- A test leaves the terminals. -/
theorem State.term_startTest (s : State) (n : Node) (cls : Nat) : (s.startTest n cls).term = s.term := by
  have hbegin (x : State) : (x.beginTest n cls).term = x.term := ((State.Books.refl x).beginTest n cls).term
  have hrel (x : State) (m : Node) : (x.testRelease m).term = x.term := by
    unfold State.testRelease State.unitTesting
    split_ifs <;> rfl
  unfold State.startTest
  split
  · rfl
  · split
    · exact hbegin s
    · next q hq =>
      split
      · rw [hbegin, State.abortTest, hrel]
        exact ((((State.Books.refl s).post 0x0A04 q.node 0 s.freeStatus).concludeTest q 2).drawn).term
      · rfl

theorem State.termOf_startTest (s : State) (n : Node) (cls k : Nat) : (s.startTest n cls).termOf k = s.termOf k :=
  congrArg (fun x : Tab Terminal => Tab.get ({} : Terminal) x k) (s.term_startTest n cls)

/-! ### Steps at every number of a list -/

/-- What a step at k brings, and every step keeps, holds at every k of a list; q is what every step keeps of the state before. -/
theorem State.forEach_each {q : State → Prop} {P : Nat → State → Prop} {f : State → Nat → State} (hq : ∀ x k, q x → q (f x k))
    (hself : ∀ x k, q x → P k (f x k)) (hkeep : ∀ x j k, P k x → P k (f x j)) {s : State} (hs : q s) {l : List Nat} :
    ∀ k ∈ l, P k (s.forEach l f) := by
  intro k hk
  obtain ⟨a, r, rfl⟩ := List.append_of_mem hk
  rw [State.forEach_split]
  exact forEach_inv (P k) f (fun x j => hkeep x j k) _ r (hself _ k (forEach_inv q f hq s a hs))

/-! ### Forces, holds and gates (R54, R476) -/

theorem State.atDemand_of_forced {s : State} {k : Nat} (h : (s.termOf k).forced = true ∨ s.mode (tChan k) = mOFF) : s.atDemand k = true := by
  rw [State.atDemand, State.qualOf, if_pos (by simpa using h)]
  exact decide_eq_true rfl

theorem State.forced_of_hasCause {s : State} {k : Nat} (h : s.hasCause k 9 = true) : (s.termOf k).forced = true := by
  rw [Terminal.forced, show (s.termOf k).tstat.causes.getLsbD 9 = true from h, Bool.or_true]

theorem State.atDemand_settle (s : State) (k : Nat) : s.settle.atDemand k = s.atDemand k := by
  rw [State.atDemand, State.atDemand, State.qualOf_settle, State.demVal_settle]

theorem State.hasCause_settle (s : State) (k c : Nat) : s.settle.hasCause k c = s.hasCause k c :=
  State.hasCause_of_tstat (s.settle_tstat k) c

theorem State.held_of_plugOpen {s : State} {j : Nat} (h : (s.lanesOf j).plugOpen = true) (k : Nat) (hk : tChip k = j) :
    s.held k = true := by simp [State.held, hk, h]

theorem State.held_of_fsup {s : State} {j : Nat} (h : (s.lanesOf j).fsup = true) (k : Nat) (hk : tChip k = j) :
    s.held k = true := by simp [State.held, hk, h]

/-- Settling releases no latch. -/
theorem State.latch_settle {s : State} {k : Nat} (h : (s.termOf k).out.latch = true) : (s.settle.termOf k).out.latch = true := by
  rw [State.settle_out]
  split
  · unfold Out.settle
    split
    · rfl
    · exact h
  · exact h

end Sys2Proof.Machine

namespace Sys2Proof.Machine

/-! ### Plug and field supply (R77, R78, R437, R473–R476) -/

/-- The ancestors of a supply are fixed (R362). -/
theorem nSupply_ancestors (s t : State) (i : Nat) : t.ancestors (nSupply i) = s.ancestors (nSupply i) := rfl

/-- The end of a condition leaves the nodes of the open windows. -/
theorem State.endCondition_nodes (s : State) (src : Node) (code : Nat) :
    (s.endCondition src code).windows.map Window.node = s.windows.map Window.node := by
  change (s.windows.map _).map Window.node = _
  rw [List.map_map]
  refine List.map_congr_left fun w _ => ?_
  rw [Function.comp_apply]
  split <;> rfl

/-- The terminals of a chip whose gates a hold takes off. -/
theorem State.chipOff_of_lanes {s : State} {i : Nat} (h : (s.lanesOf i).plugOpen = true ∨ (s.lanesOf i).fsup = true) : s.settle.chipOff i :=
  State.chipOff_settle fun k hk => h.elim (fun hp => State.held_of_plugOpen hp k hk) fun hf => State.held_of_fsup hf k hk

/-- A terminal with its plug in place or not. -/
def Terminal.plugAt (b : Bool) (x : Terminal) : Terminal := { x with tstat := { x.tstat with plug := b } }

/-! #### The plug goes (R77) -/

/-- The plug of terminal t goes: cause 0x09, and its input reads demand. -/
def State.plugLost (x : State) (t : Nat) : State := ((x.updTerm t (Terminal.plugAt false)).raiseCause t 9).forceChange t

/-- What the loss of one plug leaves, beside the plug. -/
theorem State.plugLost_causing (x : State) (t : Nat) : (x.updTerm t (Terminal.plugAt false)).Causing (x.plugLost t) :=
  ((State.Causing.refl _).raiseCause t 9).forceChange t

theorem State.plugLost_calm (x : State) (t : Nat) : (x.plugLost t).calm = x.calm := (x.plugLost_causing t).calm.trans (x.calm_updTerm t _)

/-- Terminal k has lost its plug, in a configuration. -/
def State.unplugged (s x : State) (k : Nat) : Prop :=
  (x.termOf k).tstat.plug = false ∧ (s.mode (tChan k) ≠ mOFF → x.hasCause k 9 = true)

theorem State.plugLost_self {s x : State} (h : x.setup = s.setup) (k : Nat) : s.unplugged (x.plugLost k) k := by
  refine ⟨?_, fun hm => ?_⟩
  · rw [(x.plugLost_causing k).plug, State.termOf_updTerm_self]; rfl
  · rw [State.plugLost, State.hasCause_forceChange _ _ _ (by decide) (by decide)]
    exact State.hasCause_raiseCause_self _ (by rwa [State.setup_mode (State.calm_setup (State.calm_updTerm _ _ _)), State.setup_mode h]) (by decide)

theorem State.plugLost_keeps {s x : State} (j k : Nat) (h : s.unplugged x k) : s.unplugged (x.plugLost j) k := by
  obtain ⟨hp, hc⟩ := h
  refine ⟨?_, fun hm => ?_⟩
  · rw [(x.plugLost_causing j).plug, State.termOf_updTerm]
    split
    · rfl
    · exact hp
  · rw [State.plugLost, State.hasCause_forceChange _ _ _ (by decide) (by decide)]
    refine State.hasCause_raiseCause_of _ _ _ (by decide) ?_
    exact (State.termOf_updTerm_keeps (fun y => y.tstat.causes.getLsbD 9) (f := Terminal.plugAt false) (fun _ => rfl) x j k).trans (hc hm)

/-- All the plugs of a chip go. -/
def State.plugsLost (x : State) (i : Nat) : State := x.forEach (chipTerms i) State.plugLost

theorem State.plugsLost_each (x : State) (i : Nat) : ∀ k ∈ chipTerms i, x.unplugged (x.plugsLost i) k :=
  State.forEach_each (q := fun y => y.setup = x.setup) (P := fun k y => x.unplugged y k)
    (fun y k hy => (State.calm_setup (y.plugLost_calm k)).trans hy) (fun _ k hy => State.plugLost_self hy k)
    (fun _ j k hk => State.plugLost_keeps j k hk) rfl

theorem State.plugsLost_calm (x : State) (i : Nat) : (x.plugsLost i).calm = x.calm :=
  forEach_keeps State.calm State.plugLost State.plugLost_calm x _

theorem State.plugsLost_log (x : State) (i : Nat) : ∀ e ∈ x.log, e ∈ (x.plugsLost i).log :=
  forEach_inv (fun y => ∀ e ∈ x.log, e ∈ y.log) _ (fun y k hy e he => (y.plugLost_causing k).log e (hy e he)) x _ fun _ he => he

/-- What the loss of a plug makes of its chip's lanes. -/
def Lanes.plugGone (b : Bool) (l : Lanes) : Lanes := { l with plugOpen := b }

theorem plugRemoved_spec (s : State) (i : ChipIx) : ∃ t, exec (.plugRemoved i) s = .next t ∧ (t.lanesOf i.val).plugOpen = true ∧
    (∀ k ∈ chipTerms i.val, s.mode (tChan k) ≠ mOFF → t.hasCause k 9 = true) ∧ t.chipOff i.val ∧ t.gatesSafe ∧
    (∀ k ∈ chipTerms i.val, (t.termOf k).tstat.plug = false ∧ t.atDemand k = true) ∧
    s.reports t 0x0203 (nChip i.val) 3 0 ∧ t.ledger.waiting.length = s.ledger.waiting.length + 1 := by
  obtain ⟨y, hy⟩ : ∃ y : State, y = ((s.updLanes i.val (Lanes.plugGone true)).postL 0x0203 (nChip i.val) 3 0 true).ledgerKeyed
    (8192 + i.val / 2) 5 noFn noChan 0 0 0 0 := ⟨_, rfl⟩
  obtain ⟨x, hx⟩ : ∃ x : State, x = ((y.plugsLost i.val).calAbortChip i.val).calAbortChip (chipOther i.val) := ⟨_, rfl⟩
  have he : exec (.plugRemoved i) s = .next x.settle := by rw [hx, hy]; rfl
  have hxc : (y.plugsLost i.val).Causing x := by
    rw [hx]; exact ((State.Causing.refl _).calAbortChip _).calAbortChip _
  have hcalm : x.calm = y.calm := hxc.calm.trans (y.plugsLost_calm i.val)
  have hyset : y.setup = s.setup := by rw [hy]; rfl
  have hlost (k : Nat) (hk : k ∈ chipTerms i.val) : s.unplugged x k := by
    have hxt : (x.termOf k).tstat = ((y.plugsLost i.val).termOf k).tstat := by
      rw [hx, State.tstat_calAbortChip, State.tstat_calAbortChip]
    obtain ⟨hp, hc⟩ := y.plugsLost_each i.val k hk
    rw [State.setup_mode hyset] at hc
    exact ⟨by rw [hxt]; exact hp, fun hm => (State.hasCause_of_tstat hxt 9).trans (hc hm)⟩
  have hopen : (x.lanesOf i.val).plugOpen = true := by
    rw [State.calm_lanesOf hcalm, hy]
    exact congrArg Lanes.plugOpen (s.lanesOf_updLanes_self i.val (Lanes.plugGone true))
  refine ⟨_, he, hopen, fun k hk hm => (x.hasCause_settle k 9).trans ((hlost k hk).2 hm), State.chipOff_of_lanes (.inl hopen),
    State.settle_gatesSafe x, fun k hk => ⟨?_, ?_⟩, ?_, ?_⟩
  · rw [State.settle_tstat]
    exact (hlost k hk).1
  · rw [State.atDemand_settle]
    refine State.atDemand_of_forced ?_
    by_cases hm : s.mode (tChan k) = mOFF
    · exact .inr ((State.setup_mode ((State.calm_setup hcalm).trans hyset) _).trans hm)
    · exact .inl (State.forced_of_hasCause ((hlost k hk).2 hm))
  · have hr : s.reports y 0x0203 (nChip i.val) 3 0 := by
      rw [hy]
      exact State.reports_of_postL (x := s.updLanes i.val (Lanes.plugGone true)) true rfl rfl rfl rfl rfl rfl rfl
    exact State.reports_mono hr fun e he => hxc.log e (y.plugsLost_log i.val e he)
  · rw [State.settle_ledger, State.calm_ledger hcalm, hy]
    exact List.length_append

/-! #### The plug comes (R77, R474) -/

/-- A terminal whose filter starts at a value (R474). -/
def Terminal.restarted (d : Bool) (now : Nat) (x : Terminal) : Terminal := { x with
  tstat := { x.tstat with qual := d }
  dig := { x.dig with fresh := true, firstRaw := none, bounceN := 0, demSince := some (x.dig.demSince.getD now) } }

/-- A filter restarts in a mode with filters; beside that, causes alone change. -/
theorem State.restartFilter_causing (x : State) (t : Nat) :
    (if hasFilter (x.mode (tChan t)) = true then x.updTerm t (Terminal.restarted (x.demVal t) x.clock.count) else x).Causing
      (x.restartFilter t) := by
  unfold State.restartFilter
  split
  · exact (State.Causing.refl _).forceChange t
  · exact .refl x

/-- A restarted filter ends no cause but 0x08. -/
theorem State.restartFilter_hasCause (x : State) (t k : Nat) {c : Nat} (hc : c < 32) (h : c ≠ 8) :
    (x.restartFilter t).hasCause k c = x.hasCause k c := by
  unfold State.restartFilter
  split
  · rw [State.hasCause_forceChange _ _ _ hc h]
    exact State.termOf_updTerm_keeps (fun y => y.tstat.causes.getLsbD c) (f := Terminal.restarted (x.demVal t) x.clock.count) (fun _ => rfl) x t k
  · rfl

/-- The plug of terminal t comes: cause 0x09 ends, and its filter restarts. -/
def State.plugFound (x : State) (t : Nat) : State := ((x.updTerm t (Terminal.plugAt true)).lowerCause t 9).restartFilter t

/-- A filter that restarts leaves the calm picture. -/
theorem State.restartFilter_calm (x : State) (t : Nat) : (x.restartFilter t).calm = x.calm := by
  refine (x.restartFilter_causing t).calm.trans ?_
  split
  · rfl
  · rfl

theorem State.plugFound_calm (x : State) (t : Nat) : (x.plugFound t).calm = x.calm :=
  (State.restartFilter_calm _ t).trans (((State.Causing.refl _).lowerCause t 9).calm.trans (x.calm_updTerm t _))

/-- What a restarted filter makes of a terminal, beside its causes. -/
theorem State.restartFilter_bare (x : State) (t k : Nat) : ((x.restartFilter t).termOf k).bare =
    if k = t ∧ hasFilter (x.mode (tChan t)) = true then ((x.termOf k).restarted (x.demVal t) x.clock.count).bare else (x.termOf k).bare := by
  rw [(x.restartFilter_causing t).term k]
  by_cases hf : hasFilter (x.mode (tChan t)) = true
  · rw [if_pos hf, State.termOf_updTerm]
    by_cases hk : k = t
    · subst hk
      rw [if_pos rfl, if_pos ⟨rfl, hf⟩]
    · rw [if_neg hk, if_neg fun h => hk h.1]
  · rw [if_neg hf, if_neg fun h => hf h.2]

/-- What a plug that comes makes of a terminal, beside its causes. -/
theorem State.plugFound_bare (x : State) (t k : Nat) : ((x.plugFound t).termOf k).bare =
    if k = t then (if hasFilter (x.mode (tChan t)) = true then (((x.termOf k).plugAt true).restarted (x.demVal t) x.clock.count).bare
      else ((x.termOf k).plugAt true).bare) else (x.termOf k).bare := by
  have hl := (State.Causing.refl (x.updTerm t (Terminal.plugAt true))).lowerCause t 9
  have hcalm : ((x.updTerm t (Terminal.plugAt true)).lowerCause t 9).calm = x.calm := hl.calm.trans (x.calm_updTerm t _)
  have hset := State.calm_setup hcalm
  have hbare : (((x.updTerm t (Terminal.plugAt true)).lowerCause t 9).termOf k).bare =
      if k = t then ((x.termOf k).plugAt true).bare else (x.termOf k).bare := by
    rw [hl.term k, State.termOf_updTerm]
    split
    · next hk => rw [hk]
    · rfl
  have hrest (y : Terminal) (d : Bool) (n : Nat) : (y.restarted d n).bare = (y.bare.restarted d n).bare := rfl
  rw [State.plugFound, State.restartFilter_bare, State.setup_mode hset, State.setup_demVal hset, State.calm_clock hcalm, hrest, hbare]
  by_cases hk : k = t
  · simp only [hk, true_and, if_true]
    rfl
  · rw [if_neg hk, if_neg hk, if_neg fun h => hk h.1]

theorem State.plugFound_hasCause (x : State) (j k : Nat) : (x.plugFound j).hasCause k 9 = (x.hasCause k 9 && !decide (k = j)) := by
  have h : (x.updTerm j (Terminal.plugAt true)).hasCause k 9 = x.hasCause k 9 :=
    State.termOf_updTerm_keeps (fun y => y.tstat.causes.getLsbD 9) (f := Terminal.plugAt true) (fun _ => rfl) x j k
  rw [State.plugFound, State.restartFilter_hasCause _ _ _ (by decide) (by decide), State.hasCause_lowerCause _ _ _ _ (by decide), h]
  simp

/-- Terminal k after its plug has come, in a configuration: cause, plug and filter. -/
def State.plugged (s x : State) (k : Nat) : Prop := x.hasCause k 9 = false ∧ (x.termOf k).tstat.plug = true ∧
  (hasFilter (s.mode (tChan k)) = true → (x.termOf k).tstat.qual = s.demVal k ∧ (x.termOf k).dig.fresh = true)

theorem State.plugged_of_bare {s x : State} {k : Nat} {y : Terminal} (hc : x.hasCause k 9 = false) (hb : (x.termOf k).bare = y.bare)
    (hp : y.tstat.plug = true) (hf : hasFilter (s.mode (tChan k)) = true → y.tstat.qual = s.demVal k ∧ y.dig.fresh = true) : s.plugged x k :=
  ⟨hc, (congrArg (fun z : Terminal => z.tstat.plug) hb :).trans hp, fun h =>
    ⟨(congrArg (fun z : Terminal => z.tstat.qual) hb :).trans (hf h).1, (congrArg (fun z : Terminal => z.dig.fresh) hb :).trans (hf h).2⟩⟩

theorem State.plugFound_self {s x : State} (h : x.setup = s.setup) (k : Nat) : s.plugged (x.plugFound k) k := by
  have hc : (x.plugFound k).hasCause k 9 = false := by rw [State.plugFound_hasCause]; simp
  have hb := x.plugFound_bare k k
  rw [if_pos rfl, State.setup_mode h, State.setup_demVal h] at hb
  by_cases hf : hasFilter (s.mode (tChan k)) = true
  · rw [if_pos hf] at hb
    exact State.plugged_of_bare hc hb rfl fun _ => ⟨rfl, rfl⟩
  · rw [if_neg hf] at hb
    exact State.plugged_of_bare hc hb rfl fun hf' => absurd hf' hf

theorem State.plugFound_keeps {s x : State} (hx : x.setup = s.setup) (j k : Nat) (h : s.plugged x k) : s.plugged (x.plugFound j) k := by
  by_cases hk : k = j
  · subst hk
    exact State.plugFound_self hx k
  · obtain ⟨hc, hp, hq⟩ := h
    have hb := x.plugFound_bare j k
    rw [if_neg hk] at hb
    exact State.plugged_of_bare (by rw [State.plugFound_hasCause, hc]; rfl) hb hp hq

theorem State.plugFound_out (x : State) (j k : Nat) : ((x.plugFound j).termOf k).out = (x.termOf k).out := by
  have hb := congrArg Terminal.out (x.plugFound_bare j k)
  refine Eq.trans (Eq.trans rfl hb) ?_
  split
  · split <;> rfl
  · rfl

/-- All the plugs of a chip come. -/
def State.plugsFound (x : State) (i : Nat) : State := x.forEach (chipTerms i) State.plugFound

theorem State.plugsFound_calm (x : State) (i : Nat) : (x.plugsFound i).calm = x.calm :=
  forEach_keeps State.calm State.plugFound State.plugFound_calm x _

theorem State.plugsFound_out (x : State) (i k : Nat) : ((x.plugsFound i).termOf k).out = (x.termOf k).out :=
  forEach_keeps (fun y : State => (y.termOf k).out) State.plugFound (fun y j => y.plugFound_out j k) x _

theorem State.plugsFound_each (x : State) (i : Nat) : ∀ k ∈ chipTerms i, x.plugged (x.plugsFound i) k := by
  have hset {y : State} (hy : y.setup = x.setup) (j : Nat) : (y.plugFound j).setup = x.setup := (State.calm_setup (y.plugFound_calm j)).trans hy
  intro k hk
  exact (State.forEach_each (q := fun y => y.setup = x.setup) (P := fun k y => y.setup = x.setup ∧ x.plugged y k) (f := State.plugFound)
    (fun _ j hy => hset hy j) (fun _ j hy => ⟨hset hy j, State.plugFound_self hy j⟩)
    (fun _ j m hm => ⟨hset hm.1 j, State.plugFound_keeps hm.1 j m hm.2⟩) rfl k hk).2

theorem plugInserted_spec (s : State) (i : ChipIx) : ∃ t, exec (.plugInserted i) s = .next t ∧ (t.lanesOf i.val).plugOpen = false ∧
    (∀ k ∈ chipTerms i.val, t.hasCause k 9 = false) ∧ t.gatesSafe ∧
    (∀ k ∈ chipTerms i.val, (t.termOf k).tstat.plug = true ∧
      (hasFilter (s.mode (tChan k)) = true → (t.termOf k).tstat.qual = s.demVal k ∧ (t.termOf k).dig.fresh = true) ∧
      ((s.termOf k).out.latch = true → (t.termOf k).out.latch = true)) ∧
    t.ledger.waiting.length = s.ledger.waiting.length + 1 := by
  obtain ⟨y, hy⟩ : ∃ y : State, y = s.updLanes i.val (Lanes.plugGone false) := ⟨_, rfl⟩
  obtain ⟨z, hz⟩ : ∃ z : State, z = y.plugsFound i.val := ⟨_, rfl⟩
  obtain ⟨x, hx⟩ : ∃ x : State, x = ((z.endCondition (nChip i.val) 0x0203).post 0x0204 (nChip i.val) 0 0).ledgerKeyed
    (8192 + i.val / 2) 5 noFn noChan 0 0 0 0 := ⟨_, rfl⟩
  have he : exec (.plugInserted i) s = .next x.settle := by rw [hx, hz, hy]; rfl
  have hxt (k : Nat) : x.termOf k = z.termOf k := by rw [hx]; rfl
  have hcalm : z.calm = y.calm := by rw [hz]; exact y.plugsFound_calm i.val
  have heach (k : Nat) (hk : k ∈ chipTerms i.val) : s.plugged z k := by
    have h := y.plugsFound_each i.val k hk
    have hset : y.setup = s.setup := by rw [hy]; rfl
    rw [State.plugged, State.setup_mode hset, State.setup_demVal hset, ← hz] at h
    exact h
  have hopen : (x.lanesOf i.val).plugOpen = false := by
    have hxl : x.lanesOf i.val = z.lanesOf i.val := by rw [hx]; rfl
    rw [hxl, State.calm_lanesOf hcalm, hy]
    exact congrArg Lanes.plugOpen (s.lanesOf_updLanes_self i.val (Lanes.plugGone false))
  refine ⟨_, he, hopen, fun k hk => ?_, State.settle_gatesSafe x, fun k hk => ⟨?_, fun hf => ?_, fun hl => State.latch_settle ?_⟩, ?_⟩
  · rw [State.hasCause_settle, State.hasCause, hxt]
    exact (heach k hk).1
  · rw [State.settle_tstat, hxt]
    exact (heach k hk).2.1
  · rw [State.settle_tstat, State.settle_dig, hxt]
    exact (heach k hk).2.2 hf
  · rw [hxt, hz, State.plugsFound_out, hy]
    exact hl
  · have hled : z.ledger = s.ledger := by rw [State.calm_ledger hcalm, hy]; rfl
    rw [State.settle_ledger, ← hled, hx]
    exact List.length_append

/-! #### The field supply (R437, R473) -/

/-- The field supply of a chip's lanes is out of range or not. -/
def Lanes.supplyOut (b : Bool) (l : Lanes) : Lanes := { l with fsup := b }

theorem fieldSupplyOutOfRange_spec (s : State) (i : ChipIx) (mv : BitVec 16) : ∃ t, exec (.fieldSupplyOutOfRange i mv) s = .next t ∧
    (t.lanesOf i.val).fsup = true ∧ (∀ k ∈ chipTerms i.val, s.mode (tChan k) ≠ mOFF → t.hasCause k 0x11 = true) ∧ t.chipOff i.val ∧
    t.gatesSafe ∧ s.reports t 0x0901 (nSupply i.val) 3 mv.toNat := by
  obtain ⟨y, hy⟩ : ∃ y : State, y = (s.updLanes i.val (Lanes.supplyOut true)).postL 0x0901 (nSupply i.val) 3 mv.toNat true := ⟨_, rfl⟩
  obtain ⟨z, hz⟩ : ∃ z : State, z = y.forEach (chipTerms i.val) fun x k => x.raiseCause k 0x11 := ⟨_, rfl⟩
  obtain ⟨x, hx⟩ : ∃ x : State, x = (z.calAbortChip i.val).calAbortChip (chipOther i.val) := ⟨_, rfl⟩
  have he : exec (.fieldSupplyOutOfRange i mv) s = .next x.settle := by rw [hx, hz, hy]; rfl
  have hyz : y.Causing z := by
    rw [hz]; exact (State.Causing.refl y).forEach (fun w k => (State.Causing.refl w).raiseCause k 0x11) _
  have hzx : z.Causing x := by rw [hx]; exact ((State.Causing.refl _).calAbortChip _).calAbortChip _
  have hyx := hyz.trans hzx
  have hcause : ∀ k ∈ chipTerms i.val, y.mode (tChan k) ≠ mOFF → z.hasCause k 0x11 = true := by
    rw [hz]
    refine State.forEach_each (q := fun w => w.setup = y.setup) (P := fun k w => y.mode (tChan k) ≠ mOFF → w.hasCause k 0x11 = true)
      (fun w k hw => ?_) (fun w k hw hm => ?_)
      (fun w j k hk hm => State.hasCause_raiseCause_of w j 0x11 (by decide) (hk hm)) rfl
    · exact (State.calm_setup ((State.Causing.refl w).raiseCause k 0x11).calm).trans hw
    · exact State.hasCause_raiseCause_self w (by rwa [State.setup_mode hw]) (by decide)
  have hfsup : (x.lanesOf i.val).fsup = true := by
    rw [State.calm_lanesOf hyx.calm, hy]
    exact congrArg Lanes.fsup (s.lanesOf_updLanes_self i.val (Lanes.supplyOut true))
  refine ⟨_, he, hfsup, fun k hk hm => ?_, State.chipOff_of_lanes (.inr hfsup), State.settle_gatesSafe x, ?_⟩
  · rw [State.hasCause_settle, State.hasCause, hx, State.tstat_calAbortChip, State.tstat_calAbortChip]
    exact hcause k hk (by rw [hy]; exact hm)
  · have hr : s.reports y 0x0901 (nSupply i.val) 3 mv.toNat := by
      rw [hy]
      exact State.reports_of_postL (x := s.updLanes i.val (Lanes.supplyOut true)) true rfl rfl rfl rfl rfl rfl rfl
    exact State.reports_mono hr hyx.log

theorem fieldSupplyRestored_spec (s : State) (i : ChipIx) (mv : BitVec 16) : ∃ t, exec (.fieldSupplyRestored i mv) s = .next t ∧
    (t.lanesOf i.val).fsup = false ∧ (∀ k ∈ chipTerms i.val, t.hasCause k 0x11 = false) ∧ t.gatesSafe ∧
    (∀ k ∈ chipTerms i.val, (s.termOf k).out.latch = true → (t.termOf k).out.latch = true) ∧
    s.reports t 0x0902 (nSupply i.val) 0 mv.toNat := by
  obtain ⟨y, hy⟩ : ∃ y : State, y = (s.updLanes i.val (Lanes.supplyOut false)).endCondition (nSupply i.val) 0x0901 := ⟨_, rfl⟩
  obtain ⟨z, hz⟩ : ∃ z : State, z = y.forEach (chipTerms i.val) fun x k => x.lowerCause k 0x11 := ⟨_, rfl⟩
  have he : exec (.fieldSupplyRestored i mv) s = .next (z.post 0x0902 (nSupply i.val) 0 mv.toNat).settle := by rw [hz, hy]; rfl
  have hyz : y.Causing z := by
    rw [hz]; exact (State.Causing.refl y).forEach (fun w k => (State.Causing.refl w).lowerCause k 0x11) _
  have hcause : ∀ k ∈ chipTerms i.val, z.hasCause k 0x11 = false := by
    rw [hz]
    exact State.forEach_each (q := fun _ => True) (P := fun k w => w.hasCause k 0x11 = false) (fun _ _ _ => trivial) (fun w k _ => by simp [State.hasCause_lowerCause])
      (fun w j k hk => by rw [State.hasCause_lowerCause _ _ _ _ (by decide), hk]; rfl) trivial
  have hnodes : z.windows.map Window.node = s.windows.map Window.node := by
    rw [hz, forEach_keeps (fun x : State => x.windows.map Window.node) (fun x k => x.lowerCause k 0x11) (fun x k => State.endCondition_nodes _ _ _),
      hy, State.endCondition_nodes]
    rfl
  refine ⟨_, he, ?_, fun k hk => ?_, State.settle_gatesSafe _, fun k _ hl => State.latch_settle ?_, ?_⟩
  · change (z.lanesOf i.val).fsup = false
    rw [State.calm_lanesOf hyz.calm, hy]
    exact congrArg Lanes.fsup (s.lanesOf_updLanes_self i.val (Lanes.supplyOut false))
  · rw [State.hasCause_settle]
    exact hcause k hk
  · change (z.termOf k).out.latch = true
    rw [hyz.out, hy]
    exact hl
  · refine State.reports_post ?_ (State.folds_of_nodes (nSupply_ancestors s z i.val) hnodes)
    rw [State.calm_timeWord hyz.calm, hy]
    rfl

/-- Settles O23, row by row. -/
theorem connectorAndFieldSupply : Obligations.ConnectorAndFieldSupply := by
  intro s i mv
  exact ⟨plugRemoved_spec s i, plugInserted_spec s i, fieldSupplyOutOfRange_spec s i mv, fieldSupplyRestored_spec s i mv⟩

end Sys2Proof.Machine

namespace Sys2Proof.Machine

/-! ### Digital inputs (R54, R57–R62, R79, R163) -/

/-- The terminals of a channel. -/
theorem tChan_eq_iff (j k : Nat) : tChan j = tChan k ↔ j = k ∨ j = tOther k := by unfold tOther tChan; split <;> omega

/-- A settled command that leaves what a statement of terminals says of them. -/
theorem State.unchanged_of_settle (s : State) : s.outsOnly s.settle ∧ s.settle = { s with term := s.settle.term } := ⟨s.outsOnly_settle, rfl⟩

/-! #### The chatter force (R59) -/

/-- A terminal that is forced for chatter. -/
def Terminal.chatters (x : Terminal) : Terminal := { x with dig := { x.dig with chatForce := true, relAt := none } }

theorem State.chatterForce_causing (s : State) (k : Nat) : (s.updTerm k Terminal.chatters).Causing (s.chatterForce k) :=
  (((State.Causing.refl _).raiseCause k 1).raiseFns _ 0x10 1 k).forceChange k

/-- What a chatter force makes of terminals, beside their causes. -/
theorem State.chatterForce_bare (s : State) (k j : Nat) :
    ((s.chatterForce k).termOf j).bare = if j = k then (s.termOf k).chatters.bare else (s.termOf j).bare := by
  rw [(s.chatterForce_causing k).term j, State.termOf_updTerm]
  split <;> rfl

theorem State.term_raiseFns (s : State) (fs : List Nat) (cause detail term : Nat) : (s.raiseFns fs cause detail term).term = s.term :=
  forEach_keeps State.term (fun x f => x.raiseFn f cause detail term) (fun _ _ => rfl) s fs

theorem State.chatterForce_tstat_other (s : State) {k j : Nat} (h : tChan j ≠ tChan k) :
    ((s.chatterForce k).termOf j).tstat = (s.termOf j).tstat := by
  have hk : j ≠ k := fun hj => h (by rw [hj])
  unfold State.chatterForce
  rw [State.tstat_forceChange_other _ h, State.termOf, State.term_raiseFns]
  exact (State.tstat_raiseCause_other _ hk 1).trans (congrArg Terminal.tstat (s.termOf_updTerm_other hk Terminal.chatters))

/-- A chatter force records cause 0x01 at a terminal that is not OFF. -/
theorem State.chatterForce_hasCause (s : State) {k : Nat} (hm : s.mode (tChan k) ≠ mOFF) : (s.chatterForce k).hasCause k 1 = true := by
  unfold State.chatterForce
  rw [State.hasCause_forceChange _ _ _ (by decide) (by decide), State.hasCause, State.termOf, State.term_raiseFns]
  exact State.hasCause_raiseCause_self (s.updTerm k Terminal.chatters) hm (by decide)

theorem State.atDemand_of_chatForce {s : State} {k : Nat} (h : (s.termOf k).dig.chatForce = true) : s.atDemand k = true :=
  State.atDemand_of_forced (.inl (by rw [Terminal.forced, h]; rfl))

theorem mDI_ne_mOFF : mDI ≠ mOFF := by decide

/-! #### Raw edges (R54, R59) -/

/-- What a raw edge of terminal k leaves of t: the edge counted, the chatter window's when counted says so, and a force or none. -/
structure State.RawEdge (s t : State) (k : Nat) (level : Bool) (stamp : Nat) (counted : Bool) : Prop where
  raw   : (t.termOf k).tstat.raw = level
  edges : (t.termOf k).tstat.edges = (s.termOf k).tstat.edges + 1
  qual  : (t.termOf k).tstat.qual = (s.termOf k).tstat.qual
  last  : (t.termOf k).dig.lastRaw = stamp
  chat  : (t.termOf k).dig.chatEdges = if counted then (s.termOf k).dig.chatEdges + 1 else (s.termOf k).dig.chatEdges
  dig   : ∀ j, j ≠ k → (t.termOf j).dig = (s.termOf j).dig
  tstat : ∀ j, j ≠ k → j ≠ tOther k → (t.termOf j).tstat = (s.termOf j).tstat

theorem State.RawEdge.of_updTerm (s : State) (k : Nat) (level : Bool) (stamp : Nat) (counted : Bool) :
    s.RawEdge (s.updTerm k fun x => x.rawEdge level stamp counted) k level stamp counted := by
  have h := s.termOf_updTerm_self k fun x => x.rawEdge level stamp counted
  refine ⟨?_, ?_, ?_, ?_, ?_, fun j hj => ?_, fun j hj _ => ?_⟩
  · rw [h]; rfl
  · rw [h]; rfl
  · rw [h]; rfl
  · rw [h]; rfl
  · rw [h]; rfl
  · rw [s.termOf_updTerm_other hj]
  · rw [s.termOf_updTerm_other hj]

theorem State.RawEdge.chatterForce {s x : State} {k : Nat} {level : Bool} {stamp : Nat} {counted : Bool} (h : s.RawEdge x k level stamp counted) :
    s.RawEdge (x.chatterForce k) k level stamp counted := by
  have hb (j : Nat) := x.chatterForce_bare k j
  have hk := hb k
  rw [if_pos rfl] at hk
  refine ⟨?_, ?_, ?_, ?_, ?_, fun j hj => ?_, fun j hj ho => ?_⟩
  · exact (congrArg (fun y : Terminal => y.tstat.raw) hk :).trans h.raw
  · exact (congrArg (fun y : Terminal => y.tstat.edges) hk :).trans h.edges
  · exact (congrArg (fun y : Terminal => y.tstat.qual) hk :).trans h.qual
  · exact (congrArg (fun y : Terminal => y.dig.lastRaw) hk :).trans h.last
  · exact (congrArg (fun y : Terminal => y.dig.chatEdges) hk :).trans h.chat
  · have hj' := hb j
    rw [if_neg hj] at hj'
    exact (congrArg Terminal.dig hj' :).trans (h.dig j hj)
  · exact (x.chatterForce_tstat_other fun hc => ((tChan_eq_iff j k).mp hc).elim hj ho).trans (h.tstat j hj ho)

theorem State.RawEdge.settle {s x : State} {k : Nat} {level : Bool} {stamp : Nat} {counted : Bool} (h : s.RawEdge x k level stamp counted) :
    s.RawEdge x.settle k level stamp counted := by
  obtain ⟨h1, h2, h3, h4, h5, h6, h7⟩ := h
  exact ⟨by rw [State.settle_tstat, h1], by rw [State.settle_tstat, h2], by rw [State.settle_tstat, h3], by rw [State.settle_dig, h4],
    by rw [State.settle_dig, h5], fun j hj => by rw [State.settle_dig, h6 j hj], fun j hj ho => by rw [State.settle_tstat, h7 j hj ho]⟩

/-- Does a raw edge of terminal k count in its chatter window (R59; log entry 84)? -/
def State.chatCounts (s : State) (k stamp : Nat) : Bool := s.mode (tChan k) = mDI && s.dev.st = .running && !s.inSourceDark k stamp

theorem State.chatCounts_iff (s : State) (k stamp : Nat) :
    s.chatCounts k stamp = true ↔ s.mode (tChan k) = mDI ∧ s.dev.st = .running ∧ s.inSourceDark k stamp = false := by
  simp [State.chatCounts, and_assoc]

theorem diRawEdge_spec (s : State) (i : ChipIx) (c : LocalIx) (level : Bool) (stamp : Nat) :
    let k := chipTerm i.val c.val
    ∃ t, exec (.diRawEdge i c level stamp) s = .next t ∧ t.gatesSafe ∧ s.RawEdge t k level stamp (s.chatCounts k stamp) ∧
      (s.chatCounts k stamp = true → (s.termOf k).dig.chatForce = false → fld (s.tin k) 55 40 < (s.termOf k).dig.chatEdges + 1 →
        (t.termOf k).dig.chatForce = true ∧ t.hasCause k 1 = true ∧ t.atDemand k = true) := by
  intro k
  obtain ⟨x, hx⟩ : ∃ x : State, x = s.updTerm k fun y => y.rawEdge level stamp (s.chatCounts k stamp) := ⟨_, rfl⟩
  have hraw : s.RawEdge x k level stamp (s.chatCounts k stamp) := by rw [hx]; exact .of_updTerm s k level stamp _
  have he : exec (.diRawEdge i c level stamp) s = if s.chatCounts k stamp = true ∧ fld (s.tin k) 55 40 < (x.termOf k).dig.chatEdges ∧
      (!(s.termOf k).dig.chatForce) = true then settled (x.chatterForce k) else settled x := by rw [hx]; rfl
  rw [he]
  split
  · next h =>
    have hm : x.mode (tChan k) ≠ mOFF := by
      have hmode : x.mode (tChan k) = s.mode (tChan k) := State.setup_mode (State.calm_setup (by rw [hx]; rfl)) _
      rw [hmode, ((s.chatCounts_iff k stamp).mp h.1).1]
      exact mDI_ne_mOFF
    have hforce : ((x.chatterForce k).settle.termOf k).dig.chatForce = true := by
      rw [State.settle_dig, (x.chatterForce_causing k).dig, State.termOf_updTerm_self]; rfl
    exact ⟨_, rfl, State.settle_gatesSafe _, hraw.chatterForce.settle, fun _ _ _ =>
      ⟨hforce, (State.hasCause_settle _ _ _).trans (x.chatterForce_hasCause hm), State.atDemand_of_chatForce hforce⟩⟩
  · next h =>
    refine ⟨_, rfl, State.settle_gatesSafe _, hraw.settle, fun hc hf hl => absurd ⟨hc, ?_, by rw [hf]; rfl⟩ h⟩
    rwa [hraw.chat, if_pos hc]

/-! #### Chatter windows (R59, R60) -/

/-- A terminal whose next chatter window begins. -/
def Terminal.nextWindow (now : Nat) (x : Terminal) : Terminal := { x with dig := { x.dig with chatEdges := 0, chatStart := now } }

/-- A terminal whose chatter force ends. -/
def Terminal.quiets (x : Terminal) : Terminal := { x with dig := { x.dig with chatForce := false, relAt := none } }

/-- The chatter force of terminal k has ended. -/
def State.chatterEnd (s : State) (k : Nat) : State := ((s.updTerm k Terminal.quiets).lowerCause k 1).forceChange k

theorem State.chatterEnd_causing (s : State) (k : Nat) : (s.updTerm k Terminal.quiets).Causing (s.chatterEnd k) :=
  ((State.Causing.refl _).lowerCause k 1).forceChange k

/-- FORCE_REL stands since before the window that ends (R60). -/
def Dig.released (d : Dig) : Bool := match d.relAt with | none => false | some r => decide (r ≤ d.chatStart)

/-- What follows a window that ends, before the next begins. -/
theorem State.windowEnd_cases {s : State} {k : TermIx} (hm : s.mode (tChan k.val) = mDI) (hr : s.dev.st = .running) :
    let d := (s.termOf k.val).dig
    let next (y : State) : State := (y.updTerm k.val (Terminal.nextWindow s.clock.count)).settle
    (fld (s.tin k.val) 55 40 < d.chatEdges → d.chatForce = false → exec (.chatterWindowEnd k) s = .next (next (s.chatterForce k.val))) ∧
    (d.chatEdges ≤ fld (s.tin k.val) 55 40 → d.chatForce = true → d.released = true →
      exec (.chatterWindowEnd k) s = .next (next (s.chatterEnd k.val))) ∧
    (d.chatForce = true ∨ d.chatEdges ≤ fld (s.tin k.val) 55 40 →
      d.chatForce = false ∨ fld (s.tin k.val) 55 40 < d.chatEdges ∨ d.released = false → exec (.chatterWindowEnd k) s = .next (next s)) := by
  have hrun : ¬ (s.mode (tChan k.val) ≠ mDI ∨ s.dev.st ≠ .running) := by rw [hm, hr]; simp
  dsimp only
  refine ⟨fun hx hf => (if_neg hrun).trans (if_pos ?_), fun hq hf hrel => (if_neg hrun).trans ((if_neg ?_).trans (if_pos ?_)),
    fun h1 h2 => (if_neg hrun).trans ((if_neg ?_).trans (if_neg ?_))⟩
  · simp [hx, hf]
  · simp [hf]
  · exact ⟨hq, hf, hrel⟩
  · rintro ⟨hq, hf⟩
    simp only [Bool.not_eq_true', decide_eq_false_iff_not, Nat.not_le] at hq hf
    exact h1.elim (fun ht => Bool.noConfusion (ht.symm.trans hf)) fun hle => absurd hq (Nat.not_lt.mpr hle)
  · rintro ⟨hq, hf, hrel⟩
    obtain hff | hlt | hno := h2
    · exact Bool.noConfusion (hff.symm.trans hf)
    · exact absurd hq (Nat.not_le.mpr hlt)
    · exact Bool.noConfusion (hno.symm.trans hrel)

/-- The next window of terminal k has begun. -/
theorem State.nextWindow_dig (x : State) (k now : Nat) :
    ((x.updTerm k (Terminal.nextWindow now)).settle.termOf k).dig = { (x.termOf k).dig with chatEdges := 0, chatStart := now } := by
  rw [State.settle_dig, State.termOf_updTerm_self]; rfl

theorem State.nextWindow_hasCause (x : State) (k now c : Nat) : (x.updTerm k (Terminal.nextWindow now)).settle.hasCause k c = x.hasCause k c := by
  rw [State.hasCause_settle]
  exact State.termOf_updTerm_keeps (fun y => y.tstat.causes.getLsbD c) (f := Terminal.nextWindow now) (fun _ => rfl) x k k

theorem chatterWindowEnd_spec {s : State} {k : TermIx} (hm : s.mode (tChan k.val) = mDI) (hr : s.dev.st = .running) :
    ∃ t, exec (.chatterWindowEnd k) s = .next t ∧ t.gatesSafe ∧ (t.termOf k.val).dig.chatEdges = 0 ∧
      (t.termOf k.val).dig.chatStart = s.clock.count ∧
      (fld (s.tin k.val) 55 40 < (s.termOf k.val).dig.chatEdges → (t.termOf k.val).dig.chatForce = true) ∧
      ((s.termOf k.val).dig.chatEdges ≤ fld (s.tin k.val) 55 40 →
        (∀ r, (s.termOf k.val).dig.relAt = some r → r ≤ (s.termOf k.val).dig.chatStart → (s.termOf k.val).dig.chatForce = true →
          (t.termOf k.val).dig.chatForce = false ∧ t.hasCause k.val 1 = false) ∧
        ((s.termOf k.val).dig.relAt = none → (t.termOf k.val).dig.chatForce = (s.termOf k.val).dig.chatForce)) := by
  obtain ⟨hforce, hend, hstay⟩ := State.windowEnd_cases hm hr
  have begun (x : State) := x.nextWindow_dig k.val s.clock.count
  by_cases hx : fld (s.tin k.val) 55 40 < (s.termOf k.val).dig.chatEdges
  · by_cases hf : (s.termOf k.val).dig.chatForce = false
    · refine ⟨_, hforce hx hf, State.settle_gatesSafe _, by rw [begun], by rw [begun], fun _ => ?_, fun hq => absurd hx (Nat.not_lt.mpr hq)⟩
      rw [begun, (s.chatterForce_causing k.val).dig, State.termOf_updTerm_self]; rfl
    · have hf' := Bool.not_eq_false _ ▸ hf
      refine ⟨_, hstay (.inl hf') (.inr (.inl hx)), State.settle_gatesSafe _, by rw [begun], by rw [begun], fun _ => ?_,
        fun hq => absurd hx (Nat.not_lt.mpr hq)⟩
      rw [begun]; exact hf'
  · have hq := Nat.not_lt.mp hx
    by_cases hc : (s.termOf k.val).dig.chatForce = true ∧ (s.termOf k.val).dig.released = true
    · obtain ⟨hf, hrel⟩ := hc
      refine ⟨_, hend hq hf hrel, State.settle_gatesSafe _, by rw [begun], by rw [begun], fun h => absurd h hx, fun _ => ⟨fun r _ _ _ => ⟨?_, ?_⟩,
        fun hn => ?_⟩⟩
      · rw [begun, (s.chatterEnd_causing k.val).dig, State.termOf_updTerm_self]; rfl
      · rw [State.nextWindow_hasCause, State.chatterEnd, State.hasCause_forceChange _ _ _ (by decide) (by decide),
          State.hasCause_lowerCause _ _ _ _ (by decide)]
        simp
      · rw [Dig.released, hn] at hrel
        exact absurd hrel Bool.false_ne_true
    · refine ⟨_, hstay (.inr hq) ?_, State.settle_gatesSafe _, by rw [begun], by rw [begun], fun h => absurd h hx,
        fun _ => ⟨fun r hrel hle hf => absurd ⟨hf, ?_⟩ hc, fun _ => by rw [begun]⟩⟩
      · rw [not_and_or, Bool.not_eq_true, Bool.not_eq_true] at hc
        exact hc.imp_right .inr
      · rw [Dig.released, hrel]
        exact decide_eq_true hle

/-! #### Qualified changes (R57, R58) -/

/-- What a qualified change of a terminal sets, and nothing that follows it changes. -/
def Terminal.taken (x : Terminal) : Bool × BitVec 32 × Dig := (x.tstat.qual, x.tstat.lastQual, x.dig)

/-- What was taken of every terminal stays. -/
def State.Takes (s t : State) : Prop := ∀ j, (t.termOf j).taken = (s.termOf j).taken

theorem State.Takes.refl (s : State) : s.Takes s := fun _ => rfl

theorem State.Takes.trans {s t u : State} (h : s.Takes t) (g : t.Takes u) : s.Takes u := fun j => (g j).trans (h j)

theorem State.Causing.takes {s t : State} (h : s.Causing t) : s.Takes t := fun j => (congrArg Terminal.taken (h.term j) :)

theorem State.takes_settle (s : State) : s.Takes s.settle := fun j => by
  rw [Terminal.taken, Terminal.taken, State.settle_tstat, State.settle_dig]

section
variable {s x : State} (h : s.Takes x)
include h

theorem State.Takes.updTerm (k : Nat) {f : Terminal → Terminal} (hf : ∀ y, (f y).taken = y.taken := by intro; rfl) : s.Takes (x.updTerm k f) :=
  h.trans fun j => State.termOf_updTerm_keeps Terminal.taken hf x k j

theorem State.Takes.foldl {α : Type} {g : State → α → State} (hg : ∀ y a, s.Takes y → s.Takes (g y a)) (l : List α) : s.Takes (l.foldl g x) :=
  foldl_inv s.Takes g hg l x h

theorem State.Takes.post (code : Nat) (src : Node) (sev detail : Nat) : s.Takes (x.post code src sev detail) :=
  h.trans ((State.Causing.refl x).post code src sev detail).takes

/-! What an edge counted leaves (R136–R144). -/

theorem State.Takes.revTripField (u : Nat) : s.Takes (x.revTripField u) := by
  unfold State.revTripField
  split
  · exact h
  · exact (h.updTerm u).post _ _ _ _

theorem State.Takes.countCnt (u : Nat) (delta : Int) : s.Takes (x.countCnt u delta) := by
  unfold State.countCnt
  dsimp only
  split_ifs
  · exact h
  · exact (h.updTerm u).revTripField u
  · exact h.updTerm u

theorem State.Takes.countValue (u : Nat) (delta : Int) : s.Takes (x.countValue u delta) := by
  unfold State.countValue
  dsimp only
  split
  · exact (h.updTerm u).updTerm _
  · exact h.updTerm u

theorem State.Takes.unitClock (i now : Nat) (cs : List (Nat × Int)) : s.Takes (x.unitClock i now cs) := by
  unfold State.unitClock State.forEach
  dsimp only
  exact (h.foldl (fun _ _ hy => hy.countValue _ _) _).foldl (fun _ _ hy => hy.updTerm _) _

theorem State.Takes.clockWith (i now : Nat) (was : List (Nat × Word × Bool)) (cs : List (Nat × Int)) : s.Takes (x.clockWith i now was cs) := by
  unfold State.clockWith
  dsimp only
  exact ((h.foldl (fun _ _ hy => hy.updTerm _) was).unitClock i now cs).trans fun _ => rfl

theorem State.Takes.countUnit (u : Nat) (delta : Int) (now : Nat) : s.Takes (x.countUnit u delta now) :=
  (h.countCnt u delta).clockWith _ _ _ _

theorem State.Takes.uncount (u now : Nat) : s.Takes (x.uncount u now) := by
  unfold State.uncount
  dsimp only
  split
  · exact h
  · exact (h.updTerm u).clockWith _ _ _ _

theorem State.Takes.invalidTransition (u : Nat) : s.Takes (x.invalidTransition u) := by
  have hu := (h.updTerm u (f := fun x => { x with ctr := { x.ctr with stale := true } })).trans
    ((State.Causing.refl _).raiseCause u 0x10).takes
  exact iteInduction (fun _ => hu) fun _ => hu.revTripField u

theorem State.Takes.countEdge (u : Nat) (level : Bool) (stamp : Nat) : s.Takes (x.countEdge u level stamp) := by
  unfold State.countEdge
  dsimp only
  split
  · exact iteInduction (fun _ => h.countUnit u 1 stamp) fun _ => h
  · exact iteInduction (fun _ => h.updTerm u) fun _ => h
  · exact iteInduction (fun _ => h) fun _ => iteInduction (fun _ => h.updTerm u) fun _ => h.updTerm u
  · exact iteInduction (fun _ => (h.uncount _ stamp).invalidTransition _)
      fun _ => iteInduction (fun _ => h.countUnit _ _ stamp) fun _ => h.countUnit _ _ stamp
  · exact h

end

/-! What follows a qualified change of a DI terminal (R62, R79, R266). -/

theorem State.ledgerChange_frame (s : State) (k : Nat) (toDemand : Bool) (first stamp : Nat) :
    s.ledgerChange k toDemand first stamp = { s with ledger := (s.ledgerChange k toDemand first stamp).ledger } :=
  forEach_inv (fun x => x = { s with ledger := x.ledger }) _ (fun x _ hx => by rw [hx]; rfl) s _ rfl

/-- The four words of a signature record (R79). -/
def State.signatureWords (s : State) (k kind first n ns qns : Nat) : List Word :=
  [BitVec.ofNat 72 (s.taiOf first), BitVec.ofNat 72 (at_ kind 64 + at_ k 55 + at_ (Nat.min n 65535) 32 + Nat.min ns 0xFFFFFFFF),
    Config.freeWord s.free, BitVec.ofNat 72 (at_ (((s.termOf k).dig.rLoop).getD 0xFFFFFFFFF) 36 + qns % 2 ^ 36)]

theorem State.signature_queue (s : State) (k kind first n ns qns : Nat) :
    ((s.signature k kind first n ns qns).queueOf (streamQueue k 1)).words =
      (s.queueOf (streamQueue k 1)).words ++ s.signatureWords k kind first n ns qns :=
  congrArg Queue.words (Tab.get_upd_self ({} : Queue) s.queue (streamQueue k 1) fun q =>
    { q with words := q.words ++ s.signatureWords k kind first n ns qns })

theorem State.signature_waiting (s : State) (k kind first n ns qns : Nat) :
    ((s.signature k kind first n ns qns).chipOf (tChip k)).waiting = (s.chipOf (tChip k)).waiting ++
      (s.signatureWords k kind first n ns qns).zipIdx.map fun (e : Word × Nat) => (tLocal k, e.1, decide (e.2 = 0)) :=
  congrArg Chip.waiting (Tab.get_upd_self ({} : Chip) s.chip (tChip k) fun x => { x with waiting := x.waiting ++
    ((s.signatureWords k kind first n ns qns).zipIdx.map fun (e : Word × Nat) => (tLocal k, e.1, decide (e.2 = 0))) })

/-- A signature record's second word holds its KIND and its terminal. -/
theorem fld_signature {k kind : Nat} (hk : k < 512) (hkind : kind < 16) (n ns : Nat) :
    let w := BitVec.ofNat 72 (at_ kind 64 + at_ k 55 + at_ (Nat.min n 65535) 32 + Nat.min ns 0xFFFFFFFF)
    fld w 67 64 = kind ∧ fld w 63 55 = k := by
  have hn : Nat.min n 65535 ≤ 65535 := Nat.min_le_right _ _
  have hns : Nat.min ns 0xFFFFFFFF ≤ 0xFFFFFFFF := Nat.min_le_right _ _
  simp only [fld, at_, BitVec.toNat_ofNat]
  omega

theorem State.atDemand_of_causing {s t : State} {k : Nat} (h : s.Causing t) (h9 : t.hasCause k 9 = s.hasCause k 9) :
    t.atDemand k = s.atDemand k := by
  have hs := State.calm_setup h.calm
  have hforced : (t.termOf k).forced = (s.termOf k).forced := by
    rw [Terminal.forced, Terminal.forced, h.dig]; exact congrArg _ h9
  rw [State.atDemand, State.atDemand, State.qualOf, State.qualOf, hforced, h.qual, State.setup_mode hs, State.setup_demVal hs]

/-- The clock of a DI channel runs exactly while its terminals disagree (R62). -/
theorem State.discrepancyClock_runs (s : State) {k : Nat} (hm : s.mode (tChan k) = mDI) (stamp : Nat) :
    (s.discrepancyClock k stamp).disagrees (tChan k) = s.disagrees (tChan k) ∧
    ((s.discrepancyClock k stamp).chanOf (tChan k)).discAt.isSome = s.disagrees (tChan k) := by
  have hd (j : Nat) : (s.discrepancyClock k stamp).atDemand j = s.atDemand j :=
    State.atDemand_of_causing ((State.Causing.refl s).discrepancyClock k stamp) (s.hasCause_discrepancyClock k stamp j (by decide) (by decide))
  refine ⟨by rw [State.disagrees, State.disagrees, hd, hd], ?_⟩
  unfold State.discrepancyClock
  dsimp only
  rw [if_neg (not_not_intro hm)]
  split
  · next h =>
    rw [h]
    have hself (g : Channel → Channel) : (s.updChan (tChan k) g).chanOf (tChan k) = g (s.chanOf (tChan k)) := Tab.get_upd_self _ _ _ _
    rw [hself]
    split
    · next hs => rw [hs]; rfl
    · rfl
  · next h =>
    rw [Bool.eq_false_iff.mpr h]
    exact (congrArg (fun c : Channel => c.discAt.isSome) (Tab.get_upd_self ({} : Channel) s.chan (tChan k) fun c => { c with discAt := none }) :)

/-- A terminal with demand value dem that takes a qualified state. -/
def Terminal.qualified (x : Terminal) (level dem : Bool) (stamp now : Nat) : Terminal :=
  { x with
    tstat := { x.tstat with qual := level, lastQual := BitVec.ofNat 32 now }
    dig := { x.dig with
      fresh := false, stamp := stamp, firstRaw := none, bounceN := 0, curveSent := false
      demSince := if level = dem then some (x.dig.demSince.getD now) else none } }

theorem State.resets_frame (s : State) (l : List Nat) (k : Nat) (level : Bool) (stamp : Nat) :
    (s.forEach l fun y f => y.resetEdge f k level stamp) = { s with fn := (s.forEach l fun y f => y.resetEdge f k level stamp).fn } :=
  forEach_inv (fun x => x = { s with fn := x.fn }) _ (fun x _ hx => by rw [hx]; rfl) s l rfl

/-- A discrepancy clock leaves the queues and the field chips. -/
theorem State.discrepancyClock_queue (s : State) (k stamp : Nat) :
    (s.discrepancyClock k stamp).queue = s.queue ∧ (s.discrepancyClock k stamp).chip = s.chip := by
  have hlow (x : State) (j : Nat) : (x.lowerCause j 8).queue = x.queue ∧ (x.lowerCause j 8).chip = x.chip := ⟨rfl, rfl⟩
  unfold State.discrepancyClock
  dsimp only
  split
  · exact ⟨rfl, rfl⟩
  · split
    · exact ⟨rfl, rfl⟩
    · rw [(hlow _ _).1, (hlow _ _).2, (hlow _ _).1, (hlow _ _).2]
      exact ⟨rfl, rfl⟩

/-- A signature record leaves what modes and words rest on. -/
theorem State.setup_signature (s : State) (k kind first n ns qns : Nat) : (s.signature k kind first n ns qns).setup = s.setup := by
  have hb : (fun i => (((s.signature k kind first n ns qns).chipOf i).linked, ((s.signature k kind first n ns qns).chipOf i).active)) =
      fun i => ((s.chipOf i).linked, (s.chipOf i).active) := by
    funext i
    rw [State.signature, State.chipOf_updChip]
    split
    · next h => rw [h]; rfl
    · rfl
  exact congrArg (fun b => { s.setup with bank := b }) hb

/-- What follows a terminal's taking a qualified state, up to the discrepancy clock: the record and the page of a DI terminal, the edge of a
counter. -/
theorem filterQualify_next {s : State} {k : TermIx} (hf : hasFilter (s.mode (tChan k.val)) = true) (level : Bool) (stamp : Nat) :
    let x := s.updTerm k.val fun y => y.qualified level (s.demVal k.val) stamp s.clock.count
    ∃ y : State, exec (.filterQualify k level stamp) s =
        .next ((y.discrepancyClock k.val stamp).forEach (s.resetsOn (tChan k.val)) fun z f => z.resetEdge f k.val level stamp).settle ∧
      x.Takes y ∧
      (s.mode (tChan k.val) = mDI → y.setup = s.setup ∧ ∃ first n ns qns,
        (y.queueOf (streamQueue k.val 1)).words = (s.queueOf (streamQueue k.val 1)).words ++
          x.signatureWords k.val (if level then 1 else 2) first n ns qns ∧
        (y.chipOf (tChip k.val)).waiting = (s.chipOf (tChip k.val)).waiting ++
          (x.signatureWords k.val (if level then 1 else 2) first n ns qns).zipIdx.map fun (e : Word × Nat) => (tLocal k.val, e.1, decide (e.2 = 0))) := by
  intro x
  obtain ⟨first, hfirst⟩ : ∃ n : Nat, n = (s.termOf k.val).dig.firstRaw.getD stamp := ⟨_, rfl⟩
  obtain ⟨y2, h2⟩ : ∃ y : State, y = if s.mode (tChan k.val) = mDI then
      x.signature k.val (if level then 1 else 2) first (s.termOf k.val).dig.bounceN (((s.termOf k.val).dig.lastRaw - first) * 10) ((stamp - first) * 10)
    else x := ⟨_, rfl⟩
  obtain ⟨y3, h3⟩ : ∃ y : State, y = if s.mode (tChan k.val) = mDI ∧ !(s.termOf k.val).dig.fresh then
      y2.ledgerChange k.val (level = s.demVal k.val) first stamp else y2 := ⟨_, rfl⟩
  obtain ⟨y4, h4⟩ : ∃ y : State, y = if s.mode (tChan k.val) = mCNT ∧ !(s.termOf k.val).dig.fresh then
      y3.countEdge k.val level stamp else y3 := ⟨_, rfl⟩
  have hledger : y3 = { y2 with ledger := y3.ledger } := by
    rw [h3]; split
    · exact State.ledgerChange_frame _ _ _ _ _
    · rfl
  refine ⟨y4, ?_, ?_, fun hm => ?_⟩
  · have hno : ¬ (!hasFilter (s.mode (tChan k.val))) = true := by rw [hf]; decide
    rw [h4, h3, h2, hfirst]
    exact if_neg hno
  · have ht2 : x.Takes y2 := by rw [h2]; split <;> exact fun _ => rfl
    have ht3 : x.Takes y3 := by rw [hledger]; exact ht2
    rw [h4]
    exact iteInduction (fun _ => ht3.countEdge k.val level stamp) fun _ => ht3
  · have hcnt : ¬ (s.mode (tChan k.val) = mCNT ∧ (!(s.termOf k.val).dig.fresh) = true) := by
      rw [hm]; exact fun h => absurd h.1 (by decide)
    rw [if_neg hcnt] at h4
    rw [if_pos hm] at h2
    obtain ⟨n, hn⟩ : ∃ n : Nat, n = (s.termOf k.val).dig.bounceN := ⟨_, rfl⟩
    obtain ⟨ns, hns⟩ : ∃ n : Nat, n = ((s.termOf k.val).dig.lastRaw - first) * 10 := ⟨_, rfl⟩
    obtain ⟨qns, hqns⟩ : ∃ n : Nat, n = (stamp - first) * 10 := ⟨_, rfl⟩
    rw [← hn, ← hns, ← hqns] at h2
    rw [h4, hledger]
    have hset : y2.setup = x.setup := by rw [h2]; exact x.setup_signature k.val _ first n ns qns
    have hqueue := x.signature_queue k.val (if level then 1 else 2) first n ns qns
    have hchip := x.signature_waiting k.val (if level then 1 else 2) first n ns qns
    rw [← h2] at hqueue hchip
    exact ⟨hset, first, n, ns, qns, hqueue, hchip⟩

theorem filterQualify_spec {s : State} {k : TermIx} (hf : hasFilter (s.mode (tChan k.val)) = true) (level : Bool) (stamp : Nat) :
    ∃ t, exec (.filterQualify k level stamp) s = .next t ∧ t.gatesSafe ∧
      (t.termOf k.val).taken = ((s.termOf k.val).qualified level (s.demVal k.val) stamp s.clock.count).taken ∧
      (s.mode (tChan k.val) = mDI →
        (∃ w0 w1 w2 w3 : Word, (t.queueOf (streamQueue k.val 1)).words = (s.queueOf (streamQueue k.val 1)).words ++ [w0, w1, w2, w3] ∧
          fld w1 67 64 = (if level then 1 else 2) ∧ fld w1 63 55 = k.val ∧
          (t.chipOf (tChip k.val)).waiting = (s.chipOf (tChip k.val)).waiting ++ [(tLocal k.val, w0, true), (tLocal k.val, w1, false),
            (tLocal k.val, w2, false), (tLocal k.val, w3, false)]) ∧
        (t.chanOf (tChan k.val)).discAt.isSome = t.disagrees (tChan k.val)) := by
  obtain ⟨y, he, htake, hdi⟩ := filterQualify_next hf level stamp
  obtain ⟨z, hz⟩ : ∃ z : State, z = y.discrepancyClock k.val stamp := ⟨_, rfl⟩
  rw [← hz, State.resets_frame] at he
  refine ⟨_, he, State.settle_gatesSafe _, ?_, fun hm => ?_⟩
  · refine (State.takes_settle _ _).trans ?_
    refine Eq.trans (congrArg (fun w : State => (w.termOf k.val).taken) hz :) ?_
    refine (((State.Causing.refl y).discrepancyClock k.val stamp).takes k.val).trans ((htake k.val).trans ?_)
    rw [State.termOf_updTerm_self]
  · obtain ⟨hset, first, n, ns, qns, hwords, hwait⟩ := hdi hm
    obtain ⟨hqueue, hchip⟩ := y.discrepancyClock_queue k.val stamp
    obtain ⟨hdis, hrun⟩ := y.discrepancyClock_runs ((State.setup_mode hset _).trans hm) stamp
    obtain ⟨hkind, hterm⟩ := fld_signature (k := k.val) (kind := if level then 1 else 2) (by omega) (by split <;> decide) n ns
    rw [← hz] at hqueue hchip hdis hrun
    have hzq : (z.queueOf (streamQueue k.val 1)).words = (y.queueOf (streamQueue k.val 1)).words := by
      rw [State.queueOf, State.queueOf, hqueue]
    have hzc : (z.chipOf (tChip k.val)).waiting = (y.chipOf (tChip k.val)).waiting := by
      rw [State.chipOf, State.chipOf, hchip]
    refine ⟨⟨_, _, _, _, hzq.trans hwords, hkind, hterm, hzc.trans hwait⟩, ?_⟩
    rw [State.disagrees, State.atDemand_settle, State.atDemand_settle]
    exact hrun.trans hdis.symm

/-! #### Stop lines, demand ages and discrepancies (R61, R62, R163) -/

/-- The line of a side reads off, or no longer does. -/
def Half.lineOff (line : Nat) (off : Bool) (h : Half) : Half := { h with sl := setBit h.sl line off }

theorem stopLineQualify_spec (s : State) (line : Fin 2) (d : Side) (off : Bool) :
    ∃ t, exec (.stopLineQualify line d off) s = .next t ∧ t.gatesSafe ∧
      t.halfOf d = { s.halfOf d with sl := setBit (s.halfOf d).sl line.val off } ∧ bit (t.halfOf d).sl line.val = off ∧
      t.halfOf d.other = s.halfOf d.other ∧ s.outsOnly t ∧ t = { s with half := t.half, term := t.term } := by
  obtain ⟨x, hx⟩ : ∃ x : State, x = s.updHalf d (Half.lineOff line.val off) := ⟨_, rfl⟩
  have he : exec (.stopLineQualify line d off) s = .next x.settle := by rw [hx]; rfl
  have hself : x.halfOf d = (s.halfOf d).lineOff line.val off := by rw [hx]; exact s.halfOf_updHalf_self d _
  have hother : x.halfOf d.other = s.halfOf d.other := by rw [hx]; exact s.halfOf_updHalf_other d _
  refine ⟨_, he, State.settle_gatesSafe x, hself, ?_, hother, State.outsOnly_settle_of (by rw [hx]; rfl), by rw [hx]; rfl⟩
  rw [State.halfOf_settle, hself]
  exact bit_setBit_self _ line.isLt off

theorem demandAge_spec {s : State} {k : TermIx} (hage : fld (s.ccfg (tChan k.val)) 47 32 ≠ 0) (hdem : s.atDemand k.val = true) :
    ∃ t, exec (.demandAge k) s = .next t ∧ t = s.takeEvents t ∧
      ∃ n, fld (s.ccfg (tChan k.val)) 47 32 ≤ n ∧ s.reports t 0x01A0 (nTerm k.val) 1 n := by
  obtain ⟨h, hh⟩ : ∃ h : Nat, h = (match (s.termOf k.val).dig.demSince with | none => 0 | some d => (s.clock.count - d) / 3600000000) := ⟨_, rfl⟩
  refine ⟨s.post 0x01A0 (nTerm k.val) 1 (Nat.max (fld (s.ccfg (tChan k.val)) 47 32) h), ?_, rfl, _, Nat.le_max_left _ _, State.reports_post rfl rfl⟩
  rw [hh]
  exact if_pos ⟨hage, hdem⟩

/-- A cause raised for functions waits at each of them. -/
theorem State.raised_raiseFns (s : State) (fs : List Nat) (cause detail term : Nat) :
    ∀ f ∈ fs, (BitVec.ofNat 8 cause, BitVec.ofNat 8 detail, term) ∈ ((s.raiseFns fs cause detail term).fnOf f).raised := by
  have hraise (x : State) (f j : Nat) : ((x.raiseFn f cause detail term).fnOf j).raised =
      if j = f then (x.fnOf f).raised ++ [(BitVec.ofNat 8 cause, BitVec.ofNat 8 detail, term)] else (x.fnOf j).raised := by
    rw [State.raiseFn, State.fnOf_updFn]
    split <;> rfl
  refine State.forEach_each (q := fun _ => True) (P := fun f x => (BitVec.ofNat 8 cause, BitVec.ofNat 8 detail, term) ∈ (x.fnOf f).raised)
    (f := fun x f => x.raiseFn f cause detail term) (fun _ _ _ => trivial) (fun x f _ => ?_) (fun x j f h => ?_) trivial
  · rw [hraise, if_pos rfl]
    exact List.mem_append_right _ (List.mem_singleton_self _)
  · rw [hraise]
    split
    · next he => exact List.mem_append_left _ (he ▸ h)
    · exact h

theorem discrepancyFault_spec {s : State} {ch : ChanIx} (hm : s.mode ch.val = mDI) (hdisc : fld (s.ccfg ch.val) 63 48 ≠ 0)
    (hdis : s.disagrees ch.val = true) :
    ∃ t, exec (.discrepancyFault ch) s = .next t ∧ t.gatesSafe ∧ t.hasCause (2 * ch.val) 8 = true ∧
      (s.hasCause (2 * ch.val) 8 = false → t.hasCause (2 * ch.val + 1) 8 = true ∧
        ∀ f ∈ s.fnsOfChan ch.val, (0x10, 0x08, (s.chanOf ch.val).discT) ∈ (t.fnOf f).raised) := by
  have he : exec (.discrepancyFault ch) s = .next (s.discFault ch.val).settle := if_pos ⟨hm, hdisc, hdis⟩
  refine ⟨_, he, State.settle_gatesSafe _, ?_⟩
  rw [State.hasCause_settle, State.hasCause_settle]
  by_cases h8 : s.hasCause (2 * ch.val) 8 = true
  · have hs : s.discFault ch.val = s := if_pos h8
    rw [hs]
    exact ⟨h8, fun hf => Bool.noConfusion (h8.symm.trans hf)⟩
  · obtain ⟨x, hx⟩ : ∃ x : State, x = s.raiseCause (2 * ch.val) 8 := ⟨_, rfl⟩
    obtain ⟨y, hy⟩ : ∃ y : State, y = x.raiseCause (2 * ch.val + 1) 8 := ⟨_, rfl⟩
    have hs : s.discFault ch.val = y.raiseFns (s.fnsOfChan ch.val) 0x10 8 (s.chanOf ch.val).discT := by
      rw [hy, hx]; exact if_neg h8
    have hterm (k : Nat) : (s.discFault ch.val).hasCause k 8 = y.hasCause k 8 := by
      rw [hs, State.hasCause, State.termOf, State.term_raiseFns]; rfl
    have hon (k : Nat) (hk : tChan k = ch.val) {z : State} (hz : z.mode ch.val = s.mode ch.val) : (z.raiseCause k 8).hasCause k 8 = true :=
      z.hasCause_raiseCause_self (by rw [hk, hz, hm]; exact mDI_ne_mOFF) (by decide)
    have hxm : x.mode ch.val = s.mode ch.val := by
      rw [hx]; exact State.setup_mode (State.calm_setup ((State.Causing.refl s).raiseCause _ 8).calm) _
    have h0 : x.hasCause (2 * ch.val) 8 = true := by rw [hx]; exact hon _ (by unfold tChan; omega) rfl
    refine ⟨?_, fun _ => ⟨?_, ?_⟩⟩
    · rw [hterm, hy]
      exact x.hasCause_raiseCause_of _ _ (by decide) h0
    · rw [hterm, hy]
      exact hon _ (by unfold tChan; omega) hxm
    · rw [hs]
      exact y.raised_raiseFns (s.fnsOfChan ch.val) 0x10 8 (s.chanOf ch.val).discT

/-! #### The obligation -/

/-- Outside their modes and moments the digital input rows change nothing but gates. -/
theorem digitalIdle_spec (s : State) (k : TermIx) (ch : ChanIx) (level : Bool) (stamp : Nat) :
    ∀ row ∈ ([(.filterQualify k level stamp, !hasFilter (s.mode (tChan k.val))),
        (.chatterWindowEnd k, s.mode (tChan k.val) ≠ mDI || s.dev.st ≠ .running),
        (.demandAge k, fld (s.ccfg (tChan k.val)) 47 32 = 0 || !s.atDemand k.val),
        (.discrepancyFault ch, s.mode ch.val ≠ mDI || fld (s.ccfg ch.val) 63 48 = 0 || !s.disagrees ch.val)] : List (Instr × Bool)),
      row.2 = true → ∃ t, exec row.1 s = .next t ∧ s.outsOnly t ∧ t = { s with term := t.term } := by
  have hsettle := s.unchanged_of_settle
  simp only [List.forall_mem_cons, List.not_mem_nil, false_imp_iff, implies_true, and_true, Bool.or_eq_true, decide_eq_true_eq, Bool.not_eq_true']
  refine ⟨fun h => ⟨_, if_pos (by rw [h]; rfl), hsettle⟩, fun h => ⟨_, if_pos h, hsettle⟩, fun h => ⟨s, if_neg ?_, fun _ => rfl, rfl⟩,
    fun h => ⟨_, if_neg ?_, hsettle⟩⟩
  · rintro ⟨ha, hd⟩
    exact h.elim ha fun hf => Bool.noConfusion (hf.symm.trans hd)
  · rintro ⟨hm, ha, hd⟩
    exact h.elim (fun h => h.elim (fun h => h hm) ha) fun hf => Bool.noConfusion (hf.symm.trans hd)

/-- Settles O21: raw edges, qualified changes and chatter windows each by what their update leaves of a terminal, the rest by their one cause or
event. -/
theorem digitalInputRows : Obligations.DigitalInputRows := by
  unfold Obligations.DigitalInputRows
  refine ⟨fun s i c level stamp => ?_, fun s k level stamp hf => ?_, stopLineQualify_spec, fun s k hm hr => chatterWindowEnd_spec hm hr,
    fun s k hage hdem => demandAge_spec hage hdem, fun s ch hm hdisc hdis => discrepancyFault_spec hm hdisc hdis, digitalIdle_spec⟩
  · obtain ⟨t, he, hg, hraw, hforce⟩ := diRawEdge_spec s i c level stamp
    have hc := s.chatCounts_iff (chipTerm i.val c.val) stamp
    refine ⟨t, he, hg, hraw.raw, hraw.edges, hraw.qual, hraw.last, fun h => ?_, fun h => ?_, fun h => hforce (hc.mpr h),
      fun j hj => ⟨hraw.dig j hj, hraw.tstat j hj⟩⟩
    · rw [hraw.chat, if_pos (hc.mpr h)]
    · rw [hraw.chat, if_neg fun hn => h (hc.mp hn)]
  · obtain ⟨t, he, hg, htaken, hdi⟩ := filterQualify_spec hf level stamp
    obtain ⟨hqual, htaken⟩ := Prod.mk.inj htaken
    obtain ⟨hlast, hdig⟩ := Prod.mk.inj htaken
    refine ⟨t, he, hg, hqual, by rw [hdig]; rfl, by rw [hdig]; rfl, hlast, by rw [hdig]; rfl, fun hm => ?_⟩
    obtain ⟨hwords, hclock⟩ := hdi hm
    refine ⟨hwords, fun h => ?_, fun h => hclock.trans h⟩
    rwa [h, Option.isSome_eq_false_iff, Option.isNone_iff_eq_none] at hclock

end Sys2Proof.Machine

namespace Sys2Proof.Machine

/-! ### Output checks (R64–R75, R142) -/

/-- What settling leaves of an output. -/
def Out.kept (o : Out) : Out := { o with gate := false, latch := false, latchOff := false, waiting := false, pwm := 0 }

theorem Out.kept_settle (o : Out) (trip : Bool) : (o.settle trip).kept = o.kept := by
  unfold Out.settle
  split <;> rfl

theorem State.kept_settle (s : State) (k : Nat) : (s.settle.termOf k).out.kept = (s.termOf k).out.kept := by
  rw [State.settle_out]
  split
  · exact Out.kept_settle _ _
  · rfl

theorem State.settle_dark (s : State) (k : Nat) : (s.settle.termOf k).out.dark = (s.termOf k).out.dark := (congrArg Out.dark (s.kept_settle k) :)

/-- The gate of a dark terminal is off (R72). -/
theorem State.gate_of_dark {s : State} {k : Nat} (h : (s.termOf k).out.dark = true) (hk : k ∈ s.settle.outTerms) :
    (s.settle.termOf k).out.gate = false := by
  rw [State.outTerms_settle] at hk
  rw [State.settle_out, if_pos hk]
  unfold Out.settle
  split
  · rfl
  · simp [h]

/-- The gate of a held terminal is off, and latched (R16). -/
def State.offAt (t : State) (k : Nat) : Prop := k ∈ t.outTerms → (t.termOf k).out.gate = false ∧ (t.termOf k).out.latch = true

theorem State.offAt_settle {s : State} {k : Nat} (h : s.held k = true) : s.settle.offAt k := fun hk => by
  refine s.settle_gatesSafe k hk ?_
  rw [State.tripped_settle, State.tripped, h]
  rfl

/-- A cause with FSAFE holds its terminal (R95). -/
theorem State.held_of_cause {s : State} {k c : Nat} (h : s.hasCause k c = true) (hm : s.mode (tChan k) ≠ mOFF) (hc : fsafeCauses.getLsbD c = true) :
    s.held k = true := by
  have hne : (s.termOf k).tstat.causes &&& fsafeCauses ≠ 0#32 := fun h0 => by
    have hbit := congrArg (fun w : BitVec 32 => w.getLsbD c) h0
    rw [BitVec.getLsbD_and, hc, show (s.termOf k).tstat.causes.getLsbD c = true from h] at hbit
    exact absurd hbit (by simp)
  simp [State.held, State.fsafe, hm, hne]

/-! #### Causes with a detail, and the test of a front-end -/

theorem State.tstat_raiseCauseD (s : State) (k cause d j : Nat) :
    ((s.raiseCauseD k cause d).termOf j).tstat = ((s.raiseCause k cause).termOf j).tstat := by
  unfold State.raiseCause State.raiseCauseD
  dsimp only
  split_ifs
  · rfl
  · rfl
  · rw [State.calAbort_tstat, State.calAbort_tstat]; rfl
  · rfl

theorem State.hasCause_raiseCauseD_self (s : State) {k : Nat} (hm : s.mode (tChan k) ≠ mOFF) {cause : Nat} (hc : cause < 32) (d : Nat) :
    (s.raiseCauseD k cause d).hasCause k cause = true :=
  (State.hasCause_of_tstat (s.tstat_raiseCauseD k cause d k) cause).trans (s.hasCause_raiseCause_self hm hc)

theorem State.hasCause_raiseFront_self (s : State) {k : Nat} (hm : s.mode (tChan k) ≠ mOFF) {cause : Nat} (hc : cause < 32) :
    (s.raiseFront k cause).hasCause k cause = true := by
  rw [State.raiseFront, State.hasCause, State.termOf_startTest]
  exact s.hasCause_raiseCause_self hm hc

/-- A fault of an output whose front-end is then tested takes the gate off (R69). -/
theorem State.offAt_raiseFront {s : State} {k cause : Nat} (hm : s.mode (tChan k) ≠ mOFF) (hc : cause < 32)
    (hf : fsafeCauses.getLsbD cause = true) : (s.raiseFront k cause).settle.offAt k := by
  refine State.offAt_settle (State.held_of_cause (s.hasCause_raiseFront_self hm hc) ?_ hf)
  rwa [State.setup_mode (State.calm_setup ((State.Causing.refl s).raiseFront k cause).calm)]

/-! #### Restarted clean periods (R473) -/

/-- The clean period of a terminal counts from now, when it is named or is already forced. -/
def Terminal.restartTs (named : Bool) (now : Nat) (x : Terminal) : Terminal :=
  if named ∨ x.dig.tsFail.isSome then { x with dig := { x.dig with tsFail := some now } } else x

theorem Terminal.restartTs_keeps (named : Bool) (now : Nat) (x : Terminal) :
    (x.restartTs named now).tstat = x.tstat ∧ (x.restartTs named now).out = x.out := by
  unfold Terminal.restartTs
  split <;> exact ⟨rfl, rfl⟩

theorem Terminal.restartTs_fails {named : Bool} {now : Nat} {x : Terminal} (h : named = true ∨ x.dig.tsFail = some now) :
    (x.restartTs named now).dig.tsFail = some now := by
  unfold Terminal.restartTs
  rw [if_pos (h.imp_right fun hx => by rw [hx]; rfl)]

section
variable (s : State) (group ts : List Nat)

theorem State.calm_tsRestart : (s.tsRestart group ts).calm = s.calm :=
  forEach_keeps State.calm (fun x u => (x.updTerm u (Terminal.restartTs (ts.contains u) s.clock.count)).forceChange u)
    (fun x u => (((State.Causing.refl _).forceChange u).calm).trans (x.calm_updTerm u _)) s group

theorem State.out_tsRestart (j : Nat) : ((s.tsRestart group ts).termOf j).out = (s.termOf j).out :=
  forEach_keeps (fun x : State => (x.termOf j).out) (fun x u => (x.updTerm u (Terminal.restartTs (ts.contains u) s.clock.count)).forceChange u)
    (fun x u => (((State.Causing.refl _).forceChange u).out j).trans
      (State.termOf_updTerm_keeps Terminal.out (fun y => (y.restartTs_keeps _ _).2) x u j)) s group

/-- The named terminals of a group are forced from now on. -/
theorem State.tsFail_tsRestart {j : Nat} (hj : j ∈ group) (hn : j ∈ ts) : ((s.tsRestart group ts).termOf j).dig.tsFail = some s.clock.count := by
  have hstep (x : State) (u : Nat) := ((State.Causing.refl (x.updTerm u (Terminal.restartTs (ts.contains u) s.clock.count))).forceChange u).dig
  refine State.forEach_each (q := fun _ => True) (P := fun j x => j ∈ ts → (x.termOf j).dig.tsFail = some s.clock.count)
    (f := fun x u => (x.updTerm u (Terminal.restartTs (ts.contains u) s.clock.count)).forceChange u) (fun _ _ _ => trivial)
    (fun x u _ hu => ?_) (fun x u j h hu => ?_) trivial j hj hn
  · rw [hstep, State.termOf_updTerm_self]
    exact Terminal.restartTs_fails (.inl (List.contains_iff_mem.mpr hu))
  · rw [hstep, State.termOf_updTerm]
    split
    · next he => exact Terminal.restartTs_fails (.inr (he ▸ h hu))
    · exact h hu

end

theorem State.atDemand_of_tsFail {s : State} {k n : Nat} (h : (s.termOf k).dig.tsFail = some n) : s.atDemand k = true :=
  State.atDemand_of_forced (.inl (by rw [Terminal.forced, h]; simp))

/-! #### Test pulses (R64–R66) -/

/-- A terminal whose pulse begins. -/
def Terminal.goesDark (now : Nat) (x : Terminal) : Terminal := { x with out := { x.out with dark := true, pulseAt := now } }

/-- A terminal whose pulse ends. -/
def Terminal.lightens (x : Terminal) : Terminal := { x with out := { x.out with dark := false } }

theorem mTS_ne_mOFF : mTS ≠ mOFF := by decide

theorem tsPulseStart_spec {s : State} {k : TermIx} (hm : s.mode (tChan k.val) = mTS) (hdue : s.tsDue k.val = true) (hfree : s.chipDark k.val = false) :
    ∃ t, exec (.tsPulseStart k) s = .next t ∧ (t.termOf k.val).out.dark = true ∧ t.gatesSafe ∧
      (t.termOf k.val).out.pulseAt = s.clock.count ∧ (k.val ∈ t.outTerms → (t.termOf k.val).out.gate = false) := by
  have hgo : ¬ (s.mode (tChan k.val) ≠ mTS ∨ (!s.tsDue k.val) = true ∨ s.chipDark k.val = true) := by rw [hm, hdue, hfree]; simp
  obtain ⟨x, hx⟩ : ∃ x : State, x = s.updTerm k.val (Terminal.goesDark s.clock.count) := ⟨_, rfl⟩
  have he : exec (.tsPulseStart k) s = .next x.settle := by rw [hx]; exact if_neg hgo
  have hk : (x.termOf k.val).out = ((s.termOf k.val).goesDark s.clock.count).out := by rw [hx, State.termOf_updTerm_self]
  have hdark : (x.termOf k.val).out.dark = true := by rw [hk]; rfl
  refine ⟨_, he, (x.settle_dark _).trans hdark, State.settle_gatesSafe x, ?_, State.gate_of_dark hdark⟩
  exact (congrArg Out.pulseAt (x.kept_settle k.val) :).trans (by rw [hk]; rfl)

/-- An input that a test source feeds is another terminal of its chip, of a DI channel (R52). -/
theorem State.mem_fedBy {s : State} {k u : Nat} (h : u ∈ s.fedBy k) : tChip u = tChip k ∧ s.mode (tChan u) = mDI := by
  rw [State.fedBy, List.mem_filter] at h
  obtain ⟨hu, hp⟩ := h
  simp only [Bool.and_eq_true, decide_eq_true_eq] at hp
  obtain ⟨c, hc, rfl⟩ := List.mem_map.mp hu
  exact ⟨tChip_chipTerm _ (List.mem_range.mp hc), hp.1.1⟩

/-- Two terminals of a field chip are of two channels. -/
theorem tChan_ne_of_tChip {j u : Nat} (hi : tChip u = tChip j) (h : u ≠ j) : tChan u ≠ tChan j := by
  unfold tChip at hi; unfold tChan; omega

/-- A check of a source that ends with the restart of some of its group: the pulse has ended, and the named are forced. -/
theorem State.restarted_spec (s : State) (k : Nat) (ts : List Nat) {x : State} (hx : x = (s.updTerm k Terminal.lightens).tsRestart (k :: s.fedBy k) ts)
    {y : State} (hy : x.Causing y) :
    (y.settle.termOf k).out.dark = false ∧ y.settle.gatesSafe ∧
      ∀ u ∈ k :: s.fedBy k, u ∈ ts → (y.settle.termOf u).dig.tsFail = some s.clock.count ∧ y.settle.atDemand u = true := by
  have hfail (u : Nat) (hu : u ∈ k :: s.fedBy k) (hn : u ∈ ts) : (y.settle.termOf u).dig.tsFail = some s.clock.count := by
    rw [State.settle_dig, hy.dig, hx]
    exact (s.updTerm k Terminal.lightens).tsFail_tsRestart _ _ hu hn
  refine ⟨?_, State.settle_gatesSafe y, fun u hu hn => ⟨hfail u hu hn, State.atDemand_of_tsFail (hfail u hu hn)⟩⟩
  rw [State.settle_dark, hy.out, hx, State.out_tsRestart, State.termOf_updTerm_self]
  rfl

/-- The configuration stands at a check. -/
theorem State.mode_restarted (s : State) (k : Nat) (group ts : List Nat) (c : Nat) :
    ((s.updTerm k Terminal.lightens).tsRestart group ts).mode c = s.mode c :=
  State.setup_mode (State.calm_setup ((State.calm_tsRestart _ _ _).trans (s.calm_updTerm k _))) c

section
variable {s : State} {k : TermIx} (hm : s.mode (tChan k.val) = mTS)
include hm

/-- TS_PULSE_CHECK of a TS terminal. -/
theorem tsPulseCheck_of_source (high load : Bool) (on : List TermIx) :
    exec (.tsPulseCheck k high load on []) s =
      (let s1 := s.updTerm k.val Terminal.lightens
       let group := k.val :: s.fedBy k.val
       let bad := (on.map Fin.val).filter fun u => (s.fedBy k.val).contains u
       let s2 := if high then s1.tsRestart group group
         else if bad ≠ [] then (s1.tsRestart group bad).forEach bad fun x u => x.raiseCause u 2 else s1
       if load then settled ((s2.tsRestart group group).raiseFront k.val 5)
       else if high ∨ bad ≠ [] then settled s2 else settled (s2.tsRelease k.val)) :=
  if_neg (not_not_intro hm)

theorem tsPulseCheck_high :
    ∃ t, exec (.tsPulseCheck k true false [] []) s = .next t ∧ t.gatesSafe ∧ (t.termOf k.val).out.dark = false ∧
      (∀ u ∈ k.val :: s.fedBy k.val, (t.termOf u).dig.tsFail = some s.clock.count) ∧ ∀ u ∈ s.fedBy k.val, t.atDemand u = true := by
  obtain ⟨x, hx⟩ : ∃ x : State, x = (s.updTerm k.val Terminal.lightens).tsRestart (k.val :: s.fedBy k.val) (k.val :: s.fedBy k.val) := ⟨_, rfl⟩
  have he : exec (.tsPulseCheck k true false [] []) s = .next x.settle := by
    rw [tsPulseCheck_of_source hm, hx]; rfl
  obtain ⟨hdark, hsafe, hfail⟩ := s.restarted_spec k.val _ hx (.refl x)
  exact ⟨_, he, hsafe, hdark, fun u hu => (hfail u hu hu).1, fun u hu => (hfail u (.tail _ hu) (.tail _ hu)).2⟩

theorem tsPulseCheck_overload :
    ∃ t, exec (.tsPulseCheck k false true [] []) s = .next t ∧ t.hasCause k.val 5 = true ∧ t.gatesSafe ∧
      (t.termOf k.val).out.dark = false ∧
      ∀ u ∈ s.fedBy k.val, (t.termOf u).dig.tsFail = some s.clock.count ∧ t.atDemand u = true := by
  obtain ⟨x, hx⟩ : ∃ x : State, x = (s.updTerm k.val Terminal.lightens).tsRestart (k.val :: s.fedBy k.val) (k.val :: s.fedBy k.val) := ⟨_, rfl⟩
  have he : exec (.tsPulseCheck k false true [] []) s = .next (x.raiseFront k.val 5).settle := by
    rw [tsPulseCheck_of_source hm, hx]; rfl
  have hmode : x.mode (tChan k.val) ≠ mOFF := by
    rw [hx, State.mode_restarted, hm]; exact mTS_ne_mOFF
  obtain ⟨hdark, hsafe, hfail⟩ := s.restarted_spec k.val _ hx ((State.Causing.refl x).raiseFront k.val 5)
  exact ⟨_, he, (State.hasCause_settle _ _ _).trans (x.hasCause_raiseFront_self hmode (by decide)), hsafe, hdark,
    fun u hu => hfail u (.tail _ hu) (.tail _ hu)⟩

theorem tsPulseCheck_staysOn (u : TermIx) (hu : u.val ∈ s.fedBy k.val) :
    ∃ t, exec (.tsPulseCheck k false false [u] []) s = .next t ∧ t.hasCause u.val 2 = true ∧ t.gatesSafe ∧
      (t.termOf u.val).dig.tsFail = some s.clock.count ∧ t.atDemand u.val = true := by
  obtain ⟨x, hx⟩ : ∃ x : State, x = (s.updTerm k.val Terminal.lightens).tsRestart (k.val :: s.fedBy k.val) [u.val] := ⟨_, rfl⟩
  have hbad : ([u].map Fin.val).filter (fun j => (s.fedBy k.val).contains j) = [u.val] := by
    rw [List.map_singleton, List.filter_singleton, List.contains_iff_mem.mpr hu]; rfl
  have he : exec (.tsPulseCheck k false false [u] []) s = .next (x.raiseCause u.val 2).settle := by
    rw [tsPulseCheck_of_source hm, hbad, hx]; rfl
  have hmode : x.mode (tChan u.val) ≠ mOFF := by
    rw [hx, State.mode_restarted, (State.mem_fedBy hu).2]; exact mDI_ne_mOFF
  obtain ⟨hdark, hsafe, hfail⟩ := s.restarted_spec k.val _ hx ((State.Causing.refl x).raiseCause u.val 2)
  exact ⟨_, he, (State.hasCause_settle _ _ _).trans (x.hasCause_raiseCause_self hmode (by decide)), hsafe,
    hfail u.val (.tail _ hu) (List.mem_singleton_self _)⟩

end

/-! The end of the forces of a source's group (R473). -/

/-- A terminal that a test source no longer forces. -/
def Terminal.tsFree (x : Terminal) : Terminal := { x with dig := { x.dig with tsFail := none } }

/-- The force of terminal u ends, with causes 0x02 to 0x05. -/
def State.tsFreed (x : State) (u : Nat) : State :=
  (((((x.updTerm u Terminal.tsFree).lowerCause u 2).lowerCause u 3).lowerCause u 4).lowerCause u 5).forceChange u

theorem State.tsFreed_causing (x : State) (u : Nat) : (x.updTerm u Terminal.tsFree).Causing (x.tsFreed u) :=
  (((((State.Causing.refl _).lowerCause u 2).lowerCause u 3).lowerCause u 4).lowerCause u 5).forceChange u

theorem State.tsFreed_tstat (x : State) {u j : Nat} (h : tChan j ≠ tChan u) : ((x.tsFreed u).termOf j).tstat = (x.termOf j).tstat := by
  have hj : j ≠ u := fun he => h (he ▸ rfl)
  rw [State.tsFreed, State.tstat_forceChange_other _ h, State.tstat_lowerCause_other _ hj, State.tstat_lowerCause_other _ hj,
    State.tstat_lowerCause_other _ hj, State.tstat_lowerCause_other _ hj, State.termOf_updTerm_other _ hj]

/-- What a source's release does at one terminal of its group. -/
def State.tsReleaseAt (x : State) (period now u : Nat) : State :=
  match (x.termOf u).dig.tsFail with
  | none => x
  | some a => if period ≠ 0 ∧ (a + period - 1) / period * period + period ≤ now then x.tsFreed u else x

theorem State.tsRelease_eq (s : State) (k : Nat) :
    s.tsRelease k = s.forEach (k :: s.fedBy k) fun x u => x.tsReleaseAt (16 * fld (s.tout k) 55 43) s.clock.count u := rfl

/-- It ends the force, or changes nothing. -/
theorem State.tsReleaseAt_cases (x : State) (period now u : Nat) :
    x.tsReleaseAt period now u = x ∨ ((x.termOf u).dig.tsFail ≠ none ∧ x.tsReleaseAt period now u = x.tsFreed u) := by
  unfold State.tsReleaseAt
  split
  · exact .inl rfl
  · next a ha =>
    split
    · exact .inr ⟨by rw [ha]; exact Option.some_ne_none a, rfl⟩
    · exact .inl rfl

theorem State.out_tsRelease (s : State) (k j : Nat) : ((s.tsRelease k).termOf j).out = (s.termOf j).out := by
  rw [State.tsRelease_eq]
  refine forEach_keeps (fun x : State => (x.termOf j).out) (fun x u => x.tsReleaseAt (16 * fld (s.tout k) 55 43) s.clock.count u) (fun x u => ?_) s _
  obtain h | ⟨_, h⟩ := x.tsReleaseAt_cases (16 * fld (s.tout k) 55 43) s.clock.count u
  · rw [h]
  · rw [h, (x.tsFreed_causing u).out]
    exact State.termOf_updTerm_keeps Terminal.out (f := Terminal.tsFree) (fun _ => rfl) x u j

/-- A pass leaves what TSTAT is of an input that was not forced. -/
theorem State.tstat_tsRelease {s : State} {k u : Nat} (hu : u ∈ s.fedBy k) (h : (s.termOf u).dig.tsFail = none) :
    ((s.tsRelease k).termOf u).tstat = (s.termOf u).tstat := by
  have hchip (j : Nat) (hj : j ∈ k :: s.fedBy k) : tChip u = tChip j := by
    obtain rfl | hj := List.mem_cons.mp hj
    · exact (State.mem_fedBy hu).1
    · exact (State.mem_fedBy hu).1.trans (State.mem_fedBy hj).1.symm
  rw [State.tsRelease_eq]
  refine (State.forEach_inv_mem (fun x => (x.termOf u).tstat = (s.termOf u).tstat ∧ (x.termOf u).dig.tsFail = none)
    (fun x j => x.tsReleaseAt (16 * fld (s.tout k) 55 43) s.clock.count j) (fun x j hj hx => ?_) ⟨rfl, h⟩).1
  obtain ⟨ht, hf⟩ := hx
  obtain hsame | ⟨hforced, hfree⟩ := x.tsReleaseAt_cases (16 * fld (s.tout k) 55 43) s.clock.count j
  · rw [hsame]; exact ⟨ht, hf⟩
  · have hne : u ≠ j := fun he => hforced (he ▸ hf)
    have hc := tChan_ne_of_tChip (hchip j hj) hne
    rw [hfree, x.tsFreed_tstat hc, (x.tsFreed_causing j).dig, State.termOf_updTerm_other _ hne]
    exact ⟨ht, hf⟩

theorem tsPulseCheck_pass {s : State} {k : TermIx} (hm : s.mode (tChan k.val) = mTS) :
    ∃ t, exec (.tsPulseCheck k false false [] []) s = .next t ∧ (t.termOf k.val).out.dark = false ∧
      ∀ u ∈ s.fedBy k.val, u ≠ k.val → (s.termOf u).dig.tsFail = none → (t.termOf u).tstat = (s.termOf u).tstat := by
  obtain ⟨x, hx⟩ : ∃ x : State, x = s.updTerm k.val Terminal.lightens := ⟨_, rfl⟩
  have he : exec (.tsPulseCheck k false false [] []) s = .next (x.tsRelease k.val).settle := by
    rw [tsPulseCheck_of_source hm, hx]; rfl
  have hfed : x.fedBy k.val = s.fedBy k.val := by
    have hset : x.setup = s.setup := by rw [hx]; rfl
    simp only [State.fedBy, State.setup_mode hset, State.setup_tin hset]
  refine ⟨_, he, ?_, fun u hu hne hf => ?_⟩
  · rw [State.settle_dark, State.out_tsRelease, hx, State.termOf_updTerm_self]; rfl
  · have hself : x.termOf u = s.termOf u := by rw [hx]; exact s.termOf_updTerm_other hne _
    rw [State.settle_tstat, State.tstat_tsRelease (hfed ▸ hu) (by rw [hself]; exact hf), hself]

/-! #### Cross shorts (R66) -/

theorem crossShort_spec {s : State} {k : TermIx} (hm : s.mode (tChan k.val) = mTS) :
    (∀ u : TermIx, ∃ t, exec (.crossShortIdentified k (some u)) s = .next t ∧ t.hasCause k.val 3 = true ∧
        (t.termOf k.val).dig.tsFail = some s.clock.count) ∧
      ∃ t, exec (.crossShortIdentified k none) s = .next t ∧ t.hasCause k.val 4 = true ∧ (t.termOf k.val).dig.tsFail = some s.clock.count := by
  obtain ⟨x, hx⟩ : ∃ x : State, x = s.tsRestart (k.val :: s.fedBy k.val) [k.val] := ⟨_, rfl⟩
  have hmode : x.mode (tChan k.val) ≠ mOFF := by
    rw [hx, State.setup_mode (State.calm_setup (State.calm_tsRestart _ _ _)), hm]; exact mTS_ne_mOFF
  have hfail : (x.termOf k.val).dig.tsFail = some s.clock.count := by
    rw [hx]; exact s.tsFail_tsRestart _ _ (.head _) (.head _)
  have forced {y : State} (hy : x.Causing y) : (y.settle.termOf k.val).dig.tsFail = some s.clock.count := by
    rw [State.settle_dig, hy.dig, hfail]
  refine ⟨fun u => ⟨_, ?_, (State.hasCause_settle _ _ _).trans (x.hasCause_raiseCauseD_self hmode (by decide) u.val),
    forced ((State.Causing.refl x).raiseCauseD _ _ _)⟩, _, ?_, (State.hasCause_settle _ _ _).trans (x.hasCause_raiseCause_self hmode (by decide)),
    forced ((State.Causing.refl x).raiseCause _ 4)⟩
  · rw [hx]; exact if_neg (not_not_intro hm)
  · rw [hx]; exact if_neg (not_not_intro hm)

/-! #### Current limit and voltage check (R69, R142) -/

/-- A fault of an output that is switched off: cause 0x07, the gate off, and its front-end under test. -/
theorem State.outputFault {s : State} {k : Nat} (hm : s.mode (tChan k) ≠ mOFF) :
    (s.raiseFront k 7).settle.hasCause k 7 = true ∧ (s.raiseFront k 7).settle.offAt k ∧ (s.raiseFront k 7).settle.gatesSafe ∧
      (s.isRetired (nFront k) tcFront = false → ((s.raiseFront k 7).settle.tests.find (nFront k) tcFront).isSome = true) := by
  refine ⟨(State.hasCause_settle _ _ _).trans (s.hasCause_raiseFront_self hm (by decide)), State.offAt_raiseFront hm (by decide) (by decide),
    State.settle_gatesSafe _, fun h => State.startTest_isSome _ _ _ _ _ (.inr ⟨?_, rfl, rfl⟩)⟩
  rw [State.calm_isRetired ((State.Causing.refl s).raiseCause k 7).calm, h]

theorem outputFault_spec (s : State) (k : TermIx) (hm : s.mode (tChan k.val) ≠ mOFF) :
    ∀ row ∈ ([(.outputCurrentLimit k, (s.termOf k.val).out.gate), (.outputVoltageCheck k false, s.checkDue k.val)] : List (Instr × Bool)),
      row.2 = true → ∃ t, exec row.1 s = .next t ∧ t.hasCause k.val 7 = true ∧ t.offAt k.val ∧ t.gatesSafe ∧
        (s.isRetired (nFront k.val) tcFront = false → (t.tests.find (nFront k.val) tcFront).isSome = true) := by
  have hfault := State.outputFault hm
  simp only [List.forall_mem_cons, List.not_mem_nil, false_imp_iff, implies_true, and_true]
  exact ⟨fun h => ⟨_, if_pos h, hfault⟩, fun h => ⟨_, if_pos ⟨h, rfl⟩, hfault⟩⟩

/-! #### The next draw (R71) -/

/-- A terminal whose next pulse is drawn. -/
def Terminal.nextPulse (n : Nat) (x : Terminal) : Terminal := { x with out := { x.out with nextAt := n } }

/-- A draw lies within DICE_MIN_MS and DICE_MAX_MS of its base. -/
theorem State.drawPulse_spec (s : State) (k base : Nat) :
    ∃ n, s.drawPulse k base = (s.updTerm k (Terminal.nextPulse n)).drawn ∧
      (fld (s.tout k) 20 11 * 1000 ≤ fld (s.tout k) 10 1 * 1000 →
        base + fld (s.tout k) 20 11 * 1000 ≤ n ∧ n ≤ base + fld (s.tout k) 10 1 * 1000) := by
  refine ⟨_, rfl, fun h => ?_⟩
  have hd : s.drawNat (fld (s.tout k) 10 1 * 1000 - fld (s.tout k) 20 11 * 1000 + 1) < fld (s.tout k) 10 1 * 1000 - fld (s.tout k) 20 11 * 1000 + 1 :=
    Nat.mod_lt _ (Nat.succ_pos _)
  omega

/-! #### The test of a lattice half (R170, R365) -/

/-- What a test of a half leaves: outputs but for their gates, diagnosis records. -/
structure State.Halving (s t : State) : Prop where
  kept : ∀ j, (t.termOf j).out.kept = (s.termOf j).out.kept
  diag : ∀ i, (t.chipOf i).diag = (s.chipOf i).diag

theorem State.Halving.refl (s : State) : s.Halving s := ⟨fun _ => rfl, fun _ => rfl⟩

theorem State.Halving.trans {s t u : State} (h : s.Halving t) (g : t.Halving u) : s.Halving u :=
  ⟨fun j => (g.kept j).trans (h.kept j), fun i => (g.diag i).trans (h.diag i)⟩

/-- The terminals, the field chips and their lanes. -/
def State.fieldSide (s : State) : Tab Terminal × Tab Chip × Tab Lanes := (s.term, s.chip, s.lanes)

theorem State.Books.fieldSide {s t : State} (h : s.Books t) : t.fieldSide = s.fieldSide := by rw [h.frame]; rfl

theorem State.Halving.of_fieldSide {s t : State} (h : t.fieldSide = s.fieldSide) : s.Halving t :=
  ⟨fun j => (congrArg (fun x : Tab Terminal × Tab Chip × Tab Lanes => (Tab.get ({} : Terminal) x.1 j).out.kept) h :),
    fun i => (congrArg (fun x : Tab Terminal × Tab Chip × Tab Lanes => (Tab.get ({} : Chip) x.2.1 i).diag) h :)⟩

section
variable (s : State)

theorem State.fieldSide_recWrite (d : Side) (k : Nat) (w : Word) : (s.recWrite d k w).fieldSide = s.fieldSide := by
  unfold State.recWrite State.mramWrite
  split <;> rfl

theorem State.fieldSide_storeStamps (k : Nat) (e : Side × Nat) (l : List (BitVec 36)) : (s.storeStamps k e l).fieldSide = s.fieldSide :=
  forEach_keeps State.fieldSide (fun x j => x.recWrite e.1 (e.2 + j) (BitVec.ofNat 72 (at_ (l.getD (2 * j) 0).toNat 36 + (l.getD (2 * j + 1) 0).toNat)))
    (fun x _ => x.fieldSide_recWrite _ _ _) s _

theorem State.fieldSide_countTransient (n : Node) (cls : Nat) : (s.countTransient n cls).fieldSide = s.fieldSide := by
  have hpush : (s.pushStamp n cls s.secStamp).fieldSide = s.fieldSide :=
    foldl_keeps State.fieldSide _ (fun x _ => x.fieldSide_storeStamps _ _ _) _ s
  have hundated : (s.pushUndated n cls).fieldSide = s.fieldSide :=
    foldl_keeps State.fieldSide _ (fun x _ => x.fieldSide_storeStamps _ _ _) _ _
  have hpost (x : State) (d : Nat) : (x.post 0x0A02 n 2 d).fieldSide = x.fieldSide := rfl
  unfold State.countTransient
  rw [hpost]
  split
  · exact hpush
  · exact hundated

theorem State.fieldSide_retireBlock (n : Node) (cls : Nat) : (s.retireBlock n cls).fieldSide = s.fieldSide :=
  foldl_keeps State.fieldSide (fun (x : State) (p : Side × Nat) => x.retireBit p.1 p.2) (fun x _ => x.fieldSide_recWrite _ _ _) _ s

theorem State.fieldSide_concludeTest (q : Test) (v : Nat) : (s.concludeTest q v).fieldSide = s.fieldSide :=
  ((State.Books.refl s).concludeTest q v).fieldSide

/-- A verdict leaves the field side to its caller. -/
theorem State.fieldSide_endTest (n : Node) (cls : Nat) (pass : Bool) : (s.endTest n cls pass).fieldSide = s.fieldSide := by
  unfold State.endTest
  split
  · rfl
  · split
    · rfl
    · exact s.fieldSide_countTransient n cls
    · rw [State.fieldSide_concludeTest]
      split
      · rfl
      · exact s.fieldSide_countTransient n cls
    · rw [State.fieldSide_retireBlock, State.fieldSide_concludeTest]
      split
      · exact s.fieldSide_countTransient n cls
      · rfl

end

theorem State.Halving.settle (s : State) : s.Halving s.settle := ⟨s.kept_settle, fun _ => rfl⟩

theorem State.Halving.updChip (s : State) (i : Nat) {f : Chip → Chip} (hf : ∀ x, (f x).diag = x.diag) : s.Halving (s.updChip i f) :=
  ⟨fun _ => rfl, Tab.read_upd ({} : Chip) s.chip i f Chip.diag (hf _)⟩

theorem State.Halving.updLanes (s : State) (i : Nat) (f : Lanes → Lanes) : s.Halving (s.updLanes i f) := ⟨fun _ => rfl, fun _ => rfl⟩

theorem State.halving_chipLost (s : State) (i : Nat) : s.Halving (s.chipLost i) := by
  unfold State.chipLost
  dsimp only
  split
  · exact .of_fieldSide rfl
  · obtain ⟨x, hx⟩ : ∃ x : State, x = (s.updView i fun v => { v with lost := true, lostAt := s.clock.count, returnAt := none, seen := false }).updLanes
        (chipOther i) fun l => { l with otherLost := true } := ⟨_, rfl⟩
    have hs : s.Halving x := by rw [hx]; exact ⟨fun _ => rfl, fun _ => rfl⟩
    obtain ⟨y, hy⟩ : ∃ y : State, y = x.updChip (chipOther i) fun c => { c with safe := true } := ⟨_, rfl⟩
    have hxy : x.Halving y := by rw [hy]; exact .updChip _ _ fun _ => rfl
    rw [← hx, ← hy]
    have hpost : y.Halving (y.postL 0x0202 (nChip i) 3 (fld (s.cw cWCFG (i / 2) 0) 71 62) true) := .of_fieldSide rfl
    exact ((hs.trans hxy).trans hpost).trans (.settle _)

theorem State.halving_halfDone (s : State) (i : Nat) (pass : Bool) : s.Halving (s.halfDone i pass) := by
  have hend := State.Halving.of_fieldSide (s.fieldSide_endTest (nChip i) tcHalf pass)
  unfold State.halfDone
  dsimp only
  split
  · exact hend.trans (((State.Halving.updLanes _ _ _).trans (.updLanes _ _ _)).trans (.updChip _ _ fun _ => rfl))
  · exact hend.trans (State.halving_chipLost _ i)
  · exact hend

theorem State.halving_halfSeen (s : State) (i c : Nat) (seen : Bool) : s.Halving (s.halfSeen i c seen) := by
  have hleft := State.Halving.updChip s i (f := fun x => { x with halfLeft := setBit (s.chipOf i).halfLeft c false }) fun _ => rfl
  unfold State.halfSeen
  dsimp only
  split
  · exact .refl s
  · split
    · exact s.halving_halfDone i false
    · split
      · exact hleft.trans (State.halving_halfDone _ i true)
      · exact hleft

/-- A test of a half that fails leaves the holds of R170. -/
theorem State.latHold_halfDone_false (s : State) (i : Nat) {j : Nat} (hs : (s.tests.find (nChip i) tcHalf).isSome = true) :
    ((s.halfDone i false).lanesOf j).latHold = (s.lanesOf j).latHold := by
  obtain ⟨q, hq⟩ := Option.isSome_iff_exists.mp hs
  have hlost : s.testEnd (nChip i) tcHalf false = .lasting := by rw [State.testEnd, hq]; rfl
  have hend (x : State) : ((x.chipLost i).lanesOf j).latHold = (x.lanesOf j).latHold := by
    unfold State.chipLost
    dsimp only
    split
    · rfl
    · exact Tab.read_upd ({} : Lanes) x.lanes (chipOther i) (fun l => { l with otherLost := true }) Lanes.latHold rfl j
  rw [State.halfDone, hlost, hend]
  exact (congrArg (fun x : Tab Terminal × Tab Chip × Tab Lanes => (Tab.get ({} : Lanes) x.2.2 j).latHold) (s.fieldSide_endTest (nChip i) tcHalf false) :)

/-! A diagnosis record (R100). -/

/-- A cause that is recorded is in the buffer, or the buffer is full and says so. -/
theorem Chip.diagAdd_records (x : Chip) (cause src tick : Nat) :
    ∃ r ∈ (x.diagAdd cause src tick).diag, r.cause = BitVec.ofNat 8 cause ∨ r.cause = 0x85 := by
  unfold Chip.diagAdd
  dsimp only
  split
  · next h =>
    obtain ⟨r, hr, hs⟩ := List.any_eq_true.mp h
    refine ⟨_, List.mem_map.mpr ⟨r, hr, if_pos hs⟩, .inl ?_⟩
    rw [Bool.and_eq_true, decide_eq_true_eq] at hs
    exact hs.1
  · split
    · exact ⟨_, List.mem_append_right _ (List.mem_singleton_self _), .inl rfl⟩
    · split
      · next h =>
        obtain ⟨r, hr, hs⟩ := List.any_eq_true.mp h
        rw [decide_eq_true_eq] at hs
        exact ⟨_, List.mem_map.mpr ⟨r, hr, if_pos hs⟩, .inr hs⟩
      · exact ⟨_, List.mem_append_right _ (List.mem_singleton_self _), .inr rfl⟩

/-! #### Dark pulses (R71–R75) -/

/-- A terminal whose dark pulse begins. -/
def Terminal.pulses (now : Nat) (partialP : Bool) (x : Terminal) : Terminal :=
  { x with out := { x.out with dark := true, pulseAt := now, partialP := partialP } }

/-- A terminal's path is not seen: its chip holds it (R170). -/
def Lanes.latHeld (c : Nat) (l : Lanes) : Lanes := { l with latHold := setBit l.latHold c true }

/-- The hold and the record of a path that is not seen. -/
def State.pathHeld (s : State) (k : Nat) : State := (s.updLanes (tChip k) (Lanes.latHeld (tLocal k))).chipCause (tChip k) 0x84 (tLocal k) 1

theorem State.pathFault_eq (s : State) (k : Nat) : s.pathFault k =
    if ((s.pathHeld k).tests.find (nChip (tChip k)) tcHalf).isSome then (s.pathHeld k).halfSeen (tChip k) (tLocal k) false
    else (s.pathHeld k).startHalf (tChip k) := rfl

theorem State.pathHeld_latHold (s : State) (k : Nat) : bit ((s.pathHeld k).lanesOf (tChip k)).latHold (tLocal k) = true := by
  have hl : (s.pathHeld k).lanesOf (tChip k) = (s.lanesOf (tChip k)).latHeld (tLocal k) := s.lanesOf_updLanes_self (tChip k) _
  rw [hl]
  exact bit_setBit_self _ (by unfold tLocal; omega) true

theorem State.pathHeld_diag (s : State) (k : Nat) : ∃ r ∈ ((s.pathHeld k).chipOf (tChip k)).diag, r.cause = 0x84 ∨ r.cause = 0x85 := by
  have hc : (s.pathHeld k).chipOf (tChip k) = (s.chipOf (tChip k)).diagAdd 0x84 (tLocal k) s.clock.count :=
    Tab.get_upd_self ({} : Chip) s.chip (tChip k) fun x => x.diagAdd 0x84 (tLocal k) s.clock.count
  rw [hc]
  exact Chip.diagAdd_records _ _ _ _

theorem nChip_releasesNothing (i : Nat) : (nChip i).releasesNothing := by simp [Node.releasesNothing, nChip]

/-- The targets that a half's test waits for. -/
def Chip.awaits (left : BitVec 16) (x : Chip) : Chip := { x with halfLeft := left }

theorem State.startHalf_eq (s : State) (i : Nat) : ∃ left, s.startHalf i = (s.updChip i (Chip.awaits left)).startTest (nChip i) tcHalf := ⟨_, rfl⟩

/-- What the start of a half's test leaves, and begins. -/
theorem State.startHalf_spec (s : State) (i : Nat) :
    s.Halving (s.startHalf i) ∧ ((s.startHalf i).lanesOf i).latHold = (s.lanesOf i).latHold ∧
      (s.isRetired (nChip i) tcHalf = false → ((s.startHalf i).tests.find (nChip i) tcHalf).isSome = true) := by
  obtain ⟨left, hs⟩ := s.startHalf_eq i
  obtain ⟨x, hx⟩ : ∃ x : State, x = s.updChip i (Chip.awaits left) := ⟨_, rfl⟩
  have hchip : s.Halving x := by rw [hx]; exact .updChip _ _ fun _ => rfl
  have hbooks := (State.Books.refl x).startTest (nChip_releasesNothing i) tcHalf
  rw [hs, ← hx]
  refine ⟨hchip.trans (.of_fieldSide hbooks.fieldSide), ?_, fun h => State.startTest_isSome _ _ _ _ _ (.inr ⟨?_, rfl, rfl⟩)⟩
  · rw [State.lanesOf, hbooks.lanes, hx]; rfl
  · rw [hx]; exact (State.retired_congr rfl rfl rfl _ _).trans h

/-- A path that is not seen: outputs stay but for their gates, the cause is recorded, the terminal is held and the half tested (R170). -/
theorem State.pathFault_spec (s : State) (k : Nat) :
    (∀ j, ((s.pathFault k).termOf j).out.kept = (s.termOf j).out.kept) ∧
    (∃ r ∈ ((s.pathFault k).chipOf (tChip k)).diag, r.cause = 0x84 ∨ r.cause = 0x85) ∧
    bit ((s.pathFault k).lanesOf (tChip k)).latHold (tLocal k) = true ∧
    (s.isRetired (nChip (tChip k)) tcHalf = false → (s.tests.find (nChip (tChip k)) tcHalf).isSome = false →
      ((s.pathFault k).tests.find (nChip (tChip k)) tcHalf).isSome = true) := by
  obtain ⟨x, hx⟩ : ∃ x : State, x = s.pathHeld k := ⟨_, rfl⟩
  have hterm : x.term = s.term := by rw [hx]; rfl
  have htests : x.tests = s.tests := by rw [hx]; rfl
  have hret : x.isRetired (nChip (tChip k)) tcHalf = s.isRetired (nChip (tChip k)) tcHalf := by
    rw [hx]; exact State.retired_congr rfl rfl rfl _ _
  have hdiag := s.pathHeld_diag k
  have hhold := s.pathHeld_latHold k
  have found {y : State} (hy : x.Halving y) (hl : (y.lanesOf (tChip k)).latHold = (x.lanesOf (tChip k)).latHold) :
      (∀ j, (y.termOf j).out.kept = (s.termOf j).out.kept) ∧ (∃ r ∈ (y.chipOf (tChip k)).diag, r.cause = 0x84 ∨ r.cause = 0x85) ∧
        bit (y.lanesOf (tChip k)).latHold (tLocal k) = true :=
    ⟨fun j => (hy.kept j).trans (by rw [State.termOf, hterm]; rfl), by rw [hy.diag, hx]; exact hdiag, by rw [hl, hx]; exact hhold⟩
  rw [State.pathFault_eq, ← hx]
  split
  · next h =>
    have hseen : x.halfSeen (tChip k) (tLocal k) false = x.halfDone (tChip k) false :=
      (if_neg (by rw [Option.isNone_iff_eq_none]; exact fun hn => by simp [hn] at h)).trans (if_pos rfl)
    obtain ⟨h1, h2, h3⟩ := found (x.halving_halfSeen (tChip k) (tLocal k) false) (by rw [hseen]; exact x.latHold_halfDone_false _ h)
    exact ⟨h1, h2, h3, fun _ hn => absurd (htests ▸ h) (by rw [hn]; decide)⟩
  · obtain ⟨hkeep, hl, htest⟩ := x.startHalf_spec (tChip k)
    obtain ⟨h1, h2, h3⟩ := found hkeep hl
    exact ⟨h1, h2, h3, fun hr _ => htest (hret.trans hr)⟩

theorem isDO_ne_mOFF {m : Nat} (h : isDO m = true) : m ≠ mOFF := by
  rintro rfl
  exact absurd h (by decide)

/-- What a dark pulse that begins at an output brings, whatever its test finds. -/
theorem State.pulse_begun {s y : State} {k : Nat} {partialP : Bool}
    (hy : (y.termOf k).out.kept = ((s.updTerm k (Terminal.pulses s.clock.count partialP)).termOf k).out.kept) :
    (y.settle.termOf k).out.dark = true ∧ (y.settle.termOf k).out.pulseAt = s.clock.count ∧ (y.settle.termOf k).out.partialP = partialP ∧
      y.settle.gatesSafe ∧ (k ∈ y.settle.outTerms → (y.settle.termOf k).out.gate = false) := by
  rw [State.termOf_updTerm_self] at hy
  have hkept := (y.kept_settle k).trans hy
  exact ⟨(congrArg Out.dark hkept :), (congrArg Out.pulseAt hkept :), (congrArg Out.partialP hkept :), State.settle_gatesSafe y,
    State.gate_of_dark (congrArg Out.dark hy :)⟩

section
variable {s : State} {k : TermIx} (hm : isDO (s.mode (tChan k.val)) = true)
include hm

theorem darkPulseStart_on (hat : s.clock.count ≥ (s.termOf k.val).out.nextAt) (hgate : (s.termOf k.val).out.gate = true)
    (hfree : s.wouldOverlap k.val = false) (notRun : Bool) :
    (∃ t, exec (.darkPulseStart k ⟨true, notRun⟩) s = .next t ∧ (t.termOf k.val).out.dark = true ∧ t.gatesSafe ∧
      (∃ r ∈ (t.chipOf (tChip k.val)).diag, r.cause = 0x84 ∨ r.cause = 0x85) ∧
      bit (t.lanesOf (tChip k.val)).latHold (tLocal k.val) = true ∧
      (s.isRetired (nChip (tChip k.val)) tcHalf = false → (s.tests.find (nChip (tChip k.val)) tcHalf).isSome = false →
        (t.tests.find (nChip (tChip k.val)) tcHalf).isSome = true)) ∧
    ∃ t, exec (.darkPulseStart k ⟨false, notRun⟩) s = .next t ∧ (t.termOf k.val).out.dark = true ∧
      (t.termOf k.val).out.pulseAt = s.clock.count ∧ (t.termOf k.val).out.partialP = notRun ∧ t.gatesSafe ∧
      (k.val ∈ t.outTerms → (t.termOf k.val).out.gate = false) := by
  obtain ⟨x, hx⟩ : ∃ x : State, x = s.updTerm k.val (Terminal.pulses s.clock.count notRun) := ⟨_, rfl⟩
  have hdue : ¬ ((!isDO (s.mode (tChan k.val))) = true ∨ s.clock.count < (s.termOf k.val).out.nextAt) := by
    rw [hm]; exact fun h => h.elim (absurd · (by decide)) (Nat.not_lt.mpr hat)
  have hno : ¬ ((s.termOf k.val).out.gate = true ∧ s.wouldOverlap k.val = true) := by rw [hfree]; exact fun h => Bool.noConfusion h.2
  have he (notSeen : Bool) : exec (.darkPulseStart k ⟨notSeen, notRun⟩) s =
      settled (if notSeen then x.pathFault k.val else if notRun then x else x.halfSeen (tChip k.val) (tLocal k.val) true) := by
    rw [hx]; exact (if_neg hdue).trans ((if_neg hno).trans (if_pos hgate))
  refine ⟨?_, ?_⟩
  · obtain ⟨hkept, hdiag, hhold, htest⟩ := x.pathFault_spec k.val
    obtain ⟨hdark, -, -, hsafe, -⟩ := State.pulse_begun ((hkept k.val).trans (by rw [hx]))
    have hret : x.isRetired (nChip (tChip k.val)) tcHalf = s.isRetired (nChip (tChip k.val)) tcHalf := by
      rw [hx]; exact State.retired_congr rfl rfl rfl _ _
    have htests : x.tests = s.tests := by rw [hx]; rfl
    exact ⟨_, he true, hdark, hsafe, hdiag, hhold, fun hr hf => htest (hret.trans hr) (htests ▸ hf)⟩
  · have hkept : ((if notRun then x else x.halfSeen (tChip k.val) (tLocal k.val) true).termOf k.val).out.kept = (x.termOf k.val).out.kept := by
      split
      · rfl
      · exact (x.halving_halfSeen _ _ true).kept k.val
    exact ⟨_, he false, State.pulse_begun (hkept.trans (by rw [hx]))⟩

theorem darkPulseStart_off (hat : s.clock.count ≥ (s.termOf k.val).out.nextAt) (hgate : (s.termOf k.val).out.gate = false) (test : DarkTest)
    (hle : fld (s.tout k.val) 20 11 * 1000 ≤ fld (s.tout k.val) 10 1 * 1000) :
    ∃ t, exec (.darkPulseStart k test) s = .next t ∧ (t.termOf k.val).out.dark = (s.termOf k.val).out.dark ∧
      s.clock.count + fld (s.tout k.val) 20 11 * 1000 ≤ (t.termOf k.val).out.nextAt ∧
      (t.termOf k.val).out.nextAt ≤ s.clock.count + fld (s.tout k.val) 10 1 * 1000 ∧
      t = { s with term := t.term, free := s.free + 1 } := by
  obtain ⟨n, hdraw, hn⟩ := s.drawPulse_spec k.val s.clock.count
  obtain ⟨x, hx⟩ : ∃ x : State, x = (s.updTerm k.val (Terminal.nextPulse n)).drawn := ⟨_, rfl⟩
  have hdue : ¬ ((!isDO (s.mode (tChan k.val))) = true ∨ s.clock.count < (s.termOf k.val).out.nextAt) := by
    rw [hm]; exact fun h => h.elim (absurd · (by decide)) (Nat.not_lt.mpr hat)
  have hoff : ¬ (s.termOf k.val).out.gate = true := by rw [hgate]; decide
  have he : exec (.darkPulseStart k test) s = .next x.settle := by
    rw [hx, ← hdraw]
    exact (if_neg hdue).trans ((if_neg fun h => hoff h.1).trans (if_neg hoff))
  have hkept := x.kept_settle k.val
  have hself : (x.termOf k.val).out = ((s.termOf k.val).nextPulse n).out := by
    rw [hx]; exact congrArg Terminal.out (s.termOf_updTerm_self k.val _)
  rw [hself] at hkept
  have hnext : (x.settle.termOf k.val).out.nextAt = n := (congrArg Out.nextAt hkept :)
  exact ⟨_, he, (congrArg Out.dark hkept :), hnext ▸ (hn hle).1, hnext ▸ (hn hle).2, by rw [hx]; rfl⟩

end

/-- A terminal whose line has been measured. -/
def Terminal.measured (raw : Bool) (x : Terminal) : Terminal := { x with tstat := { x.tstat with raw := raw } }

/-- A terminal that the other's fault switches off. -/
def Terminal.switchedOff (x : Terminal) : Terminal := { x with out := { x.out with off := true } }

/-- The line voltage that a dark pulse must bring (R73). -/
def State.darkPasses (s : State) (k mv : Nat) : Prop := if s.lowSide k then 11000 ≤ mv else mv ≤ 5000

/-- What a verdict records before it is judged: the line and the signature. -/
def State.darkMeasured (s : State) (k mv : Nat) : State :=
  (s.updTerm k (Terminal.measured (if s.lowSide k then decide (11000 ≤ mv) else decide (5000 < mv)))).signature k 4 ((s.termOf k).out.pulseAt * 100) 0 0 0

theorem State.darkMeasured_term (s : State) (k mv : Nat) : ∃ raw, (s.darkMeasured k mv).term = (s.updTerm k (Terminal.measured raw)).term := ⟨_, rfl⟩

theorem State.darkMeasured_setup (s : State) (k mv : Nat) : (s.darkMeasured k mv).setup = s.setup :=
  (State.setup_signature _ _ _ _ _ _ _).trans (State.calm_setup (s.calm_updTerm k _))

theorem tOther_ne (k : Nat) : tOther k ≠ k := by unfold tOther; split <;> omega

section
variable {s : State} {k : TermIx} (hm : isDO (s.mode (tChan k.val)) = true) (hd : (s.termOf k.val).out.dark = true)
include hm hd

theorem darkPulseVerdict_pass {mv : Nat} (hp : s.darkPasses k.val mv) (steps : List TermIx) :
    ∃ t, exec (.darkPulseVerdict k mv steps) s = .next t ∧ (t.termOf k.val).tstat.causes = (s.termOf k.val).tstat.causes ∧
      (t.termOf (tOther k.val)).out.off = (s.termOf (tOther k.val)).out.off := by
  have hrun : ¬ ((!isDO (s.mode (tChan k.val))) = true ∨ (!(s.termOf k.val).out.dark) = true) := by rw [hm, hd]; decide
  obtain ⟨raw, hterm⟩ := s.darkMeasured_term k.val mv
  have hof (j : Nat) : (s.darkMeasured k.val mv).termOf j = (s.updTerm k.val (Terminal.measured raw)).termOf j := by rw [State.termOf, hterm]; rfl
  refine ⟨(s.darkMeasured k.val mv).settle, (if_neg hrun).trans (if_pos hp), ?_, ?_⟩
  · rw [State.settle_tstat, hof, State.termOf_updTerm_self]; rfl
  · rw [State.settle_outOff, hof, s.termOf_updTerm_other (tOther_ne _)]

theorem darkPulseVerdict_fail {mv : Nat} (hp : ¬ s.darkPasses k.val mv) :
    (∃ t, exec (.darkPulseVerdict k mv []) s = .next t ∧ t.hasCause k.val 6 = true ∧ (t.termOf (tOther k.val)).out.off = true ∧ t.offAt k.val) ∧
      ∀ u : TermIx, ∃ t, exec (.darkPulseVerdict k mv [u]) s = .next t ∧ t.hasCause k.val 3 = true ∧ (t.termOf (tOther k.val)).out.off = true := by
  have hrun : ¬ ((!isDO (s.mode (tChan k.val))) = true ∨ (!(s.termOf k.val).out.dark) = true) := by rw [hm, hd]; decide
  obtain ⟨x, hx⟩ : ∃ x : State, x = (s.darkMeasured k.val mv).updTerm (tOther k.val) Terminal.switchedOff := ⟨_, rfl⟩
  have hmode : x.mode (tChan k.val) ≠ mOFF := by
    have hset : x.setup = s.setup := by rw [hx]; exact (State.calm_setup (State.calm_updTerm _ _ _)).trans (s.darkMeasured_setup k.val mv)
    rw [State.setup_mode hset]
    exact isDO_ne_mOFF hm
  have hoff {y : State} (hy : x.Causing y) : (y.settle.termOf (tOther k.val)).out.off = true := by
    rw [State.settle_outOff, hy.out, hx, State.termOf_updTerm_self]; rfl
  refine ⟨⟨(x.raiseFront k.val 6).settle, ?_, (State.hasCause_settle _ _ _).trans (x.hasCause_raiseFront_self hmode (by decide)),
    hoff ((State.Causing.refl x).raiseFront _ 6), State.offAt_raiseFront hmode (by decide) (by decide)⟩,
    fun u => ⟨(x.raiseCauseD k.val 3 u.val).settle, ?_, (State.hasCause_settle _ _ _).trans (x.hasCause_raiseCauseD_self hmode (by decide) u.val),
    hoff ((State.Causing.refl x).raiseCauseD _ _ _)⟩⟩
  · rw [hx]; exact (if_neg hrun).trans (if_neg hp)
  · rw [hx]; exact (if_neg hrun).trans (if_neg hp)

/-- A terminal whose dark pulse has ended; incomplete pulses in a row are counted. -/
def Terminal.pulseEnds (n : Nat) (x : Terminal) : Terminal := { x with out := { x.out with dark := false, partialP := false, incomplete := n } }

theorem darkPulseEnd_spec (hle : fld (s.tout k.val) 20 11 * 1000 ≤ fld (s.tout k.val) 10 1 * 1000) :
    ∃ t, exec (.darkPulseEnd k) s = .next t ∧ (t.termOf k.val).out.dark = false ∧ t.gatesSafe ∧
      (t.termOf k.val).out.incomplete = (if (s.termOf k.val).out.partialP then (s.termOf k.val).out.incomplete + 1 else 0) ∧
      (s.termOf k.val).out.pulseAt + fld (s.tout k.val) 20 11 * 1000 ≤ (t.termOf k.val).out.nextAt ∧
      (t.termOf k.val).out.nextAt ≤ (s.termOf k.val).out.pulseAt + fld (s.tout k.val) 10 1 * 1000 := by
  have hrun : ¬ ((!(s.termOf k.val).out.dark) = true ∨ (!isDO (s.mode (tChan k.val))) = true) := by rw [hm, hd]; decide
  obtain ⟨n, hn⟩ : ∃ n : Nat, n = (if (s.termOf k.val).out.partialP then (s.termOf k.val).out.incomplete + 1 else 0) := ⟨_, rfl⟩
  obtain ⟨x, hx⟩ : ∃ x : State, x = s.updTerm k.val (Terminal.pulseEnds n) := ⟨_, rfl⟩
  obtain ⟨y, hy⟩ : ∃ y : State, y = if n ≠ 0 ∧ n % 16 = 0 then x.post 0x01A2 (nChip (tChip k.val)) 1 (tLocal k.val) else x := ⟨_, rfl⟩
  have he : exec (.darkPulseEnd k) s = .next (y.drawPulse k.val (s.termOf k.val).out.pulseAt).settle := by
    rw [hy, hx, hn]; exact if_neg hrun
  have hcause : x.Causing y := by rw [hy]; exact ((State.Causing.refl x).post _ _ _ _).ite (.refl x)
  have htout : y.tout k.val = s.tout k.val :=
    State.setup_tout ((State.calm_setup hcause.calm).trans (by rw [hx]; rfl)) _
  obtain ⟨d, hdraw, hrange⟩ := y.drawPulse_spec k.val (s.termOf k.val).out.pulseAt
  rw [htout] at hrange
  obtain ⟨hlo, hhi⟩ := hrange hle
  have hself : ((y.drawPulse k.val (s.termOf k.val).out.pulseAt).termOf k.val).out = (((s.termOf k.val).pulseEnds n).nextPulse d).out := by
    rw [hdraw]
    refine (congrArg Terminal.out (y.termOf_updTerm_self k.val (Terminal.nextPulse d)) :).trans ?_
    have hout : (y.termOf k.val).out = ((s.termOf k.val).pulseEnds n).out := by rw [hcause.out, hx, State.termOf_updTerm_self]
    rw [Terminal.nextPulse, hout]; rfl
  have hkept := State.kept_settle (y.drawPulse k.val (s.termOf k.val).out.pulseAt) k.val
  rw [hself] at hkept
  have hnext : ((y.drawPulse k.val (s.termOf k.val).out.pulseAt).settle.termOf k.val).out.nextAt = d := (congrArg Out.nextAt hkept :)
  exact ⟨_, he, (congrArg Out.dark hkept :), State.settle_gatesSafe _, (congrArg Out.incomplete hkept :).trans hn, hnext ▸ hlo, hnext ▸ hhi⟩

end

/-! #### The obligation -/

/-- Outside their modes and moments the output checks change nothing but gates. -/
theorem outputIdle_spec (s : State) (k : TermIx) (m : Option TermIx) (hi ov : Bool) (on : List TermIx) (rl : List (TermIx × Nat)) (mv : Nat)
    (pass : Bool) (test : DarkTest) :
    ∀ row ∈ ([(.crossShortIdentified k m, s.mode (tChan k.val) ≠ mTS),
        (.tsPulseStart k, s.mode (tChan k.val) ≠ mTS || !s.tsDue k.val || s.chipDark k.val),
        (.tsPulseCheck k hi ov on rl, s.mode (tChan k.val) ≠ mTS), (.outputCurrentLimit k, !(s.termOf k.val).out.gate),
        (.outputVoltageCheck k pass, pass || !s.checkDue k.val),
        (.darkPulseStart k test, !isDO (s.mode (tChan k.val)) || s.clock.count < (s.termOf k.val).out.nextAt ||
          ((s.termOf k.val).out.gate && s.wouldOverlap k.val)),
        (.darkPulseVerdict k mv on, !isDO (s.mode (tChan k.val)) || !(s.termOf k.val).out.dark),
        (.darkPulseEnd k, !isDO (s.mode (tChan k.val)) || !(s.termOf k.val).out.dark)] : List (Instr × Bool)),
      row.2 = true → ∃ t, exec row.1 s = .next t ∧ s.outsOnly t ∧ t.gatesSafe ∧ t = { s with term := t.term } := by
  have hidle {i : Instr} (h : exec i s = settled s) : ∃ t, exec i s = .next t ∧ s.outsOnly t ∧ t.gatesSafe ∧ t = { s with term := t.term } :=
    ⟨_, h, s.outsOnly_settle, s.settle_gatesSafe, rfl⟩
  simp only [List.forall_mem_cons, List.not_mem_nil, false_imp_iff, implies_true, and_true, Bool.or_eq_true, decide_eq_true_eq, Bool.and_eq_true]
  refine ⟨fun h => hidle (if_pos h), fun h => hidle (if_pos ?_), fun h => hidle (if_pos h), fun h => hidle (if_neg ?_), fun h => hidle (if_neg ?_),
    fun h => hidle ?_, fun h => hidle (if_pos h), fun h => hidle (if_pos h.symm)⟩
  · exact or_assoc.mp h
  · rw [Bool.not_eq_true'] at h
    rw [h]; decide
  · rintro ⟨hdue, hfail⟩
    simp [hdue] at h
    simp [h] at hfail
  · by_cases hdue : (!isDO (s.mode (tChan k.val))) = true ∨ s.clock.count < (s.termOf k.val).out.nextAt
    · exact if_pos hdue
    · exact (if_neg hdue).trans (if_pos (h.resolve_left hdue))

/-- Settles O22: each row by the terminal update that it makes and the causes that follow, and the draw of the next pulse by its bounds. -/
theorem outputChecks : Obligations.OutputChecks := by
  unfold Obligations.OutputChecks
  intro s k
  refine ⟨fun hm => ⟨tsPulseStart_spec hm, tsPulseCheck_high hm, tsPulseCheck_overload hm, tsPulseCheck_staysOn hm, tsPulseCheck_pass hm⟩,
    crossShort_spec, outputIdle_spec s k, outputFault_spec s k, fun hm => ⟨darkPulseStart_on hm, darkPulseStart_off hm,
      fun hd => ⟨fun mv hp => darkPulseVerdict_pass hm hd hp, fun mv hp => darkPulseVerdict_fail hm hd hp, darkPulseEnd_spec hm hd⟩⟩⟩

end Sys2Proof.Machine

namespace Sys2Proof.Machine

/-! ### Commands to a field chip (R86, R93, R94) -/

/-! #### What the signals rest on (R158–R164) -/

/-- The words and marks of a field chip that its signals and targets read. -/
def Chip.reads (x : Chip) : Bool × Tab Word × Option (Tab Word) × BitVec 32 × BitVec 2 :=
  (x.linked, x.active, x.oldTerms, x.badTargets, x.badExports)

/-- t drives and reads what s does. -/
structure State.SameSignals (s t : State) : Prop where
  term  : t.term = s.term
  lanes : t.lanes = s.lanes
  half  : t.half = s.half
  enc   : t.enc = s.enc
  chan  : t.chan = s.chan
  dev   : t.dev = s.dev
  pkg   : t.pkg = s.pkg
  chip  : ∀ j, (t.chipOf j).reads = (s.chipOf j).reads

section
variable {s t : State} (h : s.SameSignals t)
include h

theorem State.SameSignals.setup : t.setup = s.setup := by
  have hb : (fun i => ((t.chipOf i).linked, (t.chipOf i).active)) = fun i => ((s.chipOf i).linked, (s.chipOf i).active) :=
    funext fun i => congrArg (fun x : Bool × Tab Word × Option (Tab Word) × BitVec 32 × BitVec 2 => (x.1, x.2.1)) (h.chip i)
  rw [State.setup, State.setup, h.dev, h.pkg, hb]
  exact congrArg (fun c : Tab Channel => Setup.mk s.dev.loaded s.pkg (fun o => (Tab.get ({} : Channel) c o).offLeft) _) h.chan

theorem State.SameSignals.termOf (k : Nat) : t.termOf k = s.termOf k := by rw [State.termOf, h.term]; rfl
theorem State.SameSignals.lanesOf (i : Nat) : t.lanesOf i = s.lanesOf i := by rw [State.lanesOf, h.lanes]; rfl
theorem State.SameSignals.halfOf (d : Side) : t.halfOf d = s.halfOf d := by rw [State.halfOf, h.half]; rfl
theorem State.SameSignals.encOf (i : Nat) : t.encOf i = s.encOf i := by rw [State.encOf, h.enc]; rfl
theorem State.SameSignals.active (i : Nat) : (t.chipOf i).active = (s.chipOf i).active := (congrArg (fun x => x.2.1) (h.chip i) :)
theorem State.SameSignals.oldTerms (i : Nat) : (t.chipOf i).oldTerms = (s.chipOf i).oldTerms := (congrArg (fun x => x.2.2.1) (h.chip i) :)
theorem State.SameSignals.badTargets (i : Nat) : (t.chipOf i).badTargets = (s.chipOf i).badTargets := (congrArg (fun x => x.2.2.2.1) (h.chip i) :)
theorem State.SameSignals.badExports (i : Nat) : (t.chipOf i).badExports = (s.chipOf i).badExports := (congrArg (fun x => x.2.2.2.2) (h.chip i) :)
theorem State.SameSignals.cw (a b c : Nat) : t.cw a b c = s.cw a b c := by rw [State.cw, State.cw, h.dev, h.pkg]
theorem State.SameSignals.mode (c : Nat) : t.mode c = s.mode c := State.setup_mode h.setup c

theorem State.SameSignals.atDemand (k : Nat) : t.atDemand k = s.atDemand k := by
  rw [State.atDemand, State.atDemand, State.qualOf, State.qualOf, h.termOf, h.mode, State.setup_demVal h.setup]

theorem State.SameSignals.fsafe (k : Nat) : t.fsafe k = s.fsafe k := by
  rw [State.fsafe, State.fsafe, h.termOf, h.mode, h.lanesOf]

theorem State.SameSignals.ownSig (i : Nat) : t.ownSig i = s.ownSig i := by
  funext n
  simp only [State.ownSig, h.mode, h.atDemand, h.fsafe, h.termOf, h.lanesOf]

theorem State.SameSignals.tripUp (i k : Nat) : t.tripUp i k = s.tripUp i k := by
  rw [State.tripUp, State.tripUp, h.ownSig, h.lanesOf, h.active, h.badExports]

theorem State.SameSignals.sideSig (d : Side) : t.sideSig d = s.sideSig d := by
  funext n
  simp only [State.sideSig, h.tripUp, h.halfOf, h.encOf]

theorem State.SameSignals.group (d : Side) (g : Nat) : t.group d g = s.group d g := by
  have htrue (w : Nat → Word) : t.groupTrue d w = s.groupTrue d w := by rw [State.groupTrue, State.groupTrue, h.sideSig]
  have hcw : t.cw = s.cw := funext fun a => funext fun b => funext fun c => h.cw a b c
  rw [State.group, State.group, h.halfOf, h.dev, hcw, htrue]
  simp only [htrue]

theorem State.SameSignals.chipSig (i : Nat) : t.chipSig i = s.chipSig i := by
  funext n
  simp only [State.chipSig, State.tripDown, State.holdTrip, h.group, h.ownSig, h.lanesOf, h.dev]

theorem State.SameSignals.target (i tg : Nat) : t.target i tg = s.target i tg := by
  simp only [State.target, h.chipSig, h.active, h.oldTerms, h.badTargets]

theorem State.SameSignals.laneStopped (i item : Nat) : t.laneStopped i item = s.laneStopped i item := by
  simp only [State.laneStopped, State.pairLow, State.tripDown, h.target, h.tripUp, h.lanesOf, h.group]

end

/-! #### A command that a field chip takes (R86, R94) -/

/-- What a side's send leaves: its books alone. -/
theorem State.books_sendReq (s : State) (i type payload : Nat) : s.Books (s.sendReq i type payload) := by
  have hview (x : State) (f : View → View) : x.Books (x.updView i f) := ⟨rfl, fun _ he => he⟩
  have hgive : s.Books (s.giveUp i) := by
    unfold State.giveUp
    split
    · exact (hview s _).startTest (nBarrier_releasesNothing i) tcBarrier
    · exact .refl s
  unfold State.sendReq
  dsimp only
  split
  · exact hgive.trans (hview _ _)
  · exact hview s _

/-- A side with no answer outstanding sends: its view alone changes. -/
theorem State.sendReq_quiet {s : State} {i : Nat} (h : (s.viewOf i).awaiting = false) (type payload : Nat) :
    s.sendReq i type payload = { s with view := (s.sendReq i type payload).view } := by
  unfold State.sendReq
  rw [h]
  rfl

/-- A field chip that answers a. -/
def Chip.answers (a : BitVec 3) (x : Chip) : Chip := { x with ack := a }

/-- Field chip i of s has taken a frame with SEQ seq and answers a; nothing else of a command is done. -/
structure State.Answered (s z : State) (i : Nat) (seq : BitVec 4) (a : BitVec 3) : Prop where
  books : s.Books { z with chip := s.chip }
  self  : z.chipOf i = ((s.chipOf i).accept seq).answers a
  other : ∀ j, j ≠ i → z.chipOf j = s.chipOf j
  quiet : (s.viewOf i).awaiting = false → z = { s with chip := z.chip, view := z.view }

theorem State.answered_of_books {s y : State} {i : Nat} (hb : s.Books y) (hq : (s.viewOf i).awaiting = false → y = { s with view := y.view })
    (seq : BitVec 4) (a : BitVec 3) : s.Answered ((y.updChip i fun x => x.accept seq).updChip i (Chip.answers a)) i seq a := by
  have hchip : y.chip = s.chip := by rw [hb.frame]
  have hof (j : Nat) : y.chipOf j = s.chipOf j := by rw [State.chipOf, hchip]; rfl
  refine ⟨⟨?_, hb.log⟩, ?_, fun j hj => ?_, fun h => ?_⟩
  · rw [hb.frame]; rfl
  · rw [State.chipOf_updChip, if_pos rfl, State.chipOf_updChip, if_pos rfl, hof]
  · rw [State.chipOf_updChip, if_neg hj, State.chipOf_updChip, if_neg hj, hof]
  · rw [hq h]; rfl

section
variable {s z : State} {i : Nat} {seq : BitVec 4} {a : BitVec 3} (h : s.Answered z i seq a)
include h

theorem State.Answered.term : z.term = s.term := (h.books.term :)
theorem State.Answered.lanes : z.lanes = s.lanes := (h.books.lanes :)
theorem State.Answered.clock : z.clock = s.clock := (h.books.clock :)
theorem State.Answered.termOf (k : Nat) : z.termOf k = s.termOf k := by rw [State.termOf, h.term]; rfl
theorem State.Answered.isRetired (n : Node) (cls : Nat) : z.isRetired n cls = s.isRetired n cls :=
  State.retired_congr (h.books.mem :) (congrArg Device.otp h.books.dev :) (congrArg Device.otp1 h.books.dev :) n cls

theorem State.Answered.ack : (z.chipOf i).ack = a := by rw [h.self]; rfl

theorem State.Answered.signals : s.SameSignals z := by
  refine ⟨h.term, h.lanes, (h.books.half :), (congrArg State.enc h.books.frame :), (congrArg State.chan h.books.frame :), (h.books.dev :),
    (h.books.pkg :), fun j => ?_⟩
  by_cases hj : j = i
  · rw [hj, h.self]; rfl
  · rw [h.other j hj]

end

/-- A valid frame with a sent request before it is valid as it was. -/
theorem State.l2fOk_sendReq (s : State) (i type payload t : Nat) (h : L2FHdr) (n : Nat) (b : Bool) :
    (s.sendReq i type payload).l2fOk i t h n b = s.l2fOk i t h n b := by
  have hb := s.books_sendReq i type payload
  have hchip : (s.sendReq i type payload).chipOf i = s.chipOf i := by rw [State.chipOf, hb.frame]; rfl
  rw [State.l2fOk, State.l2fOk, hb.clock, hchip]

/-- A valid COMMAND frame (R93, R94): its answer, and its effect when it is accepted. -/
theorem State.commandFrame_valid {s : State} {i cmd : Nat} {h : L2FHdr} {p : CmdPayload} (hok : p.rsv = 0 ∧ s.l2fOk i 5 h (cmdNum p cmd) true = true)
    {formOk : Bool} (hform : formOk = true) {answer a : BitVec 3} (ha : answer = a) (f : State → State) :
    ∃ z, s.Answered z i h.seq a ∧ s.commandFrame i cmd h p formOk answer f = if a = 1 then f z else z := by
  obtain ⟨hrsv, hok⟩ := hok
  refine ⟨_, State.answered_of_books (s.books_sendReq i 5 (cmdNum p cmd)) (fun hq => State.sendReq_quiet hq 5 _) h.seq a, ?_⟩
  have hpay : (formOk && decide (p.rsv = 0)) = true := by rw [hform, hrsv]; rfl
  subst ha
  unfold State.commandFrame State.l2f
  rw [hpay, State.l2fOk_sendReq, if_pos hok]
  rfl

/-! #### What commands leave of the chip that answers them -/

theorem Chip.ack_of_bare {x y : Chip} (h : y.bare = x.bare) : y.ack = x.ack := (congrArg Chip.ack h :)

theorem State.ack_updChip (s : State) (i : Nat) {f : Chip → Chip} (hf : ∀ x, (f x).ack = x.ack) (j : Nat) : ((s.updChip i f).chipOf j).ack = (s.chipOf j).ack :=
  Tab.read_upd ({} : Chip) s.chip i f Chip.ack (hf _) j

theorem State.Causing.ack {s t : State} (h : s.Causing t) (i : Nat) : (t.chipOf i).ack = (s.chipOf i).ack := Chip.ack_of_bare (State.calm_chip h.calm i)

/-- A terminal whose calibration is to end. -/
def Terminal.calStops (x : Terminal) : Terminal := { x with ana := { x.ana with cal := none, calDone := x.ana.calRun, calTag := none } }

/-- The end of a calibration, but for its reply. -/
theorem State.books_calEnd (s : State) (k status : Nat) : (s.updTerm k Terminal.calStops).Books (s.calEnd k status) := by
  have hreply := (State.Books.refl (s.updTerm k Terminal.calStops)).finalReply
  unfold State.calEnd
  dsimp only
  split
  · exact .refl _
  · exact hreply _ _ _ _ _ _

theorem State.calEnd_term (s : State) (k status : Nat) : (s.calEnd k status).term = (s.updTerm k Terminal.calStops).term :=
  (s.books_calEnd k status).term

/-- A calibration that ends leaves the field chips. -/
theorem State.calAbort_chip (s : State) (k : Nat) : (s.calAbort k).chip = s.chip := by
  unfold State.calAbort
  split
  · exact (congrArg (fun x => x.2.1) (s.books_calEnd k s.freeStatus).fieldSide :)
  · rfl

/-- An aborted calibration does not start, and one that runs is ending (R132). -/
theorem State.calAbort_ends (s : State) (k : Nat) :
    ((s.calAbort k).termOf k).ana.cal = none ∧ (((s.calAbort k).termOf k).ana.calRun = true → ((s.calAbort k).termOf k).ana.calDone = true) := by
  unfold State.calAbort
  split
  · have hself : ((s.calEnd k s.freeStatus).drawn.termOf k) = (s.termOf k).calStops := by
      refine (congrArg (fun x : Tab Terminal => Tab.get ({} : Terminal) x k) (s.calEnd_term k s.freeStatus) :).trans ?_
      exact s.termOf_updTerm_self k Terminal.calStops
    rw [hself]
    exact ⟨rfl, id⟩
  · next h =>
    rw [not_or, not_and] at h
    exact ⟨by simpa using h.1, fun hr => by simpa using h.2 hr⟩

/-! #### A line at rest that fails its test (R173, R176) -/

/-- A cause leaves the other field chips. -/
theorem State.chipOf_raiseCause_other (s : State) {k j : Nat} (h : j ≠ tChip k) (cause : Nat) : (s.raiseCause k cause).chipOf j = s.chipOf j := by
  have hadd (x : State) : (x.diagAdd (tChip k) cause (tLocal k)).chipOf j = x.chipOf j := by rw [State.diagAdd, State.chipOf_updChip, if_neg h]
  unfold State.raiseCause State.raiseCauseD
  dsimp only
  split_ifs
  · rfl
  · exact hadd s
  · rw [State.chipOf, State.calAbort_chip]; exact hadd _
  · exact hadd _

theorem chipOther_ne (i : Nat) : chipOther i ≠ i := by unfold chipOther; split <;> omega

/-- A line that is faulty since now. -/
def Lanes.lineFails (c now : Nat) (l : Lanes) : Lanes :=
  { l with pairCut := setBit l.pairCut c true, pairBad := setBit l.pairBad c true, pairAt := Tab.set 0 l.pairAt c now }

/-- A failing line records cause 0x83, and is bad at the other chip. -/
theorem State.lineFault_spec (s : State) (i : Nat) {c : Nat} (hc : c < 16) :
    let t := (s.chipCause i 0x83 c 1).pairFault (chipOther i) c
    (∃ r ∈ (t.chipOf i).diag, r.cause = 0x83 ∨ r.cause = 0x85) ∧ bit (t.lanesOf (chipOther i)).pairBad c = true := by
  obtain ⟨x, hx⟩ : ∃ x : State, x = (s.chipCause i 0x83 c 1).updLanes (chipOther i) (Lanes.lineFails c s.clock.count) := ⟨_, rfl⟩
  have ht : (s.chipCause i 0x83 c 1).pairFault (chipOther i) c = x.raiseCause (chipTerm (chipOther i) c) 0x12 := by rw [hx]; rfl
  rw [ht]
  refine ⟨?_, ?_⟩
  · rw [State.chipOf_raiseCause_other _ (by rw [tChip_chipTerm _ hc]; exact (chipOther_ne i).symm)]
    have hchip : x.chipOf i = (s.chipOf i).diagAdd 0x83 c s.clock.count := by
      rw [hx]; exact Tab.get_upd_self ({} : Chip) s.chip i fun y => y.diagAdd 0x83 c s.clock.count
    rw [hchip]
    exact Chip.diagAdd_records _ _ _ _
  · have hcause := (State.Causing.refl x).raiseCause (chipTerm (chipOther i) c) 0x12
    have hl : x.lanesOf (chipOther i) = ((s.chipCause i 0x83 c 1).lanesOf (chipOther i)).lineFails c s.clock.count := by
      rw [hx]; exact State.lanesOf_updLanes_self _ _ _
    rw [State.calm_lanesOf hcause.calm, hl]
    exact bit_setBit_self _ hc true

/-! #### A counter fault ends (R473) -/

/-- The release of a chatter force may begin from now. -/
def Terminal.mayQuiet (now : Nat) (x : Terminal) : Terminal := { x with dig := { x.dig with relAt := some now } }

/-- A unit restarts from 0. -/
def Terminal.recounts (x : Terminal) : Terminal :=
  { x with ctr := { x.ctr with value := 0, since := 0, hist := [], stale := false, lastEdge := none, meas := 0, run := true, begun := true } }

/-- The high half of a pair restarts too. -/
def Terminal.recountsHigh (chained : Prop) [Decidable chained] (x : Terminal) : Terminal :=
  if chained then { x with ctr := { x.ctr with value := 0 } } else x

/-- The units of a chip begin their clock anew. -/
def Chip.reclocks (x : Chip) : Chip := { x with clkCnt := [] }

theorem State.counterRelease_eq {s : State} {k : Nat} (h : s.hasCause k 0x10 = true) :
    s.counterRelease k = (((s.updTerm k Terminal.recounts).updTerm (k + 2) (Terminal.recountsHigh (s.kmode (k + 2) = 6))).updChip (tChip k)
      Chip.reclocks).lowerCause k 0x10 := if_pos h

theorem State.counterRelease_none {s : State} {k : Nat} (h : s.hasCause k 0x10 = false) : s.counterRelease k = s :=
  if_neg (by rw [State.hasCause] at h; rw [h]; decide)

theorem State.counterRelease_spec (s : State) (k : Nat) :
    (∀ j, ((s.counterRelease k).chipOf j).ack = (s.chipOf j).ack) ∧ ((s.counterRelease k).termOf k).dig = (s.termOf k).dig ∧
      (s.hasCause k 0x10 = true → (s.counterRelease k).hasCause k 0x10 = false ∧ ((s.counterRelease k).termOf k).ctr.value = 0) := by
  cases h : s.hasCause k 0x10
  · rw [State.counterRelease_none h]
    exact ⟨fun _ => rfl, rfl, fun hf => Bool.noConfusion hf⟩
  · obtain ⟨x, hx⟩ : ∃ x : State, x = ((s.updTerm k Terminal.recounts).updTerm (k + 2) (Terminal.recountsHigh (s.kmode (k + 2) = 6))).updChip (tChip k)
      Chip.reclocks := ⟨_, rfl⟩
    have hself : x.termOf k = (s.termOf k).recounts := by
      rw [hx]
      exact (State.termOf_updTerm_other _ (by omega : k ≠ k + 2) _).trans (s.termOf_updTerm_self k _)
    have hack (j : Nat) : (x.chipOf j).ack = (s.chipOf j).ack := by
      rw [hx]; exact State.ack_updChip _ _ (f := Chip.reclocks) (fun _ => rfl) j
    have hlow := (State.Causing.refl x).lowerCause k 0x10
    rw [State.counterRelease_eq h, ← hx]
    refine ⟨fun j => (hlow.ack j).trans (hack j), ?_, fun _ => ⟨?_, ?_⟩⟩
    · rw [hlow.dig, hself]; rfl
    · rw [State.hasCause_lowerCause _ _ _ _ (by decide)]; simp
    · rw [hlow.ctr, hself]; rfl

/-! #### Each command, accepted -/

/-- A row that is a COMMAND frame, accepted: it is answered 1, and takes effect. -/
theorem State.commandAccepted {s : State} {ins : Instr} {i cmd : Nat} {h : L2FHdr} {p : CmdPayload} {formOk : Bool} {answer : BitVec 3} {f : State → State}
    (hex : exec ins s = settled (s.commandFrame i cmd h p formOk answer f)) (hok : p.rsv = 0 ∧ s.l2fOk i 5 h (cmdNum p cmd) true = true)
    (hform : formOk = true) (ha : answer = 1) : ∃ z, s.Answered z i h.seq 1 ∧ exec ins s = .next (f z).settle := by
  obtain ⟨z, hz, he⟩ := State.commandFrame_valid hok hform ha f
  exact ⟨z, hz, by rw [hex, he]; rfl⟩

theorem cmdLocal_of_arg {p : CmdPayload} {c : LocalIx} (h : p.arg.toNat = c.val) : cmdLocal p = c.val ∧ fld p.arg 7 4 = 0 := by
  unfold cmdLocal fld
  rw [h]
  omega

/-- The low bit of an ARG of one bit. -/
theorem argBit {p : CmdPayload} (h : p.arg.toNat ≤ 1) : fld p.arg 7 1 = 0 ∧ fld p.arg 0 0 = p.arg.toNat := by
  unfold fld
  omega

section
variable {s : State} {i : ChipIx} {h : L2FHdr} {p : CmdPayload} {c : LocalIx}

/-- A sentinel's direction waits for the commit of a frame. -/
def Terminal.arms (frame : BitVec 16) (dir : Nat) (x : Terminal) : Terminal := { x with ctr := { x.ctr with armPend := some (frame, BitVec.ofNat 2 dir) } }

theorem sentArm_accepted {dir : Nat} (hdir : dir ≤ 2) (harg : p.arg.toNat = 16 * dir + c.val) (hk : s.kmode (chipTerm i.val c.val) = 4)
    (hsent : dir = 0 ∨ fld (s.kcfg (chipTerm i.val c.val)) 65 64 / dir % 2 = 1) (hok : p.rsv = 0 ∧ s.l2fOk i.val 5 h (cmdNum p 2) true = true) :
    ∃ t, exec (.sentArm i h p) s = .next t ∧ (t.chipOf i.val).ack = 1 ∧
      (t.termOf (chipTerm i.val c.val)).ctr.armPend = some (p.frameNo, BitVec.ofNat 2 dir) ∧ t.gatesSafe := by
  have hloc : cmdLocal p = c.val := by unfold cmdLocal fld; rw [harg]; omega
  have hd : fld p.arg 5 4 = dir := by unfold fld; rw [harg]; omega
  have h0 : fld p.arg 7 6 = 0 := by unfold fld; rw [harg]; omega
  obtain ⟨z, hz, he⟩ := State.commandAccepted (ins := .sentArm i h p) (i := i.val) (cmd := 2) rfl hok (by rw [hd]; exact decide_eq_true (by omega))
    (by rw [hloc, hd, h0, hk]; simpa using or_iff_not_imp_left.mp hsent)
  obtain ⟨x, hx⟩ : ∃ x : State, x = z.updTerm (chipTerm i.val c.val) (Terminal.arms p.frameNo dir) := ⟨_, rfl⟩
  have he' : exec (.sentArm i h p) s = .next x.settle := by rw [he, hx, hloc, hd]; rfl
  refine ⟨_, he', ?_, ?_, State.settle_gatesSafe x⟩
  · rw [State.chipOf_settle, hx]; exact hz.ack
  · rw [State.settle_ctr, hx, State.termOf_updTerm_self]; rfl

/-- A calibration waits for the commit of a frame. -/
def Terminal.calStarts (frame : BitVec 16) (x : Terminal) : Terminal := { x with ana := { x.ana with cal := some frame } }

theorem calStart_accepted (harg : p.arg.toNat = c.val) (hfree : s.termBusy (chipTerm i.val c.val) = false)
    (hok : p.rsv = 0 ∧ s.l2fOk i.val 5 h (cmdNum p 3) true = true) :
    ∃ t, exec (.calStart i h p) s = .next t ∧ (t.chipOf i.val).ack = 1 ∧ (t.termOf (chipTerm i.val c.val)).ana.cal = some p.frameNo := by
  obtain ⟨hloc, h0⟩ := cmdLocal_of_arg harg
  obtain ⟨z, hz, he⟩ := State.commandAccepted (ins := .calStart i h p) (i := i.val) (cmd := 3) rfl hok rfl (by rw [hloc, h0, hfree]; rfl)
  obtain ⟨x, hx⟩ : ∃ x : State, x = z.updTerm (chipTerm i.val c.val) (Terminal.calStarts p.frameNo) := ⟨_, rfl⟩
  have he' : exec (.calStart i h p) s = .next x.settle := by rw [he, hx, hloc]; rfl
  refine ⟨_, he', ?_, ?_⟩
  · rw [State.chipOf_settle, hx]; exact hz.ack
  · rw [State.settle_ana, hx, State.termOf_updTerm_self]; rfl

theorem calAbort_accepted (harg : p.arg.toNat = c.val) (hok : p.rsv = 0 ∧ s.l2fOk i.val 5 h (cmdNum p 4) true = true) :
    ∃ t, exec (.calAbort i h p) s = .next t ∧ (t.chipOf i.val).ack = 1 ∧ (t.termOf (chipTerm i.val c.val)).ana.cal = none ∧
      ((t.termOf (chipTerm i.val c.val)).ana.calRun = true → (t.termOf (chipTerm i.val c.val)).ana.calDone = true) := by
  obtain ⟨hloc, h0⟩ := cmdLocal_of_arg harg
  obtain ⟨z, hz, he⟩ := State.commandAccepted (ins := .calAbort i h p) (i := i.val) (cmd := 4) rfl hok rfl (by rw [h0]; rfl)
  rw [hloc] at he
  refine ⟨_, he, ?_, ?_⟩
  · rw [State.chipOf_settle, State.chipOf, State.calAbort_chip]; exact hz.ack
  · rw [State.settle_ana]; exact z.calAbort_ends _

/-- A chip whose injection test of a channel runs. -/
def Chip.injects (c : Nat) (x : Chip) : Chip := { x with injTest := setBit x.injTest c true }

theorem inject_accepted (harg : p.arg.toNat = c.val) (hinj : bit (s.chipOf i.val).injTest c.val = false)
    (hcal : (s.termOf (chipTerm i.val c.val)).ana.calRun = false) (hok : p.rsv = 0 ∧ s.l2fOk i.val 5 h (cmdNum p 5) true = true) :
    ∃ t, exec (.inject i h p) s = .next t ∧ (t.chipOf i.val).ack = 1 ∧ bit (t.chipOf i.val).injTest c.val = true := by
  obtain ⟨hloc, h0⟩ := cmdLocal_of_arg harg
  obtain ⟨z, hz, he⟩ := State.commandAccepted (ins := .inject i h p) (i := i.val) (cmd := 5) rfl hok rfl (by rw [hloc, h0, hinj, hcal]; rfl)
  obtain ⟨x, hx⟩ : ∃ x : State, x = z.updChip i.val (Chip.injects c.val) := ⟨_, rfl⟩
  have he' : exec (.inject i h p) s = .next x.settle := by rw [he, hx, hloc]; rfl
  have hchip : x.chipOf i.val = (z.chipOf i.val).injects c.val := by rw [hx, State.chipOf_updChip, if_pos rfl]
  refine ⟨_, he', ?_, ?_⟩
  · rw [State.chipOf_settle, hchip]; exact hz.ack
  · rw [State.chipOf_settle, hchip]; exact bit_setBit_self _ c.isLt true

/-- A chip whose reference check runs. -/
def Chip.refChecks (n : Nat) (x : Chip) : Chip := { x with refTest := n }

theorem refCheck_accepted (harg : p.arg.toNat ≤ 1) (hfree : ∀ k' ∈ chipTerms i.val, (s.termOf k').ana.calRun = false)
    (hok : p.rsv = 0 ∧ s.l2fOk i.val 5 h (cmdNum p 6) true = true) :
    ∃ t, exec (.refCheck i h p) s = .next t ∧ (t.chipOf i.val).ack = 1 ∧ (t.chipOf i.val).refTest = 1 + p.arg.toNat := by
  obtain ⟨h0, hbit⟩ := argBit harg
  have hnone : ((chipTerms i.val).any fun t => (s.termOf t).ana.calRun) = false := by
    rw [List.any_eq_false]; exact fun k hk => by rw [hfree k hk]; decide
  obtain ⟨z, hz, he⟩ := State.commandAccepted (ins := .refCheck i h p) (i := i.val) (cmd := 6) rfl hok rfl (by rw [h0, hnone]; rfl)
  obtain ⟨x, hx⟩ : ∃ x : State, x = z.updChip i.val (Chip.refChecks (1 + p.arg.toNat)) := ⟨_, rfl⟩
  have he' : exec (.refCheck i h p) s = .next x.settle := by rw [he, hx, hbit]; rfl
  have hchip : x.chipOf i.val = (z.chipOf i.val).refChecks (1 + p.arg.toNat) := by rw [hx, State.chipOf_updChip, if_pos rfl]
  refine ⟨_, he', ?_, ?_⟩
  · rw [State.chipOf_settle, hchip]; exact hz.ack
  · rw [State.chipOf_settle, hchip]; rfl

/-- A chip every target of which is to be tested. -/
def Chip.latTests (x : Chip) : Chip := { x with latTest := true }

theorem latTest_accepted (harg : p.arg = 0) (hok : p.rsv = 0 ∧ s.l2fOk i.val 5 h (cmdNum p 7) true = true) :
    ∃ t, exec (.latTest i h p) s = .next t ∧ (t.chipOf i.val).ack = 1 ∧ (t.chipOf i.val).latTest = true := by
  obtain ⟨z, hz, he⟩ := State.commandAccepted (ins := .latTest i h p) (i := i.val) (cmd := 7) rfl hok rfl (by rw [harg]; rfl)
  have hchip : (z.updChip i.val Chip.latTests).chipOf i.val = (z.chipOf i.val).latTests := by rw [State.chipOf_updChip, if_pos rfl]
  refine ⟨(z.updChip i.val Chip.latTests).settle, he, ?_, ?_⟩
  · rw [State.chipOf_settle, hchip]; exact hz.ack
  · rw [State.chipOf_settle, hchip]; rfl

theorem bankCrc_accepted (harg : p.arg.toNat ≤ 1) (hok : p.rsv = 0 ∧ s.l2fOk i.val 5 h (cmdNum p 9) true = true) :
    ∃ t, exec (.bankCrc i h p) s = .next t ∧ (t.chipOf i.val).ack = 1 ∧ (t.chipOf i.val).crcReply =
      some (bankCrc32 (if p.arg.toNat = 1 then (s.chipOf i.val).shadow else (s.chipOf i.val).active)) := by
  obtain ⟨h0, hbit⟩ := argBit harg
  obtain ⟨z, hz, he⟩ := State.commandAccepted (ins := .bankCrc i h p) (i := i.val) (cmd := 9) rfl hok rfl (by rw [h0]; rfl)
  refine ⟨_, he, ?_, ?_⟩
  · rw [State.chipOf_settle, State.chipOf_updChip, if_pos rfl]; exact hz.ack
  · rw [State.chipOf_settle, State.chipOf_updChip, if_pos rfl, hbit]
    have hview : (z.updView i.val fun v => { v with crcShadow := bit p.arg 0 }).chipOf i.val = z.chipOf i.val := rfl
    rw [hview, hz.self]; rfl

theorem forceRel_accepted (harg : p.arg.toNat = c.val) (hok : p.rsv = 0 ∧ s.l2fOk i.val 5 h (cmdNum p 10) true = true) :
    ∃ t, exec (.forceRel i h p) s = .next t ∧ (t.chipOf i.val).ack = 1 ∧ (t.termOf (chipTerm i.val c.val)).dig.relAt = some s.clock.count ∧
      (s.hasCause (chipTerm i.val c.val) 0x10 = true →
        t.hasCause (chipTerm i.val c.val) 0x10 = false ∧ (t.termOf (chipTerm i.val c.val)).ctr.value = 0) := by
  obtain ⟨hloc, h0⟩ := cmdLocal_of_arg harg
  obtain ⟨z, hz, he⟩ := State.commandAccepted (ins := .forceRel i h p) (i := i.val) (cmd := 10) rfl hok rfl (by rw [h0]; rfl)
  obtain ⟨x, hx⟩ : ∃ x : State, x = z.updTerm (chipTerm i.val c.val) (Terminal.mayQuiet z.clock.count) := ⟨_, rfl⟩
  have he' : exec (.forceRel i h p) s = .next (x.counterRelease (chipTerm i.val c.val)).settle := by rw [he, hx, hloc]; rfl
  have hself : x.termOf (chipTerm i.val c.val) = (s.termOf (chipTerm i.val c.val)).mayQuiet s.clock.count := by
    rw [hx, State.termOf_updTerm_self, hz.termOf, hz.clock]
  obtain ⟨hack, hdig, hcount⟩ := x.counterRelease_spec (chipTerm i.val c.val)
  refine ⟨_, he', ?_, ?_, fun hc => ?_⟩
  · rw [State.chipOf_settle, hack, hx]; exact hz.ack
  · rw [State.settle_dig, hdig, hself]; rfl
  · rw [State.hasCause_settle, State.settle_ctr]
    exact hcount (by rw [State.hasCause, hself]; exact hc)

/-- A sentinel's release waits for the commit of a frame. -/
def Terminal.ovsFrees (frame : BitVec 16) (x : Terminal) : Terminal := { x with ctr := { x.ctr with ovsPend := some frame } }

theorem ovsRel_accepted (harg : p.arg.toNat = c.val) (hok : p.rsv = 0 ∧ s.l2fOk i.val 5 h (cmdNum p 11) true = true) :
    ∃ t, exec (.ovsRel i h p) s = .next t ∧ (t.chipOf i.val).ack = 1 ∧ (t.termOf (chipTerm i.val c.val)).ctr.ovsPend = some p.frameNo := by
  obtain ⟨hloc, h0⟩ := cmdLocal_of_arg harg
  obtain ⟨z, hz, he⟩ := State.commandAccepted (ins := .ovsRel i h p) (i := i.val) (cmd := 11) rfl hok rfl (by rw [h0]; rfl)
  obtain ⟨x, hx⟩ : ∃ x : State, x = z.updTerm (chipTerm i.val c.val) (Terminal.ovsFrees p.frameNo) := ⟨_, rfl⟩
  have he' : exec (.ovsRel i h p) s = .next x.settle := by rw [he, hx, hloc]; rfl
  refine ⟨_, he', ?_, ?_⟩
  · rw [State.chipOf_settle, hx]; exact hz.ack
  · rw [State.settle_ctr, hx, State.termOf_updTerm_self]; rfl

end

/-! #### The at-rest test (R173, R174) -/

section
variable {s : State} {i : ChipIx} {h : L2FHdr} {p : CmdPayload} {item : Nat}

/-- A REST_TEST of a line or lane at rest is taken. -/
theorem restTest_taken (hi : item < 18) (harg : p.arg.toNat = item) (hrest : s.atRest i.val item = true)
    (hok : p.rsv = 0 ∧ s.l2fOk i.val 5 h (cmdNum p 8) true = true) (r : RestResult) :
    ∃ z, s.Answered z i.val h.seq 1 ∧ exec (.restTest i h p r) s = .next (z.restTest i.val item r).settle := by
  have hitem : fld p.arg 4 0 = item := by unfold fld; rw [harg]; omega
  have h0 : fld p.arg 7 5 = 0 := by unfold fld; rw [harg]; omega
  obtain ⟨z, hz, he⟩ := State.commandAccepted (ins := .restTest i h p r) (i := i.val) (cmd := 8) rfl hok (by rw [hitem]; exact decide_eq_true hi)
    (by rw [hitem, h0, hrest]; rfl)
  rw [hitem] at he
  exact ⟨z, hz, he⟩

theorem restTest_accepted (hi : item < 18) (harg : p.arg.toNat = item) (hrest : s.atRest i.val item = true)
    (hok : p.rsv = 0 ∧ s.l2fOk i.val 5 h (cmdNum p 8) true = true) :
    (∀ r, r = .notRun ∨ s.laneStopped i.val item = true → ∃ t, exec (.restTest i h p r) s = .next t ∧
      (t.chipOf i.val).ack = 1 ∧ t.lanes = s.lanes ∧ t.gatesSafe) ∧
    (s.laneStopped i.val item = false →
      (∃ t, exec (.restTest i h p .pass) s = .next t ∧ (t.chipOf i.val).ack = 1 ∧
        Tab.get 0 (t.lanesOf i.val).restAt item = s.clock.count) ∧
      (item < 16 → ∃ t, exec (.restTest i h p .fail) s = .next t ∧
        (∃ r ∈ (t.chipOf i.val).diag, r.cause = 0x83 ∨ r.cause = 0x85) ∧
        bit (t.lanesOf (chipOther i.val)).pairBad item = true ∧ t.gatesSafe) ∧
      (16 ≤ item → ∃ t, exec (.restTest i h p .fail) s = .next t ∧ (t.chipOf i.val).ack = 1 ∧ t.lanes = s.lanes ∧
        (s.isRetired (nBarrier i.val) tcBarrier = false → (t.tests.find (nBarrier i.val) tcBarrier).isSome = true))) := by
  have taken := restTest_taken hi harg hrest hok
  refine ⟨fun r hr => ?_, fun hgo => ⟨?_, fun hline => ?_, fun hlane => ?_⟩⟩
  · obtain ⟨z, hz, he⟩ := taken r
    have hsame : z.restTest i.val item r = z := by
      obtain rfl | hstop := hr
      · exact ite_self z
      · exact if_pos ((hz.signals.laneStopped i.val item).trans hstop)
    rw [hsame] at he
    exact ⟨_, he, hz.ack, hz.lanes, State.settle_gatesSafe z⟩
  · obtain ⟨z, hz, he⟩ := taken .pass
    have hpass : z.restTest i.val item .pass = z.restPassed i.val item := if_neg (by rw [hz.signals.laneStopped, hgo]; decide)
    rw [hpass] at he
    refine ⟨_, he, hz.ack, ?_⟩
    rw [State.lanesOf_settle, State.restPassed, State.lanesOf_updLanes_self, hz.clock]
    exact Tab.get_set_self _ _ _ _
  · obtain ⟨z, hz, he⟩ := taken .fail
    have hfail : z.restTest i.val item .fail = (z.chipCause i.val 0x83 item 1).pairFault (chipOther i.val) item :=
      (if_neg (by rw [hz.signals.laneStopped, hgo]; decide)).trans (if_pos hline)
    obtain ⟨hdiag, hbad⟩ := z.lineFault_spec i.val hline
    rw [hfail] at he
    exact ⟨_, he, hdiag, hbad, State.settle_gatesSafe _⟩
  · obtain ⟨z, hz, he⟩ := taken .fail
    have hfail : z.restTest i.val item .fail = z.startTest (nBarrier i.val) tcBarrier :=
      (if_neg (by rw [hz.signals.laneStopped, hgo]; decide)).trans (if_neg (Nat.not_lt.mpr hlane))
    have hbooks := (State.Books.refl z).startTest (nBarrier_releasesNothing i.val) tcBarrier
    rw [hfail] at he
    refine ⟨_, he, ?_, ?_, fun hr => State.startTest_isSome _ _ _ _ _ (.inr ⟨(hz.isRetired _ _).trans hr, rfl, rfl⟩)⟩
    · have hchip : (z.startTest (nBarrier i.val) tcBarrier).chip = z.chip := (congrArg (fun x => x.2.1) hbooks.fieldSide :)
      rw [State.chipOf_settle, State.chipOf, hchip]
      exact hz.ack
    · exact hbooks.lanes.trans hz.lanes

end

/-! #### Each command, refused -/

/-- What a frame that is not accepted leaves, beside its answer n. -/
def State.answersOnly (s : State) (i : Nat) (seq : BitVec 4) (ins : Instr) (n : Nat) : Prop :=
  ∃ t, exec ins s = .next t ∧ (t.chipOf i).ack.toNat = n ∧ t.gatesSafe ∧
    ((s.viewOf i).awaiting = false → s.outsOnly t ∧ t = { s with chip := t.chip, view := t.view, term := t.term } ∧
      t.chipOf i = { (s.chipOf i).accept seq with ack := (t.chipOf i).ack })

/-- A row that is a COMMAND frame, refused: it is answered, and does nothing. -/
theorem State.commandRefused {s : State} {ins : Instr} {i cmd : Nat} {h : L2FHdr} {p : CmdPayload} {formOk : Bool} {answer : BitVec 3}
    {f : State → State} (a : BitVec 3) (hex : exec ins s = settled (s.commandFrame i cmd h p formOk answer f))
    (hok : p.rsv = 0 ∧ s.l2fOk i 5 h (cmdNum p cmd) true = true) (hne : a ≠ 1) (hform : formOk = true) (ha : answer = a) :
    s.answersOnly i h.seq ins a.toNat := by
  obtain ⟨z, hz, he⟩ := State.commandFrame_valid hok hform ha f
  rw [if_neg hne] at he
  refine ⟨z.settle, by rw [hex, he]; rfl, congrArg BitVec.toNat hz.ack, State.settle_gatesSafe z,
    fun hq => ⟨State.outsOnly_settle_of hz.term, ?_, ?_⟩⟩
  · rw [hz.quiet hq]; rfl
  · rw [State.chipOf_settle, hz.self]; rfl

theorem fieldCommands_refused (s : State) (i : ChipIx) (h : L2FHdr) (p : CmdPayload) (r : RestResult) :
    ∀ row ∈ ([(.sentArm i h p, 2, fld p.arg 5 4 ≠ 3 && (fld p.arg 7 6 ≠ 0 || s.kmode (chipTerm i.val (cmdLocal p)) ≠ 4 ||
          (fld p.arg 5 4 ≠ 0 && fld (s.kcfg (chipTerm i.val (cmdLocal p))) 65 64 / fld p.arg 5 4 % 2 ≠ 1)), 2),
        (.calStart i h p, 3, decide (fld p.arg 7 4 ≠ 0), 2), (.calStart i h p, 3, fld p.arg 7 4 = 0 && s.termBusy (chipTerm i.val (cmdLocal p)), 3),
        (.calAbort i h p, 4, decide (fld p.arg 7 4 ≠ 0), 2), (.inject i h p, 5, decide (fld p.arg 7 4 ≠ 0), 2),
        (.inject i h p, 5, fld p.arg 7 4 = 0 && (bit (s.chipOf i.val).injTest (cmdLocal p) || (s.termOf (chipTerm i.val (cmdLocal p))).ana.calRun), 3),
        (.refCheck i h p, 6, decide (fld p.arg 7 1 ≠ 0), 2),
        (.refCheck i h p, 6, fld p.arg 7 1 = 0 && (chipTerms i.val).any (fun x => (s.termOf x).ana.calRun), 3),
        (.latTest i h p, 7, decide (p.arg ≠ 0), 2),
        (.restTest i h p r, 8, fld p.arg 4 0 < 18 && (fld p.arg 7 5 ≠ 0 || !s.atRest i.val (fld p.arg 4 0)), 2),
        (.bankCrc i h p, 9, decide (fld p.arg 7 1 ≠ 0), 2), (.forceRel i h p, 10, decide (fld p.arg 7 4 ≠ 0), 2),
        (.ovsRel i h p, 11, decide (fld p.arg 7 4 ≠ 0), 2)] : List (Instr × Nat × Bool × Nat)),
      row.2.2.1 = true → (p.rsv = 0 ∧ s.l2fOk i.val 5 h (cmdNum p row.2.1) true = true) → s.answersOnly i.val h.seq row.1 row.2.2.2 := by
  simp only [List.forall_mem_cons, List.not_mem_nil, false_imp_iff, implies_true, and_true, Bool.and_eq_true, decide_eq_true_eq]
  refine ⟨fun hc hok => State.commandRefused 2 rfl hok (by decide) (decide_eq_true hc.1) (if_neg ?_),
    fun hc hok => State.commandRefused 2 rfl hok (by decide) rfl (if_pos hc),
    fun hc hok => State.commandRefused 3 rfl hok (by decide) rfl ((if_neg (not_not_intro hc.1)).trans (if_pos hc.2)),
    fun hc hok => State.commandRefused 2 rfl hok (by decide) rfl (if_pos hc),
    fun hc hok => State.commandRefused 2 rfl hok (by decide) rfl (if_pos hc),
    fun hc hok => State.commandRefused 3 rfl hok (by decide) rfl ((if_neg (not_not_intro hc.1)).trans (if_pos hc.2)),
    fun hc hok => State.commandRefused 2 rfl hok (by decide) rfl (if_pos hc),
    fun hc hok => State.commandRefused 3 rfl hok (by decide) rfl ((if_neg (not_not_intro hc.1)).trans (if_pos hc.2)),
    fun hc hok => State.commandRefused 2 rfl hok (by decide) rfl (if_pos hc),
    fun hc hok => State.commandRefused 2 rfl hok (by decide) (decide_eq_true hc.1) (if_pos (by simpa using hc.2)),
    fun hc hok => State.commandRefused 2 rfl hok (by decide) rfl (if_pos hc),
    fun hc hok => State.commandRefused 2 rfl hok (by decide) rfl (if_pos hc),
    fun hc hok => State.commandRefused 2 rfl hok (by decide) rfl (if_pos hc)⟩
  have hbad := hc.2
  simp only [Bool.or_eq_true, Bool.and_eq_true, decide_eq_true_eq] at hbad ⊢
  tauto

/-! #### The obligation -/

/-- Settles O17: every command by the common frame lemma, accepted or refused, and its own effect. -/
theorem fieldCommands : Obligations.FieldCommands := by
  unfold Obligations.FieldCommands
  intro s i h p c
  exact ⟨fun dir hdir harg hk hsent hok => sentArm_accepted hdir harg hk hsent hok, calStart_accepted, calAbort_accepted, inject_accepted,
    refCheck_accepted, latTest_accepted, fun item hi harg hrest hok => restTest_accepted hi harg hrest hok, bankCrc_accepted, forceRel_accepted,
    ovsRel_accepted, fieldCommands_refused s i h p⟩

end Sys2Proof.Machine

/-! SUPPORT and PROOFS of the family 04_wagons_and_barrier: data frames to a field chip (O16), invalid barrier frames (O18), frames
to a side (O19), analog terminals (O24). -/

namespace Sys2Proof.Machine

/-! ### Data frames to a field chip (R86, R89–R92, R94, R101, R367) -/

/-! #### A frame is taken or discarded (R86) -/

theorem State.l2f_valid {s : State} {i type payload : Nat} {h : L2FHdr} {payOk : Bool} (hok : s.l2fOk i type h payload true = true)
    (hp : payOk = true) (f : State → State) : s.l2f i type h payload payOk f = f (s.updChip i fun x => x.accept h.seq) := by
  rw [State.l2f, hp, if_pos hok]

theorem State.l2f_invalid {s : State} {i type payload : Nat} {h : L2FHdr} {payOk : Bool} (hbad : s.l2fOk i type h payload payOk = false)
    (f : State → State) : s.l2f i type h payload payOk f = s.l2fBad i := if_neg (by rw [hbad]; decide)

/-- The books do not say which frames are valid. -/
theorem State.Books.l2fOk {s y : State} (hb : s.Books y) (i type : Nat) (h : L2FHdr) (payload : Nat) (payOk : Bool) :
    y.l2fOk i type h payload payOk = s.l2fOk i type h payload payOk := by
  have hchip : y.chipOf i = s.chipOf i := by rw [State.chipOf, hb.frame]; rfl
  rw [State.l2fOk, State.l2fOk, hb.clock, hchip]

theorem State.Books.updView {s y : State} (hb : s.Books y) (i : Nat) (f : View → View) : s.Books (y.updView i f) :=
  hb.trans ⟨rfl, fun _ he => he⟩

/-- A field chip that has taken a frame with SEQ seq. -/
structure Chip.Took (x : Chip) (seq : BitVec 4) : Prop where
  seq     : x.seq = some seq
  silent  : x.silent = false
  prevBad : x.prevBad = false

theorem Chip.took_accept (x : Chip) (seq : BitVec 4) : (x.accept seq).Took seq := ⟨rfl, rfl, rfl⟩

theorem Chip.Took.of_bare {x y : Chip} {seq : BitVec 4} (h : x.Took seq) (hb : y.bare = x.bare) : y.Took seq :=
  ⟨(congrArg Chip.seq hb :).trans h.seq, (congrArg Chip.silent hb :).trans h.silent, (congrArg Chip.prevBad hb :).trans h.prevBad⟩

/-- Field chip i of t has taken a frame, and gates are safe. -/
def State.tookFrame (t : State) (i : Nat) (seq : BitVec 4) : Prop :=
  (t.chipOf i).seq = some seq ∧ (t.chipOf i).silent = false ∧ (t.chipOf i).prevBad = false ∧ t.gatesSafe

theorem State.tookFrame_settle {x : State} {i : Nat} {seq : BitVec 4} (h : (x.chipOf i).Took seq) : x.settle.tookFrame i seq :=
  ⟨h.seq, h.silent, h.prevBad, State.settle_gatesSafe x⟩

theorem State.chipOf_updChip_self (s : State) (i : Nat) (g : Chip → Chip) : (s.updChip i g).chipOf i = g (s.chipOf i) := by
  rw [State.chipOf_updChip, if_pos rfl]

/-- A chip that takes a frame and does g. -/
theorem State.chipOf_accept (s : State) (i : Nat) (seq : BitVec 4) (g : Chip → Chip) :
    (((s.updChip i fun x => x.accept seq).updChip i g).chipOf i) = g ((s.chipOf i).accept seq) := by
  rw [State.chipOf_updChip_self, State.chipOf_updChip_self]

section
variable {s : State} {i : ChipIx} {h : L2FHdr}

/-! #### KEEPALIVE and OUTPUT (R89–R91) -/

theorem keepalive_valid {payload : BitVec 256} (hok : s.l2fOk i.val 1 h payload.toNat true = true) :
    ∃ t, exec (.keepalive i h payload) s = .next t ∧ t.tookFrame i.val h.seq ∧ t.chipOf i.val = (s.chipOf i.val).accept h.seq ∧
      s.outsOnly t ∧ t = { s with chip := t.chip, term := t.term } := by
  have hchip := s.chipOf_updChip_self i.val fun x => x.accept h.seq
  exact ⟨(s.updChip i.val fun x => x.accept h.seq).settle, congrArg settled (State.l2f_valid hok rfl id),
    State.tookFrame_settle (hchip ▸ Chip.took_accept _ _), hchip, State.outsOnly_settle_of rfl, rfl⟩

/-- A field chip with a new copy of the output image. -/
def Chip.copies (o : BitVec 16 × BitVec 16 × BitVec 224) (x : Chip) : Chip := { x with copy := some o }

theorem output_valid {on : BitVec 16} {ao : BitVec 224} (hok : s.l2fOk i.val 2 h (outputPayload on ao 0) true = true) :
    ∃ t, exec (.output i h on ao 0) s = .next t ∧ t.tookFrame i.val h.seq ∧
      (t.chipOf i.val).copy = (if h.frameNo.toNat = s.clock.frame.toNat % 2 ^ 16 then some (h.frameNo, on, ao) else (s.chipOf i.val).copy) ∧
      s.outsOnly t ∧ t = { s with chip := t.chip, term := t.term } := by
  by_cases hf : h.frameNo.toNat = s.clock.frame.toNat % 2 ^ 16
  · have hchip := s.chipOf_accept i.val h.seq (Chip.copies (h.frameNo, on, ao))
    refine ⟨_, (congrArg settled ((State.l2f_valid hok rfl _).trans (if_pos hf)) :), State.tookFrame_settle ?_,
      (congrArg Chip.copy hchip).trans (if_pos hf).symm, State.outsOnly_settle_of ((State.updChip_term _ _ _).trans (State.updChip_term _ _ _)), rfl⟩
    exact (congrArg (fun x : Chip => x.Took h.seq) hchip).mpr ⟨rfl, rfl, rfl⟩
  · have hchip := s.chipOf_updChip_self i.val fun x => x.accept h.seq
    refine ⟨_, (congrArg settled ((State.l2f_valid hok rfl _).trans (if_neg hf)) :), State.tookFrame_settle ?_,
      (congrArg Chip.copy hchip).trans (if_neg hf).symm, State.outsOnly_settle_of rfl, rfl⟩
    exact (congrArg (fun x : Chip => x.Took h.seq) hchip).mpr (Chip.took_accept _ _)

/-! #### DIAG_REQ (R101) -/

/-- What a side keeps of its request for a part. -/
def View.asks (id : BitVec 16) (part : Byte) (v : View) : View :=
  { v with diagId := id, nextPart := if part = 0xFF then none else some part, records := if part = 0 then [] else v.records }

/-- A field chip that is asked for a part. -/
def Chip.diagAsked (id : BitVec 16) (part : Byte) (x : Chip) : Chip :=
  if part = 0xFF then { x.ackDiag id with reply := none }
  else
    let y := if part = 0 then { x with snap := some (id, x.diag), part := part } else { x with part := part }
    { y with reply := some (y.diagPayload part.toNat) }

theorem Chip.took_diagAsked {x : Chip} {seq : BitVec 4} (h : x.Took seq) (id : BitVec 16) (part : Byte) : (x.diagAsked id part).Took seq := by
  obtain ⟨h1, h2, h3⟩ := h
  unfold Chip.diagAsked
  split
  · have hack : (x.ackDiag id).Took seq := by
      unfold Chip.ackDiag
      split
      · exact ⟨h1, h2, h3⟩
      · split <;> exact ⟨h1, h2, h3⟩
    exact ⟨hack.seq, hack.silent, hack.prevBad⟩
  · dsimp only
    split <;> exact ⟨h1, h2, h3⟩

theorem Chip.diagAsked_first (x : Chip) (id : BitVec 16) : (x.diagAsked id 0).snap = some (id, x.diag) := rfl

/-- The acknowledgement drops the snapshot that it names. -/
theorem Chip.diagAsked_last {x : Chip} {id : BitVec 16} {recs : List DiagRec} (h : x.snap = some (id, recs)) : (x.diagAsked id 0xFF).snap = none := by
  have hack : (x.ackDiag id).snap = none := by rw [Chip.ackDiag, h]; simp
  exact hack

theorem Chip.diagAsked_reply (x : Chip) (id : BitVec 16) {part : Byte} (h : part ≠ 0xFF) :
    (x.diagAsked id part).reply = some ((x.diagAsked id part).diagPayload part.toNat) := by
  unfold Chip.diagAsked
  rw [if_neg h]
  rfl

theorem diagReq_valid {id : BitVec 16} {part : Byte} (hok : s.l2fOk i.val 3 h (diagReqPayload id part 0) true = true)
    (hpart : part.toNat ≤ 10 ∨ part = 0xFF) :
    ∃ t, exec (.diagReq i h id part 0) s = .next t ∧ t.tookFrame i.val h.seq ∧ (t.viewOf i.val).diagId = id ∧
      (part = 0 → (t.chipOf i.val).snap = some (id, (s.chipOf i.val).diag)) ∧
      (∀ recs, part = 0xFF → (s.chipOf i.val).snap = some (id, recs) → (t.chipOf i.val).snap = none) ∧
      (part ≠ 0xFF → (t.chipOf i.val).reply = some ((t.chipOf i.val).diagPayload part.toNat)) ∧
      s.outsOnly t ∧ t = { s with chip := t.chip, view := t.view, term := t.term } := by
  obtain ⟨x, hx⟩ : ∃ x : State, x = ((s.updChip i.val fun x => x.accept h.seq).updView i.val (View.asks id part)).updChip i.val (Chip.diagAsked id part) :=
    ⟨_, rfl⟩
  have hchip : x.chipOf i.val = ((s.chipOf i.val).accept h.seq).diagAsked id part := by rw [hx]; exact s.chipOf_accept i.val h.seq _
  have hview : (x.viewOf i.val).diagId = id := by
    rw [hx]; exact (congrArg View.diagId (Tab.get_upd_self ({} : View) s.view i.val (View.asks id part)) :)
  have hframe : x = { s with chip := x.chip, view := x.view } := by rw [hx]; rfl
  have he : exec (.diagReq i h id part 0) s = .next x.settle := by
    rw [hx]; exact congrArg settled (State.l2f_valid hok (by simpa using hpart) _)
  refine ⟨_, he, State.tookFrame_settle ?_, hview, ?_, ?_, ?_, State.outsOnly_settle_of (by rw [hx, State.updChip_term, State.updView_term, State.updChip_term]), by rw [hframe]; rfl⟩
  · rw [hchip]; exact Chip.took_diagAsked (Chip.took_accept _ _) id part
  · rintro rfl
    rw [State.chipOf_settle, hchip]
    exact Chip.diagAsked_first _ id
  · rintro recs rfl hs
    rw [State.chipOf_settle, hchip]
    exact Chip.diagAsked_last (recs := recs) hs
  · intro hne
    rw [State.chipOf_settle, hchip]
    exact Chip.diagAsked_reply _ id hne

/-! #### CONFIG and BANK_SWITCH (R92, R94) -/

theorem State.view_finalReply (s : State) (port : Option Side) (queue opcode : Nat) (tag : BitVec 32) (status : Nat) (slots : List Nat) :
    (s.finalReply port queue opcode tag status slots).view = s.view := by
  cases port <;> (unfold State.finalReply State.addReply; rfl)

theorem State.view_calAbort (s : State) (k : Nat) : (s.calAbort k).view = s.view := by
  unfold State.calAbort State.calEnd State.drawn
  dsimp only
  split
  · split
    · rfl
    · exact State.view_finalReply _ _ _ _ _ _ _
  · rfl

/-- A cause leaves what the sides know. -/
theorem State.view_raiseCause (s : State) (k cause : Nat) : (s.raiseCause k cause).view = s.view := by
  unfold State.raiseCause State.raiseCauseD
  dsimp only
  split_ifs
  · rfl
  · rfl
  · rw [State.view_calAbort, State.postL_view]; rfl
  · rw [State.postL_view]; rfl

/-- A terminal with the calibration records of its two paths. -/
def Terminal.calibrated (wi wv : Word) (x : Terminal) : Terminal := { x with ana := { x.ana with tcalI := wi, tcalV := wv } }

/-- A calibration that takes effect changes causes alone. -/
theorem State.calUse_causing (s : State) (k : Nat) (wi wv : Word) : s.Causing (s.calUse k wi wv) ∧ (s.calUse k wi wv).view = s.view := by
  have hterm := (State.Causing.refl s).updTerm k (f := Terminal.calibrated ((s.calOf k false wi).getD 0) ((s.calOf k true wv).getD 0)) fun _ => rfl
  have hpost : ∀ y : State, y = s.updTerm k (Terminal.calibrated ((s.calOf k false wi).getD 0) ((s.calOf k true wv).getD 0)) →
      s.Causing (if calOk wi ∧ calOk wv then y else y.post 0x01A3 (nTerm k) 1 0) ∧
      (if calOk wi ∧ calOk wv then y else y.post 0x01A3 (nTerm k) 1 0).view = s.view := by
    rintro y rfl
    split
    · exact ⟨hterm, rfl⟩
    · exact ⟨hterm.post _ _ _ _, rfl⟩
  obtain ⟨hc, hv⟩ := hpost _ rfl
  unfold State.calUse
  dsimp only
  split
  · exact ⟨hc.raiseCause k 0x0A, (State.view_raiseCause _ _ _).trans hv⟩
  · exact ⟨hc, hv⟩

/-- The answer to a CONFIG frame, with its word when it is accepted. -/
def Chip.configured (a : BitVec 3) (p : CfgPayload) (x : Chip) : Chip := { (if a = 1 then x.cfgWord p else x) with ack := a }

theorem Chip.took_configured {x : Chip} {seq : BitVec 4} (h : x.Took seq) (a : BitVec 3) (p : CfgPayload) : (x.configured a p).Took seq := by
  obtain ⟨h1, h2, h3⟩ := h
  unfold Chip.configured Chip.cfgWord
  split_ifs <;> exact ⟨h1, h2, h3⟩

/-- A valid CONFIG frame: the chip's answer, and what it makes of the word. -/
theorem State.configFrame_valid {p : CfgPayload} (hok : s.l2fOk i.val 4 h (cfgNum p) true = true) (h1 : 1 ≤ p.obj.toNat) (h12 : p.obj.toNat ≤ 0x0C)
    (hlo : p.rsvLo = 0) (hhi : p.rsvHi = 0) :
    ∃ x, s.configFrame i.val h p = x ∧ (x.chipOf i.val).bare = (((s.chipOf i.val).accept h.seq).configured (s.cfgAnswer i.val p) p).bare ∧ (x.viewOf i.val).awaiting = true := by
  obtain ⟨y, hy⟩ : ∃ y : State, y = (s.sendReq i.val 4 (cfgNum p)).updView i.val fun v => v.sendWord p := ⟨_, rfl⟩
  have hb : s.Books y := by rw [hy]; exact (s.books_sendReq i.val 4 (cfgNum p)).updView _ _
  have hwait : (y.viewOf i.val).awaiting = true := by
    have hself (z : State) (f : View → View) : (z.updView i.val f).viewOf i.val = f (z.viewOf i.val) := by rw [State.viewOf_updView, if_pos rfl]
    rw [hy, hself, View.sendWord, State.sendReq, hself]
    split <;> rfl
  obtain ⟨z, hz⟩ : ∃ z : State, z = (y.updChip i.val fun x => x.accept h.seq).updChip i.val (Chip.configured (s.cfgAnswer i.val p) p) := ⟨_, rfl⟩
  have hchip : z.chipOf i.val = ((s.chipOf i.val).accept h.seq).configured (s.cfgAnswer i.val p) p := by
    rw [hz, State.chipOf_accept, State.chipOf, hb.frame]; rfl
  have hview : (z.viewOf i.val).awaiting = true := by rw [hz]; exact hwait
  have hpay : (decide (1 ≤ p.obj.toNat) && decide (p.obj.toNat ≤ 0x0C) && decide (p.rsvLo = 0) && decide (p.rsvHi = 0)) = true := by
    rw [decide_eq_true h1, decide_eq_true h12, decide_eq_true hlo, decide_eq_true hhi]; rfl
  have hend : s.configFrame i.val h p = z ∨ ∃ k wi wv, s.configFrame i.val h p = z.calUse k wi wv := by
    unfold State.configFrame
    rw [← hy, State.l2f_valid ((hb.l2fOk _ _ _ _ _).trans hok) hpay]
    dsimp only
    split
    · exact .inr ⟨_, _, _, by rw [hz]; rfl⟩
    · exact .inl hz.symm
  obtain he | ⟨k, wi, wv, he⟩ := hend
  · exact ⟨z, he, by rw [hchip], hview⟩
  · obtain ⟨hc, hv⟩ := z.calUse_causing k wi wv
    exact ⟨_, he, by rw [State.calm_chip hc.calm, hchip], by rw [State.viewOf, hv]; exact hview⟩

theorem Chip.configured_accepted (x : Chip) (p : CfgPayload) : x.configured 1 p = { x.cfgWord p with ack := 1 } := rfl

theorem Chip.configured_refused (x : Chip) (p : CfgPayload) {a : BitVec 3} (h : a ≠ 1) : x.configured a p = { x with ack := a } := by
  rw [Chip.configured, if_neg h]

/-- A word that CONFIG carries is in the bank that it names, when it is accepted, and the other bank is as it was. -/
theorem Chip.configured_word {x y : Chip} {p : CfgPayload} (h : p.obj ≠ 0x0C) {a : BitVec 3} (hs : y.shadow = (x.configured a p).shadow)
    (hc : y.active = (x.configured a p).active) :
    (a = 1 → bankWord (if p.bank then y.shadow else y.active) p.obj.toNat p.index.toNat (b2n p.word) = p.value) ∧
    (a ≠ 1 ∨ p.bank = false → y.shadow = x.shadow) ∧ (a ≠ 1 ∨ p.bank = true → y.active = x.active) := by
  rw [hs, hc]
  by_cases ha : a = 1
  · subst ha
    rw [Chip.configured_accepted, Chip.cfgWord, if_neg h]
    cases hb : p.bank <;> simp [bankWord]
  · rw [Chip.configured_refused x p ha]
    exact ⟨fun h1 => absurd h1 ha, fun _ => rfl, fun _ => rfl⟩

/-- A switch that is accepted waits for its frame. -/
theorem Chip.configured_switch (x : Chip) {p : CfgPayload} (h : p.obj = 0x0C) (a : BitVec 3) :
    (x.configured a p).switchAt = if a = 1 then some (p.value.setWidth 16) else x.switchAt := by
  unfold Chip.configured Chip.cfgWord
  rw [if_pos h]
  split <;> rfl

theorem config_valid {p : CfgPayload} (h1 : 1 ≤ p.obj.toNat) (h11 : p.obj.toNat ≤ 0x0B) (hlo : p.rsvLo = 0) (hhi : p.rsvHi = 0)
    (hok : s.l2fOk i.val 4 h (cfgNum p) true = true) :
    ∃ t, exec (.config i h p) s = .next t ∧ t.tookFrame i.val h.seq ∧ (t.chipOf i.val).ack = s.cfgAnswer i.val p ∧
      (s.cfgAnswer i.val p = 1 → bankWord (if p.bank then (t.chipOf i.val).shadow else (t.chipOf i.val).active)
        p.obj.toNat p.index.toNat (b2n p.word) = p.value) ∧
      (s.cfgAnswer i.val p ≠ 1 ∨ p.bank = false → (t.chipOf i.val).shadow = (s.chipOf i.val).shadow) ∧
      (s.cfgAnswer i.val p ≠ 1 ∨ p.bank = true → (t.chipOf i.val).active = (s.chipOf i.val).active) ∧
      (t.viewOf i.val).awaiting = true := by
  obtain ⟨x, hx, hchip, hview⟩ := State.configFrame_valid hok h1 (by omega) hlo hhi
  have hobj : p.obj ≠ 0x0C := fun hc => absurd h11 (by rw [hc]; decide)
  obtain ⟨hword, hshadow, hactive⟩ := Chip.configured_word hobj (congrArg Chip.shadow hchip :) (congrArg Chip.active hchip :)
  exact ⟨x.settle, congrArg settled hx,
    State.tookFrame_settle (Chip.Took.of_bare (Chip.took_configured (Chip.took_accept _ _) _ _) hchip),
    (congrArg Chip.ack hchip :), hword, hshadow, hactive, hview⟩

/-- The answer to BANK_SWITCH (R94). -/
theorem State.cfgAnswer_switch {p : CfgPayload} (hindex : p.index = 0) (hword : p.word = false) (hval : fld p.value 71 16 = 0) :
    s.cfgAnswer i.val { p with obj := 0x0C } = if (s.chipOf i.val).mayswitch then 1 else 2 := by
  simp [State.cfgAnswer, oLTERM, oLEXP, hindex, hword, hval]

/-- A switch-over goes out once the CRC has come back that of the words sent. -/
theorem bankSwitch_ready {p : CfgPayload} (hlo : p.rsvLo = 0) (hhi : p.rsvHi = 0) (hindex : p.index = 0) (hword : p.word = false)
    (hval : fld p.value 71 16 = 0) (hok : s.l2fOk i.val 4 h (cfgNum { p with obj := 0x0C }) true = true)
    (hcrc : (s.viewOf i.val).shadowCrc = some (bankCrc32 (s.viewOf i.val).sentBank)) :
    ∃ t, exec (.bankSwitch i h p) s = .next t ∧ t.tookFrame i.val h.seq ∧
      (t.chipOf i.val).ack = (if (s.chipOf i.val).mayswitch then 1 else 2) ∧
      (t.chipOf i.val).switchAt = (if (s.chipOf i.val).mayswitch then some (p.value.setWidth 16) else (s.chipOf i.val).switchAt) := by
  obtain ⟨x, hx, hchip, -⟩ := State.configFrame_valid (p := { p with obj := 0x0C }) hok (Nat.le_of_ble_eq_true rfl) (Nat.le_refl 12) hlo hhi
  have he : exec (.bankSwitch i h p) s = .next x.settle := by
    change execBankSwitch i h p s = _
    simp only [execBankSwitch, hcrc, if_true, hx, settled_eq]
  rw [State.cfgAnswer_switch hindex hword hval] at hchip
  refine ⟨_, he, State.tookFrame_settle (Chip.Took.of_bare (Chip.took_configured (Chip.took_accept _ _) _ _) hchip),
    (congrArg Chip.ack hchip :), (congrArg Chip.switchAt hchip :).trans ((Chip.configured_switch _ rfl _).trans ?_)⟩
  cases (s.chipOf i.val).mayswitch <;> rfl

/-- What a side forgets of the words that it sent, to send them anew. -/
def View.resends (v : View) : View := { v with sentBank := [], shadowCrc := none }

theorem bankSwitch_unready (p : CfgPayload) (hcrc : (s.viewOf i.val).shadowCrc ≠ some (bankCrc32 (s.viewOf i.val).sentBank)) :
    ∃ t, exec (.bankSwitch i h p) s = .next t ∧ t.chip = s.chip ∧
      ((s.viewOf i.val).shadowCrc ≠ none → (t.viewOf i.val).sentBank = [] ∧ (t.viewOf i.val).shadowCrc = none) ∧
      s.outsOnly t ∧ t = { s with view := t.view, term := t.term } := by
  cases hv : (s.viewOf i.val).shadowCrc with
  | none =>
    have he : exec (.bankSwitch i h p) s = settled s := by
      change execBankSwitch i h p s = _
      simp only [execBankSwitch, hv]
    exact ⟨_, he, rfl, fun hn => absurd rfl hn, s.outsOnly_settle, rfl⟩
  | some c =>
    have hne : ¬ c = bankCrc32 (s.viewOf i.val).sentBank := fun hc => hcrc (by rw [hv, hc])
    have he : exec (.bankSwitch i h p) s = settled (s.updView i.val View.resends) := by
      change execBankSwitch i h p s = _
      simp only [execBankSwitch, hv, if_neg hne]
      rfl
    have hview : (s.updView i.val View.resends).viewOf i.val = (s.viewOf i.val).resends := by rw [State.viewOf_updView, if_pos rfl]
    exact ⟨_, he, rfl, fun _ => ⟨(congrArg View.sentBank hview :), (congrArg View.shadowCrc hview :)⟩, State.outsOnly_settle_of rfl, rfl⟩

/-! #### BARRIER_ECHO (R367) -/

/-- A field chip that repeats a pattern next. -/
def Chip.echoes (pattern : BitVec 248) (x : Chip) : Chip := { x with echo := some pattern, ack := 1 }

theorem barrierEcho_valid {pattern : BitVec 248} (hok : s.l2fOk i.val 5 h (echoPayload pattern) true = true) :
    ∃ t, exec (.barrierEcho i h pattern) s = .next t ∧ t.tookFrame i.val h.seq ∧ (t.chipOf i.val).echo = some pattern ∧ (t.chipOf i.val).ack = 1 := by
  have hb := s.books_sendReq i.val 5 (echoPayload pattern)
  have hchip := (s.sendReq i.val 5 (echoPayload pattern)).chipOf_accept i.val h.seq (Chip.echoes pattern)
  refine ⟨_, (congrArg settled (State.l2f_valid ((hb.l2fOk _ _ _ _ _).trans hok) rfl _) :), State.tookFrame_settle ?_, (congrArg Chip.echo hchip :),
    (congrArg Chip.ack hchip :)⟩
  exact (congrArg (fun y : Chip => y.Took h.seq) hchip).mpr ⟨rfl, rfl, rfl⟩

end

/-- Settles O16: each frame is taken, and does to the chip what the chip's own function says. -/
theorem logicToFieldDataFrames : Obligations.LogicToFieldDataFrames := by
  unfold Obligations.LogicToFieldDataFrames
  intro s i h
  exact ⟨fun _ hok => keepalive_valid hok, fun _ _ hok => output_valid hok, fun _ _ hok hpart => diagReq_valid hok hpart,
    fun _ h1 h11 hlo hhi hok => config_valid h1 h11 hlo hhi hok, fun _ hlo hhi hi hw hv hok hcrc => bankSwitch_ready hlo hhi hi hw hv hok hcrc,
    fun p hcrc => bankSwitch_unready p hcrc, fun _ hok => barrierEcho_valid hok⟩

end Sys2Proof.Machine

namespace Sys2Proof.Machine

/-! ### Invalid barrier frames (R86, R99, R103) -/

/-! #### Discarded by a field chip (R86, R103, R365) -/

/-- A field chip that has discarded its n-th frame. -/
def Chip.countsBad (n : Nat) (x : Chip) : Chip := { x with badIn := n, prevBad := true, ack := 0 }

theorem State.Books.isRetired {s y : State} (h : s.Books y) (n : Node) (cls : Nat) : y.isRetired n cls = s.isRetired n cls :=
  State.retired_congr h.mem (congrArg Device.otp h.dev) (congrArg Device.otp1 h.dev) n cls

/-- The barrier of field chip i is under test in t, unless it is retired. -/
def State.barrierTested (s t : State) (i : Nat) : Prop :=
  s.isRetired (nBarrier i) tcBarrier = false → (t.tests.find (nBarrier i) tcBarrier).isSome = true

/-- A discarded frame is counted at the chip, raises a cause of the chip, and starts the barrier's test. -/
theorem State.l2fBad_spec (s : State) (i : Nat) :
    ∃ x, s.l2fBad i = x ∧ (s.updChip i (Chip.countsBad ((s.chipOf i).badIn + 1))).Causing x ∧ s.barrierTested x i := by
  obtain ⟨z, hz, hc⟩ : ∃ z : State, s.l2fBad i = z.startTest (nBarrier i) tcBarrier ∧
      (s.updChip i (Chip.countsBad ((s.chipOf i).badIn + 1))).Causing z :=
    ⟨_, rfl, ((State.Causing.refl _).chipCause i 0x80 0x1F _).post _ _ _ _⟩
  have hr (n : Node) (cls : Nat) : z.isRetired n cls = s.isRetired n cls :=
    (State.calm_isRetired hc.calm n cls).trans (State.retired_congr rfl rfl rfl n cls)
  exact ⟨_, hz, hc.startTest _ _, fun h => State.startTest_isSome _ _ _ _ _ (.inr ⟨(hr _ _).trans h, rfl, rfl⟩)⟩

/-- Field chip i discards the frame of a row. -/
def State.discards (s : State) (ins : Instr) (i : Nat) : Prop :=
  ∃ t, exec ins s = .next t ∧ (t.chipOf i).badIn = (s.chipOf i).badIn + 1 ∧ (t.chipOf i).prevBad = true ∧
    (∀ seq, (t.chipOf i).seqOk seq = true) ∧ (t.chipOf i).seq = (s.chipOf i).seq ∧
    (t.chipOf i).copy = (s.chipOf i).copy ∧ (t.chipOf i).active = (s.chipOf i).active ∧
    (t.chipOf i).shadow = (s.chipOf i).shadow ∧ (t.chipOf i).snap = (s.chipOf i).snap ∧
    (∀ k, (t.termOf k).ctr = (s.termOf k).ctr) ∧ s.barrierTested t i

/-- A row whose frame is invalid when the side has sent it is discarded. -/
theorem State.Books.discards {s y : State} (hb : s.Books y) {ins : Instr} {i type payload : Nat} {h : L2FHdr} {payOk : Bool} {f : State → State}
    (hex : exec ins s = settled (y.l2f i type h payload payOk f)) (hbad : s.l2fOk i type h payload payOk = false) : s.discards ins i := by
  rw [State.l2f_invalid ((hb.l2fOk _ _ _ _ _).trans hbad)] at hex
  have hy : y.chipOf i = s.chipOf i := by rw [State.chipOf, hb.frame]; rfl
  obtain ⟨x, hx, hc, ht⟩ := y.l2fBad_spec i
  have htest : s.barrierTested x i := fun hr => ht ((hb.isRetired _ _).trans hr)
  rw [hx] at hex
  have hchip : (x.chipOf i).bare = ((s.chipOf i).countsBad ((s.chipOf i).badIn + 1)).bare := by
    rw [State.calm_chip hc.calm, State.chipOf_updChip_self, hy]
  have hprev : (x.chipOf i).prevBad = true := (congrArg Chip.prevBad hchip :)
  refine ⟨x.settle, hex, (congrArg Chip.badIn hchip :), hprev, fun seq => ?_, (congrArg Chip.seq hchip :), (congrArg Chip.copy hchip :),
    (congrArg Chip.active hchip :), (congrArg Chip.shadow hchip :), (congrArg Chip.snap hchip :), fun k => ?_, htest⟩
  · rw [Chip.seqOk, State.chipOf_settle, hprev]; rfl
  · have hk : (y.termOf k).ctr = (s.termOf k).ctr := by rw [State.termOf, hb.term]; rfl
    rw [State.settle_ctr, hc.ctr]; exact hk

/-- Every row that is a frame to a field chip (R89–R93, R101, R367). -/
theorem invalidToField (s : State) (i : ChipIx) (h : L2FHdr) (payload : BitVec 256) (on : BitVec 16) (ao : BitVec 224) (rsv : BitVec 16) (p : CfgPayload)
    (q : CmdPayload) (id : BitVec 16) (part : Byte) (rsv2 : BitVec 232) (pattern : BitVec 248) (r : RestResult) :
    let cmd (c : Instr) (n : Nat) (formOk : Bool) : Instr × Nat × Nat × Bool := (c, 5, cmdNum q n, formOk && q.rsv = 0)
    ∀ row ∈ ([(.keepalive i h payload, 1, payload.toNat, true), (.output i h on ao rsv, 2, outputPayload on ao rsv, decide (rsv = 0)),
        (.diagReq i h id part rsv2, 3, diagReqPayload id part rsv2, rsv2 = 0 && (part.toNat ≤ 10 || part = 0xFF)),
        (.config i h p, 4, cfgNum p, 1 ≤ p.obj.toNat && p.obj.toNat ≤ 0x0C && p.rsvLo = 0 && p.rsvHi = 0),
        (.barrierEcho i h pattern, 5, echoPayload pattern, true), cmd (.sentArm i h q) 2 (fld q.arg 5 4 ≠ 3),
        cmd (.calStart i h q) 3 true, cmd (.calAbort i h q) 4 true, cmd (.inject i h q) 5 true, cmd (.refCheck i h q) 6 true,
        cmd (.latTest i h q) 7 true, cmd (.restTest i h q r) 8 (fld q.arg 4 0 < 18), cmd (.bankCrc i h q) 9 true,
        cmd (.forceRel i h q) 10 true, cmd (.ovsRel i h q) 11 true] : List (Instr × Nat × Nat × Bool)),
      s.l2fOk i.val row.2.1 h row.2.2.1 row.2.2.2 = false → s.discards row.1 i.val := by
  have sent (type n : Nat) := s.books_sendReq i.val type n
  have alone := State.Books.refl s
  simp only [List.forall_mem_cons, List.not_mem_nil, false_imp_iff, implies_true, and_true]
  exact ⟨alone.discards rfl, alone.discards rfl, alone.discards rfl, ((sent 4 _).updView _ _).discards rfl, (sent 5 _).discards rfl,
    (sent 5 _).discards rfl, (sent 5 _).discards rfl, (sent 5 _).discards rfl, (sent 5 _).discards rfl, (sent 5 _).discards rfl,
    (sent 5 _).discards rfl, (sent 5 _).discards rfl, (sent 5 _).discards rfl, (sent 5 _).discards rfl, (sent 5 _).discards rfl⟩

/-! #### What a side knows of its field chip, beside its own sends (R94, R367) -/

/-- A side's view without the frame that it sends and the echoes that a test counts. -/
def View.told (v : View) : View := { v with awaiting := false, unanswered := 0, req := none, echoRun := 0, echoBad := 0 }

section
variable (s : State)

theorem State.viewOf_updView_self (i : Nat) (f : View → View) : (s.updView i f).viewOf i = f (s.viewOf i) := by
  rw [State.viewOf_updView, if_pos rfl]

theorem State.told_updView {f : View → View} (h : ∀ v, (f v).told = v.told) (i j : Nat) : ((s.updView i f).viewOf j).told = (s.viewOf j).told :=
  Tab.read_upd ({} : View) s.view i f View.told (h _) j

theorem State.view_concludeTest (q : Test) (v : Nat) : (s.concludeTest q v).view = s.view := by
  unfold State.concludeTest
  dsimp only
  split
  · rfl
  · exact State.view_finalReply _ _ _ _ _ _ _

theorem State.view_abortTest (q : Test) : (s.abortTest q).view = s.view := by
  have hrel (x : State) : (x.testRelease q.node).view = x.view := by
    unfold State.testRelease State.unitTesting
    split_ifs <;> rfl
  rw [State.abortTest, hrel]
  exact State.view_concludeTest _ _ _

/-- A test that starts counts echoes anew, and tells a side nothing else. -/
theorem State.told_startTest (n : Node) (cls j : Nat) : ((s.startTest n cls).viewOf j).told = (s.viewOf j).told := by
  have hbegin (x : State) : ((x.beginTest n cls).viewOf j).told = (x.viewOf j).told := by
    unfold State.beginTest
    dsimp only
    split
    · exact x.told_updView (f := fun v => { v with echoRun := 0, echoBad := 0 }) (fun _ => rfl) n.idx j
    · rfl
  unfold State.startTest
  split
  · rfl
  · split
    · exact hbegin s
    · next q _ =>
      split
      · rw [hbegin, State.viewOf, State.view_abortTest]; rfl
      · rfl

theorem State.told_giveUp (i j : Nat) : ((s.giveUp i).viewOf j).told = (s.viewOf j).told := by
  unfold State.giveUp
  split
  · rw [State.told_startTest]
    exact s.told_updView (f := fun v => { v with unanswered := 0, req := none }) (fun _ => rfl) i j
  · rfl

theorem State.told_noAnswer (i j : Nat) : ((s.noAnswer i).viewOf j).told = (s.viewOf j).told := by
  unfold State.noAnswer
  split
  · rw [State.told_giveUp]
    exact s.told_updView (f := fun v => { v with awaiting := false }) (fun _ => rfl) i j
  · rfl

theorem State.told_echoed (i : Nat) (b : Bool) (j : Nat) : ((s.echoed i b).viewOf j).told = (s.viewOf j).told := by
  unfold State.echoed
  dsimp only
  split
  · rfl
  · split
    · rfl
    · exact State.told_updView _ (f := fun v => { v with echoRun := v.echoRun + 1, echoBad := v.echoBad + b2n b }) (fun _ => rfl) i j

/-- An echo is settled between the chip and the view. -/
theorem State.echoed_frame (i : Nat) (b : Bool) : s.echoed i b = { s with chip := (s.echoed i b).chip, view := (s.echoed i b).view } := by
  unfold State.echoed
  dsimp only
  split
  · rfl
  · split <;> rfl

/-- A missing answer is a matter of the books. -/
theorem State.books_noAnswer (i : Nat) : s.Books (s.noAnswer i) := by
  unfold State.noAnswer State.giveUp
  split
  · split
    · exact (((State.Books.refl s).updView _ _).updView _ _).startTest (nBarrier_releasesNothing i) tcBarrier
    · exact (State.Books.refl s).updView _ _
  · exact .refl s

theorem State.noAnswer_tested {n : Node} {cls : Nat} (h : (s.tests.find n cls).isSome = true) (i : Nat) :
    ((s.noAnswer i).tests.find n cls).isSome = true := by
  unfold State.noAnswer State.giveUp
  split
  · split
    · exact State.startTest_isSome _ _ _ _ _ (.inl h)
    · exact h
  · exact h

end

/-! #### Discarded by a side (R86, R99, R111) -/

/-- A side's view after its n-th invalid frame, of a type: a capture frame of the half is missed. -/
def View.countsBad (n type : Nat) (v : View) : View :=
  { v with badIn := n, returnAt := none, loBad := if type = 1 then true else v.loBad, hiBad := if type = 2 then true else v.hiBad }

theorem State.f2lBad_told (s : State) (i : Nat) : ((s.f2lBad i).viewOf i).told = ((s.viewOf i).countsBad ((s.viewOf i).badIn + 1) 0).told := by
  unfold State.f2lBad
  dsimp only
  rw [State.told_noAnswer, State.told_startTest]
  change (((s.echoed i true).updView i (View.countsBad ((s.viewOf i).badIn + 1) 0)).viewOf i).told = _
  rw [State.viewOf_updView_self]
  exact congrArg (fun v : View => (v.countsBad ((s.viewOf i).badIn + 1) 0)) (s.told_echoed i true i)

theorem State.f2lBad_tested (s : State) (i : Nat) : s.barrierTested (s.f2lBad i) i := by
  intro hr
  refine State.noAnswer_tested _ (State.startTest_isSome _ _ _ _ _ (.inr ⟨?_, rfl, rfl⟩)) i
  rw [← hr]
  refine State.retired_congr ?_ ?_ ?_ _ _
  · exact (congrArg State.mem (s.echoed_frame i true) :)
  · exact (congrArg (fun x : State => x.dev.otp) (s.echoed_frame i true) :)
  · exact (congrArg (fun x : State => x.dev.otp1) (s.echoed_frame i true) :)

/-- From s to t only terminals and functions change. -/
def State.Misses (s t : State) : Prop := t = { s with term := t.term, fn := t.fn }

theorem State.Misses.trans {s t u : State} (h : s.Misses t) (g : t.Misses u) : s.Misses u := by
  unfold State.Misses at g
  rw [h] at g
  exact g

theorem State.Misses.ite {s t u : State} {p : Prop} [Decidable p] (ht : s.Misses t) (hu : s.Misses u) : s.Misses (if p then t else u) := by
  split
  · exact ht
  · exact hu

theorem State.misses_updTerm (s : State) (t : Nat) (f : Terminal → Terminal) : s.Misses (s.updTerm t f) := rfl
theorem State.misses_updFn (s : State) (k : Nat) (f : Fn → Fn) : s.Misses (s.updFn k f) := rfl

/-- The terminals of a list change. -/
theorem State.Misses.terms {s x : State} (h : s.Misses x) (l : List Nat) (f : State → Nat → Terminal → Terminal) :
    s.Misses (x.forEach l fun y t => y.updTerm t (f y t)) := forEach_inv s.Misses _ (fun y t hy => hy.trans (y.misses_updTerm t _)) x l h

/-- The functions of a list change. -/
theorem State.Misses.fns {s x : State} (h : s.Misses x) (l : List Nat) (f : State → Nat → Fn → Fn) :
    s.Misses (x.forEach l fun y k => y.updFn k (f y k)) := forEach_inv s.Misses _ (fun y k hy => hy.trans (y.misses_updFn k _)) x l h

/-- The half of a missed capture frame is marked (R99). -/
def View.missesHalf (lo : Bool) (v : View) : View := if lo then { v with loBad := true } else { v with hiBad := true }

/-- A missed capture frame marks its half in the view; the rest is a matter of terminals and functions (R99). -/
theorem State.missCapture_misses (s : State) (i : Nat) (lo : Bool) :
    (s.updView i (View.missesHalf lo)).Misses (s.missCapture i lo) := by
  obtain ⟨s1, h1⟩ : ∃ s1, s.updView i (View.missesHalf lo) = s1 := ⟨_, rfl⟩
  have hself : s1.Misses s1 := rfl
  unfold State.missCapture
  dsimp only
  rw [h1]
  have h1' : (s.updView i fun w => if lo then { w with loBad := true } else { w with hiBad := true }) = s1 := h1
  rw [h1']
  refine State.Misses.ite ?_ (State.Misses.ite (State.Misses.fns (State.Misses.terms ?_ _ _) _ _) (State.Misses.terms ?_ _ _))
  all_goals exact State.Misses.ite ((hself.terms _ _).fns _ _) (hself.terms _ _)

/-- Side i discards the frame of a row, of a type. -/
def State.ignores (s : State) (ins : Instr) (i type : Nat) : Prop :=
  ∃ t, exec ins s = .next t ∧ (t.viewOf i).badIn = (s.viewOf i).badIn + 1 ∧
    (t.viewOf i).nextPart = (s.viewOf i).nextPart ∧ (t.viewOf i).qual = (s.viewOf i).qual ∧
    (t.viewOf i).records = (s.viewOf i).records ∧ (t.viewOf i).returnAt = none ∧
    (type = 1 → (t.viewOf i).loBad = true) ∧ (type = 2 → (t.viewOf i).hiBad = true) ∧ s.barrierTested t i

theorem State.ignores_of {s x : State} {ins : Instr} {i type : Nat} (hex : exec ins s = settled x)
    (hv : (x.viewOf i).told = ((s.viewOf i).countsBad ((s.viewOf i).badIn + 1) type).told) (ht : s.barrierTested x i) : s.ignores ins i type :=
  ⟨x.settle, hex, (congrArg View.badIn hv :), (congrArg View.nextPart hv :), (congrArg View.qual hv :), (congrArg View.records hv :),
    (congrArg View.returnAt hv :), fun h => (congrArg View.loBad hv :).trans (if_pos h), fun h => (congrArg View.hiBad hv :).trans (if_pos h), ht⟩

/-- An invalid capture frame is counted, and missed. -/
theorem State.missed_told {s x : State} {i : Nat} {lo : Bool} (hv : (x.viewOf i).told = ((s.viewOf i).countsBad ((s.viewOf i).badIn + 1) 0).told)
    (ht : s.barrierTested x i) :
    ((x.missCapture i lo).viewOf i).told = ((s.viewOf i).countsBad ((s.viewOf i).badIn + 1) (if lo then 1 else 2)).told ∧
      s.barrierTested (x.missCapture i lo) i := by
  have hm := x.missCapture_misses i lo
  obtain ⟨y, hy⟩ : ∃ y, x.missCapture i lo = y := ⟨_, rfl⟩
  rw [hy] at hm ⊢
  have hview : y.viewOf i = View.missesHalf lo (x.viewOf i) := by
    have hv : y.view = (x.updView i (View.missesHalf lo)).view := (congrArg State.view hm :)
    rw [State.viewOf, hv]
    exact x.viewOf_updView_self i _
  refine ⟨?_, fun hr => ?_⟩
  · rw [hview]
    cases lo
    · exact (congrArg (fun v : View => { v with hiBad := true }) hv :)
    · exact (congrArg (fun v : View => { v with loBad := true }) hv :)
  · have htests : y.tests = x.tests := (congrArg State.tests hm :)
    rw [htests]
    exact ht hr

/-- A field chip without an answer to send. -/
def Chip.unasked (x : Chip) : Chip := { x with reply := none }

/-- Every row that is a frame to a side (R96–R99, R101, R367). -/
theorem invalidToLogic (s : State) (i : ChipIx) (h : F2LHdr) (payload : BitVec 248) :
    ∀ row ∈ ([(.diag i h payload, 3, true), (.stream i h payload, 4, decide (fld payload 6 5 ≠ 0)), (.idle i h payload, 5, true),
        (.captureLo i h payload, 1, true), (.captureHi i h payload, 2, true)] : List (Instr × Nat × Bool)),
      s.f2lOk row.2.1 h payload.toNat row.2.2 = false → s.ignores row.1 i.val row.2.1 := by
  have hv := s.f2lBad_told i.val
  have ht := s.f2lBad_tested i.val
  obtain ⟨x, hx⟩ : ∃ x, s.f2lBad i.val = x := ⟨_, rfl⟩
  have hex {type : Nat} {payOk : Bool} {a b : Res} (hb : s.f2lOk type h payload.toNat payOk = false) :
      (if s.f2lOk type h payload.toNat payOk then a else b) = b := if_neg (by rw [hb]; decide)
  rw [hx] at hv ht
  have hlo := State.missed_told (lo := true) hv ht
  have hhi := State.missed_told (lo := false) hv ht
  simp only [List.forall_mem_cons, List.not_mem_nil, false_imp_iff, implies_true, and_true]
  exact ⟨fun hb => State.ignores_of (x := x.updChip i.val Chip.unasked) ((hex hb).trans (by rw [hx]; rfl)) hv ht, fun hb => State.ignores_of ((hex hb).trans (by rw [hx])) hv ht,
    fun hb => State.ignores_of ((hex hb).trans (by rw [hx])) hv ht, fun hb => State.ignores_of ((hex hb).trans (by rw [hx])) hlo.1 hlo.2,
    fun hb => State.ignores_of ((hex hb).trans (by rw [hx])) hhi.1 hhi.2⟩

/-- Settles O18: a discarded frame changes the count, the events and the test of its barrier alone. -/
theorem invalidBarrierFrames : Obligations.InvalidBarrierFrames := by
  unfold Obligations.InvalidBarrierFrames
  exact fun s i => ⟨fun h payload on ao rsv p q id part rsv2 pattern r => invalidToField s i h payload on ao rsv p q id part rsv2 pattern r,
    fun h payload => invalidToLogic s i h payload⟩

end Sys2Proof.Machine

namespace Sys2Proof.Machine

/-! ### Frames to a side (R86, R95–R102, R107, R111, R367) -/

/-! #### Queues that no event reaches (R98, R337, R380) -/

/-- Queue q is no node's stream of events. -/
def noStream (q : Nat) : Prop := ∀ n : Node, n.stream ≠ some q

/-- The signature stream of a terminal holds no events (R337). -/
theorem noStream_signature {k : Nat} (hk : k < 384) : noStream (streamQueue k 1) := by
  intro n hn
  unfold Node.stream streamQueue at hn
  split at hn
  · have := Option.some.inj hn; omega
  · have := Option.some.inj hn; omega
  · simp at hn

section
variable {q : Nat} (hq : noStream q)
include hq

theorem queueEvents_other (l : List Event) (t : Tab Queue) : Tab.get ({} : Queue) (l.foldl queueEvent t) q = Tab.get {} t q := by
  have one (t : Tab Queue) (e : Event) : Tab.get ({} : Queue) (queueEvent t e) q = Tab.get {} t q := by
    unfold queueEvent
    split
    · next p hp => rw [Tab.get_upd, if_neg fun h : q = p => hq e.source (h ▸ hp)]
    · rfl
  induction l generalizing t with
  | nil => rfl
  | cons e r ih => rw [List.foldl_cons, ih, one]

theorem State.queueOf_postL (s : State) (code : Nat) (src : Node) (sev detail : Nat) (l : Bool) :
    (s.postL code src sev detail l).queueOf q = s.queueOf q := queueEvents_other hq _ _

theorem State.queueOf_startTest (s : State) (n : Node) (cls : Nat) : (s.startTest n cls).queueOf q = s.queueOf q := by
  have hbegin (x : State) : (x.beginTest n cls).queueOf q = x.queueOf q := by
    unfold State.beginTest
    dsimp only
    split <;> exact State.queueOf_postL hq _ _ _ _ _ _
  have hfinal (x : State) (port : Option Side) (w o : Nat) (tag : BitVec 32) (v : Nat) (l : List Nat) :
      (x.finalReply port w o tag v l).queue = x.queue := by
    cases port <;> (unfold State.finalReply State.addReply; rfl)
  have hend (x : State) (p : Test) : (x.concludeTest p 2).queue = x.queue := by
    unfold State.concludeTest
    dsimp only
    split
    · rfl
    · exact hfinal _ _ _ _ _ _ _
  have hrel (x : State) (m : Node) : (x.testRelease m).queue = x.queue := by
    unfold State.testRelease State.unitTesting
    split_ifs <;> rfl
  have habort (x : State) (p : Test) : (x.abortTest p).queueOf q = x.queueOf q := by
    rw [State.abortTest, State.queueOf, hrel]
    change Tab.get ({} : Queue) ((x.post 0x0A04 p.node 0 x.freeStatus).concludeTest p 2).queue q = _
    rw [hend]
    exact State.queueOf_postL hq _ _ _ _ _ _
  unfold State.startTest
  split
  · rfl
  · split
    · exact hbegin s
    · split
      · rw [hbegin, habort]
      · rfl

theorem State.queueOf_noAnswer (s : State) (i : Nat) : (s.noAnswer i).queueOf q = s.queueOf q := by
  unfold State.noAnswer State.giveUp
  split
  · split
    · exact State.queueOf_startTest hq _ _ _
    · rfl
  · rfl

end

/-! #### The end of a valid frame (R94, R107, R111) -/

/-- A side's view without the loss of its chip. -/
def View.aware (v : View) : View := { v with lost := false, lostAt := 0, returnAt := none, seen := false }

/-- A frame of field chip i that has made x of a state ends in t: the answer may be missing, and the chip may be lost. -/
structure State.Ended (x t : State) (i : Nat) : Prop where
  view  : (t.viewOf i).told.aware = (x.viewOf i).told.aware
  quiet : (x.viewOf i).awaiting = false → (t.viewOf i).aware = (x.viewOf i).aware
  chip  : t.chipOf i = x.chipOf i
  outs  : x.outsOnly t
  queue : ∀ q, noStream q → t.queueOf q = x.queueOf q

section
variable (s : State) (i : Nat)

/-! A loss, but for the loss itself. -/
theorem State.aware_chipLost (j : Nat) : ((s.chipLost i).viewOf j).aware = (s.viewOf j).aware := by
  have hupd {f : View → View} (h : ∀ v, (f v).aware = v.aware) : ((s.updView i f).viewOf j).aware = (s.viewOf j).aware :=
    Tab.read_upd ({} : View) s.view i f View.aware (h _) j
  unfold State.chipLost
  split
  · exact hupd (f := fun v => { v with returnAt := none }) fun _ => rfl
  · dsimp only
    rw [State.viewOf, State.settle_view, State.postL_view, State.updChip_view, State.updLanes_view]
    exact hupd (f := fun v => { v with lost := true, lostAt := s.clock.count, returnAt := none, seen := false }) fun _ => rfl

theorem State.chipOf_chipLost : (s.chipLost i).chipOf i = s.chipOf i := by
  unfold State.chipLost
  split
  · rfl
  · dsimp only
    rw [State.chipOf_settle, State.chipOf_postL, State.chipOf_updChip, if_neg (chipOther_ne i).symm]
    rfl

theorem State.outsOnly_chipLost : s.outsOnly (s.chipLost i) := by
  unfold State.chipLost
  dsimp only
  split
  · exact fun _ => rfl
  · exact State.outsOnly_settle_of (by rw [State.postL_term, State.updChip_term, State.updLanes_term, State.updView_term])

theorem State.queueOf_chipLost {q : Nat} (hq : noStream q) : (s.chipLost i).queueOf q = s.queueOf q := by
  unfold State.chipLost
  split
  · rfl
  · exact State.queueOf_postL hq _ _ _ _ _ _

end

theorem State.Ended.chipLost {x y : State} {i : Nat} (h : x.Ended y i) : x.Ended (y.chipLost i) i :=
  ⟨(congrArg View.told (y.aware_chipLost i i)).trans h.view, fun hq => (y.aware_chipLost i i).trans (h.quiet hq),
    (y.chipOf_chipLost i).trans h.chip, fun k => by rw [y.outsOnly_chipLost i k, h.outs k],
    fun q hq => (y.queueOf_chipLost i hq).trans (h.queue q hq)⟩

theorem State.chipLost_lost (s : State) (i : Nat) : ((s.chipLost i).viewOf i).lost = true := by
  cases h : (s.viewOf i).lost
  · exact (State.chipLost_first h).1
  · rw [State.chipLost_again h, State.viewOf_updView_self]; exact h

theorem State.ended_noAnswer (x : State) (i : Nat) : x.Ended (x.noAnswer i) i := by
  have hb := x.books_noAnswer i
  refine ⟨congrArg View.aware (x.told_noAnswer i i), fun h => ?_, ?_, fun k => ?_, fun q hq => State.queueOf_noAnswer hq x i⟩
  · rw [State.noAnswer, if_neg (by rw [h]; decide)]
  · rw [State.chipOf, hb.frame]; rfl
  · rw [State.termOf, hb.term]; rfl

/-- A valid frame to a side: it ends what its own effect has made of the state with its header. -/
theorem State.f2l_valid {s x : State} {ins : Instr} {i type payload : Nat} {h : F2LHdr} {payOk : Bool} {f : State → State} {b : Res}
    (hex : exec ins s = if s.f2lOk type h payload payOk then settled (s.f2lGood i h f) else b) (hok : s.f2lOk type h payload true = true)
    (hp : payOk = true) (hx : f (s.updView i fun v => v.header h) = x) :
    ∃ t, exec ins s = .next t ∧ t.gatesSafe ∧ x.Ended t i ∧ (h.silent = true → (t.viewOf i).lost = true) := by
  subst hp
  have hn := x.ended_noAnswer i
  have settles {y : State} (hy : x.Ended y i) : x.Ended y.settle i :=
    ⟨hy.view, hy.quiet, hy.chip, fun k => by rw [y.outsOnly_settle k, hy.outs k], hy.queue⟩
  rw [if_pos hok, State.f2lGood, hx] at hex
  refine ⟨_, hex, State.settle_gatesSafe _, settles ?_, fun hs => ?_⟩
  · split
    · exact hn.chipLost
    · exact hn
  · rw [if_pos (.inl hs)]
    exact State.chipLost_lost _ _

/-! #### The header (R95, R102, R126) -/

theorem View.told_header (v : View) (h : F2LHdr) : (v.header h).told =
    { v.told with fsafeNow := h.fsafe, cf := h.cf, plug := h.plug, nextPart := if h.cf && v.nextPart.isNone then some 0 else v.nextPart } := by
  have ha : (v.answer h.ack).told = v.told := by unfold View.answer; split <;> rfl
  exact congrArg (fun w : View => { w with fsafeNow := h.fsafe, cf := h.cf, plug := h.plug, nextPart := if h.cf && v.nextPart.isNone then some 0 else v.nextPart }) ha

end Sys2Proof.Machine

namespace Sys2Proof.Machine

/-! #### CAPTURE (R95, R97, R99, R136) -/

/-- Updates of other terminals leave a terminal. -/
theorem State.termOf_forEach_other {g : Nat → Nat} {F : Nat → Terminal → Terminal} {l : List Nat} {k : Nat} (h : ∀ a ∈ l, k ≠ g a) (s : State) :
    (s.forEach l fun x a => x.updTerm (g a) (F a)).termOf k = s.termOf k :=
  State.forEach_inv_mem (fun x => x.termOf k = s.termOf k) _ (fun _ a ha hx => (State.termOf_updTerm_other _ (h a ha) _).trans hx) rfl

/-- A terminal that one step of many updates. -/
theorem State.termOf_forEach_self {g : Nat → Nat} {F : Nat → Terminal → Terminal} {l : List Nat} (hg : ∀ a b, g a = g b → a = b) (hl : l.Nodup)
    {c : Nat} (hc : c ∈ l) (s : State) : (s.forEach l fun x a => x.updTerm (g a) (F a)).termOf (g c) = F c (s.termOf (g c)) := by
  obtain ⟨a, r, rfl⟩ := List.append_of_mem hc
  have hnot := (List.nodup_middle.mp hl)
  rw [List.nodup_cons, List.mem_append, not_or] at hnot
  have before (b : Nat) (hb : b ∈ a) : g c ≠ g b := fun h => hnot.1.1 (hg _ _ h ▸ hb)
  have after (b : Nat) (hb : b ∈ r) : g c ≠ g b := fun h => hnot.1.2 (hg _ _ h ▸ hb)
  rw [State.forEach_split, State.termOf_forEach_other after, State.termOf_updTerm_self, State.termOf_forEach_other before]

theorem chipTerm_inj (i : Nat) {a b : Nat} (h : chipTerm i a = chipTerm i b) : a = b := by unfold chipTerm at h; omega

/-- A side's view that takes a capture frame of a half. -/
def View.captures (h : F2LHdr) (lo : Bool) (v : View) : View :=
  { v with qual := h.qual, fsafe := h.fsafe, seen := v.seen || !v.lost, loOk := v.loOk || lo, hiOk := v.hiOk || !lo }

/-- A terminal that takes QUAL, unless its half is missed twice, and FSAFE of a header. -/
def Terminal.headed (twice qual fsafe : Bool) (x : Terminal) : Terminal :=
  { x with img := { x.img with qual := if twice then x.img.qual else qual, fsafe := fsafe, stale := false } }

/-- A terminal that takes SAMPLE and CNT of a capture frame. -/
def Terminal.sampled (sample : BitVec 18) (cnt : BitVec 13) (x : Terminal) : Terminal :=
  { x with ana := { x.ana with sample := sample, cnt := cnt, stale := x.ctr.stale, missed := false } }

theorem Terminal.sampled_stale (sample : BitVec 18) (cnt : BitVec 13) (x : Terminal) : (x.sampled sample cnt).ana.stale = x.ctr.stale := rfl

/-- The channel of the k-th field of a capture frame of a half. -/
def halfChan (lo : Bool) (k : Nat) : Nat := if lo then k else k + 8

section
variable (s : State) (i : Nat) (h : F2LHdr) (payload : BitVec 248) (lo : Bool)

/-- The terminals of chip i take the header. -/
def State.headed : State :=
  (s.updView i (View.captures h lo)).forEach (List.range 16) fun x c =>
    x.updTerm (chipTerm i c) (Terminal.headed (missedTwice (s.viewOf i) c) (bit h.qual c) (bit h.fsafe c))

/-- The terminals of the half take their fields. -/
def State.sampled : State :=
  (s.headed i h lo).forEach (List.range 8) fun x k =>
    x.updTerm (chipTerm i (halfChan lo k)) (Terminal.sampled (s.imageSample (chipTerm i (halfChan lo k)) (capSample payload k)) (capCnt payload k))

theorem State.takeCapture_lost {s : State} (hl : (s.viewOf i).lost = true) : s.takeCapture i h payload lo = s.updView i (View.captures h lo) :=
  if_pos hl

theorem State.takeCapture_live {s : State} (hl : (s.viewOf i).lost = false) : s.takeCapture i h payload lo = s.sampled i h payload lo :=
  if_neg (by rw [hl]; decide)

/-- The view of a chip after a capture frame, lost or not. -/
theorem State.takeCapture_view : (s.takeCapture i h payload lo).viewOf i = (s.viewOf i).captures h lo := by
  have hself := s.viewOf_updView_self i (View.captures h lo)
  have hkeep (x : State) (g : Nat → Nat) (F : Nat → Terminal → Terminal) (l : List Nat) :
      (x.forEach l fun y a => y.updTerm (g a) (F a)).view = x.view := 
    forEach_keeps State.view (fun y a => y.updTerm (g a) (F a)) (fun _ _ => rfl) x l
  cases hl : (s.viewOf i).lost
  · rw [State.takeCapture_live i h payload lo hl, State.viewOf, State.sampled, hkeep, State.headed, hkeep]
    exact hself
  · rw [State.takeCapture_lost i h payload lo hl]
    exact hself

theorem State.sampled_img (c : Nat) (hc : c < 16) : ((s.sampled i h payload lo).termOf (chipTerm i c)).img =
    ((s.termOf (chipTerm i c)).headed (missedTwice (s.viewOf i) c) (bit h.qual c) (bit h.fsafe c)).img := by
  have hkeep : ((s.sampled i h payload lo).termOf (chipTerm i c)).img = ((s.headed i h lo).termOf (chipTerm i c)).img :=
    forEach_keeps (fun x : State => (x.termOf (chipTerm i c)).img) _
      (fun x k => State.termOf_updTerm_keeps Terminal.img (f := Terminal.sampled _ _) (fun _ => rfl) x _ _) _ _
  rw [hkeep, State.headed, State.termOf_forEach_self (g := chipTerm i) (fun _ _ => chipTerm_inj i) List.nodup_range (List.mem_range.mpr hc)]
  rfl

theorem State.sampled_ana (k : Nat) (hk : k < 8) : let u := chipTerm i (halfChan lo k)
    ((s.sampled i h payload lo).termOf u).ana.sample = s.imageSample u (capSample payload k) ∧
    ((s.sampled i h payload lo).termOf u).ana.cnt = capCnt payload k ∧
    ((s.sampled i h payload lo).termOf u).ana.stale = (s.termOf u).ctr.stale := by
  have hinj (a b : Nat) (hab : chipTerm i (halfChan lo a) = chipTerm i (halfChan lo b)) : a = b := by
    have := chipTerm_inj i hab
    unfold halfChan at this
    split at this <;> omega
  have hctr : ((s.headed i h lo).termOf (chipTerm i (halfChan lo k))).ctr = (s.termOf (chipTerm i (halfChan lo k))).ctr := by
    rw [State.headed]
    exact forEach_keeps (fun x : State => (x.termOf (chipTerm i (halfChan lo k))).ctr)
      (fun x c => x.updTerm (chipTerm i c) (Terminal.headed (missedTwice (s.viewOf i) c) (bit h.qual c) (bit h.fsafe c)))
      (fun x c => State.termOf_updTerm_keeps Terminal.ctr (f := Terminal.headed (missedTwice (s.viewOf i) c) (bit h.qual c) (bit h.fsafe c))
        (fun _ => rfl) x _ _) _ _
  have hself := State.termOf_forEach_self (g := fun a => chipTerm i (halfChan lo a))
    (F := fun a => Terminal.sampled (s.imageSample (chipTerm i (halfChan lo a)) (capSample payload a)) (capCnt payload a))
    hinj List.nodup_range (List.mem_range.mpr hk) (s.headed i h lo)
  dsimp only at hself ⊢
  rw [State.sampled, hself, Terminal.sampled_stale, hctr]
  exact ⟨rfl, rfl, rfl⟩

end

theorem State.img_of_outsOnly {s t : State} (h : s.outsOnly t) (k : Nat) : (t.termOf k).img = (s.termOf k).img := (congrArg Terminal.img (h k) :)
theorem State.ana_of_outsOnly {s t : State} (h : s.outsOnly t) (k : Nat) : (t.termOf k).ana = (s.termOf k).ana := (congrArg Terminal.ana (h k) :)

/-- The header is no matter of a missed half, or of a loss. -/
theorem View.header_keeps (v : View) (h : F2LHdr) : (v.header h).lost = v.lost ∧ missedTwice (v.header h) = missedTwice v := by
  have ht := v.told_header h
  refine ⟨(congrArg View.lost ht :), funext fun c => ?_⟩
  have h1 : (v.header h).missLo = v.missLo := (congrArg View.missLo ht :)
  have h2 : (v.header h).loBad = v.loBad := (congrArg View.loBad ht :)
  have h3 : (v.header h).missHi = v.missHi := (congrArg View.missHi ht :)
  have h4 : (v.header h).hiBad = v.hiBad := (congrArg View.hiBad ht :)
  rw [missedTwice, missedTwice, h1, h2, h3, h4]

/-- A valid capture frame of a half. -/
theorem capture_valid {s : State} {ins : Instr} {i : ChipIx} {type : Nat} {h : F2LHdr} {payload : BitVec 248} (lo : Bool) {b : Res}
    (hex : exec ins s = if s.f2lOk type h payload.toNat true then settled (s.f2lGood i.val h fun x => x.takeCapture i.val h payload lo) else b)
    (hok : s.f2lOk type h payload.toNat true = true) :
    ∃ t, exec ins s = .next t ∧ t.gatesSafe ∧ (t.viewOf i.val).qual = h.qual ∧
      ((s.viewOf i.val).lost = true → ∀ k, (t.termOf k).img = (s.termOf k).img ∧ (t.termOf k).ana = (s.termOf k).ana) ∧
      ((s.viewOf i.val).lost = false → ∀ c < 16, (t.termOf (chipTerm i.val c)).img.fsafe = bit h.fsafe c ∧ (t.termOf (chipTerm i.val c)).img.stale = false ∧
        (t.termOf (chipTerm i.val c)).img.qual = (if missedTwice (s.viewOf i.val) c then (s.termOf (chipTerm i.val c)).img.qual
          else bit h.qual c)) ∧
      ((s.viewOf i.val).lost = false → ∀ k < 8,
        let u := chipTerm i.val (halfChan lo k)
        (t.termOf u).ana.sample = s.imageSample u (capSample payload k) ∧
        (t.termOf u).ana.cnt = capCnt payload k ∧ (t.termOf u).ana.stale = (s.termOf u).ctr.stale) ∧
      (h.silent = true → (t.viewOf i.val).lost = true) := by
  obtain ⟨y, hy⟩ : ∃ y, s.updView i.val (fun v => v.header h) = y := ⟨_, rfl⟩
  obtain ⟨x, hx⟩ : ∃ x, y.takeCapture i.val h payload lo = x := ⟨_, rfl⟩
  have hview : y.viewOf i.val = (s.viewOf i.val).header h := by rw [← hy, State.viewOf_updView_self]
  obtain ⟨hlost, htwice⟩ := (s.viewOf i.val).header_keeps h
  have hterm (k : Nat) : y.termOf k = s.termOf k := by rw [← hy]; rfl
  have hsample (k : Nat) (c : BitVec 18) : y.imageSample k c = s.imageSample k c := by rw [← hy]; rfl
  obtain ⟨t, he, hg, hend, hsilent⟩ := State.f2l_valid (x := x) hex hok rfl (by rw [hy]; exact hx)
  have himg (k : Nat) : (t.termOf k).img = (x.termOf k).img := State.img_of_outsOnly hend.outs k
  have hana (k : Nat) : (t.termOf k).ana = (x.termOf k).ana := State.ana_of_outsOnly hend.outs k
  refine ⟨t, he, hg, ?_, fun hl k => ?_, fun hl c hc => ?_, fun hl k hk => ?_, hsilent⟩
  · refine (congrArg View.qual hend.view :).trans ?_
    have hxv : x.viewOf i.val = (y.viewOf i.val).captures h lo := hx ▸ y.takeCapture_view i.val h payload lo
    rw [hxv]; rfl
  · have hxl := State.takeCapture_lost i.val h payload lo (s := y) (by rw [hview, hlost, hl])
    have hk : x.termOf k = s.termOf k := by rw [← hx, hxl]; exact hterm k
    exact ⟨by rw [himg, hk], by rw [hana, hk]⟩
  · have hxl := State.takeCapture_live i.val h payload lo (s := y) (by rw [hview, hlost, hl])
    have hc' : (t.termOf (chipTerm i.val c)).img = ((s.termOf (chipTerm i.val c)).headed (missedTwice (s.viewOf i.val) c)
        (bit h.qual c) (bit h.fsafe c)).img := by
       rw [himg, ← hx, hxl, State.sampled_img _ _ _ _ _ c hc, hterm, hview, htwice]
    exact ⟨(congrArg Img.fsafe hc' :), (congrArg Img.stale hc' :), (congrArg Img.qual hc' :)⟩
  · have hxl := State.takeCapture_live i.val h payload lo (s := y) (by rw [hview, hlost, hl])
    have hk' := y.sampled_ana i.val h payload lo k hk
    dsimp only at hk' ⊢
    rw [hana, ← hx, hxl, ← hsample, ← hterm]
    exact hk'

end Sys2Proof.Machine

namespace Sys2Proof.Machine

/-! #### DIAG (R101, R102) -/

theorem State.fillCause_keeps (s : State) (i : Nat) (r : DiagRec) : ∃ f, s.fillCause i r = { s with fn := f } := by
  unfold State.fillCause
  split
  · refine State.forEach_inv_mem (fun x => ∃ f, x = { s with fn := f }) _ ?_ ⟨s.fn, rfl⟩
    rintro _ k - ⟨f, rfl⟩
    exact ⟨_, rfl⟩
  · exact ⟨s.fn, rfl⟩

theorem State.fillCauses_keep (i : Nat) (l : List DiagRec) (s : State) : ∃ f, l.foldl (fun y r => y.fillCause i r) s = { s with fn := f } := by
  induction l generalizing s with
  | nil => exact ⟨s.fn, rfl⟩
  | cons r l ih =>
    obtain ⟨f, hf⟩ := s.fillCause_keeps i r
    obtain ⟨g, hg⟩ := ih { s with fn := f }
    exact ⟨g, by rw [List.foldl_cons, hf, hg]⟩

/-- The part of the records that a DIAG frame brings. -/
def diagPart (payload : BitVec 248) : Byte := BitVec.ofNat 8 (fld payload 23 16)

/-- The part that is due after that of a DIAG frame. -/
def diagNext (payload : BitVec 248) : Option Byte :=
  if fld payload 31 24 ≤ fld payload 23 16 + 1 then some 0xFF else some (BitVec.ofNat 8 (fld payload 23 16 + 1))

/-- A side's view that takes the part of a DIAG frame that is due. -/
def View.takesPart (payload : BitVec 248) (v : View) : View :=
  { v with records := v.records ++ diagRecords payload, nextPart := diagNext payload }

/-- What a DIAG frame makes of a state with its header. -/
def State.diagFrame (s : State) (i : Nat) (payload : BitVec 248) : State :=
  let x := s.updChip i fun y => { y with reply := none, echo := none }
  if fld payload 15 0 = (x.viewOf i).diagId.toNat ∧ (x.viewOf i).nextPart = some (diagPart payload) then
    (diagRecords payload).foldl (fun y r => y.fillCause i r) (x.updView i (View.takesPart payload))
  else x

section
variable (s : State) (i : Nat) (payload : BitVec 248)

theorem State.diagFrame_due (hid : fld payload 15 0 = (s.viewOf i).diagId.toNat) (hdue : (s.viewOf i).nextPart = some (diagPart payload)) :
    (s.diagFrame i payload).viewOf i = (s.viewOf i).takesPart payload ∧ ((s.diagFrame i payload).chipOf i).reply = none := by
  obtain ⟨x, hx⟩ : ∃ x, s.updChip i (fun y => { y with reply := none, echo := none }) = x := ⟨_, rfl⟩
  have hview : x.viewOf i = s.viewOf i := by rw [← hx]; rfl
  have hchip : (x.chipOf i).reply = none := by rw [← hx, State.chipOf_updChip_self]
  obtain ⟨f, hf⟩ := State.fillCauses_keep i (diagRecords payload) (x.updView i (View.takesPart payload))
  have hd : s.diagFrame i payload = { x.updView i (View.takesPart payload) with fn := f } := by
    rw [State.diagFrame]
    dsimp only
    rw [hx, hview, if_pos ⟨hid, hdue⟩, hf]
  rw [hd]
  exact ⟨(x.viewOf_updView_self i _).trans (by rw [hview]), hchip⟩

theorem State.diagFrame_other (hid : fld payload 15 0 ≠ (s.viewOf i).diagId.toNat) :
    (s.diagFrame i payload).viewOf i = s.viewOf i ∧ ((s.diagFrame i payload).chipOf i).reply = none := by
  obtain ⟨x, hx⟩ : ∃ x, s.updChip i (fun y => { y with reply := none, echo := none }) = x := ⟨_, rfl⟩
  have hview : x.viewOf i = s.viewOf i := by rw [← hx]; rfl
  have hchip : (x.chipOf i).reply = none := by rw [← hx, State.chipOf_updChip_self]
  have hd : s.diagFrame i payload = x := by
    rw [State.diagFrame]
    rw [hx, hview, if_neg fun h => hid h.1]
  rw [hd]
  exact ⟨hview, hchip⟩

end

section
variable {s : State} {i : ChipIx} {h : F2LHdr} {payload : BitVec 248}

/-- What a valid DIAG frame leaves of its own effect. -/
theorem diag_valid (hok : s.f2lOk 3 h payload.toNat true = true) : ∃ y t : State, y.viewOf i.val = (s.viewOf i.val).header h ∧
    exec (.diag i h payload) s = .next t ∧ (t.viewOf i.val).records = ((y.diagFrame i.val payload).viewOf i.val).records ∧
    (t.viewOf i.val).nextPart = ((y.diagFrame i.val payload).viewOf i.val).nextPart ∧
    t.chipOf i.val = (y.diagFrame i.val payload).chipOf i.val ∧ (h.silent = true → (t.viewOf i.val).lost = true) := by
  obtain ⟨y, hy⟩ : ∃ y, s.updView i.val (fun v => v.header h) = y := ⟨_, rfl⟩
  obtain ⟨x, hx⟩ : ∃ x, y.diagFrame i.val payload = x := ⟨_, rfl⟩
  have hview : y.viewOf i.val = (s.viewOf i.val).header h := by rw [← hy, State.viewOf_updView_self]
  obtain ⟨t, he, -, hend, hsilent⟩ := State.f2l_valid (ins := .diag i h payload) (i := i.val) (f := fun z => z.diagFrame i.val payload) (x := x)
    rfl hok rfl (by rw [hy]; exact hx)
  rw [hx.symm] at hend
  exact ⟨y, t, hview, he, (congrArg View.records hend.view :), (congrArg View.nextPart hend.view :), hend.chip, hsilent⟩

theorem diag_due (hok : s.f2lOk 3 h payload.toNat true = true) (hid : fld payload 15 0 = (s.viewOf i.val).diagId.toNat)
    (hdue : (s.viewOf i.val).nextPart = some (diagPart payload)) :
    ∃ t, exec (.diag i h payload) s = .next t ∧ (t.viewOf i.val).records = (s.viewOf i.val).records ++ diagRecords payload ∧
      (t.viewOf i.val).nextPart = diagNext payload ∧ (t.chipOf i.val).reply = none ∧ (h.silent = true → (t.viewOf i.val).lost = true) := by
  obtain ⟨y, t, hy, he, hr, hn, hc, hs⟩ := diag_valid (i := i) hok
  have ht := (s.viewOf i.val).told_header h
  have hid' : (y.viewOf i.val).diagId = (s.viewOf i.val).diagId := hy ▸ (congrArg View.diagId ht :)
  have hrec : (y.viewOf i.val).records = (s.viewOf i.val).records := hy ▸ (congrArg View.records ht :)
  have hnext : (y.viewOf i.val).nextPart = some (diagPart payload) := by
    rw [hy]
    refine (congrArg View.nextPart ht :).trans ?_
    simp [hdue]
  obtain ⟨hv, hp⟩ := y.diagFrame_due i.val payload (hid' ▸ hid) hnext
  rw [hv] at hr hn
  exact ⟨t, he, by rw [hr, View.takesPart, hrec], hn, hc ▸ hp, hs⟩

theorem diag_other (hok : s.f2lOk 3 h payload.toNat true = true) (hid : fld payload 15 0 ≠ (s.viewOf i.val).diagId.toNat) :
    ∃ t, exec (.diag i h payload) s = .next t ∧ (t.viewOf i.val).records = (s.viewOf i.val).records ∧
      (t.chipOf i.val).reply = none ∧ (h.silent = true → (t.viewOf i.val).lost = true) := by
  obtain ⟨y, t, hy, he, hr, -, hc, hs⟩ := diag_valid (i := i) hok
  have ht := (s.viewOf i.val).told_header h
  have hid' : (y.viewOf i.val).diagId = (s.viewOf i.val).diagId := hy ▸ (congrArg View.diagId ht :)
  have hrec : (y.viewOf i.val).records = (s.viewOf i.val).records := hy ▸ (congrArg View.records ht :)
  obtain ⟨hv, hp⟩ := y.diagFrame_other i.val payload (hid' ▸ hid)
  exact ⟨t, he, by rw [hr, hv, hrec], hc ▸ hp, hs⟩

end

end Sys2Proof.Machine
namespace Sys2Proof.Machine

/-! #### STREAM (R98) -/

theorem State.queueOf_updQueue_self (s : State) (q : Nat) (f : Queue → Queue) : (s.updQueue q f).queueOf q = f (s.queueOf q) := Tab.get_upd_self _ _ _ _

section
variable (i c : Nat)

theorem State.streamWord_joins {s : State} (h : (s.chipOf i).waiting = []) (w : Word) : s.streamWord i c w =
    s.updQueue (streamQueue (chipTerm i c) 1) fun q => { q with words := q.words ++ [w] } := by
  unfold State.streamWord
  rw [h]

theorem State.streamWord_waits {s : State} {e : Nat × Word × Bool} {r : List (Nat × Word × Bool)} {w : Word}
    (h : (s.chipOf i).waiting = e :: r) (he : (e.1, e.2.1) = (c, w)) : s.streamWord i c w = s.updChip i fun x => { x with waiting := r } := by
  obtain ⟨hc, hw⟩ := Prod.mk.inj he
  unfold State.streamWord
  rw [h]
  exact if_pos ⟨hc, hw⟩

/-- Words of which none waits at the field chip join the stream. -/
theorem State.streamWords_join (words : List Word) {s : State} (h : (s.chipOf i).waiting = []) :
    ((words.foldl (fun y w => y.streamWord i c w) s).queueOf (streamQueue (chipTerm i c) 1)).words =
      (s.queueOf (streamQueue (chipTerm i c) 1)).words ++ words := by
  induction words generalizing s with
  | nil => simp
  | cons w r ih =>
    obtain ⟨x, hx⟩ : ∃ x, s.updQueue (streamQueue (chipTerm i c) 1) (fun q => { q with words := q.words ++ [w] }) = x := ⟨_, rfl⟩
    have hw : (x.chipOf i).waiting = [] := by rw [← hx]; exact h
    have hq : (x.queueOf (streamQueue (chipTerm i c) 1)).words = (s.queueOf (streamQueue (chipTerm i c) 1)).words ++ [w] := by
      rw [← hx, State.queueOf_updQueue_self]
    rw [List.foldl_cons, State.streamWord_joins i c h, hx, ih hw, hq, List.append_assoc, List.singleton_append]

/-- Words that wait at the field chip wait no more, and the stream has them already. -/
theorem State.streamWords_waited (words : List Word) {s : State}
    (h : ((s.chipOf i).waiting.take words.length).map (fun e => (e.1, e.2.1)) = words.map (fun w => (c, w))) :
    ((words.foldl (fun y w => y.streamWord i c w) s).chipOf i).waiting = (s.chipOf i).waiting.drop words.length ∧
      (words.foldl (fun y w => y.streamWord i c w) s).queue = s.queue := by
  induction words generalizing s with
  | nil => exact ⟨rfl, rfl⟩
  | cons w words ih =>
    cases hs : (s.chipOf i).waiting with
    | nil => simp [hs] at h
    | cons e r =>
      rw [hs, List.length_cons, List.take_succ_cons, List.map_cons, List.map_cons, List.cons.injEq] at h
      obtain ⟨x, hx⟩ : ∃ x, s.updChip i (fun x => { x with waiting := r }) = x := ⟨_, rfl⟩
      have hw : (x.chipOf i).waiting = r := by rw [← hx, State.chipOf_updChip_self]
      have hq : x.queue = s.queue := by rw [← hx]; rfl
      obtain ⟨h1, h2⟩ := ih (s := x) (hw ▸ h.2)
      rw [List.foldl_cons, State.streamWord_waits i c hs h.1, hx]
      exact ⟨by rw [h1, hw, List.length_cons, List.drop_succ_cons], h2.trans hq⟩

end

/-- The words of a STREAM frame. -/
def streamWords (payload : BitVec 248) : List Word :=
  (List.range (fld payload 6 5)).map fun k => BitVec.ofNat 72 (fld payload (72 * k + 103) (72 * k + 32))

/-- A side's view that counts the words of a STREAM frame's record. -/
def View.recorded (payload : BitVec 248) (v : View) : View :=
  { v with recWords := Tab.upd 0 v.recWords (fld payload 3 0) fun m => if bit payload 4 then fld payload 6 5 else m + fld payload 6 5 }

theorem stream_valid {s : State} {i : ChipIx} {h : F2LHdr} {payload : BitVec 248} (hok : s.f2lOk 4 h payload.toNat true = true)
    (hn : fld payload 6 5 ≠ 0) : ∃ y t : State, y.chipOf i.val = s.chipOf i.val ∧ y.queue = s.queue ∧
      exec (.stream i h payload) s = .next t ∧ (h.silent = true → (t.viewOf i.val).lost = true) ∧
      t.chipOf i.val = ((streamWords payload).foldl (fun y w => y.streamWord i.val (fld payload 3 0) w) y).chipOf i.val ∧
      t.queueOf (streamQueue (chipTerm i.val (fld payload 3 0)) 1) =
        ((streamWords payload).foldl (fun y w => y.streamWord i.val (fld payload 3 0) w) y).queueOf
          (streamQueue (chipTerm i.val (fld payload 3 0)) 1) := by
  obtain ⟨y, hy⟩ : ∃ y, (s.updView i.val (fun v => v.header h)).updView i.val (View.recorded payload) = y := ⟨_, rfl⟩
  obtain ⟨x, hx⟩ : ∃ x, (streamWords payload).foldl (fun y w => y.streamWord i.val (fld payload 3 0) w) y = x := ⟨_, rfl⟩
  obtain ⟨t, he, -, hend, hsilent⟩ := State.f2l_valid (ins := .stream i h payload) (i := i.val) (payOk := decide (fld payload 6 5 ≠ 0))
    (f := fun z => (streamWords payload).foldl (fun y w => y.streamWord i.val (fld payload 3 0) w) (z.updView i.val (View.recorded payload)))
    (x := x) rfl hok (decide_eq_true hn) (by rw [hy]; exact hx)
  have hc : fld payload 3 0 < 16 := fld_lt payload 3 0
  have hq : noStream (streamQueue (chipTerm i.val (fld payload 3 0)) 1) := noStream_signature (by unfold chipTerm; omega)
  rw [hx.symm] at hend
  exact ⟨y, t, hy ▸ rfl, hy ▸ rfl, he, hsilent, hend.chip, hend.queue _ hq⟩

/-! #### IDLE (R93, R96, R367) -/

/-- An echo that a view counts, right or wrong. -/
def View.echoes (b : Bool) (v : View) : View := { v with echoRun := v.echoRun + 1, echoBad := v.echoBad + b2n b }

/-- An echo due is due no more, and counts while the barrier is tested. -/
theorem State.echoed_due {s : State} {i : Nat} (h : (s.chipOf i).echo ≠ none) (b : Bool) : ∃ y : State, y.view = s.view ∧
    (y.chipOf i).echo = none ∧
    s.echoed i b = if (s.tests.find (nBarrier i) tcBarrier).isSome then y.updView i (View.echoes b) else y := by
  refine ⟨s.updChip i fun y => { y with echo := none }, rfl, by rw [State.chipOf_updChip_self], ?_⟩
  unfold State.echoed
  rw [if_neg (by simpa using h)]
  cases s.tests.find (nBarrier i) tcBarrier <;> rfl

theorem State.echoed_none {s : State} {i : Nat} (h : (s.chipOf i).echo = none) (b : Bool) : s.echoed i b = s := by
  unfold State.echoed
  rw [h]
  rfl

theorem State.echoed_chip (s : State) (i : Nat) (b : Bool) : ((s.echoed i b).chipOf i).echo = none := by
  by_cases h : (s.chipOf i).echo = none
  · rw [State.echoed_none h, h]
  · obtain ⟨y, -, hy, he⟩ := State.echoed_due h b
    rw [he]
    split
    · exact hy
    · exact hy

theorem State.echoed_view {s : State} {i : Nat} (h : (s.chipOf i).echo ≠ none) (b : Bool) : (s.echoed i b).viewOf i =
    if (s.tests.find (nBarrier i) tcBarrier).isSome then (s.viewOf i).echoes b else s.viewOf i := by
  obtain ⟨y, hv, -, he⟩ := State.echoed_due h b
  have hy : y.viewOf i = s.viewOf i := by rw [State.viewOf, hv]; rfl
  rw [he]
  split
  · rw [State.viewOf_updView_self, hy]
  · exact hy

/-- A side's view that takes a bank's CRC from an IDLE frame, where one is due. -/
def View.tookCrc (due : Option (BitVec 32)) (payload : BitVec 248) (v : View) : View :=
  { v with
    bankCrc := match due with | none => v.bankCrc | some _ => some (payload.setWidth 32)
    shadowCrc := match due with | none => v.shadowCrc | some _ => if v.crcShadow then some (payload.setWidth 32) else v.shadowCrc }

/-- What an IDLE frame makes of a state with its header. -/
def State.idleFrame (s : State) (i : Nat) (payload : BitVec 248) : State :=
  ((s.echoed i (decide ((s.chipOf i).echo ≠ some payload))).updView i (View.tookCrc (s.chipOf i).crcReply payload)).updChip i
    fun y => { y with crcReply := none }

section
variable (s : State) (i : Nat) (payload : BitVec 248)

theorem State.idleFrame_chip : ((s.idleFrame i payload).chipOf i).echo = none ∧ ((s.idleFrame i payload).chipOf i).crcReply = none := by
  have he := s.echoed_chip i (decide ((s.chipOf i).echo ≠ some payload))
  rw [State.idleFrame, State.chipOf_updChip_self]
  exact ⟨he, rfl⟩

theorem State.idleFrame_view : (s.idleFrame i payload).viewOf i =
    ((s.echoed i (decide ((s.chipOf i).echo ≠ some payload))).viewOf i).tookCrc (s.chipOf i).crcReply payload := by
  obtain ⟨y, hy⟩ : ∃ y, s.echoed i (decide ((s.chipOf i).echo ≠ some payload)) = y := ⟨_, rfl⟩
  rw [State.idleFrame, hy]
  exact y.viewOf_updView_self i _

end

theorem View.header_awaiting {v : View} (h : v.awaiting = false) (f : F2LHdr) : v.header f =
    { v with fsafeNow := f.fsafe, cf := f.cf, plug := f.plug, nextPart := if f.cf && v.nextPart.isNone then some 0 else v.nextPart } := by
  unfold View.header View.answer
  rw [if_neg (by rw [h]; simp)]

theorem idle_valid {s : State} {i : ChipIx} {h : F2LHdr} {payload : BitVec 248} (hok : s.f2lOk 5 h payload.toNat true = true) :
    ∃ t, exec (.idle i h payload) s = .next t ∧ (t.chipOf i.val).echo = none ∧ (t.chipOf i.val).crcReply = none ∧
      ((s.viewOf i.val).awaiting = false → ∀ p, (s.chipOf i.val).echo = some p →
        let counts := (s.tests.find (nBarrier i.val) tcBarrier).isSome
        (t.viewOf i.val).echoRun = (s.viewOf i.val).echoRun + b2n counts ∧
        (t.viewOf i.val).echoBad = (s.viewOf i.val).echoBad + b2n (counts && payload ≠ p)) ∧
      (∀ v, (s.chipOf i.val).crcReply = some v → (t.viewOf i.val).bankCrc = some (payload.setWidth 32) ∧
        ((s.viewOf i.val).crcShadow = true → (t.viewOf i.val).shadowCrc = some (payload.setWidth 32))) ∧
      (h.silent = true → (t.viewOf i.val).lost = true) := by
  obtain ⟨y, hy⟩ : ∃ y, s.updView i.val (fun v => v.header h) = y := ⟨_, rfl⟩
  have hview : y.viewOf i.val = (s.viewOf i.val).header h := by rw [← hy, State.viewOf_updView_self]
  have hchip : y.chipOf i.val = s.chipOf i.val := by rw [← hy]; rfl
  have htest : y.tests = s.tests := by rw [← hy]; rfl
  obtain ⟨b, hb⟩ : ∃ b, decide ((s.chipOf i.val).echo ≠ some payload) = b := ⟨_, rfl⟩
  obtain ⟨x, hx⟩ : ∃ x, y.idleFrame i.val payload = x := ⟨_, rfl⟩
  obtain ⟨t, he, -, hend, hsilent⟩ := State.f2l_valid (ins := .idle i h payload) (i := i.val) (f := fun z => z.idleFrame i.val payload) (x := x)
    rfl hok rfl (by rw [hy]; exact hx)
  obtain ⟨hecho, hreply⟩ := hx ▸ y.idleFrame_chip i.val payload
  have hxv := hx ▸ y.idleFrame_view i.val payload
  rw [hchip, hb] at hxv
  refine ⟨t, he, by rw [hend.chip, hecho], by rw [hend.chip, hreply], fun hq p hp => ?_, fun v hv => ?_, hsilent⟩
  · have hyv := hview.trans (View.header_awaiting hq h)
    have hw := State.echoed_view (s := y) (i := i.val) (by rw [hchip, hp]; simp) b
    have hdiff : b = decide (payload ≠ p) := by
      rw [← hb, hp]
      exact decide_eq_decide.mpr ⟨fun hne he => hne (by rw [he]), fun hne he => hne (Option.some.inj he).symm⟩
    rw [htest] at hw
    have hxw : (x.viewOf i.val).awaiting = false ∧
        (x.viewOf i.val).echoRun = (s.viewOf i.val).echoRun + b2n (s.tests.find (nBarrier i.val) tcBarrier).isSome ∧
        (x.viewOf i.val).echoBad = (s.viewOf i.val).echoBad + b2n ((s.tests.find (nBarrier i.val) tcBarrier).isSome && payload ≠ p) := by
      rw [hxv, hw, hyv, hdiff]
      cases (s.tests.find (nBarrier i.val) tcBarrier).isSome
      · exact ⟨hq, rfl, rfl⟩
      · exact ⟨hq, rfl, rfl⟩
    obtain ⟨hquiet, hrun, hbad⟩ := hxw
    have ht := hend.quiet hquiet
    exact ⟨(congrArg View.echoRun ht :).trans hrun, (congrArg View.echoBad ht :).trans hbad⟩
  · have hcrc : ((y.echoed i.val b).viewOf i.val).crcShadow = (s.viewOf i.val).crcShadow := by
      refine (congrArg View.crcShadow (y.told_echoed i.val b i.val) :).trans ?_
      rw [hview]
      exact (congrArg View.crcShadow ((s.viewOf i.val).told_header h) :)
    rw [hv] at hxv
    refine ⟨(congrArg View.bankCrc hend.view :).trans (by rw [hxv]; rfl), fun hc => (congrArg View.shadowCrc hend.view :).trans ?_⟩
    rw [hxv]
    exact if_pos (hcrc.trans hc)

end Sys2Proof.Machine

namespace Sys2Proof.Machine

/-- Settles O19: the effect of each valid frame on a state with its header, which the end of the frame leaves. -/
theorem fieldToLogicFrames : Obligations.FieldToLogicFrames := by
  unfold Obligations.FieldToLogicFrames
  intro s i h payload
  refine ⟨?_, fun hok hid hdue => diag_due hok hid hdue, fun hok hid => diag_other hok hid, fun hok hn => ⟨fun hw => ?_, fun hw => ?_⟩,
    fun hok => idle_valid hok⟩
  · simp only [List.forall_mem_cons, List.not_mem_nil, false_implies, implies_true, and_true]
    refine ⟨fun hok => ?_, fun hok => ?_⟩
    · simpa [halfChan] using capture_valid (ins := .captureLo i h payload) true rfl hok
    · simpa [halfChan, Nat.add_comm] using capture_valid (ins := .captureHi i h payload) false rfl hok
  · obtain ⟨y, t, hchip, hqueue, he, hsilent, -, hq⟩ := stream_valid (i := i) hok hn
    refine ⟨t, he, hsilent, ?_⟩
    rw [hq, State.streamWords_join i.val _ _ (hchip ▸ hw), State.queueOf, hqueue]
    rfl
  · obtain ⟨y, t, hchip, hqueue, he, hsilent, hc, hq⟩ := stream_valid (i := i) hok hn
    obtain ⟨h1, h2⟩ := State.streamWords_waited i.val (fld payload 3 0) (streamWords payload) (s := y) (hchip ▸ hw)
    refine ⟨t, he, hsilent, by rw [hc, h1, hchip]; rfl, ?_⟩
    rw [hq, State.queueOf, h2, hqueue]
    rfl

end Sys2Proof.Machine

namespace Sys2Proof.Machine

/-! ### Analog terminals (R117–R133, R440) -/

/-! #### What a cause leaves of a calibration, and of the terminal's own flags (R81, R132) -/

section
variable {β : Type} (π : Terminal → β) (s : State)

theorem State.calAbort_keeps (h : ∀ x, π x.calStops = π x) (t k : Nat) : π ((s.calAbort t).termOf k) = π (s.termOf k) := by
  unfold State.calAbort
  split
  · have hterm := s.calEnd_term t s.freeStatus
    change π (Tab.get {} (s.calEnd t s.freeStatus).term k) = _
    rw [hterm]
    exact State.termOf_updTerm_keeps π h s t k
  · rfl

theorem State.raiseCause_keeps (h : ∀ x, π x.calStops = π x) (hraise : ∀ x c, π { x with tstat := c } = π x) (t cause k : Nat) :
    π ((s.raiseCause t cause).termOf k) = π (s.termOf k) := by
  have hup := State.termOf_updTerm_keeps π (f := fun x => { x with tstat := x.tstat.raise cause s.clock.count }) (fun x => hraise x _) s t k
  unfold State.raiseCause State.raiseCauseD
  dsimp only
  split
  · rfl
  · split
    · rfl
    · split
      · rw [State.calAbort_keeps π _ h]
        exact hup
      · exact hup

end

theorem State.hasCause_calAbort (s : State) (t k c : Nat) : (s.calAbort t).hasCause k c = s.hasCause k c :=
  State.hasCause_of_tstat (s.calAbort_tstat t k) c

theorem State.hasCause_calAbortChip (s : State) (i k c : Nat) : (s.calAbortChip i).hasCause k c = s.hasCause k c :=
  State.hasCause_of_tstat (s.tstat_calAbortChip i k) c

theorem State.hasCause_startTest (s : State) (n : Node) (cls k c : Nat) : (s.startTest n cls).hasCause k c = s.hasCause k c :=
  State.hasCause_of_tstat (congrArg Terminal.tstat (s.termOf_startTest n cls k)) c

theorem State.Causing.mode {s t : State} (h : s.Causing t) (c : Nat) : t.mode c = s.mode c := State.setup_mode (State.calm_setup h.calm) c

/-- A cause that every terminal of a list takes is present at each that is not OFF; what else a step does leaves causes and modes. -/
theorem State.raisedAll {f : State → Nat → State} {cause : Nat} (hc : cause < 32) (hf : ∀ (x : State) k, x.Causing (f x k))
    (hcause : ∀ (x : State) k j, (f x k).hasCause j cause = (x.raiseCause k cause).hasCause j cause) (s : State) (l : List Nat) :
    ∀ k ∈ l, s.mode (tChan k) ≠ mOFF → (s.forEach l f).hasCause k cause = true :=
  State.forEach_each (q := fun x => s.Causing x) (P := fun k x => s.mode (tChan k) ≠ mOFF → x.hasCause k cause = true)
    (fun x k hx => hx.trans (hf x k))
    (fun x k hx hm => by rw [hcause]; exact x.hasCause_raiseCause_self (by rwa [hx.mode]) hc)
    (fun x j k hk hm => by rw [hcause]; exact x.hasCause_raiseCause_of j cause hc (hk hm)) (.refl s)

/-! #### INTERNAL_CHECK (R119) -/

/-- The converters of a chip that fail their check. -/
def State.failingConverters (s : State) (i : Nat) (failing : BitVec 16) : List Nat :=
  (chipTerms i).filter fun u => bit failing (tLocal u) && !(s.termOf u).ana.calRun

/-- Each converter of a list has failed. -/
def State.convertersFail (s : State) (l : List Nat) : State := s.forEach l fun y t => (y.raiseCause t 0x0A).startTest (nFront t) tcConv

/-- The whole chip has failed. -/
def State.convertersFailAll (s : State) (i : Nat) : State :=
  (((s.updLanes i fun l => { l with fsafeAll := true }).chipCause i 0x81 0x1F 1).startTest (nChip i) tcConv).calAbortChip i

theorem State.convertersFail_cause (s : State) (l : List Nat) : ∀ k ∈ l, s.mode (tChan k) ≠ mOFF → (s.convertersFail l).hasCause k 0x0A = true :=
  State.raisedAll (by decide) (fun x k => ((State.Causing.refl x).raiseCause k 0x0A).startTest _ _)
    (fun _ _ _ => State.hasCause_startTest _ _ _ _ _) s l

theorem State.raiseAll_cause (s : State) {cause : Nat} (hc : cause < 32) (l : List Nat) :
    ∀ k ∈ l, s.mode (tChan k) ≠ mOFF → (s.forEach l fun x t => x.raiseCause t cause).hasCause k cause = true :=
  State.raisedAll hc (fun x k => (State.Causing.refl x).raiseCause k cause) (fun _ _ _ => rfl) s l

theorem tChip_of_mem_chipTerms {i k : Nat} (h : k ∈ chipTerms i) : tChip k = i := by
  obtain ⟨c, hc, rfl⟩ := List.mem_map.mp h
  exact tChip_chipTerm i (List.mem_range.mp hc)

theorem State.convertersFailAll_fsafe (s : State) (i : Nat) : ((s.convertersFailAll i).lanesOf i).fsafeAll = true ∧
    ∀ k ∈ chipTerms i, s.mode (tChan k) ≠ mOFF → (s.convertersFailAll i).fsafe k = true := by
  obtain ⟨x, hx⟩ : ∃ x, s.updLanes i (fun l => { l with fsafeAll := true }) = x := ⟨_, rfl⟩
  have hc : x.Causing (s.convertersFailAll i) := by
    rw [State.convertersFailAll, hx]
    exact (((State.Causing.refl x).chipCause i 0x81 0x1F 1).startTest _ _).calAbortChip i
  have hl : ((s.convertersFailAll i).lanesOf i).fsafeAll = true := by
    rw [State.calm_lanesOf hc.calm, ← hx, State.lanesOf_updLanes_self]
  have hmode (c : Nat) : (s.convertersFailAll i).mode c = s.mode c := by rw [hc.mode, ← hx]; rfl
  refine ⟨hl, fun k hk hm => ?_⟩
  rw [State.fsafe, hmode, tChip_of_mem_chipTerms hk, hl]
  simp [hm]

section
variable {s : State} {i : ChipIx} (failing : BitVec 16)

theorem internalCheck_reference (h : s.clock.frame.toNat % 4 = 0) :
    let bad := s.failingConverters i.val failing
    ∃ t, exec (.internalCheck i failing) s = .next t ∧ t.gatesSafe ∧
      (bad ≠ [] → bad.length ≤ 3 → ∀ u ∈ bad, s.mode (tChan u) ≠ mOFF → t.hasCause u 0x0A = true) ∧
      (3 < bad.length → (t.lanesOf i.val).fsafeAll = true ∧ ∀ u ∈ chipTerms i.val, s.mode (tChan u) ≠ mOFF → t.fsafe u = true) ∧
      (bad = [] → t = { s with term := t.term } ∧ s.outsOnly t) := by
  have he : exec (.internalCheck i failing) s = if s.failingConverters i.val failing = [] then settled s
      else if (s.failingConverters i.val failing).length ≤ 3 then settled ((s.convertersFail (s.failingConverters i.val failing)).calAbortChip i.val)
      else settled (s.convertersFailAll i.val) := by
    change execInternalCheck i failing s = _
    unfold execInternalCheck
    dsimp only
    rw [h]
    rfl
  intro bad
  have hlen (hb : bad = []) : bad.length = 0 := by rw [hb]; rfl
  by_cases hb : bad = []
  · exact ⟨_, he.trans (if_pos hb), s.settle_gatesSafe, fun hn => absurd hb hn, fun h3 => by have := hlen hb; omega,
      fun _ => s.unchanged_of_settle.symm⟩
  · rw [if_neg hb] at he
    by_cases h3 : bad.length ≤ 3
    · refine ⟨_, he.trans (if_pos h3), State.settle_gatesSafe _, fun _ _ u hu hm => ?_, fun hn => absurd h3 (by omega), fun hn => absurd hn hb⟩
      rw [State.hasCause_settle, State.hasCause_calAbortChip]
      exact s.convertersFail_cause bad u hu hm
    · obtain ⟨hl, hf⟩ := s.convertersFailAll_fsafe i.val
      obtain ⟨x, hx⟩ : ∃ x, s.convertersFailAll i.val = x := ⟨_, rfl⟩
      rw [if_neg h3, hx] at he
      rw [hx] at hl hf
      exact ⟨x.settle, he, x.settle_gatesSafe, fun _ hn => absurd hn h3, fun _ => ⟨hl, fun u hu hm => (x.fsafe_settle u).trans (hf u hu hm)⟩,
        fun hn => absurd hn hb⟩

end

end Sys2Proof.Machine

namespace Sys2Proof.Machine

/-! #### INTERNAL_CHECK in the other frames (R119) -/

/-- A cause of a field chip is recorded. -/
theorem State.chipCause_recorded (s : State) (i cause src count : Nat) :
    ∃ r ∈ ((s.chipCause i cause src count).chipOf i).diag, r.cause = BitVec.ofNat 8 cause ∨ r.cause = 0x85 := by
  have hchip : (s.chipCause i cause src count).chipOf i = (s.chipOf i).diagAdd cause src s.clock.count :=
    s.chipOf_updChip_self i fun x => x.diagAdd cause src s.clock.count
  rw [hchip]
  exact Chip.diagAdd_records _ _ _ _

section
variable {s : State} {i : ChipIx} {failing : BitVec 16} (hbad : s.failingConverters i.val failing ≠ [])
include hbad

theorem internalCheck_supply (h : s.clock.frame.toNat % 4 = 1) : ∃ t, exec (.internalCheck i failing) s = .next t ∧ t.gatesSafe ∧
    ∀ u ∈ chipTerms i.val, s.mode (tChan u) ≠ mOFF → t.hasCause u 0x11 = true := by
  have he : exec (.internalCheck i failing) s = if s.failingConverters i.val failing = [] then settled s
      else settled (s.forEach (chipTerms i.val) fun x t => x.raiseCause t 0x11) := by
    change execInternalCheck i failing s = _
    unfold execInternalCheck
    dsimp only
    rw [h]
    rfl
  refine ⟨_, he.trans (if_neg hbad), State.settle_gatesSafe _, fun u hu hm => ?_⟩
  rw [State.hasCause_settle]
  exact s.raiseAll_cause (by decide) _ u hu hm

theorem internalCheck_temperature (h : s.clock.frame.toNat % 4 = 2) : ∃ t, exec (.internalCheck i failing) s = .next t ∧ t.gatesSafe ∧
    ∃ r ∈ (t.chipOf i.val).diag, r.cause = 0x82 ∨ r.cause = 0x85 := by
  have he : exec (.internalCheck i failing) s = if s.failingConverters i.val failing = [] then settled s
      else settled (s.chipCause i.val 0x82 0x1F 1) := by
    change execInternalCheck i failing s = _
    unfold execInternalCheck
    dsimp only
    rw [h]
    rfl
  have hr := s.chipCause_recorded i.val 0x82 0x1F 1
  obtain ⟨x, hx⟩ : ∃ x, s.chipCause i.val 0x82 0x1F 1 = x := ⟨_, rfl⟩
  rw [if_neg hbad, hx] at he
  rw [hx] at hr
  exact ⟨x.settle, he, x.settle_gatesSafe, hr⟩

omit hbad in
theorem internalCheck_offset (h : s.clock.frame.toNat % 4 = 3) : ∃ t, exec (.internalCheck i failing) s = .next t ∧ t.gatesSafe ∧
    ∀ u ∈ s.failingConverters i.val failing, s.mode (tChan u) ≠ mOFF → t.hasCause u 0x0A = true := by
  have he : exec (.internalCheck i failing) s = settled (s.convertersFail (s.failingConverters i.val failing)) := by
    change execInternalCheck i failing s = _
    unfold execInternalCheck
    dsimp only
    rw [h]
    rfl
  refine ⟨_, he, State.settle_gatesSafe _, fun u hu hm => ?_⟩
  rw [State.hasCause_settle]
  exact s.convertersFail_cause _ u hu hm

end

/-! #### Open loop, compliance, mismatch, NE 43 (R123, R125, R128, R129) -/

/-- A terminal's open-loop flag. -/
def Terminal.openLoop (b : Bool) (x : Terminal) : Terminal := { x with ana := { x.ana with open_ := b } }

section
variable {s : State} {k : TermIx}

theorem not_off_of_isAnalog {j : Nat} (h : s.isAnalog j = true) : s.mode (tChan j) ≠ mOFF := by
  intro hm
  rw [State.isAnalog, hm] at h
  exact absurd h (by decide)

theorem openLoopFlag_analog (h : s.isAnalog k.val = true) :
    ∃ t, exec (.openLoopFlag k) s = .next t ∧ t.hasCause k.val 0x0D = true ∧ (t.termOf k.val).ana.open_ = true ∧ t.gatesSafe := by
  obtain ⟨x, hx⟩ : ∃ x, s.updTerm k.val (Terminal.openLoop true) = x := ⟨_, rfl⟩
  have hm : x.mode (tChan k.val) ≠ mOFF := by rw [← hx]; exact not_off_of_isAnalog h
  have hopen : (x.termOf k.val).ana.open_ = true := by rw [← hx, State.termOf_updTerm_self]; rfl
  have he : exec (.openLoopFlag k) s = settled ((x.raiseCause k.val 0x0D).calAbort (tOther k.val)) := by rw [← hx]; exact if_pos h
  refine ⟨_, he, ?_, ?_, State.settle_gatesSafe _⟩
  · rw [State.hasCause_settle, State.hasCause_calAbort]
    exact x.hasCause_raiseCause_self hm (by decide)
  · rw [State.ana_of_outsOnly (State.outsOnly_settle _), State.calAbort_keeps (fun y => y.ana.open_) _ (fun _ => rfl),
      State.raiseCause_keeps (fun y => y.ana.open_) x (fun _ => rfl) (fun _ _ => rfl)]
    exact hopen

theorem State.lowerCause_fn (x : State) (t cause : Nat) : (x.lowerCause t cause).fn = x.fn := rfl

theorem openLoopClear_clears : ∃ t, exec (.openLoopClear k) s = .next t ∧ ¬ t.hasCause k.val 0x0D = true ∧
    (t.termOf k.val).ana.open_ = false ∧ t.fn = s.fn := by
  obtain ⟨x, hx⟩ : ∃ x, s.updTerm k.val (Terminal.openLoop false) = x := ⟨_, rfl⟩
  have hopen : (x.termOf k.val).ana.open_ = false := by rw [← hx, State.termOf_updTerm_self]; rfl
  have he : exec (.openLoopClear k) s = settled (x.lowerCause k.val 0x0D) := by rw [← hx]; rfl
  have hfn : x.fn = s.fn := by rw [← hx]; rfl
  refine ⟨(x.lowerCause k.val 0x0D).settle, he, ?_, ?_, (x.lowerCause_fn k.val 0x0D).trans hfn⟩
  · rw [State.hasCause_settle, State.hasCause, x.lowerCause_causes k.val (by decide)]
    decide
  · rw [State.ana_of_outsOnly (State.outsOnly_settle _)]
    exact (State.termOf_updTerm_keeps (fun y => y.ana.open_) (f := fun y => { y with tstat := y.tstat.lower 0x0D }) (fun _ => rfl)
      x k.val k.val).trans hopen

/-- A row that raises one cause. -/
theorem raises_cause {ins : Instr} {cause : Nat} (hc : cause < 32) (hm : s.mode (tChan k.val) ≠ mOFF)
    (he : exec ins s = settled (s.raiseCause k.val cause)) : ∃ t, exec ins s = .next t ∧ t.hasCause k.val cause = true ∧ t.gatesSafe :=
  ⟨_, he, (State.hasCause_settle _ _ _).trans (s.hasCause_raiseCause_self hm hc), State.settle_gatesSafe _⟩

theorem aoCompliance_drives (hm : s.mode (tChan k.val) = mAO) (hA : k.val % 2 = 0) (hc : s.aoCurrent k.val ≠ 0) :
    ∃ t, exec (.aoCompliance k) s = .next t ∧ t.hasCause k.val 0x0E = true ∧ t.gatesSafe :=
  raises_cause (by decide) (by rw [hm]; decide) (if_pos ⟨hm, hA, hc⟩)

theorem aoMismatch_on (hm : s.mode (tChan k.val) = mAO) (hB : k.val % 2 = 1) (hon : (s.termOf k.val).out.on = true)
    (hp : s.pairLow (tChip k.val) (tLocal k.val) = false) :
    ∃ t, exec (.aoMismatch k) s = .next t ∧ t.hasCause k.val 0x0F = true ∧ t.gatesSafe :=
  raises_cause (by decide) (by rw [hm]; decide) (if_pos ⟨hm, hB, hon, by rw [hp]; rfl⟩)

theorem complianceRecovered_ends : ∃ t, exec (.complianceRecovered k) s = .next t ∧ ¬ t.hasCause k.val 0x0E = true ∧ t.fn = s.fn := by
  refine ⟨(s.lowerCause k.val 0x0E).settle, rfl, ?_, s.lowerCause_fn k.val 0x0E⟩
  rw [State.hasCause_settle, State.hasCause, s.lowerCause_causes k.val (by decide)]
  decide

theorem ne43Fault_ai (hm : s.mode (tChan k.val) = mAI) (high : Bool) :
    ∃ t, exec (.ne43Fault k high) s = .next t ∧ t.hasCause k.val (if high then 0x0C else 0x0B) = true ∧ t.gatesSafe := by
  have he : exec (.ne43Fault k high) s = settled ((s.raiseCause k.val (if high then 0x0C else 0x0B)).calAbort (tOther k.val)) := if_pos hm
  refine ⟨_, he, ?_, State.settle_gatesSafe _⟩
  rw [State.hasCause_settle, State.hasCause_calAbort]
  exact s.hasCause_raiseCause_self (by rw [hm]; decide) (by cases high <;> decide)

end

/-! #### AI_DISAGREEMENT (R122) -/

theorem State.hasCause_raiseFns (s : State) (fs : List Nat) (cause detail term k c : Nat) :
    (s.raiseFns fs cause detail term).hasCause k c = s.hasCause k c :=
  forEach_keeps (fun x : State => x.hasCause k c) (fun x f => x.raiseFn f cause detail term) (fun _ _ => rfl) s fs

theorem aiDisagreement_faults {s : State} {ch : ChanIx} (hm : s.mode ch.val = mAI) (h8 : s.hasCause (2 * ch.val) 8 = false) :
    ∃ t, exec (.aiDisagreement ch) s = .next t ∧ t.hasCause (2 * ch.val) 8 = true ∧ t.hasCause (2 * ch.val + 1) 8 = true ∧
      (s.isRetired (nFront (2 * ch.val)) tcConv = false → (t.tests.find (nFront (2 * ch.val)) tcConv).isSome = true) := by
  have hA : tChan (2 * ch.val) = ch.val := by unfold tChan; omega
  have hB : tChan (2 * ch.val + 1) = ch.val := by unfold tChan; omega
  obtain ⟨x, hx⟩ : ∃ x, s.raiseCause (2 * ch.val) 8 = x := ⟨_, rfl⟩
  obtain ⟨y, hy⟩ : ∃ y, x.raiseCause (2 * ch.val + 1) 8 = y := ⟨_, rfl⟩
  obtain ⟨z, hz⟩ : ∃ z, y.raiseFns (s.fnsOfChan ch.val) 0x10 8 (2 * ch.val) = z := ⟨_, rfl⟩
  have hsx : s.Causing x := hx ▸ (State.Causing.refl s).raiseCause _ _
  have hsz : s.Causing z := hz ▸ hy ▸ (hsx.raiseCause _ _).raiseFns _ _ _ _
  have hxa : x.hasCause (2 * ch.val) 8 = true := hx ▸ s.hasCause_raiseCause_self (by rw [hA, hm]; decide) (by decide)
  have hya : y.hasCause (2 * ch.val) 8 = true := hy ▸ x.hasCause_raiseCause_of _ 8 (by decide) hxa
  have hyb : y.hasCause (2 * ch.val + 1) 8 = true := hy ▸ x.hasCause_raiseCause_self (by rw [hB, hsx.mode, hm]; decide) (by decide)
  have hzy (k : Nat) : z.hasCause k 8 = y.hasCause k 8 := hz ▸ y.hasCause_raiseFns _ _ _ _ k 8
  have hnot : (s.termOf (2 * ch.val)).tstat.causes.getLsbD 8 = false := h8
  have he : exec (.aiDisagreement ch) s = settled ((z.startTest (nFront (2 * ch.val)) tcConv).startTest (nFront (2 * ch.val + 1)) tcConv) := by
    change execAiDisagreement ch s = _
    rw [execAiDisagreement, if_pos hm, State.aiDisagree, if_neg (by rw [hnot]; decide)]
    dsimp only
    rw [hx, hy, if_neg Bool.false_ne_true, hz]
  refine ⟨_, he, ?_, ?_, fun hr => ?_⟩
  · rw [State.hasCause_settle, State.hasCause_startTest, State.hasCause_startTest, hzy, hya]
  · rw [State.hasCause_settle, State.hasCause_startTest, State.hasCause_startTest, hzy, hyb]
  · exact State.startTest_isSome _ _ _ _ _ (.inl (State.startTest_isSome _ _ _ _ _
      (.inr ⟨(State.calm_isRetired hsz.calm _ _).trans hr, rfl, rfl⟩)))

end Sys2Proof.Machine

namespace Sys2Proof.Machine

/-! #### CALIBRATION_COMPLETE (R117, R130, R133) -/

/-- The fields of a record word above its check code. -/
def calFields (gain offset : Int) (day : Nat) : Nat := gain.toNat * 2 ^ 36 + encInt 18 offset * 2 ^ 18 + day % 65536 * 4 + 1

/-- The limits of a record (R117). -/
def calValid (gain offset : Int) : Prop := 513803 ≤ gain ∧ gain ≤ 534773 ∧ -1000 ≤ offset ∧ offset ≤ 1000

theorem calResult_valid {zero ref_ gain offset : Int} (h : calResult zero ref_ = some (gain, offset)) : calValid gain offset := by
  unfold calResult at h
  split at h
  · cases h
  · dsimp only at h
    split at h
    · next hlim =>
      cases h
      exact hlim
    · cases h

theorem encInt_18 (offset : Int) : (encInt 18 offset : Int) = offset % 262144 := by
  unfold encInt
  omega

section
variable {gain offset : Int} (hv : calValid gain offset) (day : Nat)
include hv

theorem calFields_lt : calFields gain offset day < 2 ^ 56 := by
  obtain ⟨h1, h2, h3, h4⟩ := hv
  have := encInt_18 offset
  unfold calFields
  omega

/-- A record word: its fields, then its check code. -/
theorem calWord_toNat : ∃ c : BitVec 16, (calWord gain offset day).toNat = calFields gain offset day * 65536 + c.toNat ∧
    c = crc16Word (calWord gain offset day) := by
  obtain ⟨w, hw⟩ : ∃ w : Word, BitVec.ofNat 72 (at_ gain.toNat 52 + at_ (encInt 18 offset) 34 + at_ (day % 65536) 18 + at_ 1 16) = w := ⟨_, rfl⟩
  have hlt := calFields_lt hv day
  have hwn : w.toNat = calFields gain offset day * 65536 := by
    rw [← hw, BitVec.toNat_ofNat, calFields]
    unfold calFields at hlt
    unfold at_
    omega
  have hor : (calWord gain offset day).toNat = calFields gain offset day * 65536 + (crc16Word w).toNat := by
    have hc : (crc16Word w).toNat < 2 ^ 16 := (crc16Word w).isLt
    rw [calWord, hw, BitVec.toNat_or, BitVec.toNat_setWidth, Nat.mod_eq_of_lt (by omega), hwn, Nat.mul_comm]
    exact (Nat.two_pow_add_eq_or_of_lt hc (calFields gain offset day)).symm
  have hfld : fld (calWord gain offset day) 71 16 = fld w 71 16 := by
    have hc : (crc16Word w).toNat < 2 ^ 16 := (crc16Word w).isLt
    unfold fld
    rw [hor, hwn]
    omega
  exact ⟨crc16Word w, hor, by rw [crc16Word, crc16Word, hfld]⟩

/-- A record that a calibration makes is used, and has the calibration's GAIN and OFFSET. -/
theorem calWord_ok : calOk (calWord gain offset day) = true ∧ fld (calWord gain offset day) 71 52 = gain.toNat ∧
    sfld (calWord gain offset day) 51 34 = offset := by
  obtain ⟨c, hn, hcrc⟩ := calWord_toNat hv day
  have henc := encInt_18 offset
  obtain ⟨h1, h2, h3, h4⟩ := hv
  have hc : c.toNat < 65536 := c.isLt
  have hgain : fld (calWord gain offset day) 71 52 = gain.toNat := by unfold fld; rw [hn, calFields]; omega
  have hoff : fld (calWord gain offset day) 51 34 = encInt 18 offset := by unfold fld; rw [hn, calFields]; omega
  have hsrc : fld (calWord gain offset day) 17 16 = 1 := by unfold fld; rw [hn, calFields]; omega
  have hchk : fld (calWord gain offset day) 15 0 = c.toNat := by unfold fld; rw [hn]; omega
  have hs : sfld (calWord gain offset day) 51 34 = offset := by unfold sfld; rw [hoff]; dsimp only; split <;> omega
  refine ⟨?_, hgain, hs⟩
  rw [calOk, hgain, hsrc, hchk, hs, ← hcrc]
  simp only [Bool.and_eq_true, decide_eq_true_eq]
  exact ⟨⟨⟨⟨⟨trivial, trivial⟩, by omega⟩, by omega⟩, h3⟩, h4⟩

end

end Sys2Proof.Machine

namespace Sys2Proof.Machine

/-! #### The end of a calibration (R117, R133) -/

/-- Two records that are kept, their event and their ledger entry leave the terminals. -/
theorem State.term_recordsKept (y : State) (shift : Prop) [Decidable shift] (d : Side) (a b : Nat) (wi wv : Word) (n : Node) (c : Nat) :
    ((if shift then ((y.recWrite d a wi).recWrite d b wv).post 0x01A3 n 1 1
      else (y.recWrite d a wi).recWrite d b wv).ledgerAdd 0x0A noFn c 0 0 0 0).term = y.term := by
  have hrec (z : State) (m : Nat) (w : Word) : (z.recWrite d m w).term = z.term := (congrArg Prod.fst (z.fieldSide_recWrite d m w) :)
  change (if shift then ((y.recWrite d a wi).recWrite d b wv).post 0x01A3 n 1 1 else (y.recWrite d a wi).recWrite d b wv).term = y.term
  rw [apply_ite State.term, State.post_term, ite_self, hrec, hrec]

/-- A terminal whose calibration has made two records. -/
def Terminal.calMade (wi wv : Word) (x : Terminal) : Terminal :=
  { x with ana := { x.ana with cal := none, calDone := true, calNew := some (wi, wv), calTag := none } }

section
variable {s : State} {k : TermIx} {zi ri zv rv : Int}

theorem State.terminal_settle_ana (s : State) (j : Nat) : (s.settle.termOf j).ana = (s.termOf j).ana := State.ana_of_outsOnly s.outsOnly_settle j

theorem State.termOf_of_term {x y : State} (h : x.term = y.term) (j : Nat) : x.termOf j = y.termOf j := by rw [State.termOf, h]; rfl

section
variable (hrun : (s.termOf k.val).ana.calRun = true) (hdone : (s.termOf k.val).ana.calDone = false)
include hrun hdone

theorem calibrationComplete_made {gi oi gv ov : Int} (hi : calResult zi ri = some (gi, oi)) (hv : calResult zv rv = some (gv, ov)) :
    ∃ x, exec (.calibrationComplete k zi ri zv rv) s = settled x ∧
      x.term = (s.updTerm k.val (Terminal.calMade (calWord gi oi s.taiDay) (calWord gv ov s.taiDay))).term := by
  change ∃ x, execCalibrationComplete k zi ri zv rv s = settled x ∧ _
  unfold execCalibrationComplete
  dsimp only
  rw [if_neg (by rw [hrun, hdone]; decide), hi, hv]
  dsimp only
  split
  · exact ⟨_, rfl, State.term_recordsKept _ _ _ _ _ _ _ _ _⟩
  · exact ⟨_, rfl, ((State.Books.refl _).finalReply _ _ _ _ _ _).term.trans (State.term_recordsKept _ _ _ _ _ _ _ _ _)⟩

theorem calibrationComplete_none (h : calResult zi ri = none ∨ calResult zv rv = none) :
    exec (.calibrationComplete k zi ri zv rv) s = settled (((s.post 0x01A3 (nTerm k.val) 1 0).calEnd k.val s.freeStatus).drawn) := by
  change execCalibrationComplete k zi ri zv rv s = _
  unfold execCalibrationComplete
  dsimp only
  rw [if_neg (by rw [hrun, hdone]; decide)]
  obtain hi | hv := h
  · rw [hi]
  · rw [hv]
    cases calResult zi ri <;> rfl

theorem calibrationComplete_valid {gi oi gv ov : Int} (hi : calResult zi ri = some (gi, oi)) (hv : calResult zv rv = some (gv, ov)) :
    ∃ t wi wv, exec (.calibrationComplete k zi ri zv rv) s = .next t ∧ (t.termOf k.val).ana.calNew = some (wi, wv) ∧
      calOk wi = true ∧ calOk wv = true ∧ fld wi 71 52 = gi.toNat ∧ sfld wi 51 34 = oi ∧ (t.termOf k.val).ana.calDone = true := by
  obtain ⟨x, he, hx⟩ := calibrationComplete_made hrun hdone hi hv
  obtain ⟨hiok, higain, hioff⟩ := calWord_ok (calResult_valid hi) s.taiDay
  obtain ⟨hvok, -, -⟩ := calWord_ok (calResult_valid hv) s.taiDay
  have ht := State.termOf_of_term hx k.val
  rw [State.termOf_updTerm_self] at ht
  refine ⟨x.settle, _, _, he, ?_, hiok, hvok, higain, hioff, ?_⟩
  · rw [State.terminal_settle_ana, ht]; rfl
  · rw [State.terminal_settle_ana, ht]; rfl

theorem calibrationComplete_invalid (h : calResult zi ri = none ∨ calResult zv rv = none) :
    ∃ t, exec (.calibrationComplete k zi ri zv rv) s = .next t ∧ (t.termOf k.val).ana.calNew = (s.termOf k.val).ana.calNew ∧
      (t.termOf k.val).ana.cal = none ∧ (t.termOf k.val).ana.calDone = true ∧ s.reports t 0x01A3 (nTerm k.val) 1 0 := by
  have he := calibrationComplete_none hrun hdone h
  have hrep : s.reports (s.post 0x01A3 (nTerm k.val) 1 0) 0x01A3 (nTerm k.val) 1 0 := State.reports_post rfl rfl
  obtain ⟨y, hy⟩ : ∃ y, s.post 0x01A3 (nTerm k.val) 1 0 = y := ⟨_, rfl⟩
  have hys (j : Nat) : y.termOf j = s.termOf j := State.termOf_of_term (hy ▸ State.post_term s _ _ _ _) j
  have hb := y.books_calEnd k.val s.freeStatus
  rw [hy] at he hrep
  obtain ⟨z, hz⟩ : ∃ z, y.calEnd k.val s.freeStatus = z := ⟨_, rfl⟩
  rw [hz] at he hb
  have ht : z.termOf k.val = (s.termOf k.val).calStops := by
    rw [State.termOf_of_term hb.term, State.termOf_updTerm_self, hys]
  have hd : z.drawn.termOf k.val = (s.termOf k.val).calStops := ht
  refine ⟨z.drawn.settle, he, ?_, ?_, ?_, State.reports_mono hrep hb.log⟩
  · rw [State.terminal_settle_ana, hd]; rfl
  · rw [State.terminal_settle_ana, hd]; rfl
  · rw [State.terminal_settle_ana, hd]; exact hrun

end

end

/-! #### START_TOKEN_REFILL (R440) -/

/-- A grant takes tokens only. -/
theorem State.grant_tokens (s : State) (i : Nat) : ((s.grant i).lanesOf i).tokens ≤ (s.lanesOf i).tokens := by
  unfold State.grant
  dsimp only
  refine State.forEach_inv_mem (fun x : State => (x.lanesOf i).tokens ≤ (s.lanesOf i).tokens) _ (fun x c _ hx => ?_) (Nat.le_refl _)
  split
  · exact hx
  · obtain ⟨y, hy⟩ : ∃ y, x.updLanes i (fun l => { l with tokens := l.tokens - 1 }) = y := ⟨_, rfl⟩
    have hlow : (y.lanesOf i).tokens ≤ (x.lanesOf i).tokens := by rw [← hy, State.lanesOf_updLanes_self]; exact Nat.sub_le _ _
    obtain ⟨z, hz⟩ : ∃ z, y.updTerm (chipTerm i c) (fun u => { u with out := { u.out with
      waiting := false, onAt := s.clock.count, pwm := if s.kmode (chipTerm i c) = 5 then 1 else 0 } }) = z := ⟨_, rfl⟩
    have hlanes : z.lanesOf i = y.lanesOf i := by rw [← hz]; rfl
    obtain ⟨n, hn, -⟩ := z.drawPulse_spec (chipTerm i c) s.clock.count
    rw [hy, hz, hn]
    change (z.lanesOf i).tokens ≤ _
    rw [hlanes]
    exact hlow.trans hx

theorem State.grant_idle {s : State} {i : Nat} (h : ∀ c < 16, (s.termOf (chipTerm i c)).out.waiting = false) : s.grant i = s := by
  unfold State.grant
  dsimp only
  rw [List.filter_eq_nil_iff.mpr]
  · rfl
  · intro c hc
    obtain ⟨l, hl, hcl⟩ := List.mem_flatten.mp hc
    obtain ⟨p, -, rfl⟩ := List.mem_map.mp hl
    rw [h c (List.mem_range.mp (List.mem_filter.mp hcl).1)]
    decide

theorem startTokenRefill_bounds {s : State} {i : ChipIx} (hcap : (s.lanesOf i.val).tokens ≤ s.tokenCap i.val) :
    ∃ t, exec (.startTokenRefill i) s = .next t ∧ (t.lanesOf i.val).tokens ≤ s.tokenCap i.val ∧ t.gatesSafe ∧
      ((∀ c < 16, (s.termOf (chipTerm i.val c)).out.waiting = false) →
        (t.lanesOf i.val).tokens = (if s.clock.count % fld (s.scfg i.val) 67 54 = 0 ∧ (s.lanesOf i.val).tokens < s.tokenCap i.val
          then (s.lanesOf i.val).tokens + 1 else (s.lanesOf i.val).tokens)) := by
  obtain ⟨y, hy⟩ : ∃ y, s.updLanes i.val (fun l => { l with
    tokens := if s.refillTick i.val ∧ l.tokens < s.tokenCap i.val then l.tokens + 1 else l.tokens }) = y := ⟨_, rfl⟩
  have he : exec (.startTokenRefill i) s = settled (y.grant i.val) := by rw [← hy]; rfl
  have htok : (y.lanesOf i.val).tokens = if s.clock.count % fld (s.scfg i.val) 67 54 = 0 ∧ (s.lanesOf i.val).tokens < s.tokenCap i.val
      then (s.lanesOf i.val).tokens + 1 else (s.lanesOf i.val).tokens := by
    rw [← hy, State.lanesOf_updLanes_self, State.refillTick]
    simp only [decide_eq_true_eq]
  have hle : (y.lanesOf i.val).tokens ≤ s.tokenCap i.val := by rw [htok]; split <;> omega
  refine ⟨(y.grant i.val).settle, he, (y.grant_tokens i.val).trans hle, State.settle_gatesSafe _, fun hw => ?_⟩
  have hyw : ∀ c < 16, (y.termOf (chipTerm i.val c)).out.waiting = false := by rw [← hy]; exact hw
  rw [State.grant_idle hyw]
  exact htok

/-! #### DICE_ENTROPY_FAULT (R103) -/

theorem diceEntropyFault_recorded (s : State) (i : ChipIx) : ∃ t, exec (.diceEntropyFault i) s = .next t ∧ (t.chipOf i.val).entropyBad = true ∧
    (∃ r ∈ (t.chipOf i.val).diag, r.cause = 0x87 ∨ r.cause = 0x85) ∧ t.gatesSafe := by
  obtain ⟨y, hy⟩ : ∃ y, s.updChip i.val (fun x => { x with entropyBad := true }) = y := ⟨_, rfl⟩
  obtain ⟨z, hz⟩ : ∃ z, y.chipCause i.val 0x87 0x1F 1 = z := ⟨_, rfl⟩
  have he : exec (.diceEntropyFault i) s = settled z := by rw [← hz, ← hy]; rfl
  have hbad : (y.chipOf i.val).entropyBad = true := by rw [← hy, State.chipOf_updChip_self]
  have hbare : (z.chipOf i.val).bare = (y.chipOf i.val).bare := hz ▸ State.calm_chip ((State.Causing.refl y).chipCause _ _ _ _).calm i.val
  exact ⟨z.settle, he, (congrArg Chip.entropyBad hbare :).trans hbad, hz ▸ y.chipCause_recorded i.val 0x87 0x1F 1, z.settle_gatesSafe⟩

/-! #### Rows that leave all but gates (R119, R122, R123, R125, R128, R129, R133) -/

theorem aoCompliance_none {s : State} {k : TermIx} (h : ¬ (s.mode (tChan k.val) = mAO ∧ k.val % 2 = 0 ∧ s.aoCurrent k.val ≠ 0)) :
    exec (.aoCompliance k) s = settled s := if_neg h

theorem aoMismatch_none {s : State} {k : TermIx}
    (h : ¬ (s.mode (tChan k.val) = mAO ∧ k.val % 2 = 1 ∧ (s.termOf k.val).out.on ∧ !s.pairLow (tChip k.val) (tLocal k.val))) :
    exec (.aoMismatch k) s = settled s := if_neg h

theorem analog_unmoved (s : State) (k : TermIx) (ch : ChanIx) (high : Bool) (zi ri zv rv : Int) :
    ∀ row ∈ ([(.openLoopFlag k, !s.isAnalog k.val),
        (.aoCompliance k, s.mode (tChan k.val) ≠ mAO || k.val % 2 = 1 || s.aoCurrent k.val = 0),
        (.aoMismatch k, s.mode (tChan k.val) ≠ mAO || k.val % 2 = 0 || !(s.termOf k.val).out.on || s.pairLow (tChip k.val) (tLocal k.val)),
        (.ne43Fault k high, s.mode (tChan k.val) ≠ mAI), (.aiDisagreement ch, s.mode ch.val ≠ mAI),
        (.calibrationComplete k zi ri zv rv, !(s.termOf k.val).ana.calRun || (s.termOf k.val).ana.calDone)] : List (Instr × Bool)),
      row.2 = true → exec row.1 s = settled s := by
  simp only [List.forall_mem_cons, List.not_mem_nil, false_implies, implies_true, and_true]
  refine ⟨fun h => ?_, fun h => aoCompliance_none ?_, fun h => aoMismatch_none ?_, fun h => ?_, fun h => ?_, fun h => ?_⟩
  · exact if_neg (by simpa using h)
  · simp only [Bool.or_eq_true, decide_eq_true_eq] at h
    rintro ⟨hm, hA, hc⟩
    obtain (h | h) | h := h
    · exact h hm
    · omega
    · exact hc h
  · simp only [Bool.or_eq_true, decide_eq_true_eq] at h
    rintro ⟨hm, hB, hon, hp⟩
    obtain ((h | h) | h) | h := h
    · exact h hm
    · omega
    · rw [hon] at h; cases h
    · rw [h] at hp; cases hp
  · exact if_neg (by simpa using h)
  · exact if_neg (by simpa using h)
  · change execCalibrationComplete k zi ri zv rv s = _
    unfold execCalibrationComplete
    exact if_pos (by simpa using h)

/-- Settles O24: what each row does, and the rows that leave all but gates. -/
theorem analogTerminals : Obligations.AnalogTerminals := by
  unfold Obligations.AnalogTerminals
  intro s i k ch
  refine ⟨fun failing h => internalCheck_reference failing h,
    fun failing hbad => ⟨internalCheck_supply hbad, internalCheck_temperature hbad, internalCheck_offset⟩,
    openLoopFlag_analog, openLoopClear_clears, fun hm => ⟨aoCompliance_drives hm, aoMismatch_on hm⟩, fun high zi ri zv rv row hrow h => ?_,
    complianceRecovered_ends, ne43Fault_ai, aiDisagreement_faults,
    fun hrun hdone zi ri zv rv => ⟨fun gi oi gv ov hi hv => calibrationComplete_valid hrun hdone hi hv, calibrationComplete_invalid hrun hdone⟩,
    startTokenRefill_bounds, diceEntropyFault_recorded s i⟩
  exact ⟨s.settle, analog_unmoved s k ch high zi ri zv rv row hrow h, s.outsOnly_settle, s.settle_gatesSafe, rfl⟩

end Sys2Proof.Machine
